-- ==== Sys2Proof/Word.lean ====
section
/-! DEFINITION. The words of the FYR-6416: 16-bit parameter and window words, bytes, and exact integers
between them. Times are natural numbers of 1/256 ns (see `Config`). -/

namespace Sys2Proof

/-- A window slot or parameter word. -/
abbrev W16 := BitVec 16

/-- A byte. -/
abbrev Byte := BitVec 8

/-- A 32-bit message or time. -/
abbrev W32 := BitVec 32

end Sys2Proof
end

