-- ==== Sys2Proof/Syntax.lean ====
section
/-! DEFINITION. The commands of the FYR-6416 as data: one constructor for each row of spec/opcode_table.json.
The first operand `t` of every command is the time at which it happens, in units of 1/256 ns; the others are what the
command needs from outside: the loop, phase, port or position it concerns, a word written, a level or a reading. -/

namespace Sys2Proof

/-- A request of the command port: the word received by edge 32, and the time from there to edge 66 (R298 to R300). -/
structure AcpRequest where
  word : W32
  took : Nat
  deriving DecidableEq, Repr

/-- One step of background correction (R136, R137): the slice, which of its trims (offset, gain or skew) and by how much, the slope
of the signal at it in LSB per microsecond, and whether the correction has settled. -/
structure TrimStep where
  slice : Fin 4
  kind : Fin 3
  step : Int
  slope : Nat
  conv : Bool
  deriving DecidableEq, Repr

/-- A SETPT pulse input that has gone silent, and the time of its last edge (R281). -/
structure SetptLoss where
  input : Fin 4
  edge : Nat
  deriving DecidableEq, Repr

/-- One command of the block (spec/opcode_table.json). -/
inductive Instr where
  /-- VHV_RISE_ON (R28): VHV rises above VHV_ON; the kennel set reads KV and schedules a kennel attempt 500 µs later unless bypass, KILL_N low, OVLO or VAUX already valid. -/
  | vhvRiseOn (t : Nat) (kv : BitVec 2)
  /-- KENNEL_ATTEMPT_START (R28): A due kennel attempt starts: PS_EN15 rises and LP15 ramps under the kennel law. -/
  | kennelAttemptStart (t : Nat) (pre : W16)
  /-- KENNEL_ATTEMPT_TIMEOUT (R29): 50 ms pass without handover; the attempt fails with cause 0b001, PWM63 goes mid-level, PS_EN15 low, and the next attempt falls due 1 s later. -/
  | kennelAttemptTimeout (t : Nat)
  /-- KENNEL_LP15_OV (R29): The LP15 analogue OV comparator trips during an attempt; the attempt fails with cause 0b010. -/
  | kennelLp15Ov (t : Nat)
  /-- VHV_FALL_OFF (R30): VHV falls below VHV_OFF; a kennel attempt or a kennel-law LP15 stops, and the device may return to UNPOWERED. -/
  | vhvFallOff (t : Nat)
  /-- VHV_RISE_OVLO (R29): VHV rises above VHV_OVLO; a kennel attempt or a kennel-law LP15 stops with cause 0b011. -/
  | vhvRiseOvlo (t : Nat) (mv : Nat)
  /-- VHV_OVLO_RELEASE (R29): VHV falls below the VHV_OVLO release level; a kennel attempt that fell due meanwhile starts. -/
  | vhvOvloRelease (t : Nat) (pre : W16)
  /-- KENNEL_RETRY_DUE (R29): The retry interval after a failed attempt or a loss of VAUX expires, and the next kennel attempt falls due. -/
  | kennelRetryDue (t : Nat) (above : Bool)
  /-- VAUX_VALID (R22): VAUX stays above VAUX_POR for the valid filter time; the full set wakes, and handover ends any kennel attempt. -/
  | vauxValid (t : Nat) (kv : BitVec 2)
  /-- VAUX_LOSS (R50): VAUX stops being valid; PWM pins are driven to mid-level and PS_EN pins low, crowbars release, and the device moves to KENNEL or UNPOWERED. -/
  | vauxLoss (t : Nat) (above : Bool)
  /-- VAUX_DRIVE_RELEASE (R50): VAUX falls below 2.0 V after a loss, and the held PWM and PS_EN pins are released to high impedance. -/
  | vauxDriveRelease (t : Nat)
  /-- PLL_LOCK (R38): The PLL locks; lane 3 moves to CCLK at a kennel-law boundary, and BOOT begins. -/
  | pllLock (t : Nat)
  /-- RESET_N_LOW (R44): RESET_N is held low for at least 1 µs; the full set resets while the kennel set keeps running. -/
  | resetNLow (t : Nat)
  /-- RESET_N_RELEASE (R41): RESET_N returns high, and the device enters BOOT. -/
  | resetNRelease (t : Nat)
  /-- WARM_RESET (R45): A write of 0xA5C3 to DEV.RESET causes a warm reset once pending log entries have been appended. -/
  | warmReset (t : Nat)
  /-- CORE_UV_RESET (R48): The core rail stays below VCORE_UV for the filter time; the full set resets and RESET_CAUSE[5] is set. -/
  | coreUvReset (t : Nat)
  /-- CORE_UV_RELEASE (R48): The core rail has stayed above VCORE_OK for the release time; the reset ends and BOOT follows once the PLL relocks. -/
  | coreUvRelease (t : Nat)
  /-- LP15_KENNEL_RESUME (R46): After a reset, a self-biased LP15 passes back to the kennel law at its next sample boundary. -/
  | lp15KennelResume (t : Nat)
  /-- BOOT_START (R41): The device enters BOOT; it copies the kennel record, reads the straps and starts loading its configuration. -/
  | bootStart (t : Nat) (pos : BitVec 3) (boot : BitVec 2)
  /-- BOOT_COUNTER_INCREMENT (R47): The boot counter increments in MTP once the MTP controller is idle. -/
  | bootCounterIncrement (t : Nat)
  /-- BOOT_COMPLETE (R545): The configuration load completes, and the device enters READY, or KILLED when KILL_N is low. -/
  | bootComplete (t : Nat) (eeprom : Option (List Byte))
  /-- LP15_HANDOFF (R39): At the first sample boundary after READY, LP15 passes from the kennel law to its configured law. -/
  | lp15Handoff (t : Nat)
  /-- ADDRESS_LATCH (R55): A falling edge of ALE latches the byte address from AD[15:0]. -/
  | addressLatch (t : Nat) (ad : W16)
  /-- SHORT_STROBE (R60): A strobe ends while RDY is low; the access has no effect, and W_STAT.SHORT is set. -/
  | shortStrobe (t : Nat)
  /-- REGISTER_WRITE (R62): A write to a window slot or parameter word that has no behaviour of its own stores its data at the rising edge of WR_N. -/
  | registerWrite (t : Nat) (w : W16)
  /-- W_STAT_READ (R65): A completed read of W_STAT returns the summary and clears SHORT. -/
  | wStatRead (t : Nat)
  /-- TIME_LOW_READ (R69): A read of W_TIME_L or W_BOOTCNT_L copies the matching high word into its holding register. -/
  | timeLowRead (t : Nat) (boot : Bool)
  /-- PDATA_WRITE (R70): A write to W_PDATA stores the proof copy and then acts as the word's commit class defines. -/
  | pdataWrite (t : Nat) (w : W16)
  /-- PDATA_INC_ACCESS (R72): An access to W_PDATA_INC acts as W_PDATA and then steps the index of W_PADDR. -/
  | pdataIncAccess (t : Nat) (read : Bool) (w : W16)
  /-- IRQ_CLEAR (R75): A write of 1 to W_IRQ bits clears them unless a source sets them in the same strobe. -/
  | irqClear (t : Nat) (w : W16)
  /-- IRQ_ENABLE_WRITE (R77): A write to W_IRQ_EN updates the mask, and IRQ_N follows within 100 ns. -/
  | irqEnableWrite (t : Nat) (w : W16)
  /-- FLT_LOOP_CLEAR (R64): A write of 1 to W_FLT_LOOP[15] clears W_FLT_LOOP and W_FLT_CODE. -/
  | fltLoopClear (t : Nat) (w : W16)
  /-- KILL_STAT_CLEAR (R64): A write of 1 to W_KILL_STAT[1] clears the KILL-seen flag. -/
  | killStatClear (t : Nat) (w : W16)
  /-- LOOP_ON_WRITE (R66): A write to W_LOOP_ON sets the requested enables, subject to R36 and the handler-token rules. -/
  | loopOnWrite (t : Nat) (w : W16)
  /-- EVT_POP_READ (R78): A read of W_EVT_POP returns one word of the oldest entry and pops it at the fourth read. -/
  | evtPopRead (t : Nat)
  /-- EVT_POP_REWIND (R78): A write to W_EVT_POP returns the word index to 0 without popping. -/
  | evtPopRewind (t : Nat)
  /-- EVT_LOST_CLEAR (R79): A write of 1 to W_EVT_COUNT[15] clears LOST. -/
  | evtLostClear (t : Nat) (w : W16)
  /-- WDOG_CFG_WRITE (R80): A write to W_WDOG_CFG configures the watchdog and restarts it, or is ignored in whole. -/
  | wdogCfgWrite (t : Nat) (w : W16)
  /-- WDOG_KICK (R81): A write of the expected word to W_WDOG restarts the timeout and toggles the expected word; any other word expires the watchdog. -/
  | wdogKick (t : Nat) (w : W16)
  /-- WDOG_EXPIRE (R83): The watchdog timeout runs out; the device sets its flags, logs WDOG and takes the configured action. -/
  | wdogExpire (t : Nat)
  /-- DEVICE_TIME_WRAP (R482): Device time wraps, and a WRAP session entry is appended. -/
  | deviceTimeWrap (t : Nat)
  /-- REVERT (R87): A write to PRF.REVERT copies the values in use into the proof copies of a page or of every page. -/
  | revert (t : Nat) (w : W16)
  /-- CLASS_L_CROSSING (R89): A class-L word crosses into use at the next sample boundary of its unit, or is refused as a one-word commit. -/
  | classLCrossing (t : Nat) (a : W16)
  /-- COMMIT_REQUEST (R92): A write of 0xC0A1 to W_COMMIT sets BUSY and captures the dirty class B, S and K words. -/
  | commitRequest (t : Nat)
  /-- CAPTURE_END (R94): Capture ends, and the resulting configuration is validated as a whole. -/
  | captureEnd (t : Nat)
  /-- COMMIT_APPLY (R94): An affected loop or unit takes its share of the commit set at its next sample boundary or update point. -/
  | commitApply (t : Nat) (isLoop : Bool) (unit : Fin 256)
  /-- COMMIT_REFUSED (R95): BUSY clears 2 µs after a refusal, with REFUSED and the result code reported. -/
  | commitRefused (t : Nat)
  /-- DISAGREE (R102): A pair's difference timer exceeds PRF.DISAGREE_TIME, and one DISAGREE event is logged. -/
  | disagree (t : Nat) (n : Fin 16) (k : Fin 4)
  /-- SAVE (R116): The SAVE command builds an image of the values in use and writes it to the other MTP slot as CONFIRMED. -/
  | save (t : Nat)
  /-- OPEN_A (R116): The OPEN_A command invalidates and erases slot A and opens a transfer into it. -/
  | openA (t : Nat)
  /-- OPEN_B (R116): The OPEN_B command invalidates and erases slot B and opens a transfer into it. -/
  | openB (t : Nat)
  /-- CONFIRM (R116): The CONFIRM command marks the TRIAL slot loaded at this BOOT as CONFIRMED. -/
  | confirm (t : Nat)
  /-- INVALIDATE_A (R116): The INVALIDATE_A command marks slot A INVALID. -/
  | invalidateA (t : Nat)
  /-- INVALIDATE_B (R116): The INVALIDATE_B command marks slot B INVALID. -/
  | invalidateB (t : Nat)
  /-- NVM_DATA_WORD (R117): A write to W_NVM_CTL during an open transfer appends the next image word. -/
  | nvmDataWord (t : Nat) (w : W16)
  /-- NVM_PAGE_PROGRAMMED (R117): A 64-word page finishes programming, and BUSY clears. -/
  | nvmPageProgrammed (t : Nat)
  /-- NVM_TRANSFER_TIMEOUT (R117): More than 100 ms pass between transfer writes; the transfer fails with result 5. -/
  | nvmTransferTimeout (t : Nat)
  /-- NVM_IMAGE_CHECKED (R118): The final check of a transferred image ends; the slot becomes TRIAL or INVALID, and the transfer closes. -/
  | nvmImageChecked (t : Nat) (ok : Bool)
  /-- NVM_OP_COMPLETE (R119): An MTP command completes, and RESULT and W_IRQ.NVM are set. -/
  | nvmOpComplete (t : Nat) (ok : Bool)
  /-- SAMPLE_BOUNDARY (R176): A loop's sample boundary on the grid loads the reference DAC and starts the acquisition. -/
  | sampleBoundary (t : Nat) (n : Fin 16)
  /-- ACQUISITION_END (R206): A loop's acquisition ends; the step computes the current command and updates the peak DACs, then runs its state part. -/
  | acquisitionEnd (t : Nat) (n : Fin 16) (codes : List Int) (sup : Option Int)
  /-- TRIM_UPDATE (R137): Background correction updates a slice's offset, gain or skew trim between acquisitions. -/
  | trimUpdate (t : Nat) (isc : Bool) (k : Fin 4) (x : TrimStep)
  /-- ISC_SAMPLE (R142): A phase's current is sampled mid-on-time, and the estimator updates PH_I and IOUT. -/
  | iscSample (t : Nat) (m : Fin 64) (code : Int)
  /-- ZERO_REFERENCE (R266): Four mid-level samples of a phase complete a zero reference, which is accepted or rejected. -/
  | zeroReference (t : Nat) (m : Fin 64) (c0 : Int) (c1 : Int) (c2 : Int) (c3 : Int)
  /-- SVC_VISIT_END (R149): A sequence visit finishes its conversions and writes its result and mark to its slot. -/
  | svcVisitEnd (t : Nat) (rs : List Nat) (clip : Bool)
  /-- SVC_DELAY_END (R153): An entry's delay expires, and the sequence moves to the next entry. -/
  | svcDelayEnd (t : Nat)
  /-- URGENT_REQUEST (R163): A write of W_URGENT with BUSY requests a host urgent conversion. -/
  | urgentRequest (t : Nat) (w : W16)
  /-- URGENT_GRANT (R160): An urgent conversion is granted; it aborts the latest sequence conversion and takes its slice. -/
  | urgentGrant (t : Nat)
  /-- URGENT_DONE (R159): An urgent conversion completes, and its result and mark go to its source. -/
  | urgentDone (t : Nat) (r : Nat) (clip : Bool)
  /-- REF_WARM (R165): The buffer has been on for 400 µs, and REF_WARM sets. -/
  | refWarm (t : Nat)
  /-- CAL_ZERO (R169): The ZERO command captures y1 and measures r1 on an AUX channel. -/
  | calZero (t : Nat) (n : Fin 32)
  /-- CAL_FULL (R169): The FULL command captures y2 and measures r2. -/
  | calFull (t : Nat) (n : Fin 32)
  /-- CAL_APPLY (R172): The APPLY command copies the computed G and B into proof. -/
  | calApply (t : Nat)
  /-- CAL_ABORT (R169): The ABORT command ends any measurement and discards the points. -/
  | calAbort (t : Nat)
  /-- CAL_MEASURE_END (R171): A 256-conversion calibration measurement ends; ZERO_HELD is entered, or G and B are computed. -/
  | calMeasureEnd (t : Nat)
  /-- SNAP_REQUEST (R190): A write of W_SNAP selects a loop and may request a capture. -/
  | snapRequest (t : Nat) (w : W16)
  /-- SNAPSHOT_CAPTURE (R191): At the first qualifying boundary the 16-word frame is captured, and BUSY clears. -/
  | snapshotCapture (t : Nat)
  /-- SNAP_DATA_READ (R193): A read of W_SNAP_DATA returns frame word INDEX and steps INDEX. -/
  | snapDataRead (t : Nat)
  /-- ENG_CLR (R186): A write to DEV.ENG_CLR clears the selected OVR_CNT and ENG_CNT counters. -/
  | engClr (t : Nat) (w : W16)
  /-- ENG_RESTORE (R201): A write to DEV.ENG_RESTORE requests that halved loops return to their configured rate. -/
  | engRestore (t : Nat) (w : W16)
  /-- RATE_RESTORE (R201): A halved loop returns to its configured rate at its next boundary on the configured grid. -/
  | rateRestore (t : Nat) (n : Fin 16)
  /-- STB_EPOCH (R227): The switching timebase reaches an epoch; the timekeeper sends its sync field, and SYNC_OUT may pulse. -/
  | stbEpoch (t : Nat)
  /-- ALIGNMENT_INSTANT (R231): All carriers start a cycle; pending carrier-frequency changes and adaptive-frequency moves take effect. -/
  | alignmentInstant (t : Nat)
  /-- REFERENCE_INSTANT (R230): A loop's reference instant puts a new set of switching phases into force and recomputes the peak words. -/
  | referenceInstant (t : Nat) (n : Fin 16)
  /-- PHASE_TURN_ON (R232): A phase's scheduled turn-on drives PWM high and starts the slope ramp, unless skipped. -/
  | phaseTurnOn (t : Nat) (m : Fin 64)
  /-- COMPARATOR_TRIP (R232): The peak comparator trips, and PWM goes low after the comparator delay. -/
  | comparatorTrip (t : Nat) (m : Fin 64)
  /-- PULSE_MAX_END (R233): An untripped pulse ends 40 ns before the next turn-on, and MAXON is set. -/
  | pulseMaxEnd (t : Nat) (m : Fin 64)
  /-- ZERO_CROSS (R241): In DE the current falls to the zero-cross threshold, and PWM goes to mid-level. -/
  | zeroCross (t : Nat) (m : Fin 64)
  /-- SYNC_IN_EDGE (R245): An edge on SYNC_IN is timed for qualification and epochs. -/
  | syncInEdge (t : Nat) (falling : Bool)
  /-- SYNC_IN_VALID (R245): SYNC_IN completes 10 ms of qualified edges and becomes a valid source. -/
  | syncInValid (t : Nat)
  /-- SYNC_IN_LOST (R245): SYNC_IN has no edge for 2 nominal periods, or 4 periods out of range, and is lost. -/
  | syncInLost (t : Nat)
  /-- GLIDE_END (R247): The glide ends when frequency matches or the epoch error holds within ±10 ns for 16 epochs. -/
  | glideEnd (t : Nat)
  /-- WHISK_TURN (R270): A Whisk turn falls due every GAP ms and makes a swap, a blank, or nothing. -/
  | whiskTurn (t : Nat) (n : Fin 16)
  /-- WHISK_BLANK_END (R271): A blank's B carrier periods end, and its zero reference is taken. -/
  | whiskBlankEnd (t : Nat) (n : Fin 16) (c0 : Int) (c1 : Int) (c2 : Int) (c3 : Int)
  /-- EST_STALE (R269): EST_AGE exceeds EST_STALE_TIME; EST_STALE is flagged and logged, and the total-current limit widens. -/
  | estStale (t : Nat) (n : Fin 16)
  /-- ENABLE_INPUT_CHANGE (R275): A GPIO enable input changes level, and it acts at the loop's first boundary at least 1 µs later. -/
  | enableInputChange (t : Nat) (g : Fin 24) (high : Bool)
  /-- DELAY_ON_ENTRY (R277): An OFF loop whose start conditions are all met enters DELAY_ON, and PS_EN rises. -/
  | delayOnEntry (t : Nat) (n : Fin 16)
  /-- DELAY_ON_END (R278): The turn-on delay ends; the pre-bias level is taken and RAMP_UP starts. -/
  | delayOnEnd (t : Nat) (n : Fin 16)
  /-- RAMP_UP_END (R282): The start ramp reaches its end, and the loop enters REGULATE. -/
  | rampUpEnd (t : Nat) (n : Fin 16)
  /-- TRANSITION_END (R285): The reference reaches the target, and the loop returns to REGULATE. -/
  | transitionEnd (t : Nat) (n : Fin 16)
  /-- TURN_OFF_DELAY_END (R286): TOFF_DELAY expires, and the loop enters RAMP_DOWN. -/
  | turnOffDelayEnd (t : Nat) (n : Fin 16)
  /-- RAMP_DOWN_END (R286): The reference reaches 0, and the loop enters DELAY_OFF. -/
  | rampDownEnd (t : Nat) (n : Fin 16)
  /-- DELAY_OFF_END (R276): The 10 µs of DELAY_OFF end; the loop enters OFF and PS_EN falls. -/
  | delayOffEnd (t : Nat) (n : Fin 16)
  /-- SETPT_UPDATE (R281): A SETPT averaged value replaces the target when it differs by 4 LSB or more. -/
  | setptUpdate (t : Nat) (k : Fin 4) (pulse : Bool) (xs : List (Nat × Nat))
  /-- SP_LOST (R281): A SETPT pulse source has no edge for 10 ms; SP_LOST is set and the target holds. -/
  | spLost (t : Nat) (x : SetptLoss)
  /-- HEEL_LOSS (R292): The master is lost; HEEL_LOST is set, HEEL_LOSS is raised and LOSS sets the reference. -/
  | heelLoss (t : Nat) (n : Fin 16)
  /-- ACP_PING (R310): A PING request is answered with DONE and its payload. -/
  | acpPing (t : Nat) (p : Fin 8) (req : AcpRequest)
  /-- ACP_SETV (R311): A SETV request is decided and answered with ACCEPT, DONE, BUSY or a rejection. -/
  | acpSetv (t : Nat) (p : Fin 8) (req : AcpRequest)
  /-- ACP_SETSLEW (R312): A SETSLEW request sets the slew for later moves. -/
  | acpSetslew (t : Nat) (p : Fin 8) (req : AcpRequest)
  /-- ACP_SETLL (R313): A SETLL request sets the load line. -/
  | acpSetll (t : Nat) (p : Fin 8) (req : AcpRequest)
  /-- ACP_HINT (R315): A HINT request declares the expected peak current and sets the hinted phase count. -/
  | acpHint (t : Nat) (p : Fin 8) (req : AcpRequest)
  /-- ACP_FRAME (R316): A FRAME request places a timestamped frame mark on the loop. -/
  | acpFrame (t : Nat) (p : Fin 8) (req : AcpRequest)
  /-- ACP_GETV (R310): A GETV request returns LPn.VOUT. -/
  | acpGetv (t : Nat) (p : Fin 8) (req : AcpRequest)
  /-- ACP_GETI (R310): A GETI request returns LPn.IOUT. -/
  | acpGeti (t : Nat) (p : Fin 8) (req : AcpRequest)
  /-- ACP_GETSTAT (R318): A GETSTAT request returns the status word of the loop. -/
  | acpGetstat (t : Nat) (p : Fin 8) (req : AcpRequest)
  /-- ACP_GETTEMP (R310): A GETTEMP request returns the temperature of survey slot TSLOTp. -/
  | acpGettemp (t : Nat) (p : Fin 8) (req : AcpRequest)
  /-- ACP_GETREF (R310): A GETREF request returns LPn.VREF_NOW. -/
  | acpGetref (t : Nat) (p : Fin 8) (req : AcpRequest)
  /-- ACP_GETFLT (R310): A GETFLT request returns the loop's first fault code. -/
  | acpGetflt (t : Nat) (p : Fin 8) (req : AcpRequest)
  /-- ACP_RESERVED_OP (R309): A request with a reserved opcode is answered with REJECT_OP. -/
  | acpReservedOp (t : Nat) (p : Fin 8) (req : AcpRequest)
  /-- GETSTAT_RESPONSE_END (R319): A new GETSTAT response completes at edge 66, and the reported alert latches clear. -/
  | getstatResponseEnd (t : Nat) (p : Fin 8)
  /-- ACP_ABORT (R300): A clock gap over 3 µs aborts a transaction, and DIO is released. -/
  | acpAbort (t : Nat) (p : Fin 8)
  /-- DIO_LOW_CLEAR (R305): DIO is sampled high while the port is idle, and DIO_LOW clears. -/
  | dioLowClear (t : Nat) (p : Fin 8)
  /-- ACP_TARGET_APPLY (R311): An accepted target becomes the loop target at its first boundary at least 500 ns after edge 32. -/
  | acpTargetApply (t : Nat) (n : Fin 16)
  /-- ACP_LL_APPLY (R313): A value accepted by SETLL becomes R_LL at the loop's first boundary at least 500 ns after edge 32. -/
  | acpLlApply (t : Nat) (n : Fin 16)
  /-- ARRIVAL (R317): The output has held within ARRIVE_TOL for ARRIVE_HOLD; MOVING clears and ARRIVED sets. -/
  | arrival (t : Nat) (n : Fin 16)
  /-- ACP_LOSS (R321): LINK_TMO passes without a valid request; the link becomes LOST and ACP_LOSS is raised. -/
  | acpLoss (t : Nat) (p : Fin 8)
  /-- LINKLOSS_ACTION (R322): A loop takes its LINKLOSS action once its reference reaches the target in use. -/
  | linklossAction (t : Nat) (n : Fin 16)
  /-- ACP_EVT_CLEAR (R325): A write of 1s to ACP.EVTp clears event bits, and [15] clears the counters. -/
  | acpEvtClear (t : Nat) (p : Fin 8) (w : W16)
  /-- LAYER_STROBE_EDGE (R328): A frame-strobe edge on a GPIO is timestamped as a Layer mark. -/
  | layerStrobeEdge (t : Nat) (pin : Fin 24) (falling : Bool)
  /-- LAYER_MISS (R330): The counter passes P + W with no mark; a miss is counted, and two misses move the loop to SEEK. -/
  | layerMiss (t : Nat) (n : Fin 16)
  /-- LAYER_AUTO_WINDOW_END (R332): An AUTO correlation window ends; the period is taken and the loop locks, or a new window starts. -/
  | layerAutoWindowEnd (t : Nat) (n : Fin 16)
  /-- LAYER_CHUNK_UPDATE (R336): A due chunk of 32 table entries is updated from the error records. -/
  | layerChunkUpdate (t : Nat) (n : Fin 16)
  /-- LAYER_PERIOD_END (R337): A period's last chunk completes; ERMS is computed, and EREF and the checkpoint may advance. -/
  | layerPeriodEnd (t : Nat) (n : Fin 16)
  /-- LYR_CLR (R340): A write to LYR.CLR invalidates the loop's table and checkpoint and returns it to SEEK. -/
  | lyrClr (t : Nat) (w : W16)
  /-- OV_TRIP (R350): The OV comparator trips; turn-ons are blocked, pulses end, and a CROWBAR action sets the latch. -/
  | ovTrip (t : Nat) (n : Fin 16)
  /-- FAULT_ACTION (R345): At the first sample boundary after a fault is raised, the loop takes the most severe action. -/
  | faultAction (t : Nat) (n : Fin 16)
  /-- UV (R353): The UV condition has lasted UV_FILT, and UV is raised. -/
  | uv (t : Nat) (n : Fin 16)
  /-- OCP_TRIP (R354): The phase over-current comparator ends a pulse; 2^PK consecutive trips raise OC_PEAK. -/
  | ocpTrip (t : Nat) (m : Fin 64)
  /-- NEG_TRIP (R355): The negative-current comparator sends PWM to mid-level; 2^NG cycles raise NEG_OC. -/
  | negTrip (t : Nat) (m : Fin 64)
  /-- OC_TOTAL (R356): IOUT has stayed at or above the limit for OCT_FILT, and OC_TOTAL is raised. -/
  | ocTotal (t : Nat) (n : Fin 16)
  /-- PHASE_RETURN (R357): A write of 1 to PRT.PH_RMVk returns an OC-removed phase to service. -/
  | phaseReturn (t : Nat) (k : Fin 4) (w : W16)
  /-- OT_ONSET (R358): An OT entry's temperature reaches its limit, and OT is raised for the loops of its target. -/
  | otOnset (t : Nat) (k : Fin 6)
  /-- OT_END (R358): The temperature falls below the limit less hysteresis; the condition ends and OT-removed phases return. -/
  | otEnd (t : Nat) (k : Fin 6)
  /-- VIN_UV (R361): VIN has stayed below VIN_UVk for VIN_FILT, and the VIN_UV condition begins. -/
  | vinUv (t : Nat) (n : Fin 16)
  /-- VIN_OV (R361): VIN has stayed above VIN_OVk for VIN_FILT, and the VIN_OV condition begins. -/
  | vinOv (t : Nat) (n : Fin 16)
  /-- FAST_CHANNEL_REQUEST (R362): Every FAST_PER, protection places an urgent request for a fast channel. -/
  | fastChannelRequest (t : Nat)
  /-- HICCUP_RETRY (R363): The hiccup delay ends, and the loop enters DELAY_ON when enabled and not held. -/
  | hiccupRetry (t : Nat) (n : Fin 16)
  /-- HICCUP_COUNT_CLEAR (R363): After 100 ms of continuous REGULATE, the retry count clears. -/
  | hiccupCountClear (t : Nat) (n : Fin 16)
  /-- FLT_CLR (R348): A write to PRT.FLT_CLR clears FLT_FIRST and the retry counts of the selected loops. -/
  | fltClr (t : Nat) (w : W16)
  /-- KILL_N_FALL (R365): KILL_N falls; the analogue gate forces pins safe, and the device enters KILLED. -/
  | killNFall (t : Nat)
  /-- KILLED_EXIT (R367): KILL_N has stayed high for 10 ms with no boundary-scan hold, and the device leaves KILLED. -/
  | killedExit (t : Nat)
  /-- FAULT_N_RELEASE (R368): Every selected condition has ended and 20 µs have passed, and FAULT_N is released. -/
  | faultNRelease (t : Nat)
  /-- FAULT_IN (R369): FAULT_N has been low and undriven for 1 µs; FAULT_IN is raised and the FIN_MASK loops turn off. -/
  | faultIn (t : Nat)
  /-- FAULT_IN_HOLD_END (R370): FAULT_N has been high for 1 µs, and the FIN_MASK hold ends. -/
  | faultInHoldEnd (t : Nat)
  /-- SYNC_FIELD_RECEIVED (R385): A good sync field is received; it times the frame and may move a LISTEN device to FOLLOW. -/
  | syncFieldReceived (t : Nat) (p : Fin 8) (count : W16)
  /-- SYNC_LOSS (R385): Four consecutive sync fields are missed, and the device enters LISTEN. -/
  | syncLoss (t : Nat)
  /-- HOLDOFF_EXPIRE (R387): The holdoff expires in LISTEN, and the device enters LEAD or restarts it. -/
  | holdoffExpire (t : Nat)
  /-- SLOT_TRANSMIT (R380): At its slot time the device sends its header, the selected message and the CRC. -/
  | slotTransmit (t : Nat)
  /-- LEASH_FRAME_END (R399): At the end of a frame the error counters and error state are updated, with EDGE decisions and rejoin. -/
  | leashFrameEnd (t : Nat) (syncGood : Bool) (echo : Fin 3) (ownEdge : Bool) (acc : Byte) (fail : Byte) (edge : Byte) (rep : Byte)
  /-- JABBER_CUT (R402): The jabber detector cuts a driver left on or driving outside its window. -/
  | jabberCut (t : Nat)
  /-- IDLE (R381): An accepted IDLE message updates the sender's health and hearing. -/
  | idle (t : Nat) (p : Fin 8) (d : W32)
  /-- CLAIM (R389): An accepted CLAIM schedules a timekeeper handover at frame H. -/
  | claim (t : Nat) (p : Fin 8) (d : W32)
  /-- HANDOVER (R389): At frame H the claimant enters LEAD and the outgoing timekeeper enters FOLLOW. -/
  | handover (t : Nat) (heard : Bool)
  /-- NAP (R394): An accepted NAP message schedules entry to Nap or gives the next burst. -/
  | nap (t : Nat) (p : Fin 8) (d : W32)
  /-- NAP_BURST (R395): A two-frame beacon burst falls due in Nap, and followers wake for it. -/
  | napBurst (t : Nat)
  /-- WAKE (R396): An accepted WAKE or queued traffic ends Nap after a burst. -/
  | wake (t : Nat) (p : Fin 8) (d : W32)
  /-- NAP_WINDOW_MISS (R397): A follower's burst window closes without a sync field, and it listens for one interval. -/
  | napWindowMiss (t : Nat)
  /-- NAP_ORPHAN (R397): A whole interval passes without a burst, and the follower enters LISTEN on the orphan path. -/
  | napOrphan (t : Nat)
  /-- LSH_CLR (R404): A write to LSH.CLR clears the Leash counters other than TXERR and RXERR. -/
  | lshClr (t : Nat) (w : W16)
  /-- HOWL_FAULT (R422): An accepted HOWL FAULT logs a remote event. -/
  | howlFault (t : Nat) (p : Fin 8) (d : W32)
  /-- HOWL_GASP (R447): An accepted HOWL GASP records peer power and may start GASP or a rehearsal. -/
  | howlGasp (t : Nat) (p : Fin 8) (d : W32)
  /-- TOKEN_ACQ (R425): An accepted TOKEN_ACQ may defeat a pending acquisition. -/
  | tokenAcq (t : Nat) (p : Fin 8) (d : W32)
  /-- TOKEN_HOLD (R426): An accepted TOKEN_HOLD records the lease when newer or from a lower source. -/
  | tokenHold (t : Nat) (p : Fin 8) (d : W32)
  /-- TOKEN_REL (R427): An accepted TOKEN_REL whose holder and generation match ends the lease. -/
  | tokenRel (t : Nat) (p : Fin 8) (d : W32)
  /-- VREF (R420): An accepted VREF message stores a peer loop's reference, state and power-good. -/
  | vref (t : Nat) (p : Fin 8) (d : W32)
  /-- PEER_VALUE_TIMEOUT (R420): A peer loop's value is 200 µs old; PEER_PG clears and a KIND 2 master is lost. -/
  | peerValueTimeout (t : Nat) (p : Fin 8) (n : Fin 16)
  /-- CERT (R413): An accepted CERT message adds two certificate bytes to a challenge. -/
  | cert (t : Nat) (p : Fin 8) (d : W32)
  /-- CHAL (R413): An accepted CHAL message adds two nonce bytes; index 7 opens the challenge to be answered. -/
  | chal (t : Nat) (p : Fin 8) (d : W32)
  /-- RESP (R414): An accepted RESP message adds two signature bytes; index 31 starts verification. -/
  | resp (t : Nat) (p : Fin 8) (d : W32)
  /-- DIGEST (R416): An accepted DIGEST is compared with the own plan digest, and PLAN wiring is set or cleared. -/
  | digest (t : Nat) (p : Fin 8) (d : W32)
  /-- CHALLENGE_START (R412): A position enters the roster or 10 s pass unverified, and a challenge with a fresh nonce starts. -/
  | challengeStart (t : Nat) (p : Fin 8)
  /-- RESPONSE_SIGNED (R413): The target finishes signing its response and starts the RESP stream. -/
  | responseSigned (t : Nat)
  /-- CHALLENGE_VERIFIED (R414): The challenger completes verification, and the challenge passes or fails. -/
  | challengeVerified (t : Nat) (p : Fin 8)
  /-- CHALLENGE_TIMEOUT (R414): A challenge is still open 500 ms after its index-7 message and fails. -/
  | challengeTimeout (t : Nat) (p : Fin 8)
  /-- WIRING (R416): A wiring condition begins or changes cause, and WIRING is logged. -/
  | wiring (t : Nat) (p : Fin 8)
  /-- DIGEST_SEND (R416): DIGEST is queued when a position enters the roster and every 100 ms. -/
  | digestSend (t : Nat)
  /-- PLAN_SAVE (R418): A write of 0x5A50 to LSH.PLAN_CMD stores the wiring plan in MTP. -/
  | planSave (t : Nat)
  /-- PLAN_SAVE_DONE (R418): The plan save completes, and W_IRQ.NVM is set. -/
  | planSaveDone (t : Nat) (ok : Bool)
  /-- HANDLER_STORE (R424): A write of W_HANDLER with CMD 0 stores HOST_ID only. -/
  | handlerStore (t : Nat) (id : Byte)
  /-- ACQUIRE (R425): The ACQUIRE command renews, refuses, or queues TOKEN_ACQ and waits. -/
  | acquire (t : Nat) (id : Byte)
  /-- RENEW (R427): The RENEW command extends a live lease that this host holds. -/
  | renew (t : Nat) (id : Byte)
  /-- RELEASE (R427): The RELEASE command sends TOKEN_REL and ends the held lease. -/
  | release (t : Nat) (id : Byte)
  /-- ACQUIRE_DECIDE (R425): The 8-frame acquisition wait, or 100 µs off-link, ends and the lease is taken or refused. -/
  | acquireDecide (t : Nat)
  /-- TOKEN_HOLD_SEND (R426): The lease source sends TOKEN_HOLD every 100 frames. -/
  | tokenHoldSend (t : Nat)
  /-- LEASE_EXPIRE (R427): The lease reaches its expiry on this device and ends. -/
  | leaseExpire (t : Nat)
  /-- SWEEP_START (R431): A write of 0x5A01 to SWP.CMD makes the device leader of a new sweep and sends SWP_START. -/
  | sweepStart (t : Nat)
  /-- SWEEP_ABORT (R441): A write of 0x5A02 to SWP.CMD ends the sweep as ABORTED. -/
  | sweepAbort (t : Nat)
  /-- SWP_START (R432): An accepted SWP_START fixes the sweep ID and start frame S. -/
  | swpStart (t : Nat) (p : Fin 8) (d : W32)
  /-- SWP_CHECK (R432): An accepted SWP_CHECK is compared; a match sends SWP_JOIN and arms, otherwise REFUSED. -/
  | swpCheck (t : Nat) (p : Fin 8) (d : W32)
  /-- SWP_JOIN (R432): The leader records an accepted SWP_JOIN in the injector mask. -/
  | swpJoin (t : Nat) (p : Fin 8) (d : W32)
  /-- SWP_SET (R432): An accepted SWP_SET fixes the injector mask, or ends the sweep when empty. -/
  | swpSet (t : Nat) (p : Fin 8) (d : W32)
  /-- SWP_SET_SEND (R432): At frames S − 100 to S − 98 the leader sends SWP_SET. -/
  | swpSetSend (t : Nat)
  /-- SWEEP_RUN_START (R432): At frame S an armed device runs the sweep, or returns to IDLE without SWP_SET. -/
  | sweepRunStart (t : Nat)
  /-- SWEEP_STEP_START (R434): A schedule step begins, and the injector starts its sine. -/
  | sweepStepStart (t : Nat)
  /-- SWEEP_WINDOW_END (R436): A step's integration window ends; phasors are demodulated, and the injector queues its current. -/
  | sweepWindowEnd (t : Nat)
  /-- SWP_IRE (R436): An accepted SWP_IRE gives the real part of a step's current. -/
  | swpIre (t : Nat) (p : Fin 8) (d : W32)
  /-- SWP_IIM (R436): An accepted SWP_IIM gives the imaginary part of a step's current. -/
  | swpIim (t : Nat) (p : Fin 8) (d : W32)
  /-- SWEEP_ENTRY_WRITE (R436): Both current messages arrive, or 50 frames pass, and the step's entry is written. -/
  | sweepEntryWrite (t : Nat)
  /-- SWEEP_RESULTS (R439): After the last entry, RES_F, RES_Z and C_SWEEP are computed and the status becomes DONE. -/
  | sweepResults (t : Nat)
  /-- SWEEP_LEADER_LOST (R440): The leader leaves the roster, and the sweep ends LOST. -/
  | sweepLeaderLost (t : Nat)
  /-- GASP_ENTRY (R447): The bus stays below V_LOSS for T_LOSS; the device enters GASP, logs LAST_GASP and sheds rank 0. -/
  | gaspEntry (t : Nat)
  /-- GASP_EVALUATION (R449): Every 100 µs in GASP the energy budget is evaluated and ranks are shed. -/
  | gaspEvaluation (t : Nat)
  /-- SUMMARY_WRITTEN (R452): The signed summary finishes writing to MTP, and W_IRQ.GASP is set. -/
  | summaryWritten (t : Nat)
  /-- GASP_EXIT (R453): The bus has held V_RET for T_RET without peer gasp; the device leaves GASP. -/
  | gaspExit (t : Nat)
  /-- REHEARSAL_START (R454): A write of 0x6A51 to W_GASP starts a simulated last gasp. -/
  | rehearsalStart (t : Nat)
  /-- REHEARSAL_END (R454): A rehearsal reaches the simulated floor or 10 s and ends. -/
  | rehearsalEnd (t : Nat)
  /-- POLL_START (R465): The bus is idle and the lowest due entry's poll starts. -/
  | pollStart (t : Nat)
  /-- POLL_COMPLETE (R467): A poll ends; its result, failure count, substitute state and alarm are updated. -/
  | pollComplete (t : Nat) (nack : Bool) (b0 : Byte) (b1 : Byte) (pec : Byte)
  /-- STRETCH_TIMEOUT (R463): SCL is held low for 25 ms to 35 ms; the transaction aborts and recovery starts. -/
  | stretchTimeout (t : Nat)
  /-- ARBITRATION_LOSS (R464): SDA is found low while released; the poll fails and recovery starts. -/
  | arbitrationLoss (t : Nat)
  /-- RECOVERY_ATTEMPT (R470): A recovery attempt clocks SCL and sends STOP, succeeding or failing. -/
  | recoveryAttempt (t : Nat) (took : Nat) (ok : Bool) (scl : Bool)
  /-- FCH_EVT_CLEAR (R473): A write of 1s to FCH.EVT clears its bits, and [15] clears ERRCNT. -/
  | fchEvtClear (t : Nat) (w : W16)
  /-- EVENT_APPEND (R480): The head of the event queue is appended to the log. -/
  | eventAppend (t : Nat)
  /-- CRUMB_DATA_READ (R477): A read of W_CRUMB_DATA returns two bytes and advances the address. -/
  | crumbDataRead (t : Nat)
  /-- TRIGGER (R478): A manual trigger command for a template. -/
  | trigger (t : Nat) (k : Fin 4)
  /-- LOCK (R478): The LOCK command makes a DONE slot LOCKED. -/
  | lock (t : Nat) (slot : Fin 16)
  /-- UNLOCK (R478): The UNLOCK command returns a LOCKED slot to DONE. -/
  | unlock (t : Nat) (slot : Fin 16)
  /-- SLOT_RELEASE (R478): The RELEASE command frees a DONE, LOCKED or ABORTED slot. -/
  | slotRelease (t : Nat) (slot : Fin 16)
  /-- HOLD (R478): The HOLD command stops triggers from being accepted. -/
  | hold (t : Nat)
  /-- RESUME (R478): The RESUME command ends HOLD. -/
  | resume (t : Nat)
  /-- CAPTURE_SAMPLE (R487): At each multiple of the template period, every channel records its latest value. -/
  | captureSample (t : Nat) (k : Fin 4)
  /-- COMPRESSION_DONE (R491): A sealed record finishes compression and awaits signing. -/
  | compressionDone (t : Nat) (slot : Fin 16)
  /-- RECORD_SIGNED (R491): A record is signed and becomes DONE or LOCKED. -/
  | recordSigned (t : Nat) (slot : Fin 16)
  /-- CLEAR_IN (R509): The CLEAR_IN command empties the token input buffer. -/
  | clearIn (t : Nat)
  /-- SUBMIT (R513): The SUBMIT command checks a token and, if valid, raises the counter and applies it. -/
  | submit (t : Nat)
  /-- ATTEST (R519): The ATTEST command builds and signs an attestation report over a host nonce. -/
  | attest (t : Nat)
  /-- READ_CERT (R509): The READ_CERT command places the device certificate in the output buffer. -/
  | readCert (t : Nat)
  /-- INSTALL (R507): The INSTALL command writes the operator key into OPK0 when no entry is written. -/
  | install (t : Nat)
  /-- DROP (R509): The DROP command ends the active unlock. -/
  | drop (t : Nat)
  /-- READ_OPK (R509): The READ_OPK command places the operator key in use in the output buffer. -/
  | readOpk (t : Nat)
  /-- REWIND (R509): The REWIND command returns the output read pointer to 0. -/
  | rewind (t : Nat)
  /-- TOKEN_COMMAND_DONE (R509): A signing, verifying or writing token command completes, BUSY clears and W_IRQ.TOKEN is set. -/
  | tokenCommandDone (t : Nat)
  /-- TOKEN_PORT_WRITE (R508): A write to W_TOKEN_PORT appends two bytes to the input buffer. -/
  | tokenPortWrite (t : Nat) (w : W16)
  /-- TOKEN_PORT_READ (R508): A read of W_TOKEN_PORT returns two output bytes and advances the pointer. -/
  | tokenPortRead (t : Nat)
  /-- UNLOCK_EXPIRE (R515): An active unlock's LIFE passes, and it ends. -/
  | unlockExpire (t : Nat)
  /-- RNG_TEST_FAIL (R524): A noise-source health test fails; the DRBG stops and IDN.STAT.RNG reads 0. -/
  | rngTestFail (t : Nat)
  /-- DRBG_RESEED (R524): After 65,536 requests the DRBG reseeds. -/
  | drbgReseed (t : Nat)
  /-- ARM (R526): A write of 0x5A01 to CHW.CMD arms Chew when all conditions hold, or is refused. -/
  | arm (t : Nat)
  /-- STOP (R527): A write of 0x5A00 to CHW.CMD disarms Chew. -/
  | stop (t : Nat)
  /-- CHEW_LIFE_EXPIRE (R527): Chew's LIFE passes since the arm, and it disarms. -/
  | chewLifeExpire (t : Nat)
  /-- CHEW_STUCK_END (R532): A simulated stuck line reaches FCH_STUCK and the internal view follows the pin again. -/
  | chewStuckEnd (t : Nat)
  /-- GPIO_PULSE_END (R547): An EVT_OUT pulse or its inactive gap ends, and a pending pulse may start. -/
  | gpioPulseEnd (t : Nat) (g : Fin 24)
  /-- TAP_INSTRUCTION_UPDATE (R570): A boundary-scan instruction is loaded; EXTEST, CLAMP or HIGHZ puts the device in KILLED. -/
  | tapInstructionUpdate (t : Nat) (ir : BitVec 4) (cells : BitVec 357)
  /-- TRST_N_LOW (R49): TRST_N resets the TAP to Test-Logic-Reset with IDCODE loaded. -/
  | trstNLow (t : Nat)
  /-- KILL_N_RISE (R367): KILL_N returns high; the analogue gate releases and the 10 ms counts that end KILLED or schedule the next kennel attempt start. -/
  | killNRise (t : Nat)
  /-- VDDIO_SUPPLY_CHANGE (R25): A VDDIO bank supply rises or falls; its outputs go high-impedance or return, and its inputs read inactive or return. -/
  | vddioSupplyChange (t : Nat) (bank : Fin 3) (on : Bool)
  /-- LEASH_VALID (R245): A follower completes 10 ms of continuous synchronisation, and the Leash becomes a valid switching-reference source that may start a glide. -/
  | leashValid (t : Nat)
  /-- RESERVED_TYPE_MESSAGE (R410): An accepted Leash slot of a reserved message type is discarded and increments LSH.UNK_CNT. -/
  | reservedTypeMessage (t : Nat) (p : Fin 8) (cls : Fin 4) (typ : Fin 8) (d : W32)
  deriving DecidableEq, Repr

/-- The time at which a command happens. -/
def Instr.time : Instr → Nat
  | .vhvRiseOn t _ => t
  | .kennelAttemptStart t _ => t
  | .kennelAttemptTimeout t => t
  | .kennelLp15Ov t => t
  | .vhvFallOff t => t
  | .vhvRiseOvlo t _ => t
  | .vhvOvloRelease t _ => t
  | .kennelRetryDue t _ => t
  | .vauxValid t _ => t
  | .vauxLoss t _ => t
  | .vauxDriveRelease t => t
  | .pllLock t => t
  | .resetNLow t => t
  | .resetNRelease t => t
  | .warmReset t => t
  | .coreUvReset t => t
  | .coreUvRelease t => t
  | .lp15KennelResume t => t
  | .bootStart t _ _ => t
  | .bootCounterIncrement t => t
  | .bootComplete t _ => t
  | .lp15Handoff t => t
  | .addressLatch t _ => t
  | .shortStrobe t => t
  | .registerWrite t _ => t
  | .wStatRead t => t
  | .timeLowRead t _ => t
  | .pdataWrite t _ => t
  | .pdataIncAccess t _ _ => t
  | .irqClear t _ => t
  | .irqEnableWrite t _ => t
  | .fltLoopClear t _ => t
  | .killStatClear t _ => t
  | .loopOnWrite t _ => t
  | .evtPopRead t => t
  | .evtPopRewind t => t
  | .evtLostClear t _ => t
  | .wdogCfgWrite t _ => t
  | .wdogKick t _ => t
  | .wdogExpire t => t
  | .deviceTimeWrap t => t
  | .revert t _ => t
  | .classLCrossing t _ => t
  | .commitRequest t => t
  | .captureEnd t => t
  | .commitApply t _ _ => t
  | .commitRefused t => t
  | .disagree t _ _ => t
  | .save t => t
  | .openA t => t
  | .openB t => t
  | .confirm t => t
  | .invalidateA t => t
  | .invalidateB t => t
  | .nvmDataWord t _ => t
  | .nvmPageProgrammed t => t
  | .nvmTransferTimeout t => t
  | .nvmImageChecked t _ => t
  | .nvmOpComplete t _ => t
  | .sampleBoundary t _ => t
  | .acquisitionEnd t _ _ _ => t
  | .trimUpdate t _ _ _ => t
  | .iscSample t _ _ => t
  | .zeroReference t _ _ _ _ _ => t
  | .svcVisitEnd t _ _ => t
  | .svcDelayEnd t => t
  | .urgentRequest t _ => t
  | .urgentGrant t => t
  | .urgentDone t _ _ => t
  | .refWarm t => t
  | .calZero t _ => t
  | .calFull t _ => t
  | .calApply t => t
  | .calAbort t => t
  | .calMeasureEnd t => t
  | .snapRequest t _ => t
  | .snapshotCapture t => t
  | .snapDataRead t => t
  | .engClr t _ => t
  | .engRestore t _ => t
  | .rateRestore t _ => t
  | .stbEpoch t => t
  | .alignmentInstant t => t
  | .referenceInstant t _ => t
  | .phaseTurnOn t _ => t
  | .comparatorTrip t _ => t
  | .pulseMaxEnd t _ => t
  | .zeroCross t _ => t
  | .syncInEdge t _ => t
  | .syncInValid t => t
  | .syncInLost t => t
  | .glideEnd t => t
  | .whiskTurn t _ => t
  | .whiskBlankEnd t _ _ _ _ _ => t
  | .estStale t _ => t
  | .enableInputChange t _ _ => t
  | .delayOnEntry t _ => t
  | .delayOnEnd t _ => t
  | .rampUpEnd t _ => t
  | .transitionEnd t _ => t
  | .turnOffDelayEnd t _ => t
  | .rampDownEnd t _ => t
  | .delayOffEnd t _ => t
  | .setptUpdate t _ _ _ => t
  | .spLost t _ => t
  | .heelLoss t _ => t
  | .acpPing t _ _ => t
  | .acpSetv t _ _ => t
  | .acpSetslew t _ _ => t
  | .acpSetll t _ _ => t
  | .acpHint t _ _ => t
  | .acpFrame t _ _ => t
  | .acpGetv t _ _ => t
  | .acpGeti t _ _ => t
  | .acpGetstat t _ _ => t
  | .acpGettemp t _ _ => t
  | .acpGetref t _ _ => t
  | .acpGetflt t _ _ => t
  | .acpReservedOp t _ _ => t
  | .getstatResponseEnd t _ => t
  | .acpAbort t _ => t
  | .dioLowClear t _ => t
  | .acpTargetApply t _ => t
  | .acpLlApply t _ => t
  | .arrival t _ => t
  | .acpLoss t _ => t
  | .linklossAction t _ => t
  | .acpEvtClear t _ _ => t
  | .layerStrobeEdge t _ _ => t
  | .layerMiss t _ => t
  | .layerAutoWindowEnd t _ => t
  | .layerChunkUpdate t _ => t
  | .layerPeriodEnd t _ => t
  | .lyrClr t _ => t
  | .ovTrip t _ => t
  | .faultAction t _ => t
  | .uv t _ => t
  | .ocpTrip t _ => t
  | .negTrip t _ => t
  | .ocTotal t _ => t
  | .phaseReturn t _ _ => t
  | .otOnset t _ => t
  | .otEnd t _ => t
  | .vinUv t _ => t
  | .vinOv t _ => t
  | .fastChannelRequest t => t
  | .hiccupRetry t _ => t
  | .hiccupCountClear t _ => t
  | .fltClr t _ => t
  | .killNFall t => t
  | .killedExit t => t
  | .faultNRelease t => t
  | .faultIn t => t
  | .faultInHoldEnd t => t
  | .syncFieldReceived t _ _ => t
  | .syncLoss t => t
  | .holdoffExpire t => t
  | .slotTransmit t => t
  | .leashFrameEnd t _ _ _ _ _ _ _ => t
  | .jabberCut t => t
  | .idle t _ _ => t
  | .claim t _ _ => t
  | .handover t _ => t
  | .nap t _ _ => t
  | .napBurst t => t
  | .wake t _ _ => t
  | .napWindowMiss t => t
  | .napOrphan t => t
  | .lshClr t _ => t
  | .howlFault t _ _ => t
  | .howlGasp t _ _ => t
  | .tokenAcq t _ _ => t
  | .tokenHold t _ _ => t
  | .tokenRel t _ _ => t
  | .vref t _ _ => t
  | .peerValueTimeout t _ _ => t
  | .cert t _ _ => t
  | .chal t _ _ => t
  | .resp t _ _ => t
  | .digest t _ _ => t
  | .challengeStart t _ => t
  | .responseSigned t => t
  | .challengeVerified t _ => t
  | .challengeTimeout t _ => t
  | .wiring t _ => t
  | .digestSend t => t
  | .planSave t => t
  | .planSaveDone t _ => t
  | .handlerStore t _ => t
  | .acquire t _ => t
  | .renew t _ => t
  | .release t _ => t
  | .acquireDecide t => t
  | .tokenHoldSend t => t
  | .leaseExpire t => t
  | .sweepStart t => t
  | .sweepAbort t => t
  | .swpStart t _ _ => t
  | .swpCheck t _ _ => t
  | .swpJoin t _ _ => t
  | .swpSet t _ _ => t
  | .swpSetSend t => t
  | .sweepRunStart t => t
  | .sweepStepStart t => t
  | .sweepWindowEnd t => t
  | .swpIre t _ _ => t
  | .swpIim t _ _ => t
  | .sweepEntryWrite t => t
  | .sweepResults t => t
  | .sweepLeaderLost t => t
  | .gaspEntry t => t
  | .gaspEvaluation t => t
  | .summaryWritten t => t
  | .gaspExit t => t
  | .rehearsalStart t => t
  | .rehearsalEnd t => t
  | .pollStart t => t
  | .pollComplete t _ _ _ _ => t
  | .stretchTimeout t => t
  | .arbitrationLoss t => t
  | .recoveryAttempt t _ _ _ => t
  | .fchEvtClear t _ => t
  | .eventAppend t => t
  | .crumbDataRead t => t
  | .trigger t _ => t
  | .lock t _ => t
  | .unlock t _ => t
  | .slotRelease t _ => t
  | .hold t => t
  | .resume t => t
  | .captureSample t _ => t
  | .compressionDone t _ => t
  | .recordSigned t _ => t
  | .clearIn t => t
  | .submit t => t
  | .attest t => t
  | .readCert t => t
  | .install t => t
  | .drop t => t
  | .readOpk t => t
  | .rewind t => t
  | .tokenCommandDone t => t
  | .tokenPortWrite t _ => t
  | .tokenPortRead t => t
  | .unlockExpire t => t
  | .rngTestFail t => t
  | .drbgReseed t => t
  | .arm t => t
  | .stop t => t
  | .chewLifeExpire t => t
  | .chewStuckEnd t => t
  | .gpioPulseEnd t _ => t
  | .tapInstructionUpdate t _ _ => t
  | .trstNLow t => t
  | .killNRise t => t
  | .vddioSupplyChange t _ _ => t
  | .leashValid t => t
  | .reservedTypeMessage t _ _ _ _ => t

end Sys2Proof
end

