-- ==== Sys2Proof/Config.lean ====
section
/-! DEFINITION. What an implementation fixes: the unit of time, the fixed times of the specification, and the
free values, which the specification leaves open (opaque constants: nothing can evaluate them). -/

namespace Sys2Proof.Config

/-- Times are natural numbers of 1/256 ns, so that one CCLK cycle (3.125 ns) is 800 and one step of the
97.66 ps edge grid of R229 is 25. -/
def ns (n : Nat) : Nat := 256 * n
def us (n : Nat) : Nat := 256000 * n
def ms (n : Nat) : Nat := 256000000 * n
/-- One CCLK cycle at 320 MHz (R175). -/
def cclk : Nat := 800
/-- One grid cycle, 500 ns (R176). -/
def gridCycle : Nat := 128000
/-- The edge placement grid, 3.125 ns / 32 (R229). -/
def edgeGrid : Nat := 25
/-- Carrier units in one unit of time: carrier cycles are counted this finely, so that their periods do not round. -/
def carUnit : Nat := 2 ^ 24

/-- A 16-bit value that the specification leaves undefined; the argument is the counter `freeCount` of the
state, advanced at each use. -/
opaque freeWord : Nat → W16
/-- A byte that the specification leaves undefined. -/
opaque freeByte : Nat → Byte
/-- A truth value that the specification leaves open ("may or may not"). -/
opaque freeBool : Nat → Bool
/-- Random bytes: the k-th byte of the n-th DRBG output (R524). -/
opaque randomByte : Nat → Nat → Byte

/-- What factory test wrote into identity OTP (R501, R504, R505): the device private key, its certificate in DER, the
issuing CA key X, Y (none when absent), and the device serial. -/
opaque deviceKey : Nat
opaque deviceCert : List Byte
opaque caKey : Option (Nat × Nat)
opaque serial : Nat
/-- The silicon revision and the revision of the OTP contents (21 R550, 22 R569). -/
opaque siliconRev : Byte
opaque otpRev : Byte
/-- The OTP seeds of the converter trims (R136): converter (0 to 3 VSC, 4 to 7 ISC), slice, and 0 offset, 1 gain, 2 skew. -/
opaque trimSeed : Nat → Nat → Nat → Int
/-- The factory gain and offset of the SVC channels whose nominal values the specification does not give. -/
opaque factoryG : Nat → Int
opaque factoryB : Nat → Int

end Sys2Proof.Config
end

