-- ==== Sys2Proof/Machine/Operands.lean ====
section
/-! DEFINITION. The shared encodings (00_scope.md R3 to R13): bits and fields of words, time words, rounding,
saturation, and the exact arithmetic of scaled values. -/

namespace Sys2Proof.Machine

/-- Bit `i` of a word (R3). -/
def bitAt {w : Nat} (v : BitVec w) (i : Nat) : Bool := v.getLsbD i

/-- Field [h:l] of a word as a number (R3). -/
def fld {w : Nat} (v : BitVec w) (h l : Nat) : Nat := v.toNat / 2 ^ l % 2 ^ (h + 1 - l)

/-- A word with bit `i` set. -/
def setBit {w : Nat} (v : BitVec w) (i : Nat) : BitVec w := v ||| BitVec.ofNat w (2 ^ i)

/-- A word with bit `i` cleared. -/
def clrBit {w : Nat} (v : BitVec w) (i : Nat) : BitVec w := v &&& ~~~(BitVec.ofNat w (2 ^ i))

/-- 1 or 0 at bit position `i`. -/
def bitVal (b : Bool) (i : Nat) : Nat := if b then 2 ^ i else 0

/-- A 16-bit word from a number, modulo 65,536. -/
def w16 (n : Nat) : W16 := BitVec.ofNat 16 n

/-- A byte from a number, modulo 256. -/
def w8 (n : Nat) : Byte := BitVec.ofNat 8 n

/-- The duration of a time word (R9), in 1/256 ns. -/
def twDur (v : W16) : Nat :=
  Config.us (fld v 13 0 *
    (match fld v 15 14 with | 0 => 1 | 1 => 10 | 2 => 1000 | _ => 100000))

/-- The count field of a time word (R9). -/
def twCount (v : W16) : Nat := fld v 13 0

/-- Integer quotient rounded to nearest, ties to even (`d` > 0). -/
def roundEven (n : Int) (d : Nat) : Int :=
  let q := n / (d : Int)
  let r := n % (d : Int)
  if 2 * r < (d : Int) then q else if (d : Int) < 2 * r then q + 1 else if q % 2 = 0 then q else q + 1

/-- Integer quotient rounded to nearest, a half toward +∞ (`d` > 0). -/
def roundUp (n : Int) (d : Nat) : Int := (2 * n + (d : Int)) / (2 * (d : Int))

/-- An exact fraction: the arithmetic of scaled physical values, never rounded before the rule rounds it.
A zero denominator stands for a quotient by zero and is never read as a value. -/
structure Frac where
  num : Int
  den : Nat
  deriving DecidableEq, Repr

/-- An integer as a fraction. -/
def Frac.ofInt (n : Int) : Frac := ⟨n, 1⟩
/-- The quotient of two naturals. -/
def Frac.ofNats (n d : Nat) : Frac := ⟨n, d⟩
/-- Lowest terms. -/
def Frac.norm (a : Frac) : Frac :=
  let g := Nat.gcd a.num.natAbs a.den
  if g ≤ 1 then a else ⟨a.num / (g : Int), a.den / g⟩
def Frac.add (a b : Frac) : Frac := Frac.norm ⟨a.num * b.den + b.num * a.den, a.den * b.den⟩
def Frac.neg (a : Frac) : Frac := ⟨-a.num, a.den⟩
def Frac.sub (a b : Frac) : Frac := a.add b.neg
def Frac.mul (a b : Frac) : Frac := Frac.norm ⟨a.num * b.num, a.den * b.den⟩
/-- The reciprocal. -/
def Frac.inv (a : Frac) : Frac :=
  if 0 ≤ a.num then ⟨a.den, a.num.natAbs⟩ else ⟨-(a.den : Int), a.num.natAbs⟩
def Frac.div (a b : Frac) : Frac := a.mul b.inv
def Frac.le (a b : Frac) : Bool := decide (a.num * b.den ≤ b.num * a.den)
def Frac.lt (a b : Frac) : Bool := decide (a.num * b.den < b.num * a.den)
def Frac.max (a b : Frac) : Frac := if a.le b then b else a
def Frac.min (a b : Frac) : Frac := if a.le b then a else b
/-- The largest integer not above the fraction. -/
def Frac.floor (a : Frac) : Int := a.num / (a.den : Int)
/-- The least integer not below the fraction. -/
def Frac.ceil (a : Frac) : Int := -((-a.num) / (a.den : Int))
/-- Nearest integer, ties to even. -/
def Frac.roundEven (a : Frac) : Int := Machine.roundEven a.num a.den
/-- Nearest integer, a half toward +∞. -/
def Frac.roundUp (a : Frac) : Int := Machine.roundUp a.num a.den
/-- 2 to a power that may be negative. -/
def Frac.pow2 (k : Int) : Frac := if 0 ≤ k then ⟨2 ^ k.toNat, 1⟩ else ⟨1, 2 ^ (-k).toNat⟩
/-- The sum of a list of fractions. -/
def Frac.sum (l : List Frac) : Frac := l.foldl Frac.add ⟨0, 1⟩

/-- A number held between two limits. -/
def clampI (lo hi x : Int) : Int := if x < lo then lo else if hi < x then hi else x

/-- A number held between two limits. -/
def clampN (lo hi x : Nat) : Nat := if x < lo then lo else if hi < x then hi else x

/-- An integer delivered as an unsigned word, held to 0 to 65,535. -/
def satU16 (x : Int) : W16 := BitVec.ofNat 16 (clampI 0 65535 x).toNat

/-- An integer delivered as a signed word, held to −32,768 to 32,767. -/
def satS16 (x : Int) : W16 := BitVec.ofInt 16 (clampI (-32768) 32767 x)

/-- A count that saturates at 255 (the shared form of the 8-bit counters). -/
def inc8 (n : Nat) : Nat := min 255 (n + 1)

/-- A count that saturates at 65,535. -/
def inc16 (n : Nat) : Nat := min 65535 (n + 1)

/-- Multiply by a power of two that may be negative, rounding a right shift to nearest with ties to even (R185). -/
def shiftEven (x : Int) (k : Int) : Int :=
  if 0 ≤ k then x * 2 ^ k.toNat else roundEven x (2 ^ (-k).toNat)

/-- Stage exponent `i` of an EXPS word (R12). -/
def expsNib (v : W16) (i : Nat) : Int :=
  let n := fld v (4 * i + 3) (4 * i)
  if 8 ≤ n then (n : Int) - 16 else (n : Int)

/-- The bytes of a word, low byte first. -/
def wordBytes (v : W16) : List Byte := [v.setWidth 8, (v >>> 8).setWidth 8]

/-- A word from two bytes, low byte first. -/
def wordOf (lo hi : Byte) : W16 := BitVec.ofNat 16 (lo.toNat + 256 * hi.toNat)

/-- The words of a byte string, low byte first; a last odd byte stands alone. -/
def wordsOf : List Byte → List W16
  | lo :: hi :: r => wordOf lo hi :: wordsOf r
  | [lo] => [wordOf lo 0]
  | [] => []

/-- The little-endian number of a byte string. -/
def leNat : List Byte → Nat
  | [] => 0
  | b :: r => b.toNat + 256 * leNat r

/-- The `k` little-endian bytes of a number. -/
def leBytes : Nat → Nat → List Byte
  | 0, _ => []
  | k + 1, n => w8 n :: leBytes k (n / 256)

/-- The big-endian number of a byte string. -/
def beNat (l : List Byte) : Nat := l.foldl (fun a b => 256 * a + b.toNat) 0

/-- The `k` big-endian bytes of a number. -/
def beBytes (k n : Nat) : List Byte := (leBytes k n).reverse

/-- The positions of the set bits of a 16-bit word, ascending. -/
def bitsOf (v : W16) : List (Fin 16) := (List.finRange 16).filter fun i => bitAt v i.val

/-! ### SETPT readings -/

/-- Sixteen samples of an analogue pin, as its 12-bit codes with 4,095 for 1.2 V; or sixteen complete periods of a pulse input,
each as its high time and its length, from 2 µs to 1 ms (R281). -/
def setptOk (pulse : Bool) (xs : List (Nat × Nat)) : Bool :=
  decide (xs.length = 16) && xs.all fun x => decide (x.1 ≤ x.2) &&
    (if pulse then decide (Config.us 2 ≤ x.2) && decide (x.2 ≤ Config.ms 1) else decide (x.2 = 4095))

/-! ### Leash message types -/

/-- A class and type that no chapter allocates (R409, R433). -/
def reservedType (cls typ : Nat) : Bool :=
  match cls with
  | 3 => decide (2 ≤ typ)
  | 2 => decide (typ = 3)
  | 1 => decide (typ ≠ 0) && decide (typ ≠ 4) && decide (typ ≠ 5)
  | _ => false

end Sys2Proof.Machine
end

