-- ==== Sys2Proof/Machine/ParamMap.lean ====
section
/-! DEFINITION. The parameter map (21_parameter_map.md R535 to R550): which of the 65,536 addresses hold a
word, and for each word its access kind, commit class, defined bits and reset source, as the Parameters
table of each chapter gives them. -/

namespace Sys2Proof.Machine

/-- How software may reach a word (R541). -/
inductive Access where
  | rw | ro | wo | w1c
  deriving DecidableEq, Repr

/-- Commit classes (R88). -/
inductive CommitClass where
  | L | B | S | K
  deriving DecidableEq, Repr

/-- What the tables say of one word: `mask` has a 1 for every bit that is not reserved (R5), `reset` is the
numeric reset value of the Reset column, and `fromMtp` marks the words whose column says "from MTP" (R544). -/
structure ParamInfo where
  access : Access
  cls : CommitClass
  mask : Nat
  reset : Nat
  fromMtp : Bool := false
  deriving DecidableEq, Repr

def pRW (c : CommitClass) (mask reset : Nat) : Option ParamInfo := some ⟨.rw, c, mask, reset, false⟩
def pRO (reset : Nat) : Option ParamInfo := some ⟨.ro, .L, 0xFFFF, reset, false⟩
def pWO : Option ParamInfo := some ⟨.wo, .L, 0xFFFF, 0, false⟩
def pW1C (mask : Nat) : Option ParamInfo := some ⟨.w1c, .L, mask, 0, false⟩

/-- DEV page (R539). -/
def paramDEV (i : Nat) : Option ParamInfo :=
  if i = 0x00 then pRO 2
  else if i = 0x02 then pW1C 0x003F
  else if i = 0x04 then pRW .S 0x0001 0x0001
  else if i = 0x05 ∨ i = 0x0B ∨ i = 0x0C then pWO
  else if i = 0x08 then pRW .L 0xFFFF 0x0000
  else if i = 0x09 then pRW .L 0xFF0F 0x0000
  else if i = 0x0A then pRW .L 0x0001 0x0000
  else if i ≤ 0x0D then pRO 0
  else if i < 0x10 then none
  else if i ≤ 0x23 then pRO 0
  else if i = 0x24 then pRW .L 0xFFFF 0xC064
  else if i = 0x25 then pRW .L 0x007F 0x000A
  else none

/-- PRF page (03_proof_and_commit.md). -/
def paramPRF (i : Nat) : Option ParamInfo :=
  if i = 0x00 then pRW .L 0xFFFF 0x8064
  else if i = 0x01 then pRW .L 0x000F 0x000F
  else if i = 0x02 then pWO
  else if i = 0x04 then pRO 0xFFFF
  else if i ≤ 0x0B then pRO 0
  else none

/-- PRT page (13_protection.md). -/
def paramPRT (i : Nat) : Option ParamInfo :=
  if i = 0x00 then pRW .B 0x000F 0x0001
  else if i = 0x01 then pRW .K 0x0001 0x0000
  else if i = 0x02 then pRW .B 0xFFFF 0x0000
  else if i = 0x03 then pRO 0
  else if i = 0x04 then pRW .B 0xFFFF 0x0014
  else if i = 0x05 then pRW .B 0xFFFF 0x000A
  else if i = 0x06 then pRW .B 0xFFFF 0x0032
  else if i = 0x07 then pRW .B 0x0077 0x0033
  else if i = 0x08 then pWO
  else if i = 0x09 then pRW .B 0x7F7F 0x0000
  else if i = 0x0A then pRW .B 0xFFFF 0x0064
  else if i ≤ 0x0D then pRO 0
  else if i < 0x1A then pRW .B 0xFFFF (if (i - 0x0E) % 3 = 2 then 0x0A0A else 0x0000)
  else if i < 0x2C then
    let k := (i - 0x1A) / 3
    let f := (i - 0x1A) % 3
    pRW .B 0xFFFF (if f = 0 then (if k ≤ 3 then 0xFF1A + k else 0xFFFF)
      else if f = 1 then 0x4600 else (if k ≤ 3 then 0xB000 else 0x0000))
  else if i < 0x30 then pW1C 0xFFFF
  else none

/-- CLK page (08_phases_and_modulation.md). -/
def paramCLK (i : Nat) : Option ParamInfo :=
  if i = 0x00 then pRW .B 0x0007 0x0002
  else if i = 0x02 then pRW .B 0xFFFF 0x03E8
  else if i ≤ 0x04 then pRO 0
  else if i = 0x05 then pRW .B 0x003F 0x0000
  else if i = 0x06 then pRW .B 0x00FF 0x0000
  else if i < 0x10 then none
  else if i < 0x20 then pRW .B 0xF1FF 0x0000
  else none

/-- VSC page (04_sense_converters.md). -/
def paramVSC (i : Nat) : Option ParamInfo :=
  if i < 0x10 then pRW .S 0x001F 0x0018
  else if i < 0x20 then pRW .S 0xFFFF 0x0000
  else if i < 0x24 then pRW .L 0x0001 0x0000
  else if i < 0x3C then pRO 0
  else none

/-- ISC page (04_sense_converters.md). -/
def paramISC (i : Nat) : Option ParamInfo :=
  if i < 0x04 then pRW .B 0xFFFF 0x1770
  else if i < 0x08 then pRW .B 0xFFFF 3930
  else if i < 0x0C then pRW .B 0x00FF 0x00FF
  else if i < 0x10 then pRW .B 0x0003 0x0000
  else if i < 0x14 then pRW .L 0x0001 0x0000
  else if i < 0x1C then pRO 0
  else if i < 0x20 then pRO 0x0C80
  else none

/-- SVC page (05_survey_converter.md). -/
def paramSVC (i : Nat) : Option ParamInfo :=
  if i < 0x20 then
    pRW .B 0x1F1F (if i = 0 then 0x1918 else if i = 1 then 0x1B1A else if i = 2 then 0x1D1C
      else if i = 3 then 0x001E else 0x0000)
  else if i < 0x40 then pRW .B 0xFFFF 0x0000
  else if i < 0x60 then pRW .B 0xFFFF 0x0C35
  else none

/-- SEQ page (05_survey_converter.md): entry e at 2e and 2e + 1. -/
def paramSEQ (i : Nat) : Option ParamInfo :=
  if i < 0x80 then
    pRW .B 0xFFFF (if i % 2 = 0 ∧ i / 2 ≤ 6 then 0x0F20 + i / 2 else 0x0000)
  else none

/-- SVR page (05_survey_converter.md). -/
def paramSVR (i : Nat) : Option ParamInfo :=
  if i = 0x00 then pRW .B 0x3F0F 0x0605
  else if i = 0x01 then pWO
  else if i = 0x02 then pRW .L 0xFFFF 0x0000
  else if i = 0x03 then pRO 0
  else if i < 0x08 then pRW .B 0xFF07 0x0F00
  else if i < 0x0C then pRW .B 0xFFFF 0x0000
  else if i < 0x10 then pRO 0xFFFF
  else if i < 0x30 then pRO 0
  else none

/-- Loop page of LPn (R537), indices 0x00 to 0x17. -/
def paramLPlow (n i : Nat) : Option ParamInfo :=
  if i = 0x00 then pRW .L 0xFFFF (if n = 15 then 0x80E8 else 0x0000)
  else if i = 0x01 then pRW .B 0xFFFF (if n = 15 then 0x8CA0 else 0xFA00)
  else if i = 0x02 then pRW .B 0xFFFF (if n = 15 then 0x7530 else 0x0000)
  else if i = 0x03 then pRW .S 0x00F7 0x0040
  else if i ≤ 0x05 then pRW .L 0xFFFF 0x0064
  else if i = 0x07 ∨ i = 0x09 then pRW .B 0xFFFF 0x8001
  else if i ≤ 0x08 then pRW .B 0xFFFF 0x0000
  else if i = 0x0A then pRW .S 0x3FFF 0x0000
  else if i = 0x0B then pRW .B 0xFFFF 0x0000
  else if i = 0x0C then pRW .B 0x07F3 0x0003
  else if i = 0x0D then pRW .S 0x0007 0x0002
  else if i = 0x0E then pRW .B 0xFFFF 0x4000
  else if i ≤ 0x16 then pRW .B 0xFFFF 0x0000
  else pRW .L 0xFFFF 0x0000

/-- Loop page of LPn (R537), indices 0x18 to 0x31. -/
def paramLPhigh (n i : Nat) : Option ParamInfo :=
  if i = 0x18 then pRW .B 0xFF07 0x0000
  else if i = 0x19 then pRW .L 0xFFFF 0x0000
  else if i = 0x1A then pRW .L 0xFFFF 0x0050
  else if i = 0x1B then pRW .L 0xFFFF 0x0000
  else if i = 0x1C then pRW .L 0xFFFF 0x800A
  else if i = 0x1D then pRW .B 0xFFFF 0x01F4
  else if i = 0x1E then pRW .S 0x1FFF (if n = 15 then 0x007F else 0x0000)
  else if i = 0x1F then pRW .B 0xFF7F 0x0001
  else if i = 0x20 then pRW .B 0xFF7F 0x0040
  else if i = 0x21 then pRW .B 0xFFFF 0x00C8
  else if i = 0x22 then pRW .B 0x1FFF 0x0064
  else if i = 0x23 then pRW .B 0xFFFF 0x0022
  else if i = 0x24 then pRW .B 0xFFFF 0xFFFF
  else if i ≤ 0x26 then pRW .B 0xFFFF 0x0000
  else if i = 0x27 then pRW .B 0x7FFF 0x16DC
  else if i = 0x28 then pRW .B 0x7FFF 0x185B
  else if i = 0x29 then pRW .B 0xFFFF 0x3064
  else if i = 0x2A then pRW .B 0x81FF 0x0000
  else if i = 0x2B then pRW .S 0x003F 0x0000
  else if i = 0x2C then pRW .B 0x0007 0x0000
  else if i = 0x2D then pRW .B 0xFFFF 0x0000
  else if i = 0x2E then pRW .B 0x7FFF 0x0000
  else if i = 0x2F then pRW .B 0xFFFF 0x40FF
  else if i = 0x30 then pRW .L 0xFFFF 0x0000
  else pRW .B 0xFF07 0x0000

/-- Loop page of LPn (R537). -/
def paramLP (n i : Nat) : Option ParamInfo :=
  if i < 0x18 then paramLPlow n i
  else if i < 0x32 then paramLPhigh n i
  else if i = 0x3E then pRO 0x8888
  else if i < 0x40 then pRO 0
  else none

/-- Phase-group page g (R538). -/
def paramPHG (g i : Nat) : Option ParamInfo :=
  if i < 96 then
    let k := i % 6
    if k = 0 then pRW .S 0x01FF (if 16 * g + i / 6 = 63 then 0x001F else 0x0000)
    else if k = 1 then pRW .S 0xFFFF 0x9388
    else if k = 2 then pRW .B 0xFFFF 0x0000
    else if k = 3 then pRW .B 0xFFFF 0x03FF
    else pRO 0
  else none

/-- ACP page (11_agique_command_port.md): twelve words a port. -/
def paramACP (i : Nat) : Option ParamInfo :=
  if i < 96 then
    let k := i % 12
    if k = 0 then pRW .S 0x003F 0x0000
    else if k = 1 then pRW .B 0xFFFF 0x8002
    else if k = 2 then pRW .B 0xFFFF 0x0032
    else if k = 3 then pRW .B 0xFFFF 0x000A
    else if k = 4 then pRW .B 0xFFFF 0x03E8
    else if k = 5 then pRW .B 0xFFFF 0x0000
    else if k = 6 then pRW .B 0x00FF 0x00FF
    else if k = 8 then pW1C 0x803F
    else if k = 9 then pRW .L 0x003F 0x0000
    else pRO 0
  else none

/-- LSH page (14_leash_bus.md, 15_leash_services.md). -/
def paramLSH (i : Nat) : Option ParamInfo :=
  if i = 0x00 then pRW .B 0x0007 0x0003
  else if i = 0x01 then pRW .B 0x0007 0x0003
  else if i = 0x02 then pRW .B 0xFFFF 0x0014
  else if i ≤ 0x0D then pRO 0
  else if i = 0x0E then pWO
  else if i < 0x20 then none
  else if i = 0x20 then pRW .B 0x0003 0x0002
  else if i = 0x21 then pRW .B 0x0007 0x0001
  else if i = 0x22 then pRW .B 0xFFFF 0x0000
  else if i = 0x23 then pRW .B 0x0001 0x0000
  else if i = 0x24 then pRW .B 0xFFFF 0xC00A
  else if i ≤ 0x26 then pRO 0
  else if i = 0x27 then pRW .B 0xFFFF 0xC032
  else if i ≤ 0x3A then pRO 0
  else if i = 0x3B then pWO
  else if i ≤ 0x3F then pRO 0
  else none

/-- SWP page (16_bus_sweep_damping_gasp.md). -/
def paramSWP (i : Nat) : Option ParamInfo :=
  if i = 0x00 then pRW .S 0x3FF7 0x2001
  else if i = 0x01 then pRW .S 0xFFFF 0x0014
  else if i = 0x02 then pRW .S 0xFFFF 0x4E20
  else if i = 0x03 then pRW .S 0x007F 0x0040
  else if i = 0x04 then pRW .S 0xFFFF 0x0208
  else if i = 0x05 then pRW .S 0x003F 0x0032
  else if i = 0x06 then pWO
  else if i = 0x08 then pRO 0xFFFF
  else if i ≤ 0x0B then pRO 0
  else if i < 0x10 then none
  else if i = 0x10 then pRW .B 0xFFFF 0x03E8
  else if i = 0x11 then pRW .B 0x00FF 0x0010
  else if i = 0x12 then pRW .B 0xFFFF 0x0000
  else if i = 0x13 then pRO 0
  else none

/-- GSP page (16_bus_sweep_damping_gasp.md). -/
def paramGSP (i : Nat) : Option ParamInfo :=
  if i = 0x00 then pRW .B 0x013F 0x0010
  else if i = 0x02 then pRW .B 0xFFFF 0x0028
  else if i = 0x04 then pRW .B 0xFFFF 0x800A
  else if i ≤ 0x06 then pRW .B 0xFFFF 0x0000
  else if i = 0x07 then pRW .B 0x007F 0x005A
  else if i = 0x08 then pRW .B 0xFFFF 0x8014
  else if i = 0x09 then pRW .B 0xFFFF 0x801E
  else if i ≤ 0x0D then pRW .B 0xFFFF 0xFFFF
  else if i = 0x0E then pRW .B 0xFFFF 0x0000
  else if i ≤ 0x13 then pRO 0
  else none

/-- FCH page (17_fetch.md): three words an entry, then the control words. -/
def paramFCH (i : Nat) : Option ParamInfo :=
  if i < 0x60 then
    if i % 3 = 0 then pRW .B 0xFF7F 0x0000
    else if i % 3 = 1 then pRW .B 0xFFFF 0x0000
    else pRO 0
  else if i = 0x60 then pRW .B 0x0007 0x0003
  else if i = 0x61 then pRW .B 0xFFFF 0xC00A
  else if i = 0x62 then pRO 0
  else if i = 0x63 then pW1C 0x803F
  else if i = 0x64 then pRW .L 0x003F 0x0000
  else if i = 0x67 ∨ i = 0x68 then pRO 0xFFFF
  else if i ≤ 0x6A then pRO 0
  else if i ≤ 0x6E then pRW .B 0xFFFF 0x0000
  else if i = 0x6F then pRO 0
  else none

/-- CRB page (18_crumb_recorder.md): twelve words a template, then the control words. -/
def paramCRB (i : Nat) : Option ParamInfo :=
  if i < 0x30 then
    let k := i % 12
    if k = 0 then pRW .S 0xFFFF 0x0000
    else if k ≤ 4 then pRW .S 0xFFFF 0xFFFF
    else if k = 5 then pRW .S 0xFFFF 0x0400
    else if k = 8 then pRW .S 0x0FFF 0x0000
    else if k = 10 then pRW .S 0x0FFF 0x0000
    else if k = 11 then pRO 0
    else pRW .S 0xFFFF 0x0000
  else if i = 0x30 then pRW .L 0x000F 0x0000
  else if i ≤ 0x3A then pRO 0
  else none

/-- LYR page (12_layer_learner.md). -/
def paramLYR (i : Nat) : Option ParamInfo :=
  if i = 0x00 then pWO
  else if i = 0x01 then pRW .L 0xFFFF 0x0000
  else if i = 0x04 then pRW .L 0x000F 0x0000
  else if i = 0x0A then pRO 0xFFFF
  else if i = 0x0D then pRW .B 0x0FFF 0x0420
  else if i = 0x0E then pRW .B 0x00FF 0x00C0
  else if i ≤ 0x0F then pRO 0
  else none

/-- CHW page (20_chew.md). -/
def paramCHW (i : Nat) : Option ParamInfo :=
  if i = 0x00 then pRW .K 0x0007 0x0000
  else if i = 0x01 then pWO
  else if i = 0x02 then pRW .K 0xFFFF 0x0010
  else if i = 0x03 then pRW .K 0xFFFF 0xC00A
  else if i = 0x04 then pRW .K 0xFFFF 0xACE1
  else if i = 0x05 then pRW .K 0xFF07 0x0100
  else if i = 0x06 then pRW .K 0x00FF 0x0000
  else if i = 0x07 then pRW .K 0xFFF7 0x0100
  else if i = 0x08 then pRW .K 0x00FF 0x0000
  else if i = 0x09 then pRW .K 0xFF07 0x0100
  else if i ≤ 0x0B then pRW .K 0xFFFF 0x0000
  else if i = 0x0C then pRW .K 0xFFFF 0x800A
  else if i ≤ 0x12 then pRO 0
  else none

/-- PIN page (21_parameter_map.md R546 to R549). -/
def paramPIN (i : Nat) : Option ParamInfo :=
  if i < 0x18 then pRW .B 0xFF1F 0x0000
  else if i ≤ 0x19 then pRO 0
  else if i = 0x1A then pRW .L 0xFFFF 0x0000
  else if i = 0x1B then pRW .L 0x00FF 0x0000
  else if i = 0x1C then pRW .B 0xFFFF 0x0000
  else if i = 0x1D then pRW .B 0x00FF 0x0000
  else none

/-- The word at page `p`, index `i`, or `none` where the address holds no word (R535, R536). -/
def paramAt (p i : Nat) : Option ParamInfo :=
  if p = 0x00 then paramDEV i
  else if p = 0x01 then paramPRF i
  else if p = 0x02 then paramPRT i
  else if p = 0x03 then paramCLK i
  else if p = 0x04 then paramVSC i
  else if p = 0x05 then paramISC i
  else if p = 0x06 then paramSVC i
  else if p = 0x07 then paramSEQ i
  else if p = 0x08 then paramSVR i
  else if p < 0x10 then none
  else if p < 0x20 then paramLP (p - 0x10) i
  else if p < 0x24 then paramPHG (p - 0x20) i
  else if p = 0x28 then paramACP i
  else if p = 0x30 then paramLSH i
  else if p = 0x31 then (if i < 32 then some ⟨.rw, .K, 0xFFFF, 0xFFFF, true⟩ else none)
  else if p = 0x32 then paramSWP i
  else if p = 0x33 then paramGSP i
  else if p = 0x34 then paramFCH i
  else if p = 0x38 then paramCRB i
  else if p = 0x39 then paramLYR i
  else if p = 0x3A then (if i < 0x14 then pRO 0 else none)
  else if p = 0x3B then paramCHW i
  else if p = 0x3C then paramPIN i
  else if p = 0x3F then (if i < 3 then pRO 0 else none)
  else none

/-- The word at a parameter address (R535). -/
def paramInfo (a : Nat) : Option ParamInfo := paramAt (a / 256) (a % 256)

/-- The numeric reset value of the word at `a`; 0 where there is none. -/
def paramReset (a : Nat) : W16 :=
  match paramInfo a with
  | some p => BitVec.ofNat 16 p.reset
  | none => 0

/-- The page sizes of R536. -/
def pageSize (p : Nat) : Nat :=
  if p = 0x00 then 48 else if p = 0x01 then 32 else if p = 0x02 then 48 else if p = 0x03 then 32
  else if p = 0x04 then 64 else if p = 0x05 then 64 else if p = 0x06 then 96 else if p = 0x07 then 128
  else if p = 0x08 then 48 else if p < 0x10 then 0 else if p < 0x20 then 64 else if p < 0x24 then 96
  else if p = 0x28 then 96 else if p = 0x30 then 64 else if p = 0x31 then 32 else if p = 0x32 then 64
  else if p = 0x33 then 32 else if p = 0x34 then 112 else if p = 0x38 then 64 else if p = 0x39 then 16
  else if p = 0x3A then 32 else if p = 0x3B then 24 else if p = 0x3C then 48 else if p = 0x3F then 32
  else 0

/-- The word at `a` is RW. -/
def isRw (a : Nat) : Bool := match paramInfo a with | some p => decide (p.access = .rw) | none => false

/-- The commit class of the word at `a`. -/
def classOf (a : Nat) : CommitClass := match paramInfo a with | some p => p.cls | none => .L

/-- The RW words of page `p`, ascending. -/
def rwOfPage (p : Nat) : List Nat := ((List.range (pageSize p)).map fun i => 256 * p + i).filter isRw

/-- Every RW word of the parameter space, ascending. -/
def allRw : List Nat := (List.range 64).flatMap rwOfPage

end Sys2Proof.Machine
end

