-- ==== Sys2Proof/Machine/Sparse.lean ====
section
/-! DEFINITION. Sparse storage in one canonical form: a list of (key, value) pairs with strictly rising keys
and no value equal to what an unlisted key reads as, so that equal contents are equal data. -/

namespace Sys2Proof.Machine

variable {α : Type} [DecidableEq α]

/-- The value at key `k`: the listed one, or the default `d k`. -/
def sparseGet (d : Nat → α) : List (Nat × α) → Nat → α
  | [], k => d k
  | (j, v) :: r, k => if j = k then v else sparseGet d r k

/-- Write `v` at key `k`; a default value removes the entry. -/
def sparseSet (d : Nat → α) : List (Nat × α) → Nat → α → List (Nat × α)
  | [], k, v => if v = d k then [] else [(k, v)]
  | (j, w) :: r, k, v =>
    if k < j then (if v = d k then (j, w) :: r else (k, v) :: (j, w) :: r)
    else if k = j then (if v = d k then r else (k, v) :: r)
    else (j, w) :: sparseSet d r k v

/-- The canonical form above the key bound `lo`. -/
def sparseWfFrom (d : Nat → α) : Nat → List (Nat × α) → Bool
  | _, [] => true
  | lo, (j, v) :: r => decide (lo ≤ j) && decide (v ≠ d j) && sparseWfFrom d (j + 1) r

/-- The canonical form: keys strictly rising, no value equal to its default. -/
def sparseWf (d : Nat → α) (l : List (Nat × α)) : Bool := sparseWfFrom d 0 l

/-- Write the values of a list at consecutive keys. -/
def sparseSetList (d : Nat → α) (l : List (Nat × α)) : Nat → List α → List (Nat × α)
  | _, [] => l
  | k, v :: vs => sparseSetList d (sparseSet d l k v) (k + 1) vs

end Sys2Proof.Machine
end

