-- ==== Sys2Proof/Machine/State.lean ====
section
/-! DEFINITION. The state of the FYR-6416 as plain data, one structure for each unit, and `State.reset`.
Each field names the rule of spec/ that gives it. Times are in units of 1/256 ns (`Config`). -/

namespace Sys2Proof.Machine

/-- Global states (R41); `reset` is the time in which RESET_N or the core under-voltage monitor holds the full set, and the
time from VAUX valid to the lock of the PLL (R38). -/
inductive GState where
  | unpowered | kennel | reset | boot | ready | run | gasp | killed
  deriving DecidableEq, Repr

/-- Which law runs LP15 (R27, R38 to R40). -/
inductive Lp15Law where
  | stopped | kennel | configured
  deriving DecidableEq, Repr

/-- Pre-regulator (R30). -/
inductive PreReg where
  | off | active | standby
  deriving DecidableEq, Repr

/-- What the kennel set waits for before the next attempt (R28, R29). -/
inductive KennelWait where
  | none
  | due (at_ : Nat)          -- the attempt starts, or its retry interval ends, at this time
  | retry (at_ : Nat)        -- the retry interval after a failure or a loss of VAUX runs until this time
  | vhvRise                  -- fell due with VHV not above VHV_ON
  | ovloRelease              -- fell due with VHV above VHV_OVLO
  | killRelease              -- KILL_N caused the failure; it must return high
  deriving DecidableEq, Repr

/-- Power entry, straps and resets (01). -/
structure Power where
  g : GState := .unpowered            -- R41
  vhvOn : Bool := false               -- R18: above VHV_ON with hysteresis down to VHV_OFF
  vhvOvlo : Bool := false             -- R18
  vaux : Bool := false                -- R22
  vauxHold : Bool := false            -- R50: pins held after a loss of VAUX until VAUX falls below 2.0 V
  vauxLost : Bool := true             -- R52: VAUX was lost (or never present) since the last BOOT
  vddioH : Bool := true               -- R25
  vddioL : Bool := true
  vddioP : Bool := true
  kv : Option (BitVec 2) := none      -- R33: the held KV value
  pos : BitVec 3 := 0                 -- R33: read at BOOT
  bootSel : BitVec 2 := 0
  killN : Bool := true                -- R367: level of KILL_N
  killRise : Option Nat := none       -- R367: when KILL_N last rose
  resetN : Bool := true               -- R44
  wait : KennelWait := .none          -- R28, R29
  attempt : Option Nat := none        -- R28: start of the attempt that runs
  attempts : Nat := 0                 -- R31, 0 to 255
  endCause : BitVec 3 := 0            -- R31
  kennelUsed : Bool := false          -- R31
  preReg : PreReg := .off             -- R30
  law15 : Lp15Law := .stopped         -- R27, R38 to R40
  killStop : Bool := false            -- R37: KILL_N has stopped LP15 and so removes VAUX
  law15Pend : Bool := false           -- R39, R46: LP15 changes law at its next sample boundary
  lane3Cclk : Bool := false           -- R38
  pll : Bool := false                 -- R38
  coreUv : Bool := false              -- R48
  warmPend : Option (BitVec 6) := none -- R45: a warm reset waits for the queued log entries; its cause bits
  warmAt : Nat := 0                   -- R45: the time of its write or expiry
  unpowered : Bool := true            -- DEV.RESET_CAUSE: UNPOWERED since VAUX was last valid
  bootPend : Bool := false            -- R38, R41: BOOT is entered at PLL lock or at the end of the reset
  bootCnt : BitVec 32 := 0            -- R47
  cntPend : Bool := false             -- R47: the increment of this BOOT has not been done
  resetCause : BitVec 6 := 0          -- DEV.RESET_CAUSE
  kennelStat : W16 := 0               -- DEV.KENNEL_STAT
  strap : W16 := 0x8000               -- DEV.STRAP
  img : Bool := false                 -- R65: the values in use came from an image
  bootTime : Nat := 0                 -- R68: the last entry to BOOT
  deriving DecidableEq, Repr

/-- The host bus and the window's own registers (02). -/
structure Win where
  addr : W16 := 0                     -- R55: latched byte address
  adOut : W16 := 0                    -- R62: data of the last completed read
  irq : W16 := 0                      -- R76
  irqEn : W16 := 0
  paddr : W16 := 0
  loopOn : W16 := 0                   -- R66
  fltCode : Byte := 0                 -- R64
  fltCount : Byte := 0
  fltLoop : BitVec 5 := 0
  fltValid : Bool := false
  killSeen : Bool := false
  killEdges : Byte := 0
  short : Bool := false               -- R60
  wdogExp : Bool := false             -- R83
  wdogCfg : W16 := 0                  -- R80
  wdogAlt : Bool := false             -- R81: the expected word is 0xA53C
  wdogFrom : Nat := 0                 -- R82: last restart of the timeout
  wdogLeft : Option Nat := none       -- R82: elapsed count at the entry to GASP
  kicked : Bool := false              -- R80: the last window write was a valid kick
  timeHold : W16 := 0                 -- R69
  bootHold : W16 := 0
  scratch : W16 := 0
  deriving DecidableEq, Repr

/-- One log entry (R481, R482). -/
structure LogEntry where
  w0 : W16 := 0
  w1 : W16 := 0
  w2 : W16 := 0
  w3 : W16 := 0
  deriving DecidableEq, Repr

/-- The event log (18 R480 to R485, 02 R78, R79). The appended entries lie in the Crumb SRAM. -/
structure EvtLog where
  queue : List (LogEntry × Nat) := []  -- R480: entries with the time of their raise, oldest first
  wr : Nat := 0                       -- LOG_WR
  rd : Nat := 0                       -- LOG_RD
  count : Nat := 0                    -- W_EVT_COUNT[13:0]
  lost : Bool := false
  drop : Nat := 0                     -- LOG_DROP
  wraps : Nat := 0                    -- R482: wraps of device time since BOOT
  popIdx : Nat := 0                   -- R78
  popBuf : LogEntry := {}
  popMid : Bool := false              -- R78: the buffered entry has not been popped yet
  popAt : Option Nat := none          -- R78: the log index the buffered entry was copied from, while it is still held
  deriving DecidableEq, Repr

/-- Who takes a word at a commit (R94). -/
inductive Taker where
  | loop (n : Fin 16)
  | page (p : Nat)
  deriving DecidableEq, Repr

/-- Where a commit stands (R92 to R95). -/
inductive CommitPhase where
  | idle | capture | apply | refused
  deriving DecidableEq, Repr

/-- Proof copies, values in use and the commit engine (03). -/
structure Params where
  proof : List (Nat × W16) := []      -- R85, sparse over the table's reset values
  inUse : List (Nat × W16) := []      -- R85
  waitL : List (Nat × Nat) := []      -- R89: class-L words that have not crossed yet, with their write times
  lateL : List Nat := []              -- R91: those of them that were written while BUSY
  phase : CommitPhase := .idle
  phaseAt : Nat := 0                  -- R93, R95: when the present phase began
  set : List (Nat × W16) := []        -- R92
  takers : List Taker := []           -- R94: loops and units that have not taken their words
  code : Byte := 0                    -- W_COMMIT_STAT[7:0]
  refused : Bool := false
  pendCode : Byte := 0                -- R95: reported when BUSY clears
  pendAddr : W16 := 0xFFFF
  refuseAddr : W16 := 0xFFFF          -- R98
  heldL : Option (Byte × W16) := none -- R91: a class-L report held while BUSY
  held : List (Fin 16) := []          -- R96: loops kept OFF until BUSY clears
  timers : List ((Fin 16 × Fin 4) × Nat) := []  -- R102: running difference timers with their start times
  fired : List (Fin 16 × Fin 4) := [] -- R102: pairs that have raised DISAGREE since their timer restarted
  deriving DecidableEq, Repr

/-- MTP slot states (R112). -/
inductive SlotState where
  | erased | trial | confirmed | invalid
  deriving DecidableEq, Repr

/-- One MTP image slot (R112). -/
structure ImgSlot where
  st : SlotState := .erased
  trials : Nat := 0
  cycles : Nat := 0                   -- MTP_WEAR: erase and rewrite cycles
  bytes : List Byte := []
  deriving DecidableEq, Repr

/-- MTP operations (R116). -/
inductive NvmOp where
  | save | openA | openB | confirm | invalidateA | invalidateB
  deriving DecidableEq, Repr

/-- The MTP controller (03 R112 to R121, 15 R418, 16 R452). -/
structure Nvm where
  slotA : ImgSlot := {}
  slotB : ImgSlot := {}
  loaded : BitVec 3 := 0              -- IMG_STAT[2:0]
  kSkip : Bool := false               -- IMG_STAT[3]
  reasonA : BitVec 4 := 0
  reasonB : BitVec 4 := 0
  reasonE : BitVec 4 := 0
  imgSeq : Nat := 0                   -- R519: SEQUENCE and digest of the image in use
  imgDigest : List Byte := []
  loadedTrial : Bool := false         -- R116: the source loaded at this BOOT was a TRIAL slot
  opened : Bool := false              -- R116: the loaded slot has been opened for a transfer since this BOOT
  op : Option NvmOp := none           -- running command
  xfer : Option Bool := none          -- open transfer: false slot A, true slot B
  busy : Bool := false
  words : List W16 := []              -- R117: image words received
  checking : Bool := false            -- R118
  gapFrom : Nat := 0                  -- R117: end of the OPEN or last data write
  result : BitVec 4 := 0
  resetRes : Option (BitVec 4) := none -- R121: RESULT to be reported at the end of the BOOT
  cands : List Bool := []             -- R112: the candidate slots of this BOOT in their order
  counted : List Bool := []           -- R113: those whose trial this BOOT has counted already
  deriving DecidableEq, Repr

/-- Sense part of a loop (04). -/
structure LoopSense where
  dac : W16 := 0                      -- R129: reference-DAC word
  full : Bool := true                 -- R131: full range now
  clip : Bool := false                -- R132: CLIP of the latest sample
  clipRun : Nat := 0                  -- R131: consecutive clipped window results
  clipHold : Bool := false            -- R131: moved to full range by clipping
  inRun : Nat := 0                    -- R131: consecutive full-range results within ±100 mV
  chk : Bool := false                 -- R133: held in full range until OFF
  chkFails : Nat := 0                 -- R133: consecutive failed checks
  supCnt : Nat := 0                   -- R133: sample periods modulo 16
  arb : List (Nat × Nat) := []        -- R126: the largest arbitration delays of the last 1,024 samples with their samples
  arbCnt : Nat := 0
  vout : W16 := 0                     -- R134
  deriving DecidableEq, Repr

/-- The background correction of one VSC or ISC (R136, R137) and the start of its conversions (R142). Offset and gain trims are
in 1/256 LSB of a result, skew trims in 50 fs. -/
structure ConvState where
  converged : Bool := false
  noTrim : Bool := true               -- CAL_STAT[2]
  trimAt : Nat := 0                   -- last trim update
  offset : Vector Int 4 := Vector.replicate 4 0 -- R136: by slice
  gain : Vector Int 4 := Vector.replicate 4 0
  skew : Vector Int 4 := Vector.replicate 4 0   -- R136: of a VSC, ±20 ps
  startAt : Option Nat := none        -- R142: the last start of an ISC conversion
  deriving DecidableEq, Repr

/-- Engine and law part of a loop (06, 07). Accumulators are in units of 2^(e_s - 30) of their stage. -/
structure LoopEng where
  halved : Bool := false              -- R198
  xI : Int := 0                       -- R189: integrator, stage 1
  s1 : Int := 0                       -- R189: section states, stages 2 and 3
  s2 : Int := 0
  s3 : Int := 0
  s4 : Int := 0
  accL : Int := 0                     -- R189: Layer accumulator, stage 3
  accD : Int := 0                     -- R189: damping accumulator, stage 3
  accC : Int := 0                     -- R189: current-command accumulator, stage 3: i_cmd of the last completed step
  exps : W16 := 0                     -- R187: the EXPS by which the accumulators are scaled
  ceilFlag : Bool := false            -- R206
  floorFlag : Bool := false
  sampled : Bool := false             -- R176: a boundary has begun an acquisition that has not ended
  sampleAt : Nat := 0                 -- R176: the boundary of the present sample
  held : Bool := false                -- R196: the last sample was held
  stepOpen : Option Bool := none      -- R194: a step not yet judged; false once it has caused a hold
  vref : W16 := 0                     -- R280: VREF_NOW at the present boundary
  veff : W16 := 0                     -- R208: v_eff of the last boundary that loaded the reference DAC
  prevVref : W16 := 0                 -- R211: VREF_NOW of the last completed step
  prevAt : Option Nat := none         -- R211: its boundary; none before the first step after OFF
  d : Int := 0                        -- R208: the droop of the next boundary's word, 100 µV
  iLL : Int := 0                      -- R208: the last estimate, 25 mA
  kvin : Nat := 8192                  -- R210, 1/8192
  kvinSet : Bool := false             -- R210: a usable result since the loop left OFF
  vinLast : Option W16 := none        -- R235: the latest usable VIN since the loop left OFF
  preload : Option Int := none        -- R219: i_cmd of the kennel law, 25 mA
  icmd : W16 := 0                     -- R214
  satAcc : Nat := 0                   -- R215: the accumulator, eighths of 1/256 ns
  satRaised : Bool := false           -- R216
  wErr : W16 := 0                     -- R192: words 4 and 10 to 14 of the last completed step
  wRaw : W16 := 0
  wCmd : W16 := 0
  wLayer : W16 := 0
  wDamp : W16 := 0
  wExps : W16 := 0
  wSat : Bool := false                -- R192 word 15 [2]
  shiftSat : Bool := false            -- R187: a saturation of the EXPS shift, for the next step's flag
  wSkip : Bool := false               -- R192 word 15 [3]
  steps : Nat := 0                    -- R192 word 2
  holdRun : Nat := 0                  -- R197
  cleanRun : Nat := 0                 -- R197
  sinceHold : Nat := 16               -- R192 word 15 [4]: samples since the last hold, held at 16
  ovrCnt : Nat := 0                   -- OVR_CNT[11:0]
  ovrRaised : Bool := false           -- OVR_CNT[13]
  satCnt : Nat := 0                   -- ENG_CNT[7:0]
  skipCnt : Nat := 0                  -- ENG_CNT[15:8]
  restore : Bool := false             -- R201: return requested
  rung3 : Bool := false               -- R198: halve at the next boundary on the doubled period
  expLast : List (Nat × Nat) := []    -- R188: 16 × stage + (exponent + 8), and the last completed sample that needed it
  expCnt : Nat := 0                   -- R188: completed samples
  deriving DecidableEq, Repr

/-- Work of one step on a lane's array (R178, R179). -/
structure LaneJob where
  n : Fin 16
  readyAt : Nat := 0                  -- end of the intake
  out : Nat := 0                      -- output-part cycles left
  state : Nat := 0                    -- compensator and damping cycles left
  layer : Nat := 0                    -- Layer-update cycles left
  acqEnd : Nat := 0                   -- R179: order of ready output parts
  nextAcq : Nat := 0                  -- R179: order of ready state parts
  deriving DecidableEq, Repr

/-- One lane's array (R178, R179). -/
structure Lane where
  jobs : List LaneJob := []
  at_ : Nat := 0                      -- the work is accounted for up to this time
  deriving DecidableEq, Repr

/-- Modulation, shedding and estimator part of a loop (08, 09). -/
structure LoopMod where
  sw : List (Fin 64) := []            -- R229, R230: switching phases in force, ascending
  rot : Nat := 0                      -- R237: rotation pointer
  fc : Nat := 0                       -- R231: nominal carrier frequency in use, kHz
  fcNext : Option Nat := none         -- R231: decided change
  carAt : Nat := 0                    -- R228: start of the carrier cycle whose reference instant comes next, carrier units
  refDue : Nat := 0                   -- R228: next reference instant, carrier units
  refAt : Nat := 0                    -- R228: last reference instant, carrier units
  de : Bool := false                  -- R241: the choice of the last peak-DAC update
  nt : Nat := 0                       -- R258: target phase count
  ntAt : Nat := 0                     -- R261: last change of N_t
  dwellFrom : Option Nat := none      -- R261
  shedWait : Bool := false            -- R273: a shed decided in a blank waits for the blank's end
  shed : List (Fin 64) := []          -- phases shed by count
  tugCnt : Nat := 0                   -- R256
  tugFence : Nat := 0
  tugAt : Option Nat := none          -- R256: last logged TUG event
  beyond : List Bool := [false, false, false, false]  -- R256: unclamped target beyond NMIN, NMAX, f_lo, f_hi
  sumP : Frac := ⟨0, 1⟩                -- R264: sum of max(p, 0) over the steps since the last alignment instant, A
  cntP : Nat := 0
  vexSeen : Bool := false             -- R264
  iout : W16 := 0                     -- R267
  estStale : Bool := false            -- R269
  turnAt : Nat := 0                   -- R270: last Whisk turn, or entry to REGULATE
  blank : Option (Fin 64) := none     -- R271: phase chosen or blanked
  blankOn : Bool := false             -- R271: the blank has started
  blankLeft : Nat := 0                -- R271: carrier periods left
  blankEnd : Bool := false            -- R273: the blank ends early at the next reference instant
  swap : Option (Fin 64 × Fin 64) := none  -- R272: phase leaving, phase entering
  deriving DecidableEq, Repr

/-- Loop states (R276). -/
inductive LoopSt where
  | off | delayOn | rampUp | regulate | transition | rampDown | delayOff | hiccupWait | latched | crowbar
  deriving DecidableEq, Repr

/-- What sent a loop into RAMP_DOWN (R286, R290, R292, R370). -/
inductive DownBy where
  | enable | heel | loss | held
  deriving DecidableEq, Repr

/-- Set-point part of a loop (10). -/
structure LoopSp where
  st : LoopSt := .off                 -- R276
  since : Nat := 0                    -- entry time of the state
  offPending : Option Nat := none     -- R286: start of the turn-off delay
  noSink : Bool := false              -- R284
  heelWait : Bool := false            -- R276
  heelLost : Bool := false
  released : Bool := false
  spLost : Bool := false              -- R281
  spLostAt : Nat := 0                 -- R281: when the pulse source was lost
  enPin : Bool := true                -- R275: the enable input is at its active level
  enPend : List (Bool × Nat) := []    -- R275: changed levels with the times of the changes, oldest first
  down : DownBy := .enable            -- why the loop is in RAMP_DOWN
  ref : Frac := ⟨0, 1⟩                 -- R280, R289: the exact reference at the last boundary, 100 µV
  refAt : Nat := 0                    -- R289: that boundary
  from_ : W16 := 0                    -- s or r0 of the ramp or move in progress
  to_ : W16 := 0                      -- g0 or g
  startAt : Nat := 0                  -- start of the ramp or move
  slew : Nat := 0                     -- R285, R312: slew of the move in progress
  dur : Nat := 0                      -- R282, R286: T_rise or T_fall as captured
  wait : Nat := 0                     -- R278, R286, R287: the delay in progress as captured
  spVal : Option W16 := none          -- R281: target in use of a SETPT source
  vpb : List W16 := []                -- R283: full-range results of DELAY_ON, newest first
  posRun : Nat := 0                   -- R284: consecutive steps with e ≥ 0
  cFrom : Option (Nat × W16) := none  -- R289: since when c has stayed within 2 LSB of a value
  holding : Bool := false             -- R292: LOSS HOLD or OWN until tracking resumes
  deriving DecidableEq, Repr

/-- Layer lock states (R331). -/
inductive LyrSt where
  | idle | seek | locked
  deriving DecidableEq, Repr

/-- Layer part of a loop (12). -/
structure LoopLyr where
  st : LyrSt := .idle                 -- R331
  n : Nat := 0                        -- R327: position at the last boundary
  zeroNext : Bool := false            -- R329: the next boundary takes n = 0
  tag : Nat := 0                      -- R334: period tag
  lastN : Option Nat := none          -- R195: position of the last record written
  per : Nat := 256                    -- R327: the period found under R332, while LOCKED with AUTO
  marks : List Nat := []              -- R328: strobe edges not yet taken, their pulses possibly too short, oldest first
  seekMark : Bool := false            -- R331: a mark has set n = 0 in SEEK
  missRun : Nat := 0                  -- R330
  table : List (Nat × W16) := []      -- T, sparse over 0
  valid : BitVec 128 := 0             -- R333: chunk valid bits
  ckpt : List (Nat × W16) := []       -- S
  ckptValid : BitVec 128 := 0
  ckptSet : Bool := false             -- R337: a checkpoint exists
  built : W16 × W16 := (0, 0)         -- R340: LYR_CTL and LYR_PERIOD the table was built under
  recs : List (Nat × Option (Int × Nat)) := []  -- R334: records with their tags, sparse
  sumSq : Nat := 0                    -- R337: squares and number of this period's records
  cnt : Nat := 0
  prevSq : Nat := 0                   -- those of the period before
  prevCnt : Nat := 0
  updTag : Nat := 0                   -- R336: period and chunk to be updated next
  updChunk : Nat := 0
  divflag : Bool := false             -- R338
  divRun : Nat := 0
  eref : Nat := 0xFFFF                -- R337
  erms : Nat := 0
  upd : Nat := 0
  tsat : Nat := 0
  measP : Nat := 0
  accepted : Nat := 0                 -- MARKS
  rejected : Nat := 0
  misses : Nat := 0                   -- MISSES
  diverged : Nat := 0
  window : List Int := []             -- R332: errors of the AUTO window, newest first
  restoreTo : Nat := 0                -- R338: i_layer is 0 until this time
  clr : Bool := false                 -- R340: CLR waits for the loop's boundary
  deriving DecidableEq, Repr

/-- ACP part of a loop (11). -/
structure LoopAcp where
  target : W16 := 0                   -- R311: the accepted target, VBOOT before the first
  tgtPend : Option (W16 × Nat) := none -- R311: an accepted target and its edge 32
  slew : Option W16 := none           -- R312
  slewOwn : Bool := false             -- R322: the move uses SLEW_UP or SLEW_DN
  ll : Option W16 := none             -- R313: R_LL by SETLL; none: LPn.LL_RES governs
  llPend : Option (W16 × Nat) := none
  hint : Nat := 0                     -- R315: E in force, 25 mA
  hintPend : Option Nat := none       -- R315: a hint that acts at the next reference instant
  moving : Bool := false              -- R317
  arrived : Bool := false             -- R318
  faulted : Bool := false
  holdFrom : Option Nat := none       -- R317: since when the output has held
  lossPend : Bool := false            -- R321: the LINKLOSS action waits for the target
  lossOff : Bool := false             -- R322: held OFF
  frameAt : Option Int := none        -- R316: the last FRAME mark, device time
  deriving DecidableEq, Repr

/-- A fault raised and not yet acted on (R345, R346). -/
structure Raised where
  code : Byte
  value : W16 := 0
  ph : List (Fin 64) := []            -- the offending phases of SHED
  ot : Option (Fin 6) := none         -- the OT entry
  at_ : Nat := 0                      -- R481: device time at the raise
  deriving DecidableEq, Repr

/-- Protection part of a loop (13). -/
structure LoopPrt where
  fltFirst : W16 := 0                 -- R348
  retries : Nat := 0                  -- R363
  raised : List Raised := []          -- R345
  ov : Bool := false                  -- R350: the comparator is tripped
  latch : Bool := false               -- R351: the crowbar latch
  uvRun : Nat := 0                    -- R353: consecutive samples below UV_LEVEL
  uvFrom : Option Nat := none         -- R353: start of the condition
  uvRaised : Bool := false
  octFrom : Option Nat := none        -- R356: start of IOUT at or above L
  octRaised : Bool := false
  vinUv : Bool := true                -- R361: until VIN is first present the condition is present
  vinOv : Bool := false
  vinUvFrom : Option Nat := none      -- R361: start of the stay below or above the limit
  vinOvFrom : Option Nat := none
  vin : Option W16 := none            -- R361: last present VIN since BOOT
  finHold : Bool := false             -- R370
  gaspHold : Bool := false            -- R451
  deriving DecidableEq, Repr

/-- Levels of a PWM pin (R240). -/
inductive Pwm where
  | highZ | low | mid | high
  deriving DecidableEq, Repr

/-- Why protection removed a phase (R357). -/
inductive Removal where
  | ot (k : Fin 6)                    -- the OT entry
  | oc                                -- OC_PEAK or NEG_OC
  deriving DecidableEq, Repr

/-- One phase PHm (08, 09, 13). Sense voltages are in units of 100 µV / 4096. -/
structure PhaseState where
  pwm : Pwm := .highZ                 -- what the modulator drives
  peak : Nat := 0                     -- R237: peak word in use
  ramp : Nat := 0                     -- R238: S_e acting, ramp LSB
  rampNext : Nat := 0                 -- R238: S_e from the next turn-on
  onAt : Option Nat := none           -- R232: turn-on of the pulse in progress
  endAt : Option Nat := none          -- R232: the comparator has tripped within blanking, which ends at this time
  lastOn : Nat := 0                   -- R232: last turn-on
  lastOff : Nat := 0                  -- R230: last turn-off
  prevOn : Option Nat := none         -- R142: on-time of the previous cycle
  de : Bool := false                  -- R241: DE from the last turn-on
  maxOn : Bool := false               -- R233
  minOn : Bool := false               -- R232
  skip : Bool := false                -- R242
  skipCyc : Nat := 0                  -- R242: cycles since the last skip
  fired : Bool := false               -- the turn-on of the present carrier cycle has taken place or been skipped
  newRank : Bool := false             -- R230: the first turn-on of a new ranking is still to come
  midSkips : Nat := 0                 -- R266: consecutive turn-ons skipped in DE from mid-level
  zeroAt : Option Nat := none         -- R266: the last zero reference taken as a shed phase since it was shed
  decCnt : Nat := 0                   -- R142: switching cycles modulo D
  dueAt : Option Nat := none          -- R142: the sampling instant of the sample that is due
  dueValley : Bool := false           -- R142: that sample is a VALLEY sample
  ofs : Int := 0                      -- R266: O_k, 1/8192 µV
  refAt : Nat := 0                    -- R266: reference time
  shedAt : Nat := 0                   -- R266: when the phase was shed
  phI : W16 := 0                      -- R265
  iAmp : Int := 0                     -- R265: the same estimate, 2 mA
  removed : List Removal := []        -- R357: what keeps protection's removal
  back : Bool := false                -- R357: returned, to be available from the next reference instant
  ocpRun : Nat := 0                   -- R354: consecutive cycles with a trip
  ocpTrip : Bool := false             -- R354: a trip in the present cycle
  negRun : Nat := 0                   -- R355
  negTrip : Bool := false
  deriving DecidableEq, Repr

/-- One loop LPn. -/
structure LoopState where
  sense : LoopSense := {}
  eng : LoopEng := {}
  mod : LoopMod := {}
  sp : LoopSp := {}
  acp : LoopAcp := {}
  lyr : LoopLyr := {}
  prt : LoopPrt := {}
  deriving DecidableEq, Repr

/-- The stop reasons of a step. -/
inductive Fault where
  /-- Raised by `execVhvRiseOvlo` for a VHV level above the 100 V of R17 and R560, beyond which the
  specification guarantees no behaviour. Safe: the machine stops where the part may be damaged. -/
  | ratingsExceeded
  deriving DecidableEq, Repr

/-- What the model does not answer. -/
inductive Refusal where
  /-- A command whose meaning has not been written yet. Safe. -/
  | notModelled (mnemonic : String)
  deriving DecidableEq, Repr

/-- Sequence phases of the SVC (R151 to R153). -/
inductive SvcPhase where
  | stopped | visit | delay
  deriving DecidableEq, Repr

/-- Result marks (R148). -/
inductive Mark where
  | good | refCold | clip | none
  deriving DecidableEq, Repr

/-- One result slot (R149). -/
structure SvcSlot where
  value : W16 := 0
  mark : Mark := .none
  at_ : Nat := 0
  good : Option W16 := Option.none    -- R141: the latest result marked GOOD since BOOT
  deriving DecidableEq, Repr

/-- A visit (R151, R154): the entry, profile and notch words and the slot it is made under, the start of its conversions,
whether they are low-power ones, and whether the first is REF_COLD. -/
structure SvcTail where
  entry : W16
  prof : W16
  notch : W16
  slot : Nat
  from_ : Nat
  lp : Bool
  cold : Bool
  deriving DecidableEq, Repr

/-- Sources of urgent requests (R159), in the order of R161. -/
inductive UrgSrc where
  | protection | sweep | host
  deriving DecidableEq, Repr

/-- An urgent request (R159). -/
structure UrgReq where
  src : UrgSrc
  ch : Nat
  at_ : Nat
  fast : Nat := 0                     -- R362: which fast channel
  cal : Bool := false                 -- R170: a conversion of a calibration measurement
  drop : Bool := false                -- R169: its measurement has ended before it
  took : Nat := 0                     -- R152: the duration of its conversion, once granted
  cold : Bool := false                -- R165: its conversion started REF_COLD
  deriving DecidableEq, Repr

/-- Calibration states (R169). -/
inductive CalSt where
  | idle | measuring | zeroHeld | done | failSpan | failRange | refused | aborted
  deriving DecidableEq, Repr

/-- System calibration (R169 to R172). -/
structure Cal where
  st : CalSt := .idle
  ch : Nat := 0
  full : Bool := false                -- the measurement in progress is that of FULL
  y1 : W16 := 0
  zero : Option (Nat × Int) := none   -- channel and 256 r1
  y2 : W16 := 0
  sum : Nat := 0                      -- R170: sum and number of the conversions of the measurement
  cnt : Nat := 0
  g : Int := 0
  b : Int := 0
  deriving DecidableEq, Repr

/-- The survey converter (05). -/
structure Svc where
  phase : SvcPhase := .stopped
  entry : Nat := 0
  from_ : Nat := 0                    -- start of the visit, moved by what R160 restarts, or of the delay
  firstAt : Nat := 0                  -- R165: start of the visit's first conversion
  later : Option (Nat × Nat) := none  -- R160: start and end of an urgent conversion that met a later visit's conversion
  urgEnd : Nat := 0                   -- R160: end of the last urgent conversion
  vhv : W16 := 0                      -- DEV.VHV: the last result of channel 32
  vaux : W16 := 0                     -- DEV.VAUX: the last result of channel 33
  tail : Option SvcTail := none       -- R154: a finished visit whose result is still to be written
  slots : Vector SvcSlot 32 := Vector.replicate 32 {}
  urgCh : Nat := 0                    -- W_URGENT
  urgRaw : Bool := false
  urgMark : Mark := .good
  urgBusy : Bool := false
  urgData : W16 := 0
  reqs : List UrgReq := []            -- R161: pending, oldest first
  run : Option (UrgReq × Nat) := none -- R160: the urgent conversion granted, with its start
  lastUrg : Option Nat := none        -- R161
  bufFrom : Option Nat := none        -- R165: start of the 400 µs count while the buffer is on
  warm : Bool := false                -- R165: REF_WARM
  coldLogged : Bool := true           -- R167: this cold period has been logged, or gives no event
  cal : Cal := {}
  deriving DecidableEq, Repr

/-- W_SNAP and its frame (R190 to R193). -/
structure Snap where
  loop : Fin 16 := 0
  index : Nat := 0
  busy : Bool := false
  reqAt : Nat := 0
  frame : List W16 := List.replicate 16 0
  captures : Nat := 0
  deriving DecidableEq, Repr

/-- Switching reference sources (R244). -/
inductive SyncSrc where
  | osc | leash | syncIn
  deriving DecidableEq, Repr

/-- The switching timebase and SYNC_IN (08 R227, R244 to R249). Frequencies in ppm against 100 kHz. -/
structure Stb where
  count : Nat := 0                    -- R227: epochs modulo 65,536
  src : SyncSrc := .osc               -- R244
  gliding : Bool := false             -- R247
  dev : Int := 0                      -- R247: frequency deviation, ppm
  pull : Int := 0                     -- R247: pull offset, ppm
  due : Nat := 0                      -- R227: next epoch
  at_ : Nat := 0                      -- last epoch
  err : Option Int := none            -- R247: epoch error against the source, 1/256 ns
  errRun : Nat := 0                   -- R247: epochs within ±10 ns
  changes : Nat := 0                  -- CLK.SRC[15:8]
  alignAt : Nat := 0                  -- R227: last alignment instant
  align : Bool := false               -- R231: an alignment instant has come with the last epoch and not been taken
  srcEpoch : Option Nat := none       -- R246: the source's last epoch
  siEdge : Option Nat := none         -- R245: last SYNC_IN edge
  siFrom : Option Nat := none         -- R245: first edge of the run of qualified edges
  siBad : Nat := 0                    -- R245: consecutive periods outside ±4 %
  siCnt : Nat := 0                    -- R246: edges since the first of the qualification
  siValid : Bool := false
  siMeas : Nat := 0                   -- SYNC_MEAS, kHz
  siPpm : Int := 0                    -- R248
  lshFrom : Option Nat := none        -- R245: start of continuous Leash synchronisation
  lshValid : Bool := false
  lshPpm : Int := 0                   -- R248: the timekeeper's frame rate
  outUntil : Option Nat := none       -- R249: SYNC_OUT high until this time
  deriving DecidableEq, Repr

/-- One OT entry (R358, R359). -/
structure OtEntry where
  cond : Bool := false
  last : Option W16 := none           -- R359: the last value that was present, and the time it was noted
  lastAt : Nat := 0
  deriving DecidableEq, Repr

/-- Device-wide protection (R358 to R371). -/
structure Prot where
  ot : Vector OtEntry 6 := Vector.replicate 6 {}
  fastShow : Vector W16 2 := Vector.replicate 2 0    -- R362: PRT.FASTF
  fastVal : Vector W16 2 := Vector.replicate 2 0     -- R166: the last result without REF_COLD
  fastMark : Vector Mark 2 := Vector.replicate 2 .none
  fastNext : Nat := 0                 -- R362: the channel of the next request
  fastAt : Nat := 0                   -- R362: last request
  fltDrive : Option Nat := none       -- R368: since when the device drives FAULT_N
  fltLow : Bool := false              -- R369: the line is low and others drive it
  finOnset : Bool := false            -- R369: an onset is in progress
  finHold : Bool := false             -- R370: the hold is active
  finCount : Nat := 0                 -- FIN_STAT[15:8]
  deriving DecidableEq, Repr

/-- Link states of an ACP port (R320). -/
inductive AcpLink where
  | down | up | lost
  deriving DecidableEq, Repr

/-- One ACP port (11). -/
structure AcpPort where
  last : Option (Nat × W32) := none   -- R306: bits [31:8] of the last valid request, and its response
  link : AcpLink := .down             -- R320
  linkAt : Nat := 0
  dioLow : Bool := false              -- R305
  lowRun : Nat := 0
  clkAt : Option Nat := none          -- STAT[3]
  status : Nat := 0                   -- STAT[7:4]
  losses : Nat := 0
  evt : Nat := 0                      -- R325
  crcCnt : Nat := 0
  reqCnt : Nat := 0
  dio : Option W32 := none            -- R298: the response being sent
  report : Option (Fin 16 × Bool × Bool) := none  -- R319: loop and latches of a GETSTAT response being sent
  reqAt : Nat := 0                    -- R298: edge 32 of the last transaction
  doneAt : Nat := 0                   -- R298: its edge 66
  deriving DecidableEq, Repr

/-- Leash link states (R384). -/
inductive LshLink where
  | off | listen | follow | lead
  deriving DecidableEq, Repr

/-- Leash error states (R400). -/
inductive LshErr where
  | active | wary | muted | isolated
  deriving DecidableEq, Repr

/-- One Leash message (R381): class, type and data. -/
structure LshMsg where
  cls : Nat := 0                      -- 3 HOWL, 2 CMD, 1 DATA, 0 MGMT
  typ : Nat := 0
  data : W32 := 0
  at_ : Nat := 0                      -- R403: frames ended when it was queued
  deriving DecidableEq, Repr

/-- The Leash bus (14). -/
structure Lsh where
  link : LshLink := .off              -- R384
  err : LshErr := .active             -- R400
  tx : Nat := 0                       -- TXERR
  rx : Nat := 0                       -- RXERR
  tk : Nat := 0                       -- R385: timekeeper position
  tkKnown : Bool := false
  tkChanges : Nat := 0
  fcount : Nat := 0                   -- FCOUNT
  syncAt : Option Nat := none         -- R385: frame start of the last good sync field
  frameAt : Nat := 0                  -- frame start of the present frame
  frames : Nat := 0                   -- frames ended since BOOT
  periods : List Nat := []            -- R385: up to eight measured periods, newest first
  missed : Nat := 0                   -- R385
  syncNow : Bool := false             -- a good sync field was heard or echoed in the present frame
  syncLoss : Nat := 0
  edgeCnt : Nat := 0
  crcCnt : Nat := 0
  dropCnt : Nat := 0
  jabCnt : Nat := 0
  heldAt : Option Nat := none         -- R387: the last time of synchronisation
  holdFrom : Nat := 0                 -- R387: start of the holdoff
  orphan : Bool := false              -- R397
  claim : Option Nat := none          -- R388: the own claim's H
  claimLow : Option Nat := none       -- R388: frames ended when a CLAIM from a lower position was heard
  handTo : Option (Nat × Nat) := none -- R389: position and H of the honoured CLAIM
  edgeMute : Bool := false            -- R393
  edgeRun : Nat := 0                  -- R393: consecutive EDGE frames
  echoEdge : Bool := false            -- R393: the own echo of the frame before was marked EDGE
  wasSent : Bool := false             -- R393, R399: the own slot was sent in the frame before
  wasClean : Bool := false            -- R399: that frame was clean but for the EDGE decision on the own slot
  quiet : Nat := 0                    -- R396: sync fields still to hear after Nap before anything is sent
  edgeLog : Option Nat := none        -- R406
  edgeNow : Byte := 0                 -- R391: positions marked EDGE in the frame before
  erepLast : Nat := 7                 -- R392
  heard : List Byte := []             -- HEARD[7:0]: accepted masks of the last 16 frames, newest first
  edges : List Byte := []             -- HEARD[15:8]
  own : List Bool := []               -- R407: own echo accepted, last 16 frames
  cleanRun : Nat := 0                 -- R401
  jabCut : Bool := false              -- R402
  isoHowl : Nat := 0                  -- R400: HOWL messages left in ISOLATED
  leadBad : Nat := 0                  -- R390: consecutive bad sync echoes
  howl : List LshMsg := []            -- R403: the queues, oldest first
  cmd : List LshMsg := []
  data : List LshMsg := []
  mgmt : List LshMsg := []
  sent : Option (LshMsg × Nat) := none -- the own slot of the present frame: message and EREP
  napOk : List (Option Nat) := List.replicate 8 none -- R394: frames ended at the last IDLE with NAP_OK = 1
  traffic : Nat := 0                  -- R394: frames ended at the last HOWL, CMD or DATA sent or accepted
  nap : Bool := false                 -- W_LEASH_STAT[7]
  napAt : Option Nat := none          -- R394: F of an announced Nap, or of the next burst
  napInt : Nat := 3                   -- INT in use in Nap
  napFrame : Nat := 0                 -- R395: 0 silent, 1 first frame of the burst, 2 second, 3 the frame after
  napHeard : List Byte := []          -- R407: accepted masks of the last bursts
  napMiss : Option Nat := none        -- R397: a window closed without a sync field at this time
  napEnd : Bool := false              -- R396: the burst's traffic ends Nap
  deriving DecidableEq, Repr

/-- A value of a peer's loop (15 R420). -/
structure PeerVal where
  vref : W16 := 0
  st : Nat := 0                       -- state code of R276
  pg : Bool := false
  at_ : Option Nat := none
  deriving DecidableEq, Repr

/-- A challenge that this device has opened to a position (R412 to R414). -/
structure Chal where
  nonce : List Byte := []
  cert : Bool := false                -- WANT_CERT
  sentAt : Option Nat := none         -- the index-7 message has been sent
  certIn : List Byte := []            -- CERT bytes received
  respIn : List Byte := []            -- RESP bytes received
  verify : Option Nat := none         -- RESP index 31 has arrived
  deriving DecidableEq, Repr

/-- What this device knows of a position (15). -/
structure Peer where
  heardBy : Byte := 0                 -- R408
  present : Bool := false             -- R407
  verified : Bool := false            -- R414
  left : Option Nat := none           -- R416: absent since
  cert : List Byte := []              -- R412: certificate received since the position entered the roster
  chal : Option Chal := none
  chalAt : Option Nat := none         -- R412: the last challenge started
  fails : Nat := 0                    -- R416: consecutive failures for a reason other than FPRINT
  fprintBad : Bool := false           -- R416 cause 3
  planBad : Bool := false             -- R416 cause 7
  wiring : Nat := 0                   -- the cause that has been logged, 0 none
  nonceIn : List Byte := []           -- R413: nonce of a challenge from this position being received
  deriving DecidableEq, Repr

/-- A challenge to be answered, or a stream in progress (R413). -/
structure Answer where
  to_ : Nat := 0
  nonce : List Byte := []
  cert : Bool := false
  at_ : Nat := 0
  certNext : Nat := 0                 -- next CERT index
  signed : Bool := false
  resp : List Byte := []
  respNext : Nat := 0
  deriving DecidableEq, Repr

/-- The handler lease and its commands (R423 to R428). -/
structure Token where
  hostId : Nat := 0
  pend : Bool := false
  pendGen : Nat := 0
  pendFrom : Option Nat := none       -- frames ended when TOKEN_ACQ was sent
  pendAt : Nat := 0                   -- R425: time of the ACQUIRE
  pendSent : Bool := false            -- R425: TOKEN_ACQ was queued
  lost : Bool := false                -- R425: the acquisition has been defeated
  refused : Bool := false
  holder : Nat := 0
  gen : Nat := 0
  expiry : Nat := 0
  source : Nat := 0
  live : Bool := false
  holdAt : Nat := 0                   -- frames ended when the source last queued TOKEN_HOLD
  deriving DecidableEq, Repr

/-- Services over the Leash (15). -/
structure Peers where
  pos : Vector Peer 8 := Vector.replicate 8 {}
  vals : Vector PeerVal 128 := Vector.replicate 128 {}  -- R420: position × 16 + loop
  roster : Nat := 0                   -- the last W_ROSTER, for W_IRQ.LEASH
  pubAt : List (Option Nat) := List.replicate 16 none -- R411: frames ended when each loop was last published
  answers : List Answer := []         -- R413, oldest first
  digestAt : Nat := 0                 -- R416
  digestDue : Bool := false           -- R416: a position has entered the roster
  dupRun : Nat := 0                   -- R417
  dupClean : Nat := 0                 -- R417: consecutive clean frames
  dup : Bool := false
  unk : Nat := 0
  passes : Nat := 0
  failures : Nat := 0
  plan : Option (List W16) := none    -- R415, R418: the plan in MTP
  planBusy : Option Nat := none       -- R418: start of a save
  planNew : List W16 := []            -- R418: the words being saved
  planRes : Nat := 0
  tok : Token := {}
  readyAt : Option Nat := none        -- R416: the first entry to READY since BOOT
  deriving DecidableEq, Repr

/-- Sweep status (SWP.STAT[2:0]). -/
inductive SwpSt where
  | idle | armed | running | done | aborted | lost | refused | gasp
  deriving DecidableEq, Repr

/-- A step whose window has ended and whose entry is not yet written (R436). -/
structure SwpWait where
  k : Nat := 0
  f : Nat := 0
  inj : Nat := 0                      -- injector position
  vre : Int := 0                      -- 10 µV
  vim : Int := 0
  ire : Option Int := none            -- 100 µA
  iim : Option Int := none
  ok : Bool := true
  clip : Bool := false
  seg : Bool := false
  at_ : Nat := 0                      -- frames ended at the end of the window
  deriving DecidableEq, Repr

/-- One VALID entry's figures, kept for R439. -/
structure SwpFig where
  inj : Nat
  f : Nat
  z : Nat                             -- mΩ
  arg : Int                           -- 0.01°
  deriving DecidableEq, Repr

/-- The input bus sweep (16 R431 to R441). -/
structure Swp where
  st : SwpSt := .idle
  leader : Bool := false
  leadPos : Nat := 0
  sid : Nat := 0                      -- ID of the present or last sweep
  lastSid : Nat := 0                  -- R431: last ID sent or heard
  started : Bool := false             -- SWP_START accepted, SWP_CHECK awaited
  frameS : Nat := 0                   -- S
  sFixed : Bool := false              -- the leader's SWP_START has been sent, so S is known
  joins : Byte := 0
  mask : Byte := 0
  maskSet : Bool := false
  dampOff : Bool := false             -- R435: DAMP_OFF at START
  dampHold : Bool := false            -- R435
  recNo : Nat := 0                    -- record in use
  recUsed : Bool := false             -- a record has been begun since BOOT
  leading : Bool := false             -- R432: the leader still owes SWP_SET
  setAt : Option Nat := none          -- the frame in which SWP_SET was last queued
  frame : Nat := 0                    -- R434: frames since S of the last good sync field, and its count
  frameCnt : Nat := 0
  step : Option Nat := none
  stepFrame : Nat := 0                -- frames from S to the step's start
  nextFrame : Nat := 0                -- frames from S to the next step's start
  f : Nat := 0
  inj : Nat := 0                      -- position of the step's injector
  injOn : Bool := false               -- R435: this device injects now
  injOk : Bool := false               -- it has injected for the whole step so far
  clip : Bool := false
  syncOk : Bool := true
  seg : Bool := false
  windowDone : Bool := true
  reqs : Nat := 0                     -- R436: requests placed in this step
  ys : List (Nat × Int) := []         -- conversions of the window: time and value, 2^-48 V
  ps : List (Nat × Int) := []         -- loop samples of the window: time and power, 2^-48 W
  waits : List SwpWait := []
  written : Nat := 0
  figs : List SwpFig := []
  segLost : Option Nat := none
  lastAt : Nat := 0                   -- R439: the last entry
  resF : W16 := 0
  resZ : W16 := 0
  cSweep : W16 := 0
  deriving DecidableEq, Repr

/-- The damping of a bus resonance (16 R442 to R445). Values in 2^-48 V and 2^-48 A. -/
structure Damp where
  y1 : Int := 0                       -- band-pass inputs and outputs of the last two results
  y2 : Int := 0
  x1 : Int := 0
  x2 : Int := 0
  dio : Int := 0                      -- Δi_o
  vd : Int := 0
  clipped : Bool := false             -- R444: the last step clipped
  deriving DecidableEq, Repr

/-- One MTP gasp-summary slot (R523). -/
structure SumSlot where
  bytes : List Byte := []
  valid : Bool := false
  seq : Nat := 0
  deriving DecidableEq, Repr

/-- Last gasp (16 R446 to R455, 19 R523). Energies are in units of 2^-48 J, powers of 2^-48 W. -/
structure Gsp where
  lossFrom : Option Nat := none       -- R447: since when the fast result has stayed below V_LOSS
  retFrom : Option Nat := none        -- R453
  entryTime : Nat := 0                -- device time at entry
  vEntry : W16 := 0
  cause : Nat := 0
  evalAt : Nat := 0                   -- last evaluation
  first : Option (W16 × W16 × W16) := none -- C, P_tot and E_rem of the first evaluation
  eRem : Int := 0
  pTot : Int := 0
  tLeft : Option Nat := some 0        -- 1/256 ns; none while P_tot is 0
  peerP : List Nat := List.replicate 8 0 -- R449: 0.1 W
  peerRank : List (Option Nat) := List.replicate 8 none
  heard : Byte := 0                   -- peers heard in GASP
  lastHowl : Option Nat := none       -- R453: last HOWL GASP of a phase other than 3
  sheds : List (Nat × Nat × W16) := [] -- rank, device time, V_b
  floorShed : Bool := false           -- R450: E_rem has reached 0
  lowV : W16 := 0xFFFF
  howlFrame : Nat := 0                -- frames ended at the last HOWL GASP
  v1 : Option W16 := none             -- R446: the open window
  energy : Int := 0
  cHold : W16 := 0
  started : Bool := false             -- R452: the summary of this GASP has been started
  pend : Option (List Byte × Nat) := none -- a summary being written, with its slot
  pendAt : Nat := 0                   -- R452: its start
  pendSigned : Bool := false          -- R503: its signature has been made
  startWait : Option (Nat × Nat) := none -- R452: trigger and outcome of a start that waits for the write
  rehearse : Option Nat := none       -- R454: start of a rehearsal
  simE : Int := 0                     -- R454: simulated energy above the floor
  simOff : Int := 0                   -- R454: power shed in simulation
  simGone : W16 := 0                  -- R454: loops shed in simulation
  simShed : List (Nat × Nat × W16) := []
  wrote : Bool := false               -- W_GASP[2]
  latest : Option Nat := none         -- slot of the latest summary
  count : Nat := 0                    -- summaries since BOOT
  slots : Vector SumSlot 4 := Vector.replicate 4 {}
  actEntry : W16 := 0                 -- W_LOOP_ACT, W_FLT_CODE and W_FLT_LOOP at entry
  fcEntry : W16 := 0
  flEntry : W16 := 0
  deriving DecidableEq, Repr

/-- Fetch entry states (R467). -/
inductive FchSt where
  | off | none | good | subst
  deriving DecidableEq, Repr

/-- One poll entry (17). -/
structure FchEntry where
  st : FchSt := .off
  last : Option W16 := Option.none    -- last good result since BOOT
  fails : Nat := 0
  alarm : Bool := false
  lastStart : Option Nat := Option.none -- start of its last poll
  deriving DecidableEq, Repr

/-- Port states (FCH.STAT[1:0]). -/
inductive FchPort where
  | off | up | recover | dead
  deriving DecidableEq, Repr

/-- The Fetch controller (17). -/
structure Fch where
  port : FchPort := .off
  upAt : Nat := 0                     -- R465
  entries : Vector FchEntry 32 := Vector.replicate 32 {}
  cur : Option (Fin 32) := none       -- entry in progress
  curAt : Nat := 0
  curCfg : W16 := 0                   -- R474: its configuration
  curCtl : W16 := 0
  curLim : W16 := 0
  curNack : Bool := false             -- R532: the address byte is read as NACK
  idleAt : Nat := 0                   -- end of the last transaction
  fails : Nat := 0                    -- R471: failed attempts in a row
  attemptAt : Option Nat := none      -- start of the last attempt
  attemptEnd : Nat := 0
  cause : Nat := 0                    -- last DEAD cause
  evt : BitVec 6 := 0
  polls : Nat := 0                    -- ERRCNT[7:0]
  deads : Nat := 0                    -- ERRCNT[15:8]
  sda : Bool := true                  -- levels of the pins
  scl : Bool := true
  simLine : Option (Bool × Nat) := none -- R532: simulated line (true SCL) and its start
  deriving DecidableEq, Repr

/-- Slot states (R493). -/
inductive SlotSt where
  | free | armed | post | seal | done | locked | aborted
  deriving DecidableEq, Repr

/-- What a sealed slot still needs for its record (R491 to R495). -/
structure CrbCap where
  tpl : Fin 4
  mode : Nat
  q : Nat
  lock : Bool                         -- TCTL.LOCK
  first : Nat                         -- the template's pool
  count : Nat
  preAct : Nat
  extra : List Nat
  samples : List (List (W16 × Bool))  -- oldest first; each channel's value and whether it is signed
  deriving DecidableEq, Repr

/-- One record slot (18). Its bytes lie in the Crumb SRAM. -/
structure CrbSlot where
  st : SlotSt := .free
  hdr : Bool := true                  -- the header bytes of its record are stated
  whole : Bool := true                -- the bytes after the header are stated
  doneSeq : Nat := 0                  -- order of completion
  body : Nat := 0
  comp : Bool := false                -- compressed, awaiting the signature
  compAt : Nat := 0                   -- R503: since when
  cap : Option CrbCap := none
  deriving DecidableEq, Repr

/-- One template (18). -/
structure CrbTpl where
  armed : Bool := false
  slot : Option (Fin 16) := none
  hist : List (List (W16 × Bool)) := [] -- samples, newest first: each channel's value and whether it is signed
  prev : List (W16 × Bool) := []      -- R489: the template's last sample
  post : Bool := false
  sampleAt : Option Nat := none       -- device time of the last sample
  trigPend : Option (Nat × Byte × Nat) := none -- R489: a trigger that awaits its sample: cause, code, loop byte
  preAct : Nat := 0
  trigTime : Nat := 0                 -- device time of the trigger sample
  cause : Nat := 0
  code : Byte := 0
  loopByte : Nat := 0
  extra : List Nat := []              -- R490: sample indices, oldest first
  extraPend : Nat := 0
  flags : Nat := 0
  recs : Nat := 0                     -- records since BOOT
  deriving DecidableEq, Repr

/-- The Crumb recorder (18). -/
structure Crb where
  sram : List Host.Cell := []         -- R476: 0x000000 to 0x1FFFFF
  gen : Nat := 0                      -- R51: 0 until VAUX is lost, then the mark of the undefined contents
  addr : Nat := 0                     -- R477
  hold : Bool := false
  slots : Vector CrbSlot 16 := Vector.replicate 16 {}
  tpls : Vector CrbTpl 4 := Vector.replicate 4 {}
  missed : Nat := 0
  seq : Nat := 0
  lastDone : Option (Fin 16) := none
  order : Nat := 0
  deriving DecidableEq, Repr

/-- Commands of W_TOKEN_CTL that set BUSY (R509). -/
inductive IdnCmd where
  | submit | attest | readCert | install | readOpk
  deriving DecidableEq, Repr

/-- An unlock (R515). -/
structure Unlock where
  ranges : List (Nat × Nat) := []
  uses : Nat := 0
  from_ : Nat := 0
  life : W16 := 0
  deriving DecidableEq, Repr

/-- Identity (19). -/
structure Idn where
  devKey : Bool := false              -- R506
  cert : Bool := false
  rng : Bool := false                 -- R524
  drbg : Nat := 0                     -- outputs drawn
  reqs : Nat := 0                     -- R524: requests since the last reseed
  opk : List (Nat × Nat) := []        -- R507: operator keys, OPK0 first
  tokCnt : Nat := 0                   -- R514
  inBuf : List Byte := []
  excess : Bool := false
  outBuf : List Byte := []
  outPtr : Nat := 0
  busy : Option IdnCmd := none
  lastCmd : Nat := 0
  result : Nat := 0
  unlock : Option Unlock := none
  unlockPend : Option Unlock := none  -- R516
  covered : List (Nat × Nat) := []    -- R516: the ranges the captured commit is judged against
  work : List Byte := []              -- R509: the input of the command in progress
  early : Nat := 0                    -- R511: its result 8 or 9, decided at the strobe
  busyAt : Nat := 0                   -- R503: its strobe
  served : Bool := false              -- R503: its verification has been made
  engAt : Nat := 0                    -- R503: the engine is free since
  deriving DecidableEq, Repr

/-- One target of Chew (R528). -/
structure ChwSel where
  count : Nat := 0                    -- eligible items since the restart
  lfsr : W16 := 0xACE1
  injected : Nat := 0                 -- since BOOT
  deriving DecidableEq, Repr

/-- Chew (20). -/
structure Chw where
  armed : Bool := false
  refused : Bool := false
  cause : Nat := 0
  arms : Nat := 0
  armAt : Nat := 0
  count : Nat := 0
  left : Nat := 0
  acp : ChwSel := {}
  lsh : ChwSel := {}
  fch : ChwSel := {}
  held : List (Nat × LshMsg × Nat) := []  -- R530: position, message, frames ended at its last slot
  dropped : Byte := 0                 -- slots of the present frame treated as absent
  corrupt : Byte := 0                 -- slots of the present frame treated as failed
  deriving DecidableEq, Repr

/-- GPIO pins, TAP (21, 22). -/
structure Pins where
  gpio : Vector Bool 24 := Vector.replicate 24 false -- levels at the pins
  pulseOn : Vector Bool 24 := Vector.replicate 24 false -- R547: in its active part
  pulseAt : Vector (Option Nat) 24 := Vector.replicate 24 none -- start of the pulse or of its gap
  pulsePend : Vector Bool 24 := Vector.replicate 24 false
  tapHold : Bool := false             -- R570: a boundary-scan instruction holds KILLED
  tapIr : BitVec 4 := 2               -- R569: the instruction in force; Test-Logic-Reset loads IDCODE
  cells : BitVec 357 := 0             -- R569: the boundary register, the cell nearest TDI in bit 0
  setEdge : Vector Nat 4 := Vector.replicate 4 0 -- R281: the edge that ended the last sixteen periods of a SETPT pin
  deriving DecidableEq, Repr

/-- The machine. -/
structure State where
  now : Nat := 0
  freeCount : Nat := 0
  pending : List Instr := []
  power : Power := {}
  win : Win := {}
  log : EvtLog := {}
  par : Params := {}
  nvm : Nvm := {}
  loops : Vector LoopState 16 := Vector.replicate 16 {}
  phases : Vector PhaseState 64 := Vector.replicate 64 {}
  vsc : Vector ConvState 4 := Vector.replicate 4 {}
  isc : Vector ConvState 4 := Vector.replicate 4 {}
  lanes : Vector Lane 4 := Vector.replicate 4 {}
  grid : Nat := 0
  svc : Svc := {}
  snap : Snap := {}
  stb : Stb := {}
  prot : Prot := {}
  acp : Vector AcpPort 8 := Vector.replicate 8 {}
  peers : Peers := {}
  lsh : Lsh := {}
  swp : Swp := {}
  damp : Damp := {}
  gsp : Gsp := {}
  fch : Fch := {}
  crb : Crb := {}
  idn : Idn := {}
  chw : Chw := {}
  pins : Pins := {}
  deriving DecidableEq, Repr

/-- The machine before any supply is applied. -/
def State.reset : State := {}

end Sys2Proof.Machine
end

