-- ==== Sys2Proof/Machine/Ops.lean ====
section
/-! DEFINITION. The named operations over the state that every family uses: time, free values, parameters
as a loop or unit sees them, loops and phases, the phase map, interrupt flags, the event queue and the fault
counters. -/

namespace Sys2Proof.Machine

open Sys2Proof

/-- The answer of a command: a next state. -/
abbrev Ans := Host.Outcome State Fault Refusal

/-! ### Time and guards -/

/-- The state at the time of a command; time never runs back. -/
def State.atTime (t : Nat) (s : State) : State := { s with now := max s.now t }

/-- A command takes effect when its condition holds at its time; otherwise only the time moves. -/
def gated (t : Nat) (c : State → Bool) (f : State → State) (s : State) : Ans :=
  .next (if c (s.atTime t) then f (s.atTime t) else s.atTime t)

/-- The host bus reaches the window: the device is out of BOOT and VDDIO_H is valid (R25, R64). -/
def State.window (s : State) : Bool :=
  s.power.vddioH && (s.power.g = .ready || s.power.g = .run || s.power.g = .gasp || s.power.g = .killed)

/-- A window write other than a watchdog kick: the next one is no longer the first after a valid kick (R80). -/
def strobed (t : Nat) (c : State → Bool) (f : State → State) (s : State) : Ans :=
  let s := s.atTime t
  let s := if s.window then { s with win := { s.win with kicked := false } } else s
  .next (if s.window && c s then f s else s)

/-- The bus answers at all: VDDIO_H is present, and the device is in BOOT or the window is open (R25, R43, R49). -/
def State.busAnswers (s : State) : Bool := s.window || (s.power.vddioH && decide (s.power.g = .boot))

/-- A completed read of a slot with the effect `f`; in BOOT the slot reads 0 and has none (R43). -/
def slotRead (t : Nat) (f : State → State) (s : State) : Ans :=
  gated t State.busAnswers (fun s => if s.window then f s else { s with win := { s.win with adOut := 0 } }) s

/-- A command that always takes effect. -/
def always (t : Nat) (f : State → State) (s : State) : Ans := .next (f (s.atTime t))

/-- Device time in microseconds (R68). -/
def State.devTime (s : State) : Nat := (s.now - s.power.bootTime) / Config.us 1 % 2 ^ 32

/-- The milliseconds since a time. -/
def State.msSince (s : State) (t : Nat) : Nat := (s.now - t) / Config.ms 1

/-- A fresh free word: the specification leaves the value undefined. -/
def State.freeWord (s : State) : W16 × State :=
  (Config.freeWord s.freeCount, { s with freeCount := s.freeCount + 1 })

/-- A fresh free truth value. -/
def State.freeBool (s : State) : Bool × State :=
  (Config.freeBool s.freeCount, { s with freeCount := s.freeCount + 1 })

/-- `k` fresh free words. -/
def freeWords : Nat → State → List W16 × State
  | 0, s => ([], s)
  | k + 1, s =>
    let r := s.freeWord
    let q := freeWords k r.2
    (r.1 :: q.1, q.2)

/-! ### Parameter addresses (R535 to R538) -/

/-- Word `i` of the page of LPn. -/
def lpA (n : Fin 16) (i : Nat) : Nat := 0x1000 + 256 * n.val + i

/-- Word `k` of PHm. -/
def phA (m : Fin 64) (k : Nat) : Nat := 0x2000 + 256 * (m.val / 16) + 6 * (m.val % 16) + k

/-- Word `i` of page `p`. -/
def pgA (p i : Nat) : Nat := 256 * p + i

/-! ### Values in use (R85, R94) -/

/-- The value in use at `a` before any commit that is being applied. -/
def State.baseUse (s : State) (a : Nat) : W16 := sparseGet paramReset s.par.inUse a

/-- The value in use at `a` as the taker `tk` sees it: the new value once it has taken its words. -/
def State.useBy (s : State) (tk : Taker) (a : Nat) : W16 :=
  if s.par.phase = .apply then
    match s.par.set.lookup a with
    | some v => if s.par.takers.contains tk then s.baseUse a else v
    | none => s.baseUse a
  else s.baseUse a

/-- Word `i` of LPn in use. -/
def State.lp (s : State) (n : Fin 16) (i : Nat) : W16 := s.useBy (.loop n) (lpA n i)

/-- Word `i` of page `p` in use by its unit. -/
def State.pg (s : State) (p i : Nat) : W16 := s.useBy (.page p) (pgA p i)

/-- Word `i` of page `p` in use as LPn sees it. -/
def State.pgL (s : State) (n : Fin 16) (p i : Nat) : W16 := s.useBy (.loop n) (pgA p i)

/-- Word `k` of PHm in use as LPn sees it. -/
def State.ph (s : State) (n : Fin 16) (m : Fin 64) (k : Nat) : W16 := s.useBy (.loop n) (phA m k)

/-- The proof copy at `a`. -/
def State.proof (s : State) (a : Nat) : W16 := sparseGet paramReset s.par.proof a

/-- Store a proof copy. -/
def State.setProof (s : State) (a : Nat) (v : W16) : State :=
  { s with par := { s.par with proof := sparseSet paramReset s.par.proof a v } }

/-- Store a value in use. -/
def State.setUse (s : State) (a : Nat) (v : W16) : State :=
  { s with par := { s.par with inUse := sparseSet paramReset s.par.inUse a v } }

/-! ### Loops and phases -/

/-- The end of a pulse at a time (R232, R233). -/
def pulseEnd (at_ : Nat) (maxOn minOn : Bool) (p : PhaseState) : PhaseState :=
  { p with
    pwm := .low
    onAt := none
    endAt := none
    lastOff := at_
    prevOn := some (at_ - p.lastOn)
    maxOn := maxOn
    minOn := minOn }

/-- A phase as it stands at a time: a pulse whose comparator tripped within blanking has ended with blanking (R232). -/
def PhaseState.settle (now : Nat) (p : PhaseState) : PhaseState :=
  match p.endAt with
  | some e => if e ≤ now then pulseEnd e false true p else p
  | none => p

def State.loop (s : State) (n : Fin 16) : LoopState := s.loops[n]
def State.phase (s : State) (m : Fin 64) : PhaseState := (s.phases[m]).settle s.now

def State.setLoop (s : State) (n : Fin 16) (l : LoopState) : State := { s with loops := s.loops.set n l }
def State.updLoop (s : State) (n : Fin 16) (f : LoopState → LoopState) : State := s.setLoop n (f (s.loop n))
def State.setPhase (s : State) (m : Fin 64) (p : PhaseState) : State := { s with phases := s.phases.set m p }
def State.updPhase (s : State) (m : Fin 64) (f : PhaseState → PhaseState) : State := s.setPhase m (f (s.phase m))

def State.updSense (s : State) (n : Fin 16) (f : LoopSense → LoopSense) : State :=
  s.updLoop n fun l => { l with sense := f l.sense }
def State.updEng (s : State) (n : Fin 16) (f : LoopEng → LoopEng) : State :=
  s.updLoop n fun l => { l with eng := f l.eng }
def State.updMod (s : State) (n : Fin 16) (f : LoopMod → LoopMod) : State :=
  s.updLoop n fun l => { l with mod := f l.mod }
def State.updSp (s : State) (n : Fin 16) (f : LoopSp → LoopSp) : State :=
  s.updLoop n fun l => { l with sp := f l.sp }
def State.updAcp (s : State) (n : Fin 16) (f : LoopAcp → LoopAcp) : State :=
  s.updLoop n fun l => { l with acp := f l.acp }
def State.updLyr (s : State) (n : Fin 16) (f : LoopLyr → LoopLyr) : State :=
  s.updLoop n fun l => { l with lyr := f l.lyr }
def State.updPrt (s : State) (n : Fin 16) (f : LoopPrt → LoopPrt) : State :=
  s.updLoop n fun l => { l with prt := f l.prt }

/-- Apply an update to every phase of a list. -/
def updPhases (f : PhaseState → PhaseState) : List (Fin 64) → State → State
  | [], s => s
  | m :: ms, s => updPhases f ms (s.updPhase m f)

/-- Apply an update for every loop of a list, in order. -/
def forLoops (f : Fin 16 → State → State) : List (Fin 16) → State → State
  | [], s => s
  | n :: ns, s => forLoops f ns (f n s)

/-- Every loop, in ascending order. -/
def allLoops : List (Fin 16) := List.finRange 16
/-- Every phase, in ascending order. -/
def allPhases : List (Fin 64) := List.finRange 64

/-- LPn is in a state that runs steps: RAMP_UP, REGULATE, TRANSITION or RAMP_DOWN (R344 "running"). -/
def LoopSt.running : LoopSt → Bool
  | .rampUp | .regulate | .transition | .rampDown => true
  | _ => false

/-- The code of LPn.STATE[3:0] (R276). -/
def LoopSt.code : LoopSt → Nat
  | .off => 0 | .delayOn => 1 | .rampUp => 2 | .regulate => 3 | .transition => 4
  | .rampDown => 5 | .delayOff => 6 | .hiccupWait => 7 | .latched => 8 | .crowbar => 9

def State.st (s : State) (n : Fin 16) : LoopSt := (s.loop n).sp.st

/-! ### The phase map (R224 to R226) -/

/-- PHm is mapped to LPn: its list contains the phase and PH_MAP agrees. -/
def State.mapped (s : State) (n : Fin 16) (m : Fin 64) : Bool :=
  let l := s.lp n 0x1E
  let w := s.ph n m 0
  decide (fld l 5 0 ≤ m.val) && decide (m.val < fld l 5 0 + fld l 12 6) && bitAt w 4 && decide (fld w 3 0 = n.val)

/-- The mapped phases of LPn, ascending. -/
def State.mappedPhases (s : State) (n : Fin 16) : List (Fin 64) := allPhases.filter fun m => s.mapped n m

/-- The loop that PHm is mapped to. -/
def State.loopOf (s : State) (m : Fin 64) : Option (Fin 16) := allLoops.find? fun n => s.mapped n m

/-- A cause of protection's removal ends (R357); the phase is available from the loop's next reference instant. -/
def endRemoval (why : Removal) (p : PhaseState) : PhaseState :=
  let rest := p.removed.filter fun r => decide (r ≠ why)
  { p with removed := rest, back := p.back || (p.removed.contains why && rest.isEmpty) }

/-- PHm is out of service (R226). -/
def State.outOfService (s : State) (n : Fin 16) (m : Fin 64) : Bool := bitAt (s.ph n m 0) 5

/-- The available phases of LPn (R257): mapped, in service and not removed by protection, or returned since the last reference
instant (R357). -/
def State.available (s : State) (n : Fin 16) : List (Fin 64) :=
  (s.mappedPhases n).filter fun m => !s.outOfService n m && (s.phase m).removed.isEmpty && !(s.phase m).back

/-! ### Interrupt flags (R75, R76) -/

/-- Set a bit of W_IRQ. -/
def State.irq (s : State) (i : Nat) : State := { s with win := { s.win with irq := setBit s.win.irq i } }

/-! ### Straps and global state -/

/-- KV selects self-bias (R34). -/
def State.selfBias (s : State) : Bool := s.power.kv = some 0 || s.power.kv = some 1

/-- LP15 is run by the kennel law. -/
def State.kennel15 (s : State) (n : Fin 16) : Bool := n.val = 15 && s.power.law15 = .kennel

/-- Some loop other than a self-biased LP15 is not OFF (R41). -/
def State.anyOn (s : State) : Bool :=
  allLoops.any fun n => decide (s.st n ≠ .off) && !(s.selfBias && n.val = 15)

/-- W_LOOP_ACT (R66): bit n is 1 while LPn is in any state other than OFF. -/
def State.loopAct (s : State) : W16 := w16 (allLoops.foldl (fun a n => a + bitVal (decide (s.st n ≠ .off)) n.val) 0)

/-- READY and RUN follow the loops (R41). -/
def State.settleRun (s : State) : State :=
  if s.power.g = .ready || s.power.g = .run then
    { s with power := { s.power with g := if s.anyOn then .run else .ready } }
  else s

/-- The device is READY, RUN, GASP or KILLED: the window is open and the units run. -/
def State.up (s : State) : Bool :=
  s.power.g = .ready || s.power.g = .run || s.power.g = .gasp || s.power.g = .killed

/-- The kennel rail is present (R33): VHV above VHV_OFF, or VAUX under KV 0b11. -/
def State.kennelRail (s : State) : Bool :=
  if s.power.kv = some 3 then s.power.vaux else s.power.vhvOn || s.power.vaux

/-! ### The event queue (R480, R481) -/

/-- Offer an entry to the queue of 64; a full queue drops it (R480). -/
def State.offer (s : State) (e : LogEntry) : State :=
  if s.log.queue.length < 64 then
    { s with log := { s.log with queue := s.log.queue ++ [(e, s.now)] } }
  else { s with log := { s.log with drop := inc16 s.log.drop } }

/-- An event entry at a device time (R481). -/
def State.eventAt (s : State) (time : Nat) (code : Byte) (loop : Option (Fin 16)) (remote cont : Bool)
    (value : W16) (act : Nat) : LogEntry where
  w0 := w16 (code.toNat + 256 * ((loop.map Fin.val).getD 0) + bitVal loop.isNone 12 + bitVal remote 13 + bitVal cont 14)
  w1 := value
  w2 := w16 (time / 16)
  w3 := w16 (time / 2 ^ 20 + 4096 * (act % 8) + bitVal (bitAt s.power.bootCnt 0) 15)

/-- An event entry at the present device time. -/
def State.eventEntry (s : State) (code : Byte) (loop : Option (Fin 16)) (remote cont : Bool)
    (value : W16) (act : Nat) : LogEntry := s.eventAt s.devTime code loop remote cont value act

/-- Log an event (R480, R483). -/
def State.event (s : State) (code : Byte) (loop : Option (Fin 16)) (value : W16) (act : Nat) : State :=
  s.offer (s.eventEntry code loop false false value act)

/-! ### Faults (R345 to R348) -/

/-- The action field of a fault code for LPn (R344); UV takes WARN in GASP (R447). -/
def State.actionOf (s : State) (n : Fin 16) (code : Byte) : Nat :=
  let a0 := s.lp n 0x27
  let a1 := s.lp n 0x28
  match code.toNat with
  | 0x01 => fld a0 2 0
  | 0x02 => if s.power.g = .gasp then 1 else fld a0 5 3
  | 0x03 => fld a0 8 6
  | 0x04 => fld a0 11 9
  | 0x05 => fld a0 14 12
  | 0x06 => fld a1 2 0
  | 0x07 => fld a1 5 3
  | 0x08 => fld a1 5 3
  | 0x09 => fld a1 8 6
  | 0x16 => fld a1 8 6
  | 0x0A => fld a1 11 9
  | _ => fld a1 14 12

/-- Raise a fault of LPn; it is logged, counted and acted on at the loop's next boundary (R345, R346). -/
def State.raiseFault (s : State) (n : Fin 16) (code : Byte) (value : W16) (ph : List (Fin 64)) : State :=
  s.updPrt n fun p => { p with raised := p.raised ++ [{ code, value, ph, at_ := s.devTime }] }

/-- Raise a fault whose value the specification does not state: it carries a free value. -/
def State.raiseFree (s : State) (n : Fin 16) (code : Byte) : State :=
  s.freeWord.2.raiseFault n code s.freeWord.1 []

/-- Count a fault into W_FLT_CODE and W_FLT_LOOP, and set W_IRQ.FAULT (R347). -/
def State.countFault (s : State) (code : Byte) (loop : Option (Fin 16)) : State :=
  let w := s.win
  let s := { s with win := { w with
    fltCount := w8 (inc8 w.fltCount.toNat)
    fltCode := if w.fltValid then w.fltCode else code
    fltLoop := if w.fltValid then w.fltLoop else
      BitVec.ofNat 5 ((loop.map Fin.val).getD 0 + bitVal loop.isNone 4)
    fltValid := true } }
  s.irq 0

end Sys2Proof.Machine
end

