-- ==== Sys2Proof/Machine/Law.lean ====
section
/-! DEFINITION. The loop law (07_loop_law.md) in the block-float arithmetic of the engine
(06_control_engine.md R184 to R188): one step as a function of its inputs. An accumulator travels with the
count of its saturations. -/

namespace Sys2Proof.Machine

open Sys2Proof

/-- An accumulator or mantissa with the saturations that made it. -/
abbrev Acc := Int × Nat

/-- Hold an accumulation to 40 bits (R185). -/
def sat40 (x : Int) (k : Nat) : Acc :=
  if x < -(2 ^ 39) then (-(2 ^ 39), k + 1) else if 2 ^ 39 - 1 < x then (2 ^ 39 - 1, k + 1) else (x, k)

/-- Add a term to an accumulator (R185). -/
def accAdd (a : Acc) (t : Int) : Acc := sat40 (a.1 + t) a.2

/-- Hold a rounded result to a 16-bit mantissa (R186). -/
def satMant (x : Int) (k : Nat) : Acc :=
  if x < -32768 then (-32768, k + 1) else if 32767 < x then (32767, k + 1) else (x, k)

/-- The stage result of an accumulator (R186). -/
def stageResult (a : Acc) : Acc := satMant (roundEven a.1 (2 ^ 15)) a.2

/-- A fraction of the mantissa LSB formed exactly and rounded to a mantissa (R186, R211). -/
def mantOf (x : Frac) (k : Nat) : Acc := satMant x.roundEven k

/-- The least exponent from −8 to 7 at which a stage result would not saturate (R188); `x` is the result in mantissa LSBs of
exponent `e`, before any saturation. -/
def expNeed (x : Frac) (e : Int) : Int :=
  match (List.range 16).find? fun (i : Nat) =>
    let r := (x.mul (Frac.pow2 (e - (Int.ofNat i - 8)))).roundEven
    decide (-32768 ≤ r) && decide (r ≤ 32767) with
  | some i => (i : Int) - 8
  | none => 7

/-- An accumulator's value in mantissa LSBs. -/
def accFrac (a : Int) : Frac := ⟨a, 2 ^ 15⟩

/-- A term as it enters a sum: its mantissa, or its exact value where the mantissa saturates (R188). -/
def unsatTerm (x : Frac) : Frac := if (mantOf x 0).2 = 0 then ⟨(mantOf x 0).1, 1⟩ else x

/-- The coefficients and controls of a loop in use (R203, R204). -/
structure Coefs where
  e0 : Int
  e1 : Int
  e2 : Int
  e3 : Int
  ki : Int
  kiSh : Int
  bSh : Int
  b10 : Int
  b11 : Int
  b12 : Int
  a11 : Int
  a12 : Int
  a21 : Int
  a22 : Int
  g2 : Int
  byp1 : Bool
  byp2 : Bool
  deriving DecidableEq, Repr

/-- Section 2's numerator gain (1 + a21 + a22) / 4 as a mantissa (R204). -/
def sectionGain (a21 a22 : Int) : Int := clampI (-32768) 32767 (roundEven (16384 + a21 + a22) 2)

/-- The coefficients from the words of a loop page (R204). -/
def coefsOf (law exps : W16) (w : Nat → W16) : Coefs where
  e0 := expsNib exps 0
  e1 := expsNib exps 1
  e2 := expsNib exps 2
  e3 := expsNib exps 3
  ki := (w 0).toInt
  kiSh := fld law 7 4
  bSh := 1 + (fld law 10 8 : Int)
  b10 := (w 1).toInt
  b11 := (w 2).toInt
  b12 := (w 3).toInt
  a11 := (w 4).toInt
  a12 := (w 5).toInt
  a21 := (w 6).toInt
  a22 := (w 7).toInt
  g2 := sectionGain (w 6).toInt (w 7).toInt
  byp1 := bitAt law 0
  byp2 := bitAt law 1

/-- The coefficients of LPn in use. -/
def State.coefs (s : State) (n : Fin 16) : Coefs :=
  coefsOf (s.lp n 0x0C) (s.lp n 0x16) fun i => s.lp n (0x0E + i)

/-- What one step takes in. Currents are in stage-3 mantissa LSBs. -/
structure LawIn where
  e : Frac                            -- error, 100 µV
  kvin : Nat                          -- R210, 1/8192
  preload : Option Int := none        -- R219, 25 mA
  slew : Frac := ⟨0, 1⟩                -- R211, exact
  layer : Frac := ⟨0, 1⟩               -- R333, exact
  damp : Frac := ⟨0, 1⟩                -- R443, exact
  floorM : Int
  ceilM : Int
  deriving DecidableEq, Repr

/-- What one step leaves. -/
structure LawOut where
  xI : Int
  s1 : Int
  s2 : Int
  s3 : Int
  s4 : Int
  eM : Int
  rawM : Int
  cmdM : Int
  slewM : Int
  layerM : Int
  dampM : Int
  ceil : Bool
  floor : Bool
  sats : Nat
  need : List Int                     -- R188: by stage
  deriving DecidableEq, Repr

/-- The error as a stage-0 accumulation: `e` is in 100 µV, a stage-0 mantissa is worth m × 2^e0 V (R203). -/
def errorSum (e : Frac) (e0 : Int) : Int := ((e.mul ⟨2 ^ 30, 10000⟩).mul (Frac.pow2 (-e0))).roundEven

/-- The integrator value of a preload (R219): the kennel law's command divided by k_vin, at stage 1. -/
def preloadSum (cmd : Int) (kvin : Nat) (e1 : Int) : Int :=
  (Frac.mul ⟨cmd * 8192 * 2 ^ 30, 320 * kvin⟩ (Frac.pow2 (-e1))).roundEven

/-- The integrator of R206 and R213, before saturation. -/
def lawIntegrator (c : Coefs) (x : LawIn) (xI : Int) (ceilFlag floorFlag : Bool) (eM : Int) : Int :=
  match x.preload with
  | some cmd => preloadSum cmd x.kvin c.e1
  | none =>
    if (ceilFlag && decide (0 < eM)) || (floorFlag && decide (eM < 0)) then xI
    else xI + shiftEven (c.ki * eM) (c.kiSh + c.e0 - c.e1 - 3)

/-- One step of the law (R206): output part, then state part. The terms of an accumulation are added in the order in which R206
writes them; where an intermediate sum saturates, the specification gives no order (DESIGN CHOICE,
notes/assumptions/68.md). -/
def lawStep (c : Coefs) (x : LawIn) (g : LoopEng) : LawOut :=
  let eS := errorSum x.e c.e0
  let e := stageResult (sat40 eS 0)
  let xiS := lawIntegrator c x g.xI g.ceilFlag g.floorFlag e.1
  let xi := sat40 xiS 0
  let xiM := stageResult xi
  let t1 := if c.byp1 then shiftEven xiM.1 (15 + c.e1 - c.e2) else shiftEven (c.b10 * xiM.1) (c.bSh + c.e1 - c.e2)
  let h1 := if c.byp1 then 0 else g.s1
  let u1 := stageResult (accAdd (accAdd (0, 0) t1) h1)
  let t2 := if c.byp2 then shiftEven u1.1 (15 + c.e2 - c.e3) else shiftEven (c.g2 * u1.1) (c.e2 - c.e3)
  let h2 := if c.byp2 then 0 else g.s3
  let u2 := stageResult (accAdd (accAdd (0, 0) t2) h2)
  let slew := mantOf x.slew 0
  let layer := mantOf x.layer 0
  let damp := mantOf x.damp 0
  let rawA := accAdd (accAdd (accAdd (accAdd (0, 0) (shiftEven (x.kvin * u2.1) 2))
    (slew.1 * 2 ^ 15)) (layer.1 * 2 ^ 15)) (damp.1 * 2 ^ 15)
  let rawX := Frac.sum [(unsatTerm (accFrac (t2 + h2))).mul ⟨x.kvin, 8192⟩, unsatTerm x.slew, unsatTerm x.layer, unsatTerm x.damp]
  let raw := stageResult rawA
  let cmd := min (max raw.1 x.floorM) x.ceilM
  let n1 := if c.byp1 then (0, 0) else
    accAdd (accAdd (accAdd (0, 0) (shiftEven (c.b11 * xiM.1) (c.bSh + c.e1 - c.e2))) (-(shiftEven (c.a11 * u1.1) 1))) g.s2
  let n2 := if c.byp1 then (0, 0) else
    accAdd (accAdd (0, 0) (shiftEven (c.b12 * xiM.1) (c.bSh + c.e1 - c.e2))) (-(shiftEven (c.a12 * u1.1) 1))
  let n3 := if c.byp2 then (0, 0) else
    accAdd (accAdd (accAdd (0, 0) (shiftEven (c.g2 * u1.1) (1 + c.e2 - c.e3))) (-(shiftEven (c.a21 * u2.1) 1))) g.s4
  let n4 := if c.byp2 then (0, 0) else
    accAdd (accAdd (0, 0) (shiftEven (c.g2 * u1.1) (c.e2 - c.e3))) (-(shiftEven (c.a22 * u2.1) 1))
  { xI := xi.1
    s1 := n1.1
    s2 := n2.1
    s3 := n3.1
    s4 := n4.1
    eM := e.1
    rawM := raw.1
    cmdM := cmd
    slewM := slew.1
    layerM := layer.1
    dampM := damp.1
    ceil := decide (x.ceilM ≤ raw.1)
    floor := decide (raw.1 ≤ x.floorM)
    sats := e.2 + xiM.2 + u1.2 + u2.2 + slew.2 + layer.2 + damp.2 + raw.2 + n1.2 + n2.2 + n3.2 + n4.2
    need := [expNeed (accFrac eS) c.e0, expNeed (accFrac xiS) c.e1, expNeed (accFrac (t1 + h1)) c.e2,
      [accFrac (t2 + h2), x.slew, x.layer, x.damp, rawX].foldl (fun m y => max m (expNeed y c.e3)) (-8)] }

/-- A loop-current word as a stage-3 mantissa (R203, R212). -/
def currentMant (w : W16) (e3 : Int) : Int :=
  clampI (-32768) 32767 (Frac.mul ⟨w.toInt * 512, 5⟩ (Frac.pow2 (-e3))).roundEven

/-- A stage-3 mantissa in 25 mA (R203, R214). -/
def mantCurrent (m : Int) (e3 : Int) : Frac := Frac.mul ⟨m * 320, 32768⟩ (Frac.pow2 e3)

/-- i_slew (R211), exact, in stage-3 mantissa LSBs: C_OUT_EST in µF, ΔV in 100 µV, Δt in 1/256 ns. -/
def slewOf (cOut : Nat) (dv : Int) (dt : Nat) (rho : Frac) (e3 : Int) : Frac :=
  if dt = 0 then ⟨0, 1⟩ else (Frac.mul ⟨cOut * dv * 128 * 4096, 5 * dt⟩ rho.inv).mul (Frac.pow2 (-e3))

/-- The droop d of R208 in 100 µV: R_LL in µΩ times I_LL (25 mA) times ρ. -/
def droop (rLL : W16) (iLL : Frac) (rho : Frac) : Int :=
  ((Frac.mul ⟨rLL.toNat, 4000⟩ iLL).mul rho).roundEven

/-- The effective reference of R209. -/
def effectiveRef (vref vmin vmax : W16) (d : Int) : W16 :=
  let v := (vref.toNat : Int) - d
  if 0 < d then satU16 (max v (min vmin.toNat vref.toNat))
  else if d < 0 then satU16 (min v (max vmax.toNat vref.toNat))
  else vref

/-- k_vin of R210 in 1/8192 from VIN_NOM (0.5 V) and VIN (2 mV). -/
def kvinOf (nom : Nat) (vin : W16) : Nat :=
  if vin.toNat = 0 then 16384
  else clampN 4096 16384 (roundEven (8192 * nom * 250) vin.toNat).toNat

/-- The accumulators of a loop after a change of EXPS (R187): every saturation counts, and marks the next step (R186). -/
def rescale (old new : W16) (g : LoopEng) : LoopEng :=
  let sh (x : Int) (i : Nat) : Acc := sat40 (shiftEven x (expsNib old i - expsNib new i)) 0
  let xi := sh g.xI 1
  let s1 := sh g.s1 2
  let s2 := sh g.s2 2
  let s3 := sh g.s3 3
  let s4 := sh g.s4 3
  let l := sh g.accL 3
  let d := sh g.accD 3
  let c := sh g.accC 3
  let sats := xi.2 + s1.2 + s2.2 + s3.2 + s4.2 + l.2 + d.2 + c.2
  { g with
    xI := xi.1
    s1 := s1.1
    s2 := s2.1
    s3 := s3.1
    s4 := s4.1
    accL := l.1
    accD := d.1
    accC := c.1
    exps := new
    satCnt := min 255 (g.satCnt + sats)
    shiftSat := g.shiftSat || decide (sats ≠ 0) }

/-- The accumulators cleared at DELAY_ON and at reset (R189). -/
def clearAcc (g : LoopEng) : LoopEng :=
  { g with xI := 0, s1 := 0, s2 := 0, s3 := 0, s4 := 0, accL := 0, accD := 0, accC := 0, preload := none }

/-- Record the exponents that one completed sample needed (R188). -/
def recordNeeds (need : List Int) (g : LoopEng) : LoopEng :=
  let c := g.expCnt + 1
  let keys := (List.range need.length).map fun i => 16 * i + ((need.getD i (-8)) + 8).toNat
  { g with expCnt := c, expLast := keys.foldl (fun l k => sparseSet (fun _ => 0) l k c) g.expLast }

/-- LPn.EXP_NOW (R188). -/
def expNow (g : LoopEng) : W16 :=
  let nib (i : Nat) : Nat :=
    ((List.range 16).filter fun e =>
      let at_ := sparseGet (fun _ => 0) g.expLast (16 * i + e)
      decide (at_ ≠ 0) && decide (g.expCnt < at_ + 1024)).foldl max 0
  w16 (((nib 0 + 8) % 16) + 16 * ((nib 1 + 8) % 16) + 256 * ((nib 2 + 8) % 16) + 4096 * ((nib 3 + 8) % 16))

/-- LPn.SAT_ACC (R217). -/
def satAccWord (satAcc : Nat) (satTime : W16) : W16 :=
  if twCount satTime = 0 then 0 else w16 (min 65535 (32768 * satAcc / (8 * twDur satTime)))

end Sys2Proof.Machine
end

