-- ==== Sys2Proof/Machine/Sense.lean ====
section
/-! DEFINITION. Voltage sense (04_sense_converters.md): channel modes, the result of an acquisition, the
supplementary check, LPn.VOUT, and the background correction of the converters. -/

namespace Sys2Proof.Machine

open Sys2Proof

/-! ### Sample boundaries (R176, R198) -/

/-- The sample period in use of LPn. -/
def State.samplePeriod (s : State) (n : Fin 16) : Nat :=
  if s.kennel15 n then Config.us 10
  else Config.gridCycle * 2 ^ fld (s.lp n 0x0D) 2 0 * (if (s.loop n).eng.halved then 2 else 1)

/-- The seat offset of LPn (R176). -/
def seatOf (n : Fin 16) : Nat := n.val % 4 * Config.ns 125

/-- Now is a sample boundary of LPn on the grid (R176); the kennel law before the PLL has locked keeps its own
rate (R38). -/
def State.isBoundary (s : State) (n : Fin 16) : Bool :=
  if s.kennel15 n && !s.power.lane3Cclk then
    decide ((s.loop n).eng.sampleAt < s.now) && decide ((s.now - (s.loop n).eng.sampleAt) % Config.us 10 = 0)
  else decide (s.grid + seatOf n ≤ s.now) && decide ((s.now - s.grid - seatOf n) % s.samplePeriod n = 0)

/-- The boundary of LPn at this time has not begun its sample. -/
def State.unsampled (s : State) (n : Fin 16) : Bool :=
  let g := (s.loop n).eng
  !(g.sampled && decide (g.sampleAt = s.now))

/-! ### Acquisitions (R124, R126, R177) -/

/-- Conversions of one acquisition of LPn (SNS_CFGn.ACQ). -/
def State.acqLen (s : State) (n : Fin 16) : Nat :=
  match fld (s.pgL n 4 n.val) 3 2 with | 0 => 1 | 1 => 2 | _ => 4

/-- The conversions of one acquisition of LPn: one under the kennel law (R144). -/
def State.acqCount (s : State) (n : Fin 16) : Nat := if s.kennel15 n then 1 else s.acqLen n

/-- From the boundary to the end of an undelayed acquisition (R177). -/
def State.acqTime (s : State) (n : Fin 16) : Nat := if s.acqCount n = 4 then 73600 else 60800

/-- The first and the last start slot of the conversions of LPn after its boundary (R177). -/
def State.acqSlots (s : State) (n : Fin 16) : Nat × Nat :=
  let k := s.acqCount n
  let a := if k = 1 then Config.ns 175 else Config.ns 150
  (a, a + (k - 1) * Config.ns 25)

/-- LPn shares VSC3 with an LP15 that the kennel law samples off the grid (R38, R176). -/
def State.offGrid (s : State) (n : Fin 16) : Bool :=
  decide (n.val / 4 = 3) && s.kennel15 15 &&
  decide ((s.loop 15).eng.sampleAt < s.grid + seatOf 15 ∨ ((s.loop 15).eng.sampleAt - s.grid - seatOf 15) % Config.gridCycle ≠ 0)

/-- The longest time that arbitration on the VSC can delay an acquisition of LPn (R126, R177): none on the grid, where no
acquisition delays another, and 25 ns for each conversion of the other three loops otherwise. -/
def State.arbMax (s : State) (n : Fin 16) : Nat :=
  if s.offGrid n then
    Config.ns 25 * (allLoops.filter fun k => decide (k.val / 4 = n.val / 4) && decide (k ≠ n)).foldl (fun a k => a + s.acqCount k) 0
  else 0

/-- Now is an end of the acquisition in progress of LPn: its fixed point (R177), later by whole slots where it was delayed. -/
def State.acqEnds (s : State) (n : Fin 16) : Bool :=
  let due := (s.loop n).eng.sampleAt + s.acqTime n
  decide (due ≤ s.now) && decide (s.now ≤ due + s.arbMax n) && decide ((s.now - due) % Config.ns 25 = 0)

/-- No acquisition of VSCk claims a start slot within the 100 ns from now (R127). -/
def State.vscFree (s : State) (k : Fin 4) : Bool :=
  allLoops.all fun n =>
    let d := (s.now - s.grid - seatOf n) % s.samplePeriod n
    let a := s.acqSlots n
    decide (n.val / 4 ≠ k.val) || decide (d + Config.ns 100 ≤ a.1) || decide (a.2 < d)

/-! ### Results (R124 to R134) -/

/-- The divider ratio ρ of LPn (R135, R208). -/
def State.rho (s : State) (n : Fin 16) : Frac :=
  let d := (s.pgL n 4 (0x10 + n.val)).toNat
  if d = 0 then ⟨1, 1⟩ else ⟨d, 65536⟩

/-- The mean of a list of conversion codes (R124). -/
def meanOf (l : List Int) : Frac := ⟨l.foldl (· + ·) 0, max 1 l.length⟩

/-- A window result held to its clip limits of ±160 mV, 8,192 LSB (R132). -/
def clipWindow (x : Frac) : Frac :=
  if x.lt ⟨-8192, 1⟩ then ⟨-8192, 1⟩ else if Frac.lt ⟨8192, 1⟩ x then ⟨8192, 1⟩ else x

/-- A full-range result held to 0 V to 6.4 V, 16,384 LSB (R132). -/
def clipFull (x : Frac) : Frac :=
  if x.lt ⟨0, 1⟩ then ⟨0, 1⟩ else if Frac.lt ⟨16384, 1⟩ x then ⟨16384, 1⟩ else x

/-- The result of an acquisition in its own LSB, clipped (R124, R132). -/
def senseResult (full : Bool) (codes : List Int) : Frac :=
  if full then clipFull (meanOf codes) else clipWindow (meanOf codes)

/-- A result in volts at the pins, in 100 µV: a window LSB is 25/128, a full-range LSB 125/32 (R138). -/
def senseVolts (full : Bool) (x : Frac) : Frac :=
  if full then x.mul ⟨125, 32⟩ else x.mul ⟨25, 128⟩

/-- The voltage at the sense pins in 100 µV (R134). -/
def pinVolts (full : Bool) (dac : W16) (x : Frac) : Frac :=
  if full then senseVolts true x else (senseVolts false x).add ⟨min dac.toNat 64000, 1⟩

/-- The error e = vdac − vsense in 100 µV (R206). -/
def senseError (full : Bool) (dac : W16) (x : Frac) : Frac :=
  if full then Frac.sub ⟨min dac.toNat 64000, 1⟩ (senseVolts true x) else (senseVolts false x).neg

/-- The mode that the loop's state and SNS_CFGn.MODE call for (R130, R131); true is full range. -/
def modeWanted (mode : Nat) (st : LoopSt) : Bool :=
  match mode with
  | 1 => decide (st = .off)
  | 2 => true
  | _ => !(decide (st = .regulate) || decide (st = .transition))

/-- The extra full-range conversion of R133 belongs to this sample. The model counts every sample period of the channel, full
range or not, and takes the last of each sixteen (DESIGN CHOICE, notes/assumptions/64.md). -/
def LoopSense.checkDue (c : LoopSense) : Bool := !c.full && decide (c.supCnt % 16 = 15)

/-- The channel after one acquisition (R131 to R134): `mode` is SNS_CFGn.MODE, `sup` the supplementary
full-range conversion when one was made. -/
def senseAfter (mode : Nat) (supOn : Bool) (st : LoopSt) (c : LoopSense) (codes : List Int)
    (sup : Option Int) : LoopSense :=
  let x := senseResult c.full codes
  let atLimit := !c.full && (Frac.le ⟨8192, 1⟩ x || x.le ⟨-8192, 1⟩)
  let beyond := !c.full && (Frac.lt ⟨8192, 1⟩ (meanOf codes) || (meanOf codes).lt ⟨-8192, 1⟩)
  let clipRun := if atLimit then c.clipRun + 1 else 0
  let v := pinVolts c.full c.dac x
  let off := v.sub ⟨c.dac.toNat, 1⟩
  let near := off.le ⟨1000, 1⟩ && Frac.le ⟨-1000, 1⟩ off
  let inRun := if c.full && near then c.inRun + 1 else 0
  let checked := supOn && c.checkDue
  let bad := match sup with
    | some k =>
      let dv := (senseVolts true (clipFull ⟨k, 1⟩)).sub v
      checked && (Frac.lt ⟨80, 1⟩ dv || dv.lt ⟨-80, 1⟩)
    | none => false
  let chkFails := if checked then (if bad then c.chkFails + 1 else 0) else c.chkFails
  let chk := c.chk || decide (4 ≤ chkFails)
  let clipHold := mode = 0 && (if c.clipHold then decide (inRun < 8) else decide (2 ≤ clipRun))
  { c with
    clip := beyond
    clipRun := clipRun
    inRun := if clipHold then inRun else 0
    clipHold := clipHold
    chk := chk
    chkFails := chkFails
    supCnt := (c.supCnt + 1) % 16
    vout := satU16 v.roundUp
    full := chk || clipHold || modeWanted mode st }

/-- The mode of the sample that a boundary begins (R131): a change of state before the boundary is taken; one at the boundary
itself acts from the sample after it (DESIGN CHOICE, notes/assumptions/65.md). -/
def sampleMode (mode : Nat) (since : Nat) (now : Nat) (st : LoopSt) (c : LoopSense) : LoopSense :=
  if since < now then { c with full := c.chk || c.clipHold || modeWanted mode st } else c

/-- The sense channel of a loop that enters OFF: the check hold ends (R133). -/
def senseOff (c : LoopSense) : LoopSense :=
  { c with chk := false, chkFails := 0, clipHold := false, clipRun := 0, inRun := 0 }

/-- The full set runs: in BOOT and after it. -/
def State.booted (s : State) : Bool := s.up || decide (s.power.g = .boot)

/-- No acquisition of the four loops of VSCk is in progress. -/
def State.vscIdle (s : State) (k : Fin 4) : Bool :=
  allLoops.all fun n => decide (n.val / 4 ≠ k.val) || !(s.loop n).eng.sampled

/-- No sample of the phases of ISCk is due within the 100 ns ahead. -/
def State.iscIdle (s : State) (k : Fin 4) : Bool :=
  allPhases.all fun m => decide (m.val / 16 ≠ k.val) ||
    match (s.phase m).dueAt with | some a => decide (s.now + Config.ns 100 ≤ a) | none => true

/-- The largest step of a trim that changes no result by more than 0.25 LSB (R136): 64/256 LSB of an offset or a gain, and
a skew of that many 50 fs at a slope in LSB per µs. -/
def trimStepOk (kind : Fin 3) (step : Int) (slope : Nat) : Bool :=
  if kind = 2 then decide (step.natAbs * slope ≤ 5000000) else decide (step.natAbs ≤ 64)

/-- One trim of one slice moves (R136): a skew within ±20 ps. -/
def moveTrim (slice : Fin 4) (kind : Fin 3) (step : Int) (c : ConvState) : ConvState :=
  if kind = 0 then { c with offset := c.offset.set slice (c.offset[slice] + step) }
  else if kind = 1 then { c with gain := c.gain.set slice (c.gain[slice] + step) }
  else { c with skew := c.skew.set slice (clampI (-400) 400 (c.skew[slice] + step)) }

/-- A trim update of one converter (R137): CONVERGED sets when the correction has converged, and at the latest 20 ms after the
entry to BOOT. A Tj that moves faster than 2 °C/s does not take it away (DESIGN CHOICE, notes/assumptions/66.md). -/
def trimmed (s : State) (conv : Bool) (c : ConvState) : ConvState :=
  { c with
    noTrim := false
    trimAt := s.now
    converged := c.converged || conv || decide (s.power.bootTime + Config.ms 20 ≤ s.now) }

/-- A trim update may act (R127, R136, R137): while FREEZE is 0, between acquisitions and with none due ahead; a skew trim
only of a VSC whose input moves by at least 50 LSB in 1 µs. -/
def State.mayTrim (s : State) (isc : Bool) (k : Fin 4) (kind : Fin 3) (step : Int) (slope : Nat) : Bool :=
  s.booted && trimStepOk kind step slope &&
  (if isc then !bitAt (s.pg 5 (0x10 + k.val)) 0 && s.iscIdle k && decide (kind ≠ 2)
   else !bitAt (s.pg 4 (0x20 + k.val)) 0 && s.vscIdle k && s.vscFree k && (decide (kind ≠ 2) || decide (50 ≤ slope)))

/-- A step of background correction taken by a converter (R136, R137). -/
def trimTake (x : TrimStep) (s : State) (c : ConvState) : ConvState := trimmed s x.conv (moveTrim x.slice x.kind x.step c)

/-- TRIM_UPDATE (R136, R137): the step `x` of converter `k` of the ISC or the VSC; kind 0 is offset, 1 gain, 2 skew. -/
def execTrimUpdate (t : Nat) (isc : Bool) (k : Fin 4) (x : TrimStep) (s : State) : Ans :=
  gated t (fun s => s.mayTrim isc k x.kind x.step x.slope)
    (fun s => if isc then { s with isc := s.isc.set k (trimTake x s s.isc[k]) }
      else { s with vsc := s.vsc.set k (trimTake x s s.vsc[k]) }) s

/-- The converters at the entry to BOOT (R136): the trims start from the OTP seeds. -/
def seedConv (base : Nat) (now : Nat) : Vector ConvState 4 :=
  Vector.ofFn fun k =>
    { trimAt := now
      offset := Vector.ofFn fun i => Config.trimSeed (base + k.val) i.val 0
      gain := Vector.ofFn fun i => Config.trimSeed (base + k.val) i.val 1
      skew := Vector.ofFn fun i => clampI (-400) 400 (Config.trimSeed (base + k.val) i.val 2) }

end Sys2Proof.Machine
end

