-- ==== Sys2Proof/Machine/Phases.lean ====
section
/-! DEFINITION. Phases and peak-current modulation (08_phases_and_modulation.md R224 to R243, R250), and the
phase counts they share with shedding: sensed gains, peak and ramp words, switching sets, and the pulse. -/

namespace Sys2Proof.Machine

open Sys2Proof

/-! ### Sensing (R139, R141) -/

/-- The ISC that serves PHm (R122). -/
def iscOf (m : Fin 64) : Fin 4 := ⟨m.val / 16, by omega⟩

/-- PH_SENSE selects monitor mode (R139); PH63 under the kennel law is always in it (R27). -/
def State.monitor (s : State) (n : Fin 16) (m : Fin 64) : Bool := bitAt (s.ph n m 1) 15 || s.kennel15 n

/-- T of ISCk as LPn sees it (R141): the latest GOOD result of the slot named by DCR_TSLOTk, 25 °C otherwise. -/
def State.iscTemp (s : State) (slot : W16) : W16 :=
  let k := fld slot 7 0
  if h : k < 32 then (s.svc.slots[k].good).getD 0x0C80 else 0x0C80

/-- G_s in µV/A: GAIN in monitor mode, DCR(T) in DCR mode (R139, R234). -/
def State.gain (s : State) (n : Fin 16) (m : Fin 64) : Frac :=
  let g := fld (s.ph n m 1) 14 0
  if s.monitor n m then ⟨g, 1⟩ else
    let tc := (s.pgL n 5 (4 + m.val / 16)).toNat
    let t := (s.iscTemp (s.pgL n 5 (8 + m.val / 16))).toInt
    (Frac.ofNats g 10).mul ⟨128000000 + tc * (t - 3200), 128000000⟩

/-- Z in µV: MON_ZERO in monitor mode, 0 in DCR mode (R234). -/
def State.zeroLevel (s : State) (n : Fin 16) (m : Fin 64) : Frac :=
  if s.monitor n m then ⟨100 * (s.pgL n 5 (m.val / 16)).toNat, 1⟩ else ⟨0, 1⟩

/-! ### Peak and ramp words (R234 to R237) -/

/-- The peak-DAC LSB in µV (R236). -/
def peakLsb (monitor : Bool) : Frac := if monitor then ⟨3125, 2⟩ else ⟨150000, 1024⟩

/-- A comparator voltage in µV as a peak-DAC word, not yet rounded (R236). -/
def peakScale (monitor : Bool) (v : Frac) : Frac :=
  if monitor then v.div (peakLsb true) else (v.add ⟨75000, 1⟩).div (peakLsb false)

/-- The carrier period in 1/256 ns at a frequency in kHz (R228). -/
def periodOf (fc : Frac) : Frac := Frac.div ⟨256000000, 1⟩ (Frac.max ⟨1, 1⟩ fc)

/-- What R234 takes from the loop: V_o in µV, VIN in µV where there is one, f_c in kHz, k_vin in 1/8192. -/
structure ModIn where
  vo : Frac
  vin : Option Frac
  fc : Frac
  kvin : Nat
  deriving DecidableEq, Repr

/-- ΔI in A (R234, R235). -/
def rippleOf (x : ModIn) (l : Nat) : Frac :=
  match x.vin with
  | none => ⟨0, 1⟩
  | some v =>
    if l = 0 ∨ x.fc.num ≤ 0 ∨ v.num ≤ 0 then ⟨0, 1⟩ else
      let k := (Frac.sub ⟨1, 1⟩ (x.vo.div v)).max ⟨0, 1⟩
      (x.vo.mul (k.min ⟨1, 1⟩)).div (Frac.mul ⟨10 * l, 1⟩ x.fc)

/-- t_on in 1/256 ns, clamped to T − 40 ns (R234, R235); with a VIN of 0 the quotient is beyond the clamp. -/
def onTimeOf (x : ModIn) : Frac :=
  let most := (periodOf x.fc).sub ⟨Config.ns 40, 1⟩
  match x.vin with
  | none => ⟨0, 1⟩
  | some v =>
    if x.vo.num ≤ 0 then ⟨0, 1⟩
    else if v.num ≤ 0 then most
    else ((x.vo.div v).mul (periodOf x.fc)).min most

/-- S_e as a ramp-DAC word: 0.05 mV/µs or 0.5 mV/µs per LSB, clamped to its range (R234 to R236). -/
def rampWord (x : ModIn) (monitor : Bool) (g : Frac) (slope : W16) : Nat :=
  let m := fld slope 5 0
  let l := fld slope 15 6
  if l = 0 ∨ x.vin = none then 0 else
    let se := (((x.vo.mul g).mul ⟨100 * m, 32 * l * 1000000000⟩).mul ⟨8192, max 1 x.kvin⟩)
    let w := (se.mul (if monitor then ⟨2, 1⟩ else ⟨20, 1⟩)).roundUp
    (clampI 0 255 w).toNat

/-- V_pk in peak-DAC LSB, not yet rounded (R234, R237); `iph` in A. -/
def peakWord (x : ModIn) (monitor : Bool) (g z iph : Frac) (slope : W16) : Frac :=
  let l := fld slope 15 6
  let se := rampWord x monitor g slope
  let i := iph.add ((rippleOf x l).mul ⟨1, 2⟩)
  let ramp := (Frac.ofNats (se * (if monitor then 500 else 50)) 1).mul ((onTimeOf x).mul ⟨1, Config.us 1⟩)
  peakScale monitor ((z.add (g.mul i)).add ramp)

/-- The loop's peak words rounded together (R237): every phase its floor, and the R phases that come next in
the rotation one LSB more; each is then clamped to 10 bits. Also the new rotation pointer. -/
def roundTogether (rot : Nat) (xs : List Frac) : List Nat × Nat :=
  let n := xs.length
  if n = 0 then ([], rot) else
    let fl := xs.map Frac.floor
    let r := ((Frac.sum xs).roundUp - fl.foldl (· + ·) 0).toNat
    let words := (List.range n).map fun j =>
      let extra := if (j + n - rot % n) % n < r then 1 else 0
      (clampI 0 1023 (fl.getD j 0 + extra)).toNat
    (words, (rot % n + r) % n)

/-- The ratio of the STB's frequency to 100 kHz (R228). -/
def State.stbRatio (s : State) : Frac := ⟨1000000 + s.stb.dev + s.stb.pull, 1000000⟩

/-- The modulation inputs of LPn (R234, R235). -/
def State.modIn (s : State) (n : Fin 16) : ModIn :=
  let l := s.loop n
  let ff := s.lp n 0x18
  let nom := fld ff 15 8
  let en := bitAt (s.lp n 0x2A) 15
  { vo := (Frac.ofNats (100 * l.eng.veff.toNat) 1).div
      (let d := (s.pgL n 4 (0x10 + n.val)).toNat; if d = 0 then ⟨1, 1⟩ else ⟨d, 65536⟩)
    vin := match (if en then l.eng.vinLast else none) with
      | some v => some ⟨2000 * v.toNat, 1⟩
      | none => if nom = 0 then none else some ⟨500000 * nom, 1⟩
    fc := (Frac.ofNats l.mod.fc 1).mul s.stbRatio
    kvin := l.eng.kvin }

/-- Store the words of one phase: the peak word acts at once, S_e from the next turn-on (R238). -/
def setWords (peak ramp : Nat) (p : PhaseState) : PhaseState := { p with peak := peak, rampNext := ramp }

/-- Store a list of peak and ramp words. -/
def storeWords : List (Fin 64 × Nat × Nat) → State → State
  | [], s => s
  | (m, w, r) :: l, s => storeWords l (s.updPhase m (setWords w r))

/-- i_cmd of the last completed step in A (R203). -/
def State.iCmd (s : State) (n : Fin 16) : Frac :=
  let g := (s.loop n).eng
  Frac.mul ⟨g.accC, 2 ^ 27⟩ (Frac.pow2 (expsNib g.exps 3))

/-- The loop may not sink current: in the no-sink window (R284), and in RAMP_DOWN with SP_SRC.SOFT_OFF (R286). -/
def State.noSinking (s : State) (n : Fin 16) : Bool :=
  let p := (s.loop n).sp
  p.noSink || (decide (p.st = .rampDown) && bitAt (s.lp n 3) 7)

/-- LPn is bound to an ACP port (R307). -/
def State.acpBound (s : State) (n : Fin 16) : Bool := bitAt (s.lp n 0x2B) 0

/-- The hint marks the loop light (R315): E ≤ I_ADD. -/
def State.hintLight (s : State) (n : Fin 16) : Bool :=
  let e := (s.loop n).acp.hint
  s.acpBound n && decide (e ≠ 0) && decide (e ≤ 4 * fld (s.lp n 0x21) 9 0)

/-- CCM or DE for the coming turn-ons (R241, R284, R286, R315). -/
def State.deChoice (s : State) (n : Fin 16) : Bool :=
  let l := s.loop n
  (decide (l.sp.st = .regulate) && (bitAt (s.pg 3 (0x10 + n.val)) 8 || s.hintLight n) && decide (0 ≤ l.eng.accC)) ||
  s.noSinking n

/-- The peak-DAC update of LPn (R234 to R238, R241): every switching phase from the last i_cmd, and the choice of CCM or DE. -/
def peakUpdate (n : Fin 16) (s : State) : State :=
  let x := s.modIn n
  let sw := (s.loop n).mod.sw
  let iph := (s.iCmd n).mul ⟨1, max 1 sw.length⟩
  let xs := sw.map fun m => peakWord x (s.monitor n m) (s.gain n m) (s.zeroLevel n m) iph (s.ph n m 2)
  let r := roundTogether (s.loop n).mod.rot xs
  let ws := (sw.zip r.1).map fun p => (p.1, p.2, rampWord x (s.monitor n p.1) (s.gain n p.1) (s.ph n p.1 2))
  let de := s.deChoice n
  storeWords ws (s.updMod n fun m => { m with rot := r.2, de := de })

/-! ### Phase counts (R257, R258) -/

/-- N_lo and N_hi of LPn (R257). -/
def State.nLo (s : State) (n : Fin 16) : Nat := min (fld (s.lp n 0x1F) 6 0) (s.available n).length
def State.nHi (s : State) (n : Fin 16) : Nat := min (fld (s.lp n 0x20) 6 0) (s.available n).length

/-- The hinted count n_h of R315, while a hint is in force. -/
def State.hinted (s : State) (n : Fin 16) : Option Nat :=
  let e := (s.loop n).acp.hint
  if e = 0 ∨ s.acpBound n = false then none
  else
    let add := fld (s.lp n 0x21) 9 0
    some (min (s.nHi n) (max (s.nLo n) (if add = 0 then 64 else (e + 4 * add - 1) / (4 * add))))

/-- SHED_UP.AUTO, or a hint in force (R258, R315). -/
def State.autoShed (s : State) (n : Fin 16) : Bool := bitAt (s.lp n 0x21) 10 || (s.hinted n).isSome

/-- The phase of a list with the oldest zero reference; a tie goes to the higher phase number (R261, R271). -/
def State.oldestRef (s : State) : List (Fin 64) → Option (Fin 64)
  | [] => none
  | m :: r =>
    match s.oldestRef r with
    | none => some m
    | some k => if (s.phase m).refAt < (s.phase k).refAt then some m else some k

/-- Bring the shed list of LPn to its target count: phases return in ascending number (R259), and leave by
the oldest reference (R261). -/
def fitShed : Nat → Fin 16 → Nat → State → State
  | 0, _, _, s => s
  | fuel + 1, n, nt, s =>
    let av := s.available n
    let shed := (s.loop n).mod.shed.filter fun m => av.contains m
    let act := av.filter fun m => !shed.contains m
    if act.length < nt then
      match av.find? fun m => shed.contains m with
      | some m => fitShed fuel n nt (s.updMod n fun x => { x with shed := shed.filter fun k => decide (k ≠ m) })
      | none => s.updMod n fun x => { x with shed := shed }
    else if nt < act.length then
      match s.oldestRef act with
      | some m => fitShed fuel n nt
          ((s.updMod n fun x => { x with shed := shed ++ [m] }).updPhase m fun p => { p with shedAt := s.now, zeroAt := none })
      | none => s.updMod n fun x => { x with shed := shed }
    else s.updMod n fun x => { x with shed := shed }

/-- Set the target count of LPn, clamped to its fences (R258). -/
def setTarget (n : Fin 16) (nt : Nat) (s : State) : State :=
  let k := if s.autoShed n then clampN (s.nLo n) (s.nHi n) nt else s.nHi n
  let s := s.updMod n fun m => { m with ntAt := if m.nt = k then m.ntAt else s.now, nt := k }
  fitShed 64 n k s

/-- The phases of LPn that are to switch (R229, R240): available, not shed, not blanked, while the loop runs. -/
def State.wanted (s : State) (n : Fin 16) : List (Fin 64) :=
  let l := (s.loop n).mod
  if (s.st n).running && !(s.loop n).prt.latch then
    (s.available n).filter fun m => !l.shed.contains m && !(l.blankOn && decide (l.blank = some m))
  else []

/-! ### PWM pins of a loop -/

/-- The PWM of a phase stands at a level without a pulse. -/
def phaseStop (to_ : Pwm) (now : Nat) (p : PhaseState) : PhaseState :=
  { p with
    pwm := to_
    onAt := none
    endAt := none
    dueAt := none
    midSkips := 0
    newRank := false
    lastOff := if p.onAt.isSome then now else p.lastOff }

/-- Drive the PWM of a mapped phase to mid-level and end its pulse. -/
def phaseMid (s : State) (p : PhaseState) : PhaseState := phaseStop .mid s.now p

/-- No phase switches, and nothing that shedding or Whisk had begun goes on. -/
def noSwitching (m : LoopMod) : LoopMod :=
  { m with
    sw := []
    blank := none
    blankOn := false
    blankEnd := false
    blankLeft := 0
    swap := none
    dwellFrom := none
    shedWait := false }

/-- Stop every pulse of LPn: no phase switches, and every mapped phase is at mid-level (R240). -/
def stopPulses (n : Fin 16) (s : State) : State :=
  updPhases (phaseMid s) (s.mappedPhases n)
    (s.updMod n noSwitching)

/-- Hold every mapped phase of LPn low but those out of service: the crowbar (R226, R240, R351). -/
def crowbarPhases (n : Fin 16) (s : State) : State :=
  updPhases (phaseStop .low s.now) ((s.mappedPhases n).filter fun m => !s.outOfService n m) (s.updMod n noSwitching)

/-! ### The carrier (R228, R229) -/

/-- The carrier period of LPn in carrier units: the frequency in use times the ratio of the STB. -/
def State.carPeriod (s : State) (n : Fin 16) : Nat :=
  (((periodOf (Frac.ofNats (s.loop n).mod.fc 1)).div s.stbRatio).mul ⟨Config.carUnit, 1⟩).floor.toNat

/-- The carrier period of LPn in 1/256 ns. -/
def State.period (s : State) (n : Fin 16) : Nat := s.carPeriod n / Config.carUnit

/-- The loop angle θ_L × T in carrier units (R228). -/
def State.angle (s : State) (n : Fin 16) : Nat :=
  (fld (s.pg 3 (0x10 + n.val)) 7 0 + fld (s.pg 3 6) 7 0) % 256 * s.carPeriod n / 256

/-- The first moment of 1/256 ns at or after a point of the carrier. -/
def carCeil (x : Nat) : Nat := (x + Config.carUnit - 1) / Config.carUnit

/-- The carrier cycles of LPn counted from the last alignment instant (R228): the first that starts after now. -/
def carrierFrom (n : Fin 16) (s : State) : State :=
  let base := s.stb.alignAt * Config.carUnit
  let per := max 1 (s.carPeriod n)
  let car := base + (s.now * Config.carUnit - base + per - 1) / per * per
  s.updMod n fun m => { m with carAt := car, refDue := car + s.angle n }

/-- A loop whose next carrier cycle has not begun takes a new angle for it (R228). -/
def carrierAngle (n : Fin 16) (s : State) : State :=
  if s.kennel15 n = false ∧ s.now * Config.carUnit < (s.loop n).mod.carAt then
    s.updMod n fun m => { m with refDue := m.carAt + s.angle n }
  else s

/-- The rank of a phase in a switching set (R229). -/
def rankOf (m : Fin 64) (sw : List (Fin 64)) : Nat := (sw.filter fun k => decide (k.val < m.val)).length

/-- A point of the carrier placed on the 97.66 ps grid, which counts from the start of the sample grid: the first grid point at
or after it (DESIGN CHOICE, notes/assumptions/67.md). -/
def State.onEdgeGrid (s : State) (x : Nat) : Nat :=
  s.grid + (carCeil x - s.grid + Config.edgeGrid - 1) / Config.edgeGrid * Config.edgeGrid

/-- The turn-on of PHm that belongs to the reference instant at `ref` (R229); PH63 under the kennel law keeps its own cycle
(R253). -/
def State.turnOnFor (s : State) (n : Fin 16) (m : Fin 64) (ref : Nat) : Nat :=
  let l := (s.loop n).mod
  if s.kennel15 n then carCeil ref
  else s.onEdgeGrid (ref + rankOf m l.sw * s.carPeriod n / max 1 l.sw.length)

/-- The scheduled turn-on of PHm after the last reference instant (R229). -/
def State.turnOnAt (s : State) (n : Fin 16) (m : Fin 64) : Nat := s.turnOnFor n m (s.loop n).mod.refAt

/-- The next scheduled turn-on of PHm: in this carrier cycle, or in the one after when it has had this one. -/
def State.nextTurnOn (s : State) (n : Fin 16) (m : Fin 64) : Nat :=
  if (s.phase m).fired then s.turnOnFor n m (s.loop n).mod.refDue else s.turnOnAt n m

/-- The end of the minimum off-time of a phase (R239). -/
def PhaseState.offUntil (p : PhaseState) : Nat := if p.lastOff = 0 then 0 else p.lastOff + Config.ns 40

/-- When PHm turns on in this carrier cycle: as scheduled, and not within its minimum off-time (R229, R239). -/
def State.edgeAt (s : State) (n : Fin 16) (m : Fin 64) : Nat :=
  max (s.turnOnAt n m) (if (s.phase m).newRank then 0 else (s.phase m).offUntil)

/-! ### The pulse (R230, R232, R233, R238, R241, R242) -/

/-- t_blank (R232); 20 ns under the kennel law (R253). -/
def State.blankTime (s : State) (n : Fin 16) (m : Fin 64) : Nat :=
  Config.ns (20 + if s.kennel15 n then 0 else 10 * fld (s.ph n m 0) 8 6)

/-- The zero-cross threshold Z + G_s × ZC × 100 mA in µV (R241). -/
def State.zeroCross (s : State) (n : Fin 16) (m : Fin 64) : Frac :=
  (s.zeroLevel n m).add ((s.gain n m).mul ⟨fld (s.pg 3 (0x10 + n.val)) 15 12, 10⟩)

/-- The phase at the start of a cycle: the trip runs of R354 and R355 end at a cycle without a trip. -/
def cycleStart (p : PhaseState) : PhaseState :=
  { p with
    fired := true
    newRank := false
    ocpRun := if p.ocpTrip then p.ocpRun else 0
    ocpTrip := false
    negRun := if p.negTrip then p.negRun else 0
    negTrip := false }

/-- The predicted on-time is below 40 ns, and the sample a VALLEY sample (R142). A phase with no previous cycle has no
prediction; its sample is taken as VALLEY (DESIGN CHOICE, notes/assumptions/69.md). -/
def PhaseState.valley (p : PhaseState) : Bool :=
  match p.prevOn with | some d => decide (d < Config.ns 40) | none => true

/-- The sampling instant of the cycle that starts now (R142): the middle of the predicted on-time, or 10 ns before the next
turn-on. -/
def PhaseState.sampleDue (p : PhaseState) (now next : Nat) : Nat :=
  if p.valley then next - Config.ns 10 else now + p.prevOn.getD 0 / 2

/-- A turn-on (R232, R238, R241): PWM high, the ramp from 0, the choice of CCM or DE; `next` is the next scheduled turn-on, and
every `d`-th cycle has an ISC sample (R142). -/
def turnOn (now next d : Nat) (de : Bool) (p : PhaseState) : PhaseState :=
  let c := p.skipCyc + 1
  let due := decide (d ≤ p.decCnt + 1)
  { cycleStart p with
    pwm := .high
    onAt := some now
    lastOn := now
    ramp := p.rampNext
    de := de
    decCnt := if due then 0 else p.decCnt + 1
    dueAt := if due then some (p.sampleDue now next) else p.dueAt
    dueValley := if due then p.valley else p.dueValley
    midSkips := 0
    skip := p.skip && decide (c < 1024)
    skipCyc := c }

/-- A turn-on skipped in DE (R242); a skip from mid-level counts toward a zero reference (R266). -/
def turnSkip (p : PhaseState) : PhaseState :=
  { cycleStart p with
    pwm := .mid
    skip := true
    skipCyc := 0
    de := true
    midSkips := if p.pwm = .mid then p.midSkips + 1 else 0 }

/-- PHm belongs to the switching set of LPn. -/
def State.switching (s : State) (n : Fin 16) (m : Fin 64) : Bool := (s.loop n).mod.sw.contains m

/-- The OV comparator of LPn blocks its turn-ons (R350). -/
def State.ovBlocks (s : State) (n : Fin 16) : Bool := (s.loop n).prt.ov && decide (s.actionOf n 1 ≠ 0)

/-- The loop of a switching phase. -/
def State.swLoop (s : State) (m : Fin 64) : Option (Fin 16) := (s.loopOf m).filter fun n => s.switching n m

/-- A phase of LPn turns on now (R229, R350, R365). -/
def State.mayTurnOn (s : State) (n : Fin 16) (m : Fin 64) : Bool :=
  (s.power.vaux || s.kennel15 n) && s.power.killN && (s.st n).running && !s.ovBlocks n && !(s.phase m).fired &&
  ((s.phase m).onAt.isNone || (s.phase m).newRank) && decide (s.now = s.edgeAt n m)

/-- D of R142, as the phase's loop sees it. -/
def State.decimation (s : State) (m : Fin 64) : Nat :=
  2 ^ fld (match s.loopOf m with | some n => s.pgL n 5 (0x0C + m.val / 16) | none => s.pg 5 (0x0C + m.val / 16)) 1 0

/-- The turn-on of PHm in LPn. The first of a new ranking is skipped when it falls less than 40 ns after the phase's last
turn-off, a pulse that still runs included (R230); in DE it is skipped when the peak word does not exceed the zero-cross
threshold (R242); otherwise it is a pulse. -/
def phaseTurnOn (n : Fin 16) (m : Fin 64) (s : State) : State :=
  let p := s.phase m
  let de := (s.loop n).mod.de
  if p.newRank && (p.onAt.isSome || decide (s.now < p.offUntil)) then s.updPhase m cycleStart
  else if de && Frac.le ⟨p.peak, 1⟩ (peakScale (s.monitor n m) (s.zeroCross n m)) then s.updPhase m turnSkip
  else s.updPhase m (turnOn s.now (s.turnOnFor n m (s.loop n).mod.refDue) (s.decimation m) de)

/-- PHASE_TURN_ON (R229, R230, R232, R242). -/
def execPhaseTurnOn (t : Nat) (m : Fin 64) (s : State) : Ans :=
  gated t (fun s => match s.swLoop m with | some n => s.mayTurnOn n m | none => false)
    (fun s => match s.swLoop m with | some n => phaseTurnOn n m s | none => s) s

/-- A comparator trip: before the end of blanking the pulse ends at t_blank with MINON (R232). -/
def comparatorTrip (n : Fin 16) (m : Fin 64) (s : State) : State :=
  let e := (s.phase m).lastOn + s.blankTime n m
  if s.now < e then s.updPhase m fun p => { p with endAt := some e } else s.updPhase m (pulseEnd s.now false false)

/-- COMPARATOR_TRIP (R232). -/
def execComparatorTrip (t : Nat) (m : Fin 64) (s : State) : Ans :=
  gated t (fun s => (s.phase m).onAt.isSome && (s.swLoop m).isSome)
    (fun s => match s.swLoop m with | some n => comparatorTrip n m s | none => s) s

/-- PULSE_MAX_END (R233): 40 ns before the next scheduled turn-on; not under the kennel law (R253). -/
def execPulseMaxEnd (t : Nat) (m : Fin 64) (s : State) : Ans :=
  gated t (fun s => match s.swLoop m with
      | some n => (s.phase m).onAt.isSome && !s.kennel15 n && decide ((s.phase m).lastOn + s.blankTime n m ≤ s.now) &&
          decide (s.nextTurnOn n m ≤ s.now + Config.ns 40)
      | none => false)
    (fun s => s.updPhase m (pulseEnd s.now true false)) s

/-- ZERO_CROSS (R241): in DE, after 20 ns of the off-time. -/
def execZeroCross (t : Nat) (m : Fin 64) (s : State) : Ans :=
  gated t (fun s => let p := s.phase m
      (s.swLoop m).isSome && p.de && decide (p.pwm = .low) && decide (p.onAt = none) &&
      decide (p.lastOff + Config.ns 20 ≤ s.now))
    (fun s => s.updPhase m fun p => { p with pwm := .mid }) s

/-! ### Views -/

/-- PH_STAT.STATE of PHm (R240). -/
def State.phState (s : State) (m : Fin 64) : Nat :=
  match s.loopOf m with
  | none => 0
  | some n =>
    let l := s.loop n
    if s.outOfService n m then 7
    else if l.prt.latch then 6
    else if !l.sp.st.running then 1
    else if l.mod.blankOn && decide (l.mod.blank = some m) then 4
    else if l.mod.sw.contains m then (if (s.phase m).de then 3 else 2)
    else if l.mod.sw = [] ∧ l.mod.shed.contains m = false ∧ (s.phase m).removed = [] ∧ (s.phase m).back = false then 1
    else 5

/-- PHm.PH_STAT (R240); the peak word of a phase out of service is 0 (R226). -/
def State.phStat (s : State) (m : Fin 64) : W16 :=
  let p := s.phase m
  let peak := if s.phState m = 7 then 0 else p.peak % 1024
  w16 (s.phState m + bitVal p.maxOn 3 + bitVal p.minOn 4 + bitVal p.skip 5 + 64 * peak)

/-- LPn.FSW_ACT (R250). -/
def State.fswAct (s : State) (n : Fin 16) : W16 :=
  let m := (s.loop n).mod
  if m.sw = [] then 0 else if s.kennel15 n then w16 m.fc else w16 ((Frac.ofNats m.fc 1).mul s.stbRatio).roundUp.toNat

/-- LPn.NPH_ACT (R262). -/
def State.nphAct (s : State) (n : Fin 16) : W16 :=
  let m := (s.loop n).mod
  w16 (m.sw.length % 128 + 256 * ((s.available n).length % 128) + bitVal m.blankOn 15)

end Sys2Proof.Machine
end

