-- ==== Sys2Proof/Machine/Shedding.lean ====
section
/-! DEFINITION. Shedding, adaptation and Whisk (09_shedding_and_whisk.md): tugs, the phase count, adaptive
frequency, the current estimator, zero references and blanks, and the reference instant that puts a new set
of switching phases into force (08 R228, R230). -/

namespace Sys2Proof.Machine

open Sys2Proof

/-! ### Tugs (R256) -/

/-- Count a tug against fence `f`; the first of a loop after 1 s without a logged one logs TUG. -/
def tugCount (n : Fin 16) (f : Nat) (target : W16) (s : State) : State :=
  let s := s.updMod n fun m => { m with tugCnt := (m.tugCnt + 1) % 4096, tugFence := f }
  let quiet := match (s.loop n).mod.tugAt with | none => true | some t => decide (t + Config.ms 1000 ≤ s.now)
  if quiet then (s.updMod n fun m => { m with tugAt := some s.now }).event 0x1B (some n) target f else s

/-- An adaptation's unclamped target against fence `f` (1 NMIN, 2 NMAX, 3 f_lo, 4 f_hi): a tug is counted when
it passes from inside to beyond. The event's word holds the target modulo 65,536: the specification does not say what it
holds for a frequency target above 65.535 MHz, which the encoding cannot express (DESIGN CHOICE,
notes/assumptions/70.md). -/
def tug (n : Fin 16) (f : Nat) (beyond : Bool) (target : Nat) (s : State) : State :=
  let m := (s.loop n).mod
  let was := m.beyond.getD (f - 1) false
  let s := s.updMod n fun m => { m with beyond := m.beyond.set (f - 1) beyond }
  if beyond && !was then tugCount n f (w16 target) s else s

/-! ### Adding and shedding (R259, R261) -/

/-- I_ADD and I_SHED per phase in A (100 mA per LSB). -/
def State.iAdd (s : State) (n : Fin 16) : Frac := ⟨fld (s.lp n 0x21) 9 0, 10⟩
def State.iShed (s : State) (n : Fin 16) : Frac := ⟨fld (s.lp n 0x22) 9 0, 10⟩

/-- The dwell of R261. -/
def State.dwell (s : State) (n : Fin 16) : Nat := Config.us (50 * 2 ^ fld (s.lp n 0x22) 12 10)

/-- The excursion level VEX in 100 µV; 0 off (R259). -/
def State.vex (s : State) (n : Fin 16) : Nat := 20 * fld (s.lp n 0x21) 15 12

/-- The step's error reaches VEX (R259, R264). -/
def State.excursion (s : State) (n : Fin 16) (e : Frac) : Bool :=
  decide (0 < s.vex n) && Frac.le ⟨s.vex n, 1⟩ e

/-- N_sw of R261: the switching phases, a blanked one counted (R273). -/
def State.nSw (s : State) (n : Fin 16) : Nat :=
  let m := (s.loop n).mod
  m.sw.length + (if m.blankOn then 1 else 0)

/-- Adding at a step (R259): an excursion asks for N_hi, a high command for ceil(i_cmd / I_ADD). An add during a
blank ends it with its reference discarded (R273). -/
def addPhases (n : Fin 16) (e : Frac) (s : State) : State :=
  let i := s.iCmd n
  let p := i.mul ⟨1, max 1 (s.loop n).mod.sw.length⟩
  let want : Option Nat :=
    if s.excursion n e then some (s.nHi n)
    else if (s.iAdd n).lt p then
      some (if (s.iAdd n).num = 0 then 64 else (i.div (s.iAdd n)).ceil.toNat)
    else none
  match want with
  | none => tug n 2 false 0 s
  | some k =>
    let s := tug n 2 (decide (fld (s.lp n 0x20) 6 0 < k)) k s
    let nt := max (clampN (s.nLo n) (s.nHi n) k) (s.loop n).mod.nt
    if (s.loop n).mod.nt < nt then
      setTarget n nt (s.updMod n fun m => { m with blankEnd := m.blankOn, shedWait := false })
    else s

/-- The condition of a shed at one step (R261): i_cmd / (N_sw − 1) ≤ I_SHED with a phase to spare. -/
def State.lowLoad (s : State) (n : Fin 16) : Bool :=
  decide (1 < s.nSw n) && ((s.iCmd n).mul ⟨1, s.nSw n - 1⟩).le (s.iShed n)

/-- The load has been low for a dwell, one of which has passed since the last change of N_t (R261). -/
def State.dwellDone (s : State) (n : Fin 16) : Bool :=
  let m := (s.loop n).mod
  (match m.dwellFrom with | some t => decide (t + s.dwell n ≤ s.now) | none => false) && decide (m.ntAt + s.dwell n ≤ s.now)

/-- One phase fewer (R261), though never fewer than a hint asks for (R315); in a blank the shed waits for its end (R273). -/
def shedOne (n : Fin 16) (s : State) : State :=
  if (s.loop n).mod.blankOn then s.updMod n fun m => { m with shedWait := true, dwellFrom := none }
  else setTarget n (max ((s.loop n).mod.nt - 1) ((s.hinted n).getD 0)) (s.updMod n fun m => { m with dwellFrom := none })

/-- Shedding at a step (R261): the dwell runs while the load is low; at its end one phase is shed, unless the target would fall
below NMIN, which is a tug, or below a hint's count. -/
def shedPhase (n : Fin 16) (s : State) : State :=
  if s.lowLoad n then
    let s := if (s.loop n).mod.dwellFrom.isNone then s.updMod n fun m => { m with dwellFrom := some s.now } else s
    let below := s.dwellDone n && decide (s.nSw n - 1 < fld (s.lp n 0x1F) 6 0)
    let s := tug n 1 below (s.nSw n - 1) s
    if s.dwellDone n && decide (s.nLo n < s.nSw n) && decide ((s.hinted n).getD 0 < s.nSw n) then shedOne n s else s
  else tug n 1 false 0 (s.updMod n fun m => { m with dwellFrom := none })

/-- The phase count at one step (R258 to R261). -/
def adaptPhases (n : Fin 16) (e : Frac) (s : State) : State :=
  if s.autoShed n then
    let s := addPhases n e s
    if s.st n = .regulate then shedPhase n s else s.updMod n fun m => { m with dwellFrom := none }
  else s

/-! ### Adaptive frequency (R263, R264) -/

/-- f_lo and f_hi in kHz (R263). -/
def State.fLo (s : State) (n : Fin 16) : Nat :=
  let f := fld (s.lp n 0x1F) 15 8
  if f = 0 then (s.lp n 0x1D).toNat else 10 * f
def State.fHi (s : State) (n : Fin 16) : Nat :=
  let f := fld (s.lp n 0x20) 15 8
  if f = 0 then (s.lp n 0x1D).toNat else 10 * f

/-- SHED_UP.AFS (R264). -/
def State.afs (s : State) (n : Fin 16) : Bool := bitAt (s.lp n 0x21) 11

/-- Take one step into the 1 ms mean of R264. -/
def noteLoad (n : Fin 16) (e : Frac) (s : State) : State :=
  let p := ((s.iCmd n).mul ⟨1, max 1 (s.loop n).mod.sw.length⟩).max ⟨0, 1⟩
  let v := s.excursion n e
  s.updMod n fun m => { m with sumP := m.sumP.add p, cntP := m.cntP + 1, vexSeen := m.vexSeen || v }

/-- The unclamped frequency target of R264 in kHz. -/
def State.fNat (s : State) (n : Fin 16) : Nat :=
  let m := (s.loop n).mod
  if m.vexSeen then s.fHi n else
    let p := m.sumP.mul ⟨1, max 1 m.cntP⟩
    let i := s.iAdd n
    if i.num = 0 then s.fHi n else
      ((Frac.ofNats (s.lp n 0x1D).toNat 2).mul (Frac.add ⟨1, 1⟩ (p.div i))).roundUp.toNat

/-- The adaptive move at an alignment instant (R264). -/
def adaptFreq (n : Fin 16) (s : State) : State :=
  let m := (s.loop n).mod
  let clear (s : State) := s.updMod n fun m => { m with sumP := ⟨0, 1⟩, cntP := 0, vexSeen := false }
  if s.afs n && decide (s.st n = .regulate) && (decide (0 < m.cntP) || m.vexSeen) then
    let f := s.fNat n
    let s := tug n 3 (decide (f < s.fLo n)) f s
    let s := tug n 4 (decide (s.fHi n < f)) f s
    let g := clampN (s.fLo n) (s.fHi n) f
    let far := decide (m.fc + 20 ≤ g) || decide (g + 20 ≤ m.fc)
    let edge := (decide (g = s.fLo n) || decide (g = s.fHi n)) && decide (g ≠ m.fc)
    clear (if far || edge then s.updMod n fun m => { m with fc := g } else s)
  else clear s

/-- One loop at an alignment instant (R228, R231): the carrier begins a cycle, and decided changes act. The kennel law keeps
its own cycle (R253). -/
def alignLoop (n : Fin 16) (s : State) : State :=
  if s.kennel15 n then s
  else
    let s := match (s.loop n).mod.fcNext with
      | some f => s.updMod n fun m => { m with fc := f, fcNext := none }
      | none => s
    let s := adaptFreq n s
    let car := s.stb.alignAt * Config.carUnit
    s.updMod n fun m => { m with carAt := car, refDue := car + s.angle n }

/-! ### The estimator (R265 to R269) -/

/-- An ISC code of PHm held to the converted range, as V_cs in µV: ±75 mV in ±8,192 LSB, or 0 V to 1.6 V in 16,384 LSB
(R138, R139). -/
def senseCode (monitor : Bool) (code : Int) : Frac :=
  if monitor then ⟨clampI 0 16384 code * 1600000, 16384⟩ else ⟨clampI (-8192) 8192 code * 75000, 8192⟩

/-- The predicted ripple about the average at a time after turn-on, in A (R265). -/
def rippleAt (di tOn period x : Frac) : Frac :=
  let half := di.mul ⟨1, 2⟩
  if x.le tOn then
    if tOn.num ≤ 0 then half.neg else (di.mul (x.div tOn)).sub half
  else
    let off := period.sub tOn
    if off.num ≤ 0 then half.neg else (half.sub (di.mul ((x.sub tOn).div off))).max half.neg

/-- The offset O_k in µV. -/
def State.offset (s : State) (m : Fin 64) : Frac := ⟨(s.phase m).ofs, 8192⟩

/-- i_k in 2 mA (R265). -/
def State.estimate (s : State) (n : Fin 16) (m : Fin 64) (code : Int) (valley : Bool) : Frac :=
  let x := s.modIn n
  let g := s.gain n m
  let v := ((senseCode (s.monitor n m) code).sub (s.zeroLevel n m)).sub (s.offset m)
  let i := if g.num ≤ 0 then ⟨0, 1⟩ else v.div g
  let di := rippleOf x (fld (s.ph n m 2) 15 6)
  let w := if fld (s.ph n m 2) 15 6 = 0 then ⟨0, 1⟩
    else if valley then (di.mul ⟨1, 2⟩).neg
    else rippleAt di (onTimeOf x) (periodOf x.fc) ⟨s.now - (s.phase m).lastOn, 1⟩
  (i.sub w).mul ⟨500, 1⟩

/-- LPn.IOUT from the latest samples of the switching phases (R267). -/
def State.sumPhases (s : State) (n : Fin 16) : W16 :=
  satS16 (roundEven (2 * ((s.loop n).mod.sw.map fun m => (s.phase m).iAmp).foldl (· + ·) 0) 25)

/-- PHn.PH_I (R265): the latest estimate, 0 while the phase does not switch. -/
def State.phCurrent (s : State) (m : Fin 64) : W16 := if (s.swLoop m).isSome then (s.phase m).phI else 0

/-- One ISC sample of a switching phase (R142, R265). -/
def iscSample (n : Fin 16) (m : Fin 64) (code : Int) (s : State) : State :=
  let i := (s.estimate n m code (s.phase m).dueValley).roundEven
  s.updPhase m fun p => { p with
    phI := satS16 i
    iAmp := (satS16 i).toInt
    dueAt := none }

/-- The sample of PHm comes before that of PHk on their ISC: the earlier request, then the lower phase (R142). -/
def State.iscBefore (s : State) (m k : Fin 64) : Bool :=
  match (s.phase m).dueAt, (s.phase k).dueAt with
  | some a, some b => decide (a < b) || (decide (a = b) && decide (m.val ≤ k.val))
  | _, none => true
  | none, some _ => false

/-- The conversion of PHm's due sample starts now (R142): no request of its ISC comes before it, and it takes the first start
25 ns after the one before. Starts need not lie on a common grid (DESIGN CHOICE, notes/assumptions/71.md). -/
def State.iscStarts (s : State) (m : Fin 64) : Bool :=
  s.booted &&
  match (s.phase m).dueAt with
  | some a =>
    let free := match s.isc[iscOf m].startAt with | some b => b + Config.ns 25 | none => 0
    decide (max a free ≤ s.now) && decide (s.now < max a free + Config.ns 25) &&
    allPhases.all fun k => decide (iscOf k ≠ iscOf m) || s.iscBefore m k
  | none => false

/-- ISC_SAMPLE (R142, R265): once every D switching cycles, at its instant or as soon as its converter is free. -/
def execIscSample (t : Nat) (m : Fin 64) (code : Int) (s : State) : Ans :=
  gated t (fun s => (s.swLoop m).isSome && s.iscStarts m)
    (fun s => match s.swLoop m with
      | some n =>
        let c := s.isc[iscOf m]
        iscSample n m code { s with isc := s.isc.set (iscOf m) { c with startAt := some s.now } }
      | none => s) s

/-- The age of the oldest reference among the switching phases, in 10 ms (R268). -/
def State.estAge (s : State) (n : Fin 16) : Nat :=
  match s.oldestRef (s.loop n).mod.sw with
  | some m => min 65535 ((s.now - (s.phase m).refAt) / Config.ms 10)
  | none => 0

/-- EST_AGE exceeds DEV.EST_STALE_TIME (R269). -/
def State.estOld (s : State) (n : Fin 16) : Bool :=
  let w := s.pg 0 0x24
  decide (twCount w ≠ 0) && decide (twDur w < Config.ms 10 * s.estAge n)

/-- EST_STALE of LPn is flagged (R269): from its event until EST_AGE is no longer above the time. -/
def State.stale (s : State) (n : Fin 16) : Bool := (s.loop n).mod.estStale && s.estOld n

/-- EST_STALE (R269): the start of the flag, or its start anew after it had ended. -/
def execEstStale (t : Nat) (n : Fin 16) (s : State) : Ans :=
  gated t (fun s => s.up && s.estOld n && !(s.loop n).mod.estStale)
    (fun s => (s.updMod n fun m => { m with estStale := true }).event 0x11 (some n) (w16 (s.estAge n)) 0) s

/-- The flag has ended (R269). -/
def staleEnd (n : Fin 16) (s : State) : State :=
  if (s.loop n).mod.estStale && !s.estOld n then s.updMod n fun m => { m with estStale := false } else s

/-- Four mid-level samples (R266): the mean less Z is taken as O_k when it lies within 30 mV (monitor) or
3 mV (DCR); a rejected reference changes nothing. -/
def zeroReference (n : Fin 16) (m : Fin 64) (codes : List Int) (s : State) : State :=
  let mon := s.monitor n m
  let sum := (Frac.sum (codes.map (senseCode mon))).mul ⟨1, 4⟩
  let lim : Int := if mon then 30000 else 3000
  let v := sum.sub (s.zeroLevel n m)
  if Frac.le ⟨-lim, 1⟩ v && v.le ⟨lim, 1⟩ then
    staleEnd n (s.updPhase m fun p => { p with ofs := (v.mul ⟨8192, 1⟩).floor, refAt := s.now })
  else s

/-- The last of four samples of a shed phase is taken now (R266): those of the 5th to 8th would-be sampling instants, and again
every 1 s. -/
def State.shedSource (s : State) (n : Fin 16) (m : Fin 64) : Bool :=
  let p := s.phase m
  let l := s.loop n
  let d := s.decimation m * s.period n
  l.sp.st.running && l.mod.shed.contains m && !l.mod.sw.contains m &&
  match p.zeroAt with
  | none => (decide (p.shedAt + 7 * d < s.now) && decide (s.now ≤ p.shedAt + 8 * d)) || decide (p.shedAt + Config.ms 1000 ≤ s.now)
  | some a => decide (a + Config.ms 1000 ≤ s.now)

/-- The fourth sample of a zero reference of PHm outside a Whisk blank is taken now (R226, R266): its PWM is at mid-level in the
last 10 µs of DELAY_ON's first 50 µs, while it is shed, or over four cycles skipped in DE. A skipped cycle counts when the
phase stood at mid-level before it (DESIGN CHOICE, notes/assumptions/72.md). -/
def State.zeroSource (s : State) (n : Fin 16) (m : Fin 64) : Bool :=
  let p := s.phase m
  let l := s.loop n
  decide (p.pwm = .mid) && !s.outOfService n m && s.booted &&
    ((decide (l.sp.st = .delayOn) && decide (l.sp.since + Config.ns 47500 < s.now) && decide (s.now ≤ l.sp.since + Config.us 50)) ||
     s.shedSource n m ||
     (l.mod.sw.contains m && p.de && decide (4 ≤ p.midSkips)))

/-- ZERO_REFERENCE (R266): the next one of the phase needs samples of its own. -/
def execZeroReference (t : Nat) (m : Fin 64) (c0 c1 c2 c3 : Int) (s : State) : Ans :=
  gated t (fun s => match s.loopOf m with | some n => s.zeroSource n m | none => false)
    (fun s => match s.loopOf m with
      | some n => zeroReference n m [c0, c1, c2, c3] (s.updPhase m fun p => { p with midSkips := 0, zeroAt := some s.now })
      | none => s) s

/-! ### Whisk (R270 to R273) -/

/-- The oldest reference time among the switching phases. -/
def State.oldestTime (s : State) (n : Fin 16) : Nat :=
  match s.oldestRef (s.loop n).mod.sw with | some m => (s.phase m).refAt | none => 0

/-- The shed phase with the newest reference that is newer than the oldest of the switching ones (R270). -/
def State.swapIn (s : State) (n : Fin 16) : Option (Fin 64) :=
  let av := s.available n
  ((s.loop n).mod.shed.filter fun m => av.contains m && decide (s.oldestTime n < (s.phase m).refAt)).foldl
    (fun b m => match b with
      | none => some m
      | some k => if (s.phase k).refAt < (s.phase m).refAt then some m else some k) none

/-- A turn is permitted (R270). -/
def State.turnPermitted (s : State) (n : Fin 16) : Bool :=
  let w := s.lp n 0x23
  let m := (s.loop n).mod
  bitAt w 0 && decide (3 ≤ m.sw.length) && decide (m.blank = none) && !m.blankOn &&
  (decide (fld w 15 8 = 0) || decide (m.iout.toInt.natAbs ≤ 80 * fld w 15 8))

/-- A Whisk turn (R270): a swap, a blank, or nothing. -/
def whiskTurn (n : Fin 16) (s : State) : State :=
  let s := s.updMod n fun m => { m with turnAt := s.now }
  if s.turnPermitted n then
    match s.oldestRef (s.loop n).mod.sw with
    | none => s
    | some out =>
      match s.swapIn n with
      | some i => s.updMod n fun m => { m with swap := some (out, i) }
      | none =>
        if fld (s.lp n 0x1F) 6 0 ≤ (s.loop n).mod.sw.length - 1 then
          s.updMod n fun m => { m with
            blank := some out
            blankOn := false
            blankEnd := false
            blankLeft := 4 * 2 ^ fld (s.lp n 0x23) 2 1 }
        else s
  else s

/-- WHISK_TURN (R270): every GAP ms in REGULATE. -/
def execWhiskTurn (t : Nat) (n : Fin 16) (s : State) : Ans :=
  gated t (fun s => decide (s.st n = .regulate) &&
      decide ((s.loop n).mod.turnAt + Config.ms (fld (s.lp n 0x23) 7 3) ≤ s.now))
    (whiskTurn n) s

/-! ### Reference instants (R228, R230, R260) -/

/-- A swap at its instant (R272): it acts while the leaving phase switches and the entering one is shed and available. -/
def whiskSwap (n : Fin 16) (out i : Fin 64) (s : State) : State :=
  let m := (s.loop n).mod
  let s := s.updMod n fun m => { m with swap := none }
  if m.sw.contains out && m.shed.contains i && !m.shed.contains out && (s.available n).contains i && decide (s.st n = .regulate) then
    (s.updMod n fun m => { m with shed := (m.shed.filter fun k => decide (k ≠ i)) ++ [out] }).updPhase out fun p =>
      { p with shedAt := s.now, zeroAt := none }
  else s

/-- The blank is over. -/
def blankOver (m : LoopMod) : LoopMod := { m with blank := none, blankOn := false, blankEnd := false, blankLeft := 0 }

/-- A shed that waited for the end of a blank takes place (R273). -/
def shedAfter (n : Fin 16) (s : State) : State :=
  if (s.loop n).mod.shedWait then
    let s := s.updMod n fun m => { m with shedWait := false }
    if s.st n = .regulate ∧ s.nLo n < s.nSw n then shedOne n s else s
  else s

/-- Whisk at a reference instant: a chosen blank starts, a running one counts a carrier period, a swap acts, and a blank that
must end early ends with its reference discarded, unless this is the last of its periods and the reference is complete
(R271 to R273). -/
def whiskInstant (n : Fin 16) (s : State) : State :=
  let s := match (s.loop n).mod.swap with | some (out, i) => whiskSwap n out i s | none => s
  let m := (s.loop n).mod
  if m.blankOn then
    if m.blankEnd || (decide (s.st n ≠ .regulate) && decide (1 < m.blankLeft)) then shedAfter n (s.updMod n blankOver)
    else s.updMod n fun m => { m with blankLeft := m.blankLeft - 1 }
  else
    match m.blank with
    | some b =>
      if s.st n = .regulate ∧ m.sw.contains b then s.updMod n fun m => { m with blankOn := true }
      else s.updMod n fun m => { m with blank := none }
    | none => s

/-- A phase that joins the switching set: its PWM is low until its first pulse in CCM, and stays at mid-level in DE (R240,
R241). -/
def joinPhase (de : Bool) (p : PhaseState) : PhaseState := { p with pwm := if de then .mid else .low, fired := false, de := de }

/-- A new switching set comes into force (R230, R260): phases that leave go to mid-level, phases that join start their cycle,
every phase's first turn-on is one of a new ranking, and the peak words are computed again. -/
def newRanking (n : Fin 16) (new : List (Fin 64)) (s : State) : State :=
  let old := (s.loop n).mod.sw
  let s := peakUpdate n (s.updMod n fun m => { m with sw := new })
  let de := (s.loop n).mod.de
  let s := updPhases (phaseMid s) (old.filter fun m => !new.contains m) s
  let s := updPhases (joinPhase de) (new.filter fun m => !old.contains m) s
  updPhases (fun p => { p with newRank := true }) new s

/-- Put a load hint of LPn in force (R315): E > 0 sets the hinted count; E = 0 returns to the configured count. -/
def takeHint (n : Fin 16) (e : Nat) (s : State) : State :=
  let s := s.updAcp n fun a => { a with hint := e, hintPend := none }
  match s.hinted n with
  | some k => setTarget n k s
  | none => setTarget n (s.loop n).mod.nt s

/-- A hint that waits for the reference instant acts at it, once the loop runs (R315): an entry to RAMP_UP does not undo it. -/
def hintInstant (n : Fin 16) (s : State) : State :=
  match (s.loop n).acp.hintPend with | some e => if (s.st n).running then takeHint n e s else s | none => s

/-- n_h after a commit that may have changed N_lo, N_hi or I_ADD (R315). -/
def refitHint (n : Fin 16) (s : State) : State :=
  setTarget n (max (s.loop n).mod.nt ((s.hinted n).getD 0)) s

/-- SYNC_OUT in mode 2 (R249): high for half a period from each reference instant of its loop. -/
def syncPulse (n : Fin 16) (s : State) : State :=
  let w := s.pg 3 5
  if fld w 1 0 = 2 ∧ fld w 5 2 = n.val then
    { s with stb := { s.stb with outUntil := some (carCeil (s.loop n).mod.refAt + s.period n / 2) } }
  else s

/-- The phases that protection has returned are available again: they stand among the shed ones, and are added under R259
(R357). -/
def phasesBack (n : Fin 16) (s : State) : State :=
  let l := (s.mappedPhases n).filter fun m => (s.phase m).back
  if l = [] then s
  else
    let s := updPhases (fun p => { p with back := false, shedAt := s.now }) l s
    let s := s.updMod n fun x => { x with shed := (x.shed.filter fun j => !l.contains j) ++ l }
    if (s.st n).running then setTarget n (s.loop n).mod.nt s else s

/-- A reference instant (R228, R230, R260): the next carrier cycle follows, a decided set of switching phases takes effect with
its peak words, and every switching phase may turn on once in the cycle. -/
def referenceInstant (n : Fin 16) (s : State) : State :=
  let s := s.updMod n fun m =>
    let next := m.carAt + s.carPeriod n
    { m with refAt := m.refDue, carAt := next, refDue := next + s.angle n }
  let s := syncPulse n s
  let s := whiskInstant n (hintInstant n (phasesBack n s))
  let new := s.wanted n
  let s := updPhases (fun p => { p with fired := false }) new s
  if (s.loop n).mod.sw = new then s else newRanking n new s

/-- The start of a 5 µs carrier cycle of PH63 under the kennel law (R27: 200 kHz). -/
def kennelInstant (n : Fin 16) (s : State) : State :=
  let s := s.updMod n fun m => { m with refAt := m.refDue, refDue := m.refDue + Config.us 5 * Config.carUnit }
  updPhases (fun p => { p with fired := false }) [63] s

/-- REFERENCE_INSTANT (R228, R230, R234, R249, R260): of a loop that runs or not, its carrier goes on. -/
def execReferenceInstant (t : Nat) (n : Fin 16) (s : State) : Ans :=
  gated t (fun s => (s.up || s.kennel15 n) && decide (0 < (s.loop n).mod.fc) && decide (carCeil (s.loop n).mod.refDue ≤ s.now))
    (fun s => if s.kennel15 n then kennelInstant n s else referenceInstant n s) s

/-- The end of a blank (R271, R273): the phase returns to the switching set, its reference is taken, and a shed that waited
takes place, in the same change of the set. -/
def whiskBlankEnd (n : Fin 16) (codes : List Int) (s : State) : State :=
  match (s.loop n).mod.blank with
  | some m =>
    let s := zeroReference n m codes (s.updMod n blankOver)
    let s := shedAfter n s
    newRanking n (s.wanted n) s
  | none => s

/-- WHISK_BLANK_END (R271): B carrier periods after its start, at a reference instant. -/
def execWhiskBlankEnd (t : Nat) (n : Fin 16) (c0 c1 c2 c3 : Int) (s : State) : Ans :=
  gated t (fun s => let m := (s.loop n).mod
      m.blankOn && decide (m.blankLeft = 0) && (s.st n).running)
    (whiskBlankEnd n [c0, c1, c2, c3]) s

/-- LPn.TUG_CNT (R256). -/
def State.tugWord (s : State) (n : Fin 16) : W16 :=
  w16 ((s.loop n).mod.tugCnt + 4096 * (s.loop n).mod.tugFence)

end Sys2Proof.Machine
end

