-- ==== Sys2Proof/Machine/Loops.lean ====
section
/-! DEFINITION. Loop states, set-points, ramps and heel tracking (10_setpoints_ramps_heel.md): the entries to
the states, the target, the exact reference, and what holds a loop off. -/

namespace Sys2Proof.Machine

open Sys2Proof

/-! ### Enable (R275) -/

/-- LPn answers to its enable: not LP15 under self-bias, which starts and runs as R27 to R40 define (R37, R277). -/
def State.ownStart (s : State) (n : Fin 16) : Bool := !(s.selfBias && decide (n.val = 15))

/-- The effective enable of LPn; a self-biased LP15 needs none (R37, R40). -/
def State.enabled (s : State) (n : Fin 16) : Bool :=
  !s.ownStart n || (bitAt s.win.loopOn n.val && (s.loop n).sp.enPin)

/-- The enable a running loop follows: a LINKLOSS OFF acts as a falling enable (R322), on LPs that answer to one. -/
def State.runEnabled (s : State) (n : Fin 16) : Bool := s.enabled n && !(s.ownStart n && (s.loop n).acp.lossOff)

/-! ### Input voltage (R360) -/

/-- VIN of LPn in 2 mV, when it is present. -/
def State.vinOf (s : State) (n : Fin 16) : Option W16 :=
  let w := s.lp n 0x2A
  if !bitAt w 15 then none else
  let src := fld w 4 0
  match fld w 6 5 with
  | 0 =>
    if h : src < 32 then
      let r := s.svc.slots[src]
      if r.mark = .good ∧ s.now ≤ r.at_ + Config.ms 100 then some r.value else none
    else none
  | 1 =>
    if h : src < 16 then
      let k : Fin 16 := ⟨src, h⟩
      if s.st k = .off then some 0 else
        let d := (s.pgL k 4 (0x10 + src)).toNat
        let v := (s.loop k).sense.vout.toNat
        some (satU16 (if d = 0 then roundUp v 20 else roundUp (v * 65536) (20 * d)))
    else none
  | _ =>
    if h : src < 2 then
      (if s.prot.fastMark[src] = .good then some s.prot.fastVal[src] else none)
    else none

/-! ### What holds a loop off (R349) -/

/-- The VIN_UV condition of LPn is present (R361). -/
def State.vinUvNow (s : State) (n : Fin 16) : Bool :=
  let w := s.lp n 0x2A
  bitAt w 15 && decide (s.pg 2 (0x0E + 3 * fld w 8 7) ≠ 0) && (s.loop n).prt.vinUv

/-- The VIN_OV condition of LPn is present (R361). -/
def State.vinOvNow (s : State) (n : Fin 16) : Bool :=
  let w := s.lp n 0x2A
  bitAt w 15 && decide (s.pg 2 (0x0F + 3 * fld w 8 7) ≠ 0) && (s.loop n).prt.vinOv

/-- The target range of OT entry `k` contains PHm (R358). -/
def State.otTargets (s : State) (k : Fin 6) (m : Fin 64) : Bool :=
  let w := s.pg 2 (0x1C + 3 * k.val)
  decide (fld w 5 0 ≤ m.val) && decide (m.val < fld w 5 0 + fld w 12 6)

/-- An OT condition holds LPn off (R349). -/
def State.otHolds (s : State) (n : Fin 16) : Bool :=
  let a := s.actionOf n 6
  (decide (a = 3) || decide (a = 4)) &&
  (List.finRange 6).any fun k => s.prot.ot[k].cond && (s.mappedPhases n).any fun m => s.otTargets k m

/-- LPn is held off by protection (R349) or by last gasp. -/
def State.heldOff (s : State) (n : Fin 16) : Bool :=
  decide (s.power.g = .killed) ||
  (decide (s.power.g ≠ .gasp) && (s.vinUvNow n || s.vinOvNow n)) ||
  s.otHolds n || ((s.loop n).prt.finHold && !bitAt (s.pg 2 1) 0) || (s.loop n).prt.gaspHold || (s.ownStart n && (s.loop n).acp.lossOff) || decide (s.available n = [])

/-! ### Heel masters (R288, R289) -/

/-- LPn takes its target from HEEL. -/
def State.isHeel (s : State) (n : Fin 16) : Bool := decide (fld (s.lp n 3) 2 0 = 4)

/-- What a follower knows of its master: value m, state code, and whether it is lost. -/
structure Master where
  m : W16
  st : Nat
  lost : Bool
  deriving DecidableEq, Repr

/-- The master of LPn (R288). A survey slot has no loop state; it stands as REGULATE. -/
def State.master (s : State) (n : Fin 16) : Master :=
  let w := s.lp n 0x0A
  let src := fld w 6 2
  match fld w 1 0 with
  | 0 =>
    if h : src < 16 then
      let k : Fin 16 := ⟨src, h⟩
      let l := s.loop k
      { m := if l.sp.st.running then l.eng.prevVref else 0
        st := l.sp.st.code
        lost := decide (7 ≤ l.sp.st.code) }
    else ⟨0, 0, true⟩
  | 1 =>
    if h : src < 32 then
      let r := s.svc.slots[src]
      ⟨r.value, 3, !(decide (r.mark = .good) && decide (s.now ≤ r.at_ + Config.ms 10))⟩
    else ⟨0, 3, true⟩
  | _ =>
    let pos := fld w 9 7
    if h : 16 * pos + src < 128 then
      let p := s.peers.vals[16 * pos + src]
      let fresh := match p.at_ with | some t => decide (s.now < t + Config.us 200) | none => false
      ⟨p.vref, p.st, !fresh || decide (7 ≤ p.st) || !s.peers.pos[pos % 8].present⟩
    else ⟨0, 0, true⟩

/-- The master is engaged (R289). -/
def State.masterEngaged (s : State) (n : Fin 16) : Bool :=
  let m := s.master n
  !m.lost && (decide (fld (s.lp n 0x0A) 1 0 = 1) || decide (m.st ≠ 0))

/-- The follower's value c in a state, clamped (R289), in 100 µV. -/
def State.heelValueIn (s : State) (n : Fin 16) (st : LoopSt) : Frac :=
  let k := s.lp n 0x0B
  let m := (s.master n).m.toNat
  let c : Frac := if bitAt (s.lp n 0x0A) 10 then Frac.ofNats (m * k.toNat) 16384 else ⟨m + k.toInt, 1⟩
  let lo : Frac := if st = .rampUp ∨ st = .rampDown then ⟨0, 1⟩ else ⟨(s.lp n 2).toNat, 1⟩
  (c.max lo).min ⟨(s.lp n 1).toNat, 1⟩

/-- The follower's value c (R289). -/
def State.heelValue (s : State) (n : Fin 16) : Frac := s.heelValueIn n (s.st n)

/-- LPn follows a master: its law is the configured one, and its target comes from HEEL (R279, R289). -/
def State.follows (s : State) (n : Fin 16) : Bool := s.isHeel n && !s.kennel15 n

/-- The follower tracks its master now (R289, R290, R292). -/
def State.tracking (s : State) (n : Fin 16) : Bool :=
  let p := (s.loop n).sp
  s.follows n && !p.released && !p.heelLost && !p.holding

/-- LOSS of HEEL_CFG (R292): 0 HOLD, 1 DOWN, 2 OWN. -/
def State.heelLossCode (s : State) (n : Fin 16) : Nat := fld (s.lp n 0x0A) 13 12

/-- A follower that goes its own way to VSET: released (R290), or in a master loss under OWN (R292). -/
def State.ownWay (s : State) (n : Fin 16) : Bool :=
  let p := (s.loop n).sp
  p.released || ((p.heelLost || p.holding) && decide (s.heelLossCode n = 2))

/-! ### Targets (R279, R312) -/

/-- The target g of LPn as its source gives it (R279). -/
def State.sourceTarget (s : State) (n : Fin 16) : W16 :=
  match fld (s.lp n 3) 2 0 with
  | 1 => (s.loop n).acp.target
  | 2 => ((s.loop n).sp.spVal).getD (s.lp n 2)
  | 3 => ((s.loop n).sp.spVal).getD (s.lp n 2)
  | _ => s.lp n 0

/-- The target g of LPn: in REGULATE and TRANSITION it is clamped to VMIN to VMAX (R279). -/
def State.targetOf (s : State) (n : Fin 16) : W16 :=
  let g := s.sourceTarget n
  if s.st n = .regulate ∨ s.st n = .transition then w16 (clampN (s.lp n 2).toNat (s.lp n 1).toNat g.toNat) else g

/-- The slew of the next move (R285, R312), in 0.01 mV/µs. -/
def State.slewFor (s : State) (n : Fin 16) (up : Bool) : Nat :=
  let own := (if up then s.lp n 4 else s.lp n 5).toNat
  if fld (s.lp n 3) 2 0 = 1 ∧ (s.loop n).acp.slewOwn = false then
    match (s.loop n).acp.slew with | some v => v.toNat | none => own
  else own

/-! ### The exact reference (R280, R282, R285, R286, R289) -/

/-- A slew of `k` × 0.01 mV/µs over a time, in 100 µV. -/
def slewSpan (k dt : Nat) : Frac := Frac.norm ⟨k * dt, 10 * Config.us 1⟩

/-- Move from `r` toward `g` at a slew over a time; a slew of 0 steps (R285). -/
def approach (r g : Frac) (k dt : Nat) : Frac :=
  if k = 0 then g
  else if r.le g then (r.add (slewSpan k dt)).min g
  else (r.sub (slewSpan k dt)).max g

/-- The reference of a start ramp (R282). -/
def rampUpRef (a b : W16) (t dur : Nat) : Frac :=
  if dur = 0 ∨ dur ≤ t then ⟨b.toNat, 1⟩
  else Frac.norm ⟨(a.toNat : Int) * dur + ((b.toNat : Int) - a.toNat) * t, dur⟩

/-- The reference of a turn-off ramp (R286). -/
def rampDownRef (a : W16) (t dur : Nat) : Frac :=
  if dur ≤ t then ⟨0, 1⟩ else Frac.ofNats (a.toNat * (dur - t)) dur

/-- The follower's tracked reference at this boundary (R289). -/
def State.tracked (s : State) (n : Fin 16) : Frac :=
  let p := (s.loop n).sp
  let c := s.heelValue n
  approach p.ref c (if p.ref.le c then s.lp n 4 else s.lp n 5).toNat (s.now - p.refAt)

/-- The reference of a follower that moves to VSET on its own (R290, R292). -/
def State.ownMove (s : State) (n : Fin 16) : Frac :=
  let p := (s.loop n).sp
  let g : Frac := ⟨(s.lp n 0).toNat, 1⟩
  approach p.ref g (if p.ref.le g then s.lp n 4 else s.lp n 5).toNat (s.now - p.refAt)

/-- The exact reference of LPn at this boundary, in 100 µV; 0 outside the running states (R276). During a turn-off delay it
stays where it is (R286), and so does that of a follower that holds (R292). -/
def State.refNow (s : State) (n : Fin 16) : Frac :=
  let p := (s.loop n).sp
  let t := s.now - p.startAt
  match p.st with
  | .rampUp =>
    if s.tracking n then Frac.max ⟨p.from_.toNat, 1⟩ (s.tracked n)
    else if s.follows n then (if s.ownWay n then s.ownMove n else p.ref)
    else rampUpRef p.from_ p.to_ t p.dur
  | .regulate =>
    if p.offPending.isSome then p.ref else if s.tracking n then s.tracked n else ⟨p.to_.toNat, 1⟩
  | .transition => if p.offPending.isSome then p.ref else approach ⟨p.from_.toNat, 1⟩ ⟨p.to_.toNat, 1⟩ p.slew t
  | .rampDown =>
    if p.down = .heel then
      (let c := s.heelValue n
       if !s.tracking n || p.ref.le c then p.ref else approach p.ref c (s.lp n 5).toNat (s.now - p.refAt))
    else rampDownRef p.from_ t p.dur
  | _ => ⟨0, 1⟩

/-- VREF_NOW of an exact reference: nearest 100 µV, ties up (R280). -/
def vrefWord (r : Frac) : W16 := satU16 r.roundUp

/-! ### Entries to the loop states -/

/-- PS_EN of LPn is high (R252); LP15 under the kennel law follows R27. -/
def State.psEnHigh (s : State) (n : Fin 16) : Bool :=
  s.kennel15 n || !(decide (s.st n = .off) || decide (s.st n = .hiccupWait) || decide (s.st n = .latched))

/-- UV and OC_TOTAL at a change of state (R344, R356): UV may be raised anew where it is armed again, and without steps
OC_TOTAL has no condition (notes/assumptions/84.md). -/
def armFaults (st : LoopSt) (p : LoopPrt) : LoopPrt :=
  { p with
    uvRaised := p.uvRaised && (decide (st = .regulate) || decide (st = .transition))
    octFrom := if st.running then p.octFrom else none
    octRaised := p.octRaised && st.running }

/-- Put LPn into a state at this time; MOVING ends outside the states of R317. -/
def putState (n : Fin 16) (st : LoopSt) (s : State) : State :=
  let keep := st.running && decide (st ≠ .rampDown) || decide (st = .delayOn)
  ((s.updSp n fun p => { p with st := st, since := s.now }).updPrt n (armFaults st)).updAcp n fun a =>
    { a with moving := a.moving && keep, holdFrom := none, lossPend := a.lossPend && st.running }

/-- An OC removal ends when the loop enters OFF (R357). -/
def returnOc (p : PhaseState) : PhaseState := { endRemoval .oc p with ocpRun := 0, negRun := 0 }

/-- LPn enters OFF: pulses stop, PS_EN falls, the latch and the retry count clear, OC removals return (R357,
R363), a halved rate is restored (R201), the check hold of its channel ends (R133). HEEL_LOST stays while the master is
lost. -/
def enterOff (n : Fin 16) (s : State) : State :=
  let s := stopPulses n s
  let s := updPhases returnOc (s.mappedPhases n) s
  let s := putState n .off s
  let s := s.updSp n fun p => { p with
    offPending := none
    noSink := false
    released := false
    holding := false
    heelWait := s.isHeel n && s.enabled n && !s.masterEngaged n }
  let s := s.updPrt n fun p => { p with latch := false, retries := 0, uvRun := 0, uvFrom := none }
  let s := s.updSense n senseOff
  let s := s.updEng n fun g => { g with
    halved := false
    ovrRaised := false
    holdRun := 0
    cleanRun := 0
    rung3 := false
    restore := false }
  s.settleRun

/-- LPn enters DELAY_OFF (R276). -/
def enterDelayOff (n : Fin 16) (s : State) : State :=
  (putState n .delayOff (stopPulses n s)).updSp n fun p => { p with offPending := none, noSink := false }

/-- LPn enters RAMP_DOWN from its present reference, or DELAY_OFF when TOFF_FALL is 0 (R286). -/
def enterRampDown (n : Fin 16) (why : DownBy) (s : State) : State :=
  let fall := twDur (s.lp n 9)
  let r := s.refNow n
  if fall = 0 ∧ why ≠ .heel then enterDelayOff n s
  else
    (putState n .rampDown s).updSp n fun p => { p with
      down := why
      from_ := vrefWord r
      ref := r
      refAt := s.now
      startAt := s.now
      dur := fall
      offPending := none
      noSink := false }

/-- LPn enters RAMP_UP from a start level toward the target captured now (R282); a follower tracks from it. The carrier runs at
FSW (R264), in the cycles of the STB (R228). -/
def enterRampUp (n : Fin 16) (start : W16) (s : State) : State :=
  let g := if s.isHeel n then s.lp n 0 else s.sourceTarget n
  let s := (putState n .rampUp s).updSp n fun p => { p with
    from_ := start
    to_ := g
    ref := ⟨start.toNat, 1⟩
    refAt := s.now
    startAt := s.now
    dur := twDur (s.lp n 7)
    cFrom := none
    offPending := none }
  let s := s.updMod n fun m => { m with fc := (s.lp n 0x1D).toNat, fcNext := none, nt := s.nHi n, ntAt := s.now }
  setTarget n (s.nHi n) (carrierFrom n s)

/-- A move of LPn from its present reference to a target (R285). -/
def startMove (n : Fin 16) (g : W16) (s : State) : State :=
  let r := vrefWord (s.refNow n)
  (s.updSp n fun p => { p with
    from_ := r
    to_ := g
    startAt := s.now
    slew := s.slewFor n (decide (r.toNat < g.toNat)) }).updSp n fun p =>
      { p with st := .transition, since := if p.st = .transition then p.since else s.now }

/-- LPn enters REGULATE at a reference. -/
def enterRegulate (n : Fin 16) (r : Frac) (s : State) : State :=
  let s := (s.updSp n fun p => { p with
    st := .regulate
    since := s.now
    to_ := vrefWord r
    ref := r
    refAt := s.now
    noSink := false })
  s.updMod n fun m => { m with turnAt := s.now }

/-! ### What a boundary does to the state without a step of its own (R285 to R292, R352, R363, R364) -/

/-- The level of an enable input 1 µs ago acts at this boundary: every change at least that old has taken place (R275). -/
def takeEnable (n : Fin 16) (s : State) : State :=
  let old := fun (x : Bool × Nat) => decide (x.2 + Config.us 1 ≤ s.now)
  s.updSp n fun p => { p with
    enPin := (p.enPend.filter old).foldl (fun _ x => x.1) p.enPin
    enPend := p.enPend.filter fun x => !old x }

/-- A released follower whose master enters RAMP_DOWN, DELAY_OFF or OFF is engaged again (R290). -/
def State.reengages (s : State) (n : Fin 16) : Bool :=
  let m := s.master n
  s.follows n && (s.loop n).sp.released && !m.lost && (decide (m.st = 5) || decide (m.st = 6) || decide (m.st = 0))

/-- The end of a master loss (R292): HEEL_LOST clears. -/
def heelFound (n : Fin 16) (s : State) : State :=
  if (s.loop n).sp.heelLost && !(s.isHeel n && (s.master n).lost) then s.updSp n fun p => { p with heelLost := false } else s

/-- Tracking resumes once c is within 2 LSB of the reference or has crossed it (R292); a move to VSET that was on ends. -/
def heelResume (n : Fin 16) (s : State) : State :=
  let p := (s.loop n).sp
  if s.follows n && p.holding && !p.heelLost then
    let c := s.heelValue n
    let r := s.refNow n
    let d := c.sub r
    let near := d.le ⟨2, 1⟩ && Frac.le ⟨-2, 1⟩ d
    let crossed := match p.cFrom with
      | some (side, _) => decide (side = 1) && c.le r || decide (side = 0) && r.le c
      | none => false
    if near || crossed then s.updSp n fun p => { p with
      holding := false
      cFrom := none
      ref := r
      refAt := s.now
      st := if p.st = .transition then .regulate else p.st }
    else s.updSp n fun p => { p with cFrom := some (if r.le c then 1 else 0, vrefWord c) }
  else s

/-- A follower's tracked reference has reached 0 while its master is in DELAY_OFF or OFF (R291). -/
def State.heelDone (s : State) (n : Fin 16) : Bool :=
  let m := s.master n
  s.tracking n && decide (fld (s.lp n 0x0A) 1 0 ≠ 1) && (decide (m.st = 6) || decide (m.st = 0)) && (s.refNow n).le ⟨0, 1⟩

/-- A loop in REGULATE or TRANSITION at a boundary: the turn-off delay (R286), a re-engagement (R290), the end of a follower
(R291), a new target (R285). -/
def boundaryRegulate (n : Fin 16) (s : State) : State :=
  let p := (s.loop n).sp
  if !s.runEnabled n then
    (if p.offPending.isSome then s else
      let r := s.refNow n
      s.updSp n fun p => { p with offPending := some s.now, wait := twDur (s.lp n 8), ref := r, refAt := s.now })
  else
    let back := p.offPending.isSome
    let r := s.refNow n
    let s := if back then s.updSp n fun p => { p with offPending := none, from_ := vrefWord r, ref := r, refAt := s.now, startAt := s.now } else s
    if s.reengages n then enterRampDown n .heel (s.updSp n fun p => { p with released := false })
    else if s.heelDone n then enterDelayOff n s
    else
      let s := heelResume n s
      if !s.follows n || s.ownWay n then
        let g := if s.follows n then s.lp n 0 else s.targetOf n
        let p := (s.loop n).sp
        if p.st = .transition then (if g = p.to_ ∧ back = false then s else startMove n g s)
        else if g = vrefWord (s.refNow n) then s else startMove n g s
      else s

/-- Since when a survey-slot master's c has stayed within 2 LSB (R289). -/
def noteSteady (n : Fin 16) (s : State) : State :=
  if s.tracking n then
    let c := vrefWord (s.heelValue n)
    s.updSp n fun p => match p.cFrom with
      | some (t, v) =>
        if ((c.toNat : Int) - v.toNat).natAbs ≤ 2 then { p with cFrom := some (t, v) } else { p with cFrom := some (s.now, c) }
      | none => { p with cFrom := some (s.now, c) }
  else s

/-- A loop that last gasp has shed turns off (R451): to OFF with SOFT = 0, over TOFF_FALL with SOFT = 1; a loop without
a reference goes to OFF either way. A crowbar latch that is set keeps its loop (R351). -/
def gaspTurnOff (n : Fin 16) (s : State) : State :=
  let soft := bitAt (s.pg 0x33 0) 2
  if (s.loop n).prt.latch then s else
  match s.st n with
  | .off => s
  | .latched => s
  | .crowbar => s
  | .delayOn => enterOff n s
  | .hiccupWait => enterOff n s
  | .rampDown => if soft then s else enterOff n s
  | .delayOff => if soft then s else enterOff n s
  | _ => if soft then enterRampDown n .held s else enterOff n s

/-- A follower in RAMP_UP at a boundary: it is engaged again, ends with its master, is released (R290, R291), or goes on. -/
def boundaryRampUp (n : Fin 16) (s : State) : State :=
  let s := heelResume n s
  let c := s.heelValue n
  let release := s.tracking n && bitAt (s.lp n 0x0A) 11 && (Frac.le ⟨(s.lp n 0).toNat, 1⟩ c || decide ((s.master n).st = 3))
  if s.reengages n then enterRampDown n .heel (s.updSp n fun p => { p with released := false })
  else if s.heelDone n then enterDelayOff n s
  else if release then
    let r := s.refNow n
    s.updSp n fun p => { p with released := true, ref := r, refAt := s.now }
  else noteSteady n s

/-- The row-less changes of LPn's state at one of its boundaries. -/
def boundaryState (n : Fin 16) (s : State) : State :=
  let s := heelFound n (takeEnable n s)
  if (s.loop n).prt.gaspHold = true ∧ s.st n ≠ .latched ∧ s.st n ≠ .crowbar then gaspTurnOff n s else
  let p := (s.loop n).sp
  let en := s.enabled n
  let run := s.runEnabled n
  match p.st with
  | .delayOn => if run then s else enterOff n s
  | .rampUp => if run then boundaryRampUp n s else enterRampDown n .enable s
  | .regulate => boundaryRegulate n s
  | .transition => boundaryRegulate n s
  | .rampDown =>
    if run && decide (p.down = .enable) then enterRampUp n (vrefWord (s.refNow n)) s
    else if p.down = .heel then heelResume n s else s
  | .hiccupWait => if en then s else enterOff n s
  | .latched => if en then s else enterOff n s
  | .crowbar => if en then s else enterOff n s
  | .off => s.updSp n fun p => { p with heelWait := s.isHeel n && en && !s.masterEngaged n }
  | .delayOff => s

/-! ### The rows of the loop states -/

/-- The conditions of R277. -/
def State.mayStart (s : State) (n : Fin 16) : Bool :=
  decide (s.st n = .off) && (decide (s.power.g = .ready) || decide (s.power.g = .run)) && s.isBoundary n &&
  s.ownStart n && s.enabled n && decide (s.available n ≠ []) && !s.par.held.contains n && !s.heldOff n &&
  (!s.isHeel n || s.masterEngaged n)

/-- LPn leaves OFF: what its steps keep starts anew (R192, R210, R211, R235). -/
def leaveOff (n : Fin 16) (s : State) : State :=
  s.updEng n fun g => { g with
    steps := 0
    prevAt := none
    vinLast := none
    kvinSet := false
    kvin := 8192 }

/-- Entry to DELAY_ON (R189, R215, R252, R276, R287, R314): the accumulators and the supervisor are cleared, PS_EN rises,
the delay is captured, and a bound loop's ACP values return to their starting points. -/
def enterDelayOn (n : Fin 16) (s : State) : State :=
  let s := putState n .delayOn s
  let s := s.updSp n fun p => { p with
    vpb := []
    posRun := 0
    heelWait := false
    released := false
    holding := false
    offPending := none
    noSink := false
    wait := max (twDur (s.lp n 6)) (Config.us 50) }
  let s := s.updEng n fun g => { clearAcc g with satAcc := 0, satRaised := false }
  let s := if s.acpBound n then
      s.updAcp n fun a => { a with target := s.lp n 0x2D, tgtPend := none, slew := none, slewOwn := false, ll := none,
                                   llPend := none, hint := 0, hintPend := none, moving := false }
    else s
  let s := if bitAt (s.lp n 0x31) 0 then { s with damp := {} } else s
  s.settleRun

/-- DELAY_ON_ENTRY (R277). -/
def execDelayOnEntry (t : Nat) (n : Fin 16) (s : State) : Ans :=
  gated t (fun s => s.mayStart n) (fun s => enterDelayOn n (leaveOff n s)) s

/-- The mean of the last four full-range results of DELAY_ON (R283), to the nearest 100 µV. -/
def preBias (l : List W16) : W16 :=
  let k := l.take 4
  if k = [] then 0 else w16 (Frac.ofNats ((k.map BitVec.toNat).foldl (· + ·) 0) k.length).roundUp.toNat

/-- The end of DELAY_ON (R278, R282 to R284): the pre-bias level is taken, the no-sink window opens. -/
def delayOnEnd (n : Fin 16) (s : State) : State :=
  let v := preBias (s.loop n).sp.vpb
  let pb := bitAt (s.lp n 3) 6
  let g := if s.isHeel n then vrefWord (s.heelValueIn n .rampUp) else s.sourceTarget n
  let start := if pb then (if v.toNat < g.toNat then v else g) else 0
  let s := enterRampUp n start s
  s.updSp n fun p => { p with noSink := pb && decide (200 ≤ v.toNat), posRun := 0 }

/-- DELAY_ON_END (R278): at the first boundary at or after max(TON_DELAY, 50 µs). -/
def execDelayOnEnd (t : Nat) (n : Fin 16) (s : State) : Ans :=
  gated t (fun s => decide (s.st n = .delayOn) && s.isBoundary n && s.runEnabled n && !s.kennel15 n &&
      decide ((s.loop n).sp.since + (s.loop n).sp.wait ≤ s.now))
    (delayOnEnd n) s

/-- A follower's ramp has ended (R289, R290): its reference has reached VSET; without RELEASE also when it equals c and the
master has settled. -/
def State.heelRampDone (s : State) (n : Fin 16) : Bool :=
  let r := s.refNow n
  let c := s.heelValue n
  let m := s.master n
  let settled := match fld (s.lp n 0x0A) 1 0 with
    | 1 => match (s.loop n).sp.cFrom with | some (t, _) => decide (t + Config.ms 1 ≤ s.now) | none => false
    | _ => decide (m.st = 3) || decide (m.st = 4)
  Frac.le ⟨(s.lp n 0).toNat, 1⟩ r || (!bitAt (s.lp n 0x0A) 11 && s.tracking n && r.le c && c.le r && settled)

/-- RAMP_UP_END (R282, R289, R290). -/
def execRampUpEnd (t : Nat) (n : Fin 16) (s : State) : Ans :=
  gated t (fun s => let p := (s.loop n).sp
      decide (p.st = .rampUp) && s.isBoundary n && s.runEnabled n && !s.kennel15 n &&
      (if s.isHeel n then s.heelRampDone n else decide (p.startAt + p.dur ≤ s.now)))
    (fun s => enterRegulate n (s.refNow n) s) s

/-- TRANSITION_END (R285): the exact reference has reached the target. -/
def execTransitionEnd (t : Nat) (n : Fin 16) (s : State) : Ans :=
  gated t (fun s => let p := (s.loop n).sp
      decide (p.st = .transition) && s.isBoundary n && p.offPending.isNone &&
      (s.refNow n).le ⟨p.to_.toNat, 1⟩ && Frac.le ⟨p.to_.toNat, 1⟩ (s.refNow n))
    (fun s => enterRegulate n (s.refNow n) s) s

/-- TURN_OFF_DELAY_END (R286, R287). -/
def execTurnOffDelayEnd (t : Nat) (n : Fin 16) (s : State) : Ans :=
  gated t (fun s => let p := (s.loop n).sp
      (decide (p.st = .regulate) || decide (p.st = .transition)) && s.isBoundary n && !s.runEnabled n &&
      (match p.offPending with | some a => decide (a + p.wait ≤ s.now) | none => false))
    (enterRampDown n .enable) s

/-- RAMP_DOWN_END (R286, R291): the reference has reached 0; that of a follower engaged again ends with its master. -/
def execRampDownEnd (t : Nat) (n : Fin 16) (s : State) : Ans :=
  gated t (fun s => let p := (s.loop n).sp
      decide (p.st = .rampDown) && s.isBoundary n && (s.refNow n).le ⟨0, 1⟩ && (decide (p.down ≠ .heel) || s.heelDone n))
    (enterDelayOff n) s

/-- DELAY_OFF_END (R276). -/
def execDelayOffEnd (t : Nat) (n : Fin 16) (s : State) : Ans :=
  gated t (fun s => let p := (s.loop n).sp
      decide (p.st = .delayOff) && s.isBoundary n && !(s.loop n).prt.latch && decide (p.since + Config.us 10 ≤ s.now))
    (enterOff n) s

/-- The loops whose set-point source is SETPT pin `k`. -/
def State.setptLoops (s : State) (k : Fin 4) : List (Fin 16) :=
  allLoops.filter fun n => let w := s.lp n 3
    (decide (fld w 2 0 = 2) || decide (fld w 2 0 = 3)) && decide (fld w 5 4 = k.val)

/-- A new SETPT value of LPn (R279, R281): it replaces the target when it differs by 4 LSB or more. -/
def setptLoop (v : Frac) (n : Fin 16) (s : State) : State :=
  let vmin : Frac := ⟨(s.lp n 2).toNat, 1⟩
  let vmax : Frac := ⟨(s.lp n 1).toNat, 1⟩
  let g := (vmin.add ((vmax.sub vmin).mul v)).roundUp
  let old := (s.sourceTarget n).toNat
  s.updSp n fun p => { p with
    spLost := false
    spVal := if 4 ≤ (g - (old : Int)).natAbs then some (satU16 g) else some (p.spVal.getD (s.lp n 2)) }

/-- The mean of sixteen fractions (R281). -/
def setptMean (xs : List (Nat × Nat)) : Frac := (Frac.sum (xs.map fun x => Frac.ofNats x.1 x.2)).mul ⟨1, 16⟩

/-- The loops that take a value of SETPT pin `k`; a lost pulse source is restored by sixteen periods that began after the loss
(R281). -/
def State.setptTakers (s : State) (k : Fin 4) (pulse : Bool) (xs : List (Nat × Nat)) : List (Fin 16) :=
  (s.setptLoops k).filter fun n =>
    decide (fld (s.lp n 3) 2 0 = if pulse then 3 else 2) &&
    (!pulse || !(s.loop n).sp.spLost || decide ((s.loop n).sp.spLostAt + (xs.map Prod.snd).foldl (· + ·) 0 ≤ s.now))

/-- SETPT_UPDATE (R281): sixteen samples of the analogue pin (`pulse` false), or sixteen periods that end now. -/
def execSetptUpdate (t : Nat) (k : Fin 4) (pulse : Bool) (xs : List (Nat × Nat)) (s : State) : Ans :=
  gated t (fun s => s.up && setptOk pulse xs)
    (fun s =>
      let s := if pulse then { s with pins := { s.pins with setEdge := s.pins.setEdge.set k s.now } } else s
      forLoops (setptLoop (setptMean xs)) (s.setptTakers k pulse xs) s) s

/-- SP_LOST (R281): a pulse source without an edge for 10 ms; its last edge is at or after the last that ended a period the
model knows of. -/
def execSpLost (t : Nat) (x : SetptLoss) (s : State) : Ans :=
  gated t (fun s => s.up && decide (s.pins.setEdge[x.input] ≤ x.edge) && decide (x.edge + Config.ms 10 ≤ s.now))
    (fun s => forLoops (fun n s => s.updSp n fun p => { p with spLost := true, spLostAt := s.now })
      ((s.setptLoops x.input).filter fun n => decide (fld (s.lp n 3) 2 0 = 3)) s) s

/-- The start of a master loss (R292): HEEL_LOST, HEEL_LOSS, and the reference that LOSS selects where the action leaves the
loop running: HOLD keeps it, DOWN sends the loop down, OWN moves it to VSET. A loop in a turn-off of its own keeps that; a
follower that goes down with its master leaves RAMP_DOWN under OWN (DESIGN CHOICE, notes/assumptions/73.md). -/
def heelLoss (n : Fin 16) (s : State) : State :=
  let loss := s.heelLossCode n
  let r := s.refNow n
  let mine := !(s.st n).running || (decide (s.st n = .rampDown) && decide ((s.loop n).sp.down ≠ .heel))
  let s := s.updSp n fun p => { p with
    heelLost := true
    holding := !p.released
    to_ := if mine || p.released then p.to_ else vrefWord r
    ref := r
    refAt := s.now
    cFrom := none }
  let s := s.raiseFree n 0x0E
  if mine || decide (3 ≤ s.actionOf n 0x0E) then s
  else if loss = 1 then enterRampDown n .loss s
  else if loss = 2 ∧ s.st n = .rampDown then startMove n (s.lp n 0) s
  else s

/-- HEEL_LOSS (R288, R292): a follower that is on loses its master. -/
def execHeelLoss (t : Nat) (n : Fin 16) (s : State) : Ans :=
  gated t (fun s => s.up && s.follows n && ((s.st n).running || decide (s.st n = .delayOn)) && !(s.loop n).sp.heelLost &&
      (s.master n).lost && s.isBoundary n)
    (heelLoss n) s

/-! ### Views -/

/-- LPn.VREF_NOW (R276, R280): 0 in every state that runs no steps. -/
def State.vrefNow (s : State) (n : Fin 16) : W16 := if (s.st n).running then (s.loop n).eng.vref else 0

/-- LPn.STATE (R276). -/
def State.stateWord (s : State) (n : Fin 16) : W16 :=
  let p := (s.loop n).sp
  w16 (p.st.code + bitVal p.offPending.isSome 4 + bitVal p.noSink 5 + bitVal p.heelWait 6 + bitVal p.heelLost 7 +
    bitVal p.released 8 + bitVal p.spLost 9)

/-- Power-good of LPn (R294). -/
def State.powerGood (s : State) (n : Fin 16) : Bool :=
  let l := s.loop n
  (decide (l.sp.st = .regulate) || decide (l.sp.st = .transition)) && l.prt.uvFrom.isNone && !l.prt.ov

end Sys2Proof.Machine
end

