-- ==== Sys2Proof/Machine/Trig.lean ====
section
/-! DEFINITION. Sines, cosines, square roots and angles in fixed point, for the notch (05 R158), the injection and
demodulation of a sweep (16 R435 to R439) and the damping band-pass (16 R443). Fixed-point values are integers of
2^−48. -/

namespace Sys2Proof.Machine

/-- 2^48. -/
def fixOne : Int := 281474976710656
/-- 2π in 2^−48. -/
def twoPi : Int := 1768559438007110

/-- A product of two fixed-point values. -/
def fmul (a b : Int) : Int := roundEven (a * b) (2 ^ 48)
/-- A quotient of two fixed-point values, 0 when the divisor is not positive. -/
def fdiv (a b : Int) : Int := if b ≤ 0 then 0 else roundEven (a * fixOne) b.toNat
/-- A fraction in fixed point. -/
def fixOf (a : Frac) : Int := if a.den = 0 then 0 else roundEven (a.num * fixOne) a.den

/-- The Taylor sum 1 + s t/(k (k+1)) (1 + …) with t = −x², nested from the last term. -/
def taylorNest (t : Int) : Nat → Nat → Int
  | 0, _ => fixOne
  | n + 1, k => fixOne + roundEven (fmul t (taylorNest t n (k + 2))) (k * (k + 1))

/-- Sine of a small angle in radians (fixed point). -/
def sinSmall (x : Int) : Int := fmul x (taylorNest (-(fmul x x)) 10 2)
/-- Cosine of a small angle in radians (fixed point). -/
def cosSmall (x : Int) : Int := taylorNest (-(fmul x x)) 10 1

/-- Sine and cosine of `p`/`q` turns (q > 0). -/
def sinCosTurn (p : Int) (q : Nat) : Int × Int :=
  let r := p % (q : Int)
  let oct := (8 * r) / (q : Int)
  let quad := (oct + 1) / 2 % 4
  let d := 4 * r - ((oct + 1) / 2) * q        -- quarter turns past the nearest quadrant, times q
  let x := roundEven (twoPi * d) (4 * q)
  let s := sinSmall x
  let c := cosSmall x
  match quad with
  | 0 => (s, c)
  | 1 => (c, -s)
  | 2 => (-s, -c)
  | _ => (-c, s)

/-- The integer square root by bisection over `k` bits. -/
def isqrt : Nat → Nat → Nat → Nat
  | 0, _, r => r
  | k + 1, x, r => if (r + 2 ^ k) * (r + 2 ^ k) ≤ x then isqrt k x (r + 2 ^ k) else isqrt k x r

/-- The direction (re, im) lies at or beyond the angle of `h` half-hundredths of a degree, both taken in a half turn
from 0. -/
def beyondAngle (re im : Int) (h : Nat) : Bool :=
  let sc := sinCosTurn h 72000
  decide (0 ≤ im * sc.2 - re * sc.1)

/-- The largest k below 2^bits with the angle at or beyond k − ½ hundredths of a degree. -/
def angleBits (re im : Int) : Nat → Nat → Nat
  | 0, k => k
  | b + 1, k => if k + 2 ^ b ≤ 18000 ∧ beyondAngle re im (2 * (k + 2 ^ b) - 1) then angleBits re im b (k + 2 ^ b)
    else angleBits re im b k

/-- arg(re + j im) in 0.01°, to the nearest, −18,000 to 17,999 (R438); 0 for 0. -/
def argOf (re im : Int) : Int :=
  if re = 0 ∧ im = 0 then 0
  else if 0 ≤ im then (let k := angleBits re im 15 0; if k = 18000 then -18000 else (k : Int))
  else -(angleBits re (-im) 15 0 : Int)

/-- The least-error integer root: the nearest integer to the `n`-th root of `x`, over `b` bits (R434). -/
def rootBits (n x : Nat) : Nat → Nat → Nat
  | 0, r => r
  | b + 1, r => if (2 * (r + 2 ^ b) - 1) ^ n ≤ 2 ^ n * x then rootBits n x b (r + 2 ^ b) else rootBits n x b r

end Sys2Proof.Machine
end

