-- ==== Sys2Proof/Machine/Layer.lean ====
section
/-! DEFINITION. The Layer learner (12_layer_learner.md): position and marks, the table and its correction, the
records, the learning update, freeze, checkpoint and divergence. -/

namespace Sys2Proof.Machine

open Sys2Proof

/-! ### Configuration words (R328, R333, R335) -/

def State.lyrCtl (s : State) (n : Fin 16) : W16 := s.lp n 0x2E
def State.lyrOn (s : State) (n : Fin 16) : Bool := bitAt (s.lyrCtl n) 0
/-- SRC: 0 FIXED, 1 STROBE, 2 ACP, 3 AUTO. -/
def State.lyrSrc (s : State) (n : Fin 16) : Nat := fld (s.lyrCtl n) 2 1
/-- TEXP, signed. -/
def texpOf (w : W16) : Int := let x := fld w 12 9; if 8 ≤ x then (x : Int) - 16 else x
/-- P of LYR_PERIOD. -/
def State.lyrNom (s : State) (n : Fin 16) : Nat := fld (s.lp n 0x2F) 11 0 + 1
/-- WIN. -/
def State.lyrWin (s : State) (n : Fin 16) : Nat := fld (s.lp n 0x2F) 15 12
/-- The period in use: the one found with AUTO, LYR_PERIOD.P otherwise and before one is found (R327). -/
def State.lyrP (s : State) (n : Fin 16) : Nat :=
  let l := (s.loop n).lyr
  if s.lyrSrc n = 3 ∧ l.st = .locked then l.per else s.lyrNom n
/-- Half-width of the Q taps (R335). -/
def State.lyrHalf (s : State) (n : Fin 16) : Nat := fld (s.lyrCtl n) 14 13
/-- LEAD. -/
def State.lyrLead (s : State) (n : Fin 16) : Nat := fld (s.lp n 0x30) 13 10

/-! ### Tables (R333, R340) -/

/-- Entry j: 0 in an invalid chunk. -/
def lyrEntry (l : LoopLyr) (j : Nat) : Int :=
  if l.valid.getLsbD (j / 32) then (sparseGet (fun _ => (0 : W16)) l.table j).toInt else 0

/-- All chunks and the checkpoint invalid, DIVFLAG clear (R340). -/
def lyrInvalidate (l : LoopLyr) : LoopLyr := { l with valid := 0, ckptValid := 0, ckptSet := false, divflag := false }

/-- Entry to SEEK (R331, R337); FIXED and AUTO invalidate the table. -/
def lyrSeek (src : Nat) (l : LoopLyr) : LoopLyr :=
  let l := if src = 0 ∨ src = 3 then { lyrInvalidate l with divflag := l.divflag } else l
  { l with st := .seek, seekMark := false, missRun := 0, eref := 0xFFFF, window := [], divRun := 0, lastN := none }

/-- Entry to LOCKED (R331): the first period to be updated is the one that begins with n = 0. -/
def lyrLock (ctl per : W16) (l : LoopLyr) : LoopLyr :=
  { l with
    st := .locked
    missRun := 0
    upd := 0
    updTag := l.tag + 1
    updChunk := 0
    prevSq := 0
    prevCnt := 0
    sumSq := 0
    cnt := 0
    built := (ctl, per) }

/-- A new period begins: the sums of the one before are kept for its end (R337). -/
def lyrRoll (l : LoopLyr) : LoopLyr :=
  { l with tag := l.tag + 1, prevSq := l.sumSq, prevCnt := l.cnt, sumSq := 0, cnt := 0 }

/-! ### Boundaries (R327, R330, R331) -/

/-- LPn must be IDLE (R331, R341). -/
def State.lyrIdle (s : State) (n : Fin 16) : Bool :=
  !s.lyrOn n || !(s.st n).running || (s.loop n).eng.halved

/-- The position after one boundary: n increments, wraps under FIXED and AUTO, and takes 0 at a mark (R327 to R330). -/
def lyrAdvance (src p w : Nat) (l : LoopLyr) : LoopLyr :=
  if l.zeroNext then { lyrRoll l with n := 0, zeroNext := false }
  else if l.st = .locked ∧ (src = 0 ∨ src = 3) then
    (if p ≤ l.n + 1 then { lyrRoll l with n := 0 } else { l with n := l.n + 1 })
  else if l.st = .locked then { l with n := min (l.n + 1) (p + w) }
  else { l with n := min (l.n + 1) 65535 }

/-- Layer at a sample boundary of LPn: a waiting CLR, the lock state, the position. -/
def layerBoundary (n : Fin 16) (s : State) : State :=
  let src := s.lyrSrc n
  let idle := s.lyrIdle n
  let ctl := s.lyrCtl n
  let per := s.lp n 0x2F
  let p := s.lyrP n
  let w := s.lyrWin n
  s.updLyr n fun (l : LoopLyr) =>
    let l := if l.clr then
        (let l : LoopLyr := { lyrInvalidate l with clr := false }
         if l.st = .idle then l else lyrSeek src l)
      else l
    if idle then { l with st := .idle, zeroNext := false, marks := [] }
    else
      let l := if l.st = .idle then { lyrSeek src l with n := 0 } else l
      if l.st = .seek ∧ src = 0 then { lyrRoll (lyrLock ctl per l) with n := 0, zeroNext := false }
      else lyrAdvance src p w l

/-! ### Marks (R328, R329, R331) -/

/-- A mark with the value n_b that n would take at its boundary, `k` boundaries before the last one when it lies in the
past; `k` = none means the next boundary. -/
def lyrMark (ctl per : W16) (p w nb : Nat) (k : Option Nat) (l : LoopLyr) : LoopLyr :=
  let zero (l : LoopLyr) : LoopLyr := match k with
    | none => { l with zeroNext := true }
    | some k => { lyrRoll l with n := k }
  let inside := decide (p ≤ nb + w) && decide (nb ≤ p + w)
  match l.st with
  | .locked =>
    if inside then zero { l with accepted := (l.accepted + 1) % 256, measP := nb, missRun := 0 }
    else { l with rejected := (l.rejected + 1) % 256 }
  | .seek =>
    if l.seekMark && inside then
      zero { lyrLock ctl per { l with accepted := (l.accepted + 1) % 256, measP := nb } with seekMark := false }
    else zero { l with seekMark := true }
  | .idle => l

/-- A mark of LPn at a time of its timestamp (R329): it belongs to the first boundary at or after it. A mark that already waits
for that boundary has set n_b to 0. -/
def layerMark (n : Fin 16) (ts : Nat) (s : State) : State :=
  let l := (s.loop n).lyr
  let last := (s.loop n).eng.sampleAt
  let per := max 1 (s.samplePeriod n)
  let f := lyrMark (s.lyrCtl n) (s.lp n 0x2F) (s.lyrP n) (s.lyrWin n)
  if last < ts then s.updLyr n (f (if l.zeroNext then 0 else l.n + 1) none)
  else
    let k := (last - ts) / per
    if k ≤ l.n then s.updLyr n (f (l.n - k) (some k))
    else if l.st = .locked then s.updLyr n fun l => { l with rejected := (l.rejected + 1) % 256 }
    else s

/-- An edge of the strobe of LPn (R328): one of the selected polarity is a mark, the opposite one within 50 ns takes it back. -/
def strobeEdge (n : Fin 16) (selected : Bool) (s : State) : State :=
  s.updLyr n fun l =>
    if selected then { l with marks := l.marks ++ [s.now] }
    else match l.marks.getLast? with
      | some a => if s.now < a + Config.ns 50 then { l with marks := l.marks.dropLast } else l
      | none => l

/-- LAYER_STROBE_EDGE (R328, R329): an edge of GPIO `pin`, timestamped by the command's time. -/
def execLayerStrobeEdge (t : Nat) (pin : Fin 24) (falling : Bool) (s : State) : Ans :=
  gated t (fun s => s.up && s.power.vddioL)
    (fun s => forLoops (fun n s => strobeEdge n (decide (bitAt (s.lyrCtl n) 8 = falling)) s)
      (allLoops.filter fun n => let w := s.lyrCtl n
        s.lyrOn n && decide (fld w 2 1 = 1) && decide (fld w 7 3 = pin.val))
      { s with pins := { s.pins with gpio := s.pins.gpio.set pin (!falling) } }) s

/-- Strobe edges 50 ns old are marks; LPn takes them at its boundary, before the position advances (R328, R329). -/
def layerMarks (n : Fin 16) (s : State) : State :=
  let old := fun (a : Nat) => decide (a + Config.ns 50 ≤ s.now)
  let l := (s.loop n).lyr.marks
  let s := s.updLyr n fun l => { l with marks := l.marks.filter fun a => !old a }
  (l.filter old).foldl (fun s a => layerMark n a s) s

/-- A miss of LPn (R330): the next sample takes n = W + 1; the second in a row moves the loop to SEEK. -/
def layerMiss (n : Fin 16) (s : State) : State :=
  let src := s.lyrSrc n
  let w := s.lyrWin n
  s.updLyr n fun (l : LoopLyr) =>
    let l : LoopLyr := { lyrRoll l with misses := (l.misses + 1) % 256, missRun := l.missRun + 1, n := w }
    if 2 ≤ l.missRun then lyrSeek src l else l

/-- LAYER_MISS (R330). -/
def execLayerMiss (t : Nat) (n : Fin 16) (s : State) : Ans :=
  gated t (fun s => let l := (s.loop n).lyr
      s.up && decide (l.st = .locked) && (decide (s.lyrSrc n = 1) || decide (s.lyrSrc n = 2)) && s.isBoundary n && s.unsampled n &&
      !l.zeroNext && decide (l.n = s.lyrP n + s.lyrWin n))
    (layerMiss n) s

/-! ### Correction and records (R333, R334) -/

/-- i_layer in stage-3 mantissa LSBs, exact (R333). -/
def State.layerTerm (s : State) (n : Fin 16) (e3 : Int) : Frac :=
  let l := (s.loop n).lyr
  if l.st = .locked ∧ (s.st n = .regulate ∨ s.st n = .transition) ∧ l.restoreTo ≤ s.now then
    Frac.mul ⟨lyrEntry l (min l.n (s.lyrP n - 1)), 1⟩ (Frac.pow2 (texpOf (s.lyrCtl n) - e3))
  else ⟨0, 1⟩

/-- Erase the record at a position, and one of the present period from its sums (R334). -/
def lyrDrop (j : Nat) (l : LoopLyr) : LoopLyr :=
  match sparseGet (fun _ => none) l.recs j with
  | some (e, g) =>
    let l : LoopLyr := { l with recs := sparseSet (fun _ => none) l.recs j none }
    if g = l.tag then { l with sumSq := l.sumSq - (e * e).natAbs, cnt := l.cnt - 1 } else l
  | none => l

/-- Take back the last record (R195): from the sums of its own period, which may have ended since. -/
def lyrTakeBack (j : Nat) (l : LoopLyr) : LoopLyr :=
  match sparseGet (fun _ => none) l.recs j with
  | some (e, g) =>
    if g + 1 = l.tag then
      { l with recs := sparseSet (fun _ => none) l.recs j none, prevSq := l.prevSq - (e * e).natAbs, prevCnt := l.prevCnt - 1 }
    else lyrDrop j l
  | none => l

/-- Write the record of a step (R334). -/
def lyrWrite (e : Int) (l : LoopLyr) : LoopLyr :=
  let l := lyrDrop l.n l
  { l with recs := sparseSet (fun _ => none) l.recs l.n (some (e, l.tag)), sumSq := l.sumSq + (e * e).natAbs,
           cnt := l.cnt + 1, lastN := some l.n }

/-- LPn is the injecting loop of the present sweep step, which is this device's own (R435). -/
def State.sweepInjects (s : State) (n : Fin 16) : Bool :=
  decide (s.swp.st = .running) && s.swp.step.isSome && decide (s.swp.inj = s.power.pos.toNat) && !s.swp.seg &&
  bitAt (s.pg 0x32 0) 1 && decide (fld (s.pg 0x32 0) 7 4 = n.val)

/-- Learning is frozen for LPn (R334). -/
def State.lyrFrozen (s : State) (n : Fin 16) : Bool :=
  bitAt (s.pg 0x39 1) n.val || decide (s.power.g = .gasp) || s.sweepInjects n || (s.loop n).lyr.divflag

/-- One sample of the AUTO window of LPn (R332): the error of its record, 0 where the record is missing. The window is full
with 8 × P_nom samples. -/
def windowNote (n : Fin 16) (e : Int) (s : State) : State :=
  let full := 8 * s.lyrNom n
  if s.lyrSrc n = 3 then
    s.updLyr n fun l => if l.st = .seek ∧ l.window.length < full then { l with window := e :: l.window } else l
  else s

/-- The record of a completed step (R334): present unless a limit was reached, the loop is not in REGULATE, or learning is
frozen; a position at or beyond P has none. -/
def layerRecord (n : Fin 16) (e : Int) (atLimit : Bool) (s : State) : State :=
  let p := s.lyrP n
  let present := !atLimit && decide (s.st n = .regulate) && !s.lyrFrozen n
  let s := windowNote n (if present then e else 0) s
  if (s.loop n).lyr.st = .idle then s
  else s.updLyr n fun (l : LoopLyr) =>
    if present && decide (l.n < p) then lyrWrite e l else { lyrDrop l.n l with lastN := none }

/-- A held sample has no record (R334). -/
def layerHeld (n : Fin 16) (s : State) : State :=
  let s := windowNote n 0 s
  if (s.loop n).lyr.st = .idle then s else s.updLyr n fun l => { lyrDrop l.n l with lastN := none }

/-- A Layer update abandoned under R195: its record is missing. -/
def layerAbandon (n : Fin 16) (s : State) : State :=
  s.updLyr n fun l => match l.lastN with | some j => { lyrTakeBack j l with lastN := none } | none => l

/-! ### AUTO (R332) -/

/-- r(L) over a window. -/
def autoCorr (e : List Int) (lag : Nat) : Int := (List.zipWith (· * ·) e (e.drop lag)).foldl (· + ·) 0

/-- The lag with the largest r(L), the lowest of equals (R332). -/
def autoBest (e : List Int) (lo k : Nat) : Nat × Int :=
  (List.range k).foldl (fun b i => let r := autoCorr e (lo + i); if b.2 < r then (lo + i, r) else b) (lo, autoCorr e lo)

/-- The end of an AUTO window (R332). -/
def layerAutoEnd (n : Fin 16) (s : State) : State :=
  let nom := s.lyrNom n
  let ctl := s.lyrCtl n
  let per := s.lp n 0x2F
  let rho := fld (s.pgL n 0x39 0x0E) 7 0
  s.updLyr n fun (l : LoopLyr) =>
    let lo := max 16 (nom - 32)
    let hi := min 4096 (nom + 31)
    let b := autoBest l.window lo (hi + 1 - lo)
    let r0 := autoCorr l.window 0
    if 0 < r0 ∧ (rho : Int) * r0 ≤ 256 * b.2 then
      { lyrLock ctl per l with per := b.1, measP := b.1, zeroNext := true, window := [] }
    else { l with window := [] }

/-- LAYER_AUTO_WINDOW_END (R332): 8 × P_nom samples in SEEK under AUTO. -/
def execLayerAutoWindowEnd (t : Nat) (n : Fin 16) (s : State) : Ans :=
  gated t (fun s => let l := (s.loop n).lyr
      decide (l.st = .seek) && decide (s.lyrSrc n = 3) && decide (8 * s.lyrNom n ≤ l.window.length))
    (layerAutoEnd n) s

/-! ### The learning update (R335, R336) -/

/-- The number of chunks of a period. -/
def chunksOf (p : Nat) : Nat := (p + 31) / 32

/-- The last record that chunk `c` of a period needs (R335, R336). -/
def chunkNeeds (p lead h c : Nat) : Nat := min (32 * c + 31) (p - 1) + lead + h

/-- The next chunk of LPn is due (R336). -/
def State.chunkDue (s : State) (n : Fin 16) : Bool :=
  let l := (s.loop n).lyr
  let p := s.lyrP n
  let need := chunkNeeds p (s.lyrLead n) (s.lyrHalf n) l.updChunk
  decide (l.st = .locked) && !l.divflag && decide (l.updChunk < chunksOf p) &&
  (if l.tag = l.updTag then decide (need < p) && decide (need < l.n)
   else if l.tag = l.updTag + 1 then decide (need < p) || decide (need < p + l.n)
   else decide (l.updTag < l.tag))

/-- The record a position of period `tag` names (R335): beyond P − 1 the next period's, below 0 the one before's. -/
def lyrRecAt (l : LoopLyr) (p : Nat) (tag : Nat) (pos : Int) : Option Int :=
  let (j, g) := if (p : Int) ≤ pos then ((pos - p).toNat, tag + 1)
    else if pos < 0 then ((pos + p).toNat, tag - 1) else (pos.toNat, tag)
  match sparseGet (fun _ => none) l.recs j with
  | some (e, k) => if k = g then some e else none
  | none => none

/-- The Q taps over their common divisor (R335). -/
def qTaps (qf : Nat) : List Int × Nat :=
  match qf with | 0 => ([1], 1) | 1 => ([1, 2, 1], 4) | _ => ([1, 4, 6, 4, 1], 16)

/-- Σ q(i) e(j + lead + i), times the divisor; none where a record is missing. -/
def lyrEbar (l : LoopLyr) (p tag lead qf j : Nat) : Option Int :=
  ((qTaps qf).1.zipIdx).foldl (fun acc q => match acc, lyrRecAt l p tag ((j + lead : Nat) + (q.2 : Int) - qf) with
    | some a, some e => some (a + q.1 * e)
    | _, _ => none) (some 0)

/-- The update of one entry (R335): the new value and whether it was clamped. -/
def lyrNewEntry (t : Int) (g : Nat) (ebar : Int) (div decay : Nat) (e0 texp : Int) : Int × Bool :=
  let dec := match decay with
    | 1 => roundEven t (2 ^ 12) | 2 => roundEven t (2 ^ 10) | 3 => roundEven t (2 ^ 8) | _ => 0
  let delta := (Frac.mul ⟨g * ebar, div⟩ (Frac.pow2 (e0 - texp - 1))).roundEven
  let x := t - dec + delta
  (clampI (-32767) 32767 x, decide (x < -32767) || decide (32767 < x))

/-- Update entry j of the present chunk. -/
def lyrUpdateEntry (p lead qf g decay : Nat) (e0 texp : Int) (j : Nat) (l : LoopLyr) : LoopLyr :=
  match lyrEbar l p l.updTag lead qf j with
  | some eb =>
    let r := lyrNewEntry (lyrEntry l j) g eb (qTaps qf).2 decay e0 texp
    { l with table := sparseSet (fun _ => 0) l.table j (BitVec.ofInt 16 r.1), tsat := if r.2 then inc16 l.tsat else l.tsat }
  | none => { l with table := sparseSet (fun _ => 0) l.table j (BitVec.ofInt 16 (lyrEntry l j)) }

/-- Update the next chunk of LPn (R335). -/
def layerChunk (n : Fin 16) (s : State) : State :=
  let p := s.lyrP n
  let w := s.lp n 0x30
  let e0 := expsNib (s.lp n 0x16) 0
  let texp := texpOf (s.lyrCtl n)
  let lead := s.lyrLead n
  let qf := s.lyrHalf n
  s.updLyr n fun (l : LoopLyr) =>
    let c := l.updChunk
    let js := (List.range 32).filterMap fun i => if 32 * c + i < p then some (32 * c + i) else none
    let l := js.foldl (fun l j => lyrUpdateEntry p lead qf (fld w 9 0) (fld w 15 14) e0 texp j l) l
    { l with valid := l.valid ||| BitVec.ofNat 128 (2 ^ c), updChunk := c + 1 }

/-- LAYER_CHUNK_UPDATE (R335, R336). -/
def execLayerChunkUpdate (t : Nat) (n : Fin 16) (s : State) : Ans :=
  gated t (fun s => s.chunkDue n) (layerChunk n) s

/-! ### The end of a period (R337, R338) -/

/-- The rms of recorded error mantissas in 1 µV, to the nearest, held to 16 bits (R337). -/
def ermsOf (sumSq cnt : Nat) (e0 : Int) : Nat :=
  if cnt = 0 then 0 else
    let x := ((Frac.ofNats (4 * sumSq * 10 ^ 12) (cnt * 2 ^ 30)).mul (Frac.pow2 (2 * e0))).floor.toNat
    min 65535 ((isqrt 40 x 0 + 1) / 2)

/-- A diverged loop (R338): the fault, DIVFLAG, the checkpoint restored or the table invalidated. -/
def layerDiverge (n : Fin 16) (s : State) : State :=
  let s := s.updLyr n fun (l : LoopLyr) =>
    let l := if l.ckptSet then { l with table := l.ckpt, valid := l.ckptValid } else { l with valid := 0 }
    { l with divflag := true, divRun := 0, diverged := inc8 l.diverged, restoreTo := s.now + Config.us 20 }
  s.raiseFree n 0x16

/-- The end of a period of LPn (R337, R338). -/
def layerPeriodEnd (n : Fin 16) (s : State) : State :=
  let p := s.lyrP n
  let e0 := expsNib (s.lp n 0x16) 0
  let dv := s.pgL n 0x39 0x0D
  let l := (s.loop n).lyr
  let (sq, cnt) := if l.tag = l.updTag then (l.sumSq, l.cnt) else (l.prevSq, l.prevCnt)
  let counts := decide (p ≤ 2 * cnt)
  let erms := ermsOf sq cnt e0
  let better := counts && decide (erms < l.eref)
  let worse := counts && decide (fld dv 7 0 ≠ 0) && decide (fld dv 7 0 * max l.eref 20 < 16 * erms)
  let s := s.updLyr n fun (l : LoopLyr) =>
    let l := { l with updTag := l.updTag + 1, updChunk := 0, erms := erms }
    let l := if counts then { l with upd := (l.upd + 1) % 65536, divRun := if worse then l.divRun + 1 else 0 } else l
    if better then { l with eref := erms, ckpt := l.table, ckptValid := l.valid, ckptSet := true } else l
  if worse && decide (fld dv 11 8 ≤ (s.loop n).lyr.divRun) then layerDiverge n s else s

/-- LAYER_PERIOD_END (R337): the period's last chunk has completed. -/
def execLayerPeriodEnd (t : Nat) (n : Fin 16) (s : State) : Ans :=
  gated t (fun s => let l := (s.loop n).lyr
      decide (l.st = .locked) && !l.divflag && decide (l.updChunk = chunksOf (s.lyrP n)))
    (layerPeriodEnd n) s

/-! ### Clearing and commits (R339, R340, R342) -/

/-- CLR of the loops of a word: it acts at each loop's next boundary (R340). -/
def lyrClear (w : W16) (s : State) : State := forLoops (fun n s => s.updLyr n fun l => { l with clr := true }) (bitsOf w) s

/-- The effect of a commit of Layer words on LPn at its apply boundary (R339, R340). `old` and `new` are LYR_CTL and
LYR_PERIOD; `other` says that another Layer word of the loop was named. -/
def layerCommit (n : Fin 16) (oldCtl newCtl oldPer newPer : W16) (auto other : Bool) (s : State) : State :=
  let src := fld newCtl 2 1
  let rebuilt := decide (fld oldPer 11 0 ≠ fld newPer 11 0) || decide (fld oldCtl 12 9 ≠ fld newCtl 12 9) ||
    decide (fld oldCtl 2 1 ≠ src)
  let reseek := decide (fld oldCtl 8 3 ≠ fld newCtl 8 3) || decide (fld oldPer 15 12 ≠ fld newPer 15 12) || auto
  s.updLyr n fun (l : LoopLyr) =>
    if !bitAt newCtl 0 then { (if rebuilt then lyrInvalidate l else l) with st := .idle, divflag := false }
    else if rebuilt then (let l := lyrInvalidate l; if l.st = .idle then l else lyrSeek src l)
    else if reseek || ((other || decide (oldCtl ≠ newCtl)) && l.divflag) then
      (let l : LoopLyr := { l with divflag := false }; if l.st = .idle then l else lyrSeek src l)
    else l

/-- The table of LPn at BOOT is invalid when it was built under other values, or after a loss of VAUX (R340, R342). -/
def layerBoot (n : Fin 16) (lost : Bool) (s : State) : State :=
  let ctl := s.lyrCtl n
  let per := s.lp n 0x2F
  s.updLyr n fun (l : LoopLyr) =>
    let same := decide (fld l.built.1 12 9 = fld ctl 12 9) && decide (fld l.built.1 2 1 = fld ctl 2 1) &&
      decide (fld l.built.2 11 0 = fld per 11 0)
    let l := if lost || !same then lyrInvalidate l else l
    { l with st := .idle, divflag := false, diverged := 0 }

/-! ### Views -/

/-- The lock states of eight loops (LYR.LOCK_LO, LOCK_HI). -/
def State.lyrLocks (s : State) (base : Nat) : W16 :=
  w16 (((List.finRange 16).filter fun n => decide (base ≤ n.val) && decide (n.val < base + 8)).foldl (fun a n =>
    a + 4 ^ (n.val - base) * (match (s.loop n).lyr.st with | .idle => 0 | .seek => 1 | .locked => 2)) 0)

/-- LYR.TMAX of a loop (loop-current encoding). -/
def State.lyrMax (s : State) (n : Fin 16) : W16 :=
  let l := (s.loop n).lyr
  let m := (l.table.filter fun e => l.valid.getLsbD (e.1 / 32)).foldl (fun a e => max a e.2.toInt.natAbs) 0
  satS16 (mantCurrent m (texpOf (s.lyrCtl n))).roundEven

end Sys2Proof.Machine
end

