-- ==== Sys2Proof/Machine/Chew.lean ====
section
/-! DEFINITION. Chew's selection (20_chew.md R526 to R532): which item of an ACP port, the Leash or Fetch is
altered, and how. -/

namespace Sys2Proof.Machine

open Sys2Proof

def State.updChw (s : State) (f : Chw → Chw) : State := { s with chw := f s.chw }
/-- Word `i` of the CHW page in use. -/
def State.chwW (s : State) (i : Nat) : W16 := s.pg 0x3B i

/-- One step of the LFSR x¹⁶ + x¹⁴ + x¹³ + x¹¹ + 1 (R528). -/
def lfsrStep (v : W16) : W16 :=
  let b := (bitAt v 15 ^^ bitAt v 13) ^^ (bitAt v 12 ^^ bitAt v 10)
  w16 (2 * v.toNat + bitVal b 0)

/-- A selector sees one eligible item (R528): the selector after it, and whether it injects. -/
def selStep (cfg : W16) (x : ChwSel) : ChwSel × Bool :=
  let rate := fld cfg 15 8
  if bitAt cfg 2 then
    let v := lfsrStep x.lfsr
    ({ x with lfsr := v }, decide (fld v 7 0 < rate))
  else ({ x with count := x.count + 1 }, decide ((x.count + 1) % max 1 rate = 0))

/-- A selector restarted (R526, R528). -/
def selRestart (seed : W16) (x : ChwSel) : ChwSel := { x with count := 0, lfsr := seed }

/-- One injection (R528): LEFT, COUNT and the target's counter. -/
def chwInject (put : ChwSel → Chw → Chw) (x : ChwSel) (c : Chw) : Chw :=
  { put { x with injected := inc16 x.injected } c with left := c.left - 1, count := inc16 c.count }

/-- An eligible item of a target: the selector steps, and a selected item counts. -/
def chwPick (get : Chw → ChwSel) (put : ChwSel → Chw → Chw) (cfg : W16) (s : State) : Bool × State :=
  let r := selStep cfg (get s.chw)
  if r.2 then (true, s.updChw fun c => chwInject put r.1 c) else (false, s.updChw fun c => put r.1 c)

/-- A target is enabled while Chew is armed (R526). -/
def State.chwOn (s : State) (i : Nat) : Bool := s.chw.armed && decide (0 < s.chw.left) && bitAt (s.chwW 0) i

/-- An ACP request with a valid CRC on port p (R529): the action taken on it, none when it is left alone. -/
def chewAcp (p : Fin 8) (s : State) : Option Nat × State :=
  if s.chwOn 0 && bitAt (s.chwW 6) p.val then
    let r := chwPick (fun c => c.acp) (fun x c => { c with acp := x }) (s.chwW 5) s
    (if r.1 then some (fld (s.chwW 5) 1 0) else none, r.2)
  else (none, s)

/-- An accepted Leash slot of position p (R530). A position whose message is held has its next one passed on unaltered: the
selector sees it and injects nothing. -/
def chewLeash (p : Fin 8) (cls : Nat) (s : State) : Option Nat × State :=
  if s.chwOn 1 && bitAt (s.chwW 8) p.val && bitAt (s.chwW 7) (4 + cls) then
    if s.chw.held.any fun h => decide (h.1 = p.val) then
      (none, s.updChw fun c => { c with lsh := (selStep (s.chwW 7) c.lsh).1 })
    else
      let r := chwPick (fun c => c.lsh) (fun x c => { c with lsh := x }) (s.chwW 7) s
      (if r.1 then some (fld (s.chwW 7) 1 0) else none, r.2)
  else (none, s)

/-- A due poll of Fetch entry i (R532): none is eligible while a simulated line is active. -/
def chewFetch (i : Fin 32) (s : State) : Option Nat × State :=
  let m := if i.val < 16 then bitAt (s.chwW 0x0A) i.val else bitAt (s.chwW 0x0B) (i.val - 16)
  if s.chwOn 2 && m && s.fch.simLine.isNone then
    let r := chwPick (fun c => c.fch) (fun x c => { c with fch := x }) (s.chwW 9) s
    (if r.1 then some (fld (s.chwW 9) 1 0) else none, r.2)
  else (none, s)

/-- CHW.STAT. -/
def State.chwStat (s : State) : W16 :=
  let c := s.chw
  w16 (bitVal c.armed 0 + bitVal c.refused 1 + (if c.armed then 4 * fld (s.chwW 0) 2 0 else 0) + 32 * (c.cause % 8) + 256 * c.arms)

end Sys2Proof.Machine
end

