-- ==== Sys2Proof/Machine/Crypto.lean ====
section
/-! DEFINITION. Hashes, signatures and certificates (19_identity.md R502, R504, R505): SHA-256 (FIPS 180-4), ECDSA over
P-256 (FIPS 186), its deterministic per-signature value (RFC 6979), and the certificate profile of RFC 5280. The
algorithms are those standards' (PRESUMED: notes/assumptions/40.md). -/

namespace Sys2Proof.Machine

open Sys2Proof

/-! ### SHA-256 -/

/-- The greatest number of `bits` more bits below `r` whose `k`-th power is at most `n`. -/
def rootBelow (k n : Nat) : Nat → Nat → Nat
  | 0, r => r
  | b + 1, r => rootBelow k n b (if (r + 2 ^ b) ^ k ≤ n then r + 2 ^ b else r)

/-- The first 32 fractional bits of the `k`-th root of a number below 2^8: the form of every constant of FIPS 180-4. -/
def rootWord (k p : Nat) : W32 := BitVec.ofNat 32 (rootBelow k (p * 2 ^ (32 * k)) 37 0)

/-- The first 64 primes. -/
def shaPrimes : List Nat :=
  (List.range 312).filter fun p => decide (2 ≤ p) && (List.range 18).all fun d => decide (d < 2) || decide (p ≤ d) || decide (p % d ≠ 0)

/-- The constants of the rounds, and the value that a digest starts from. -/
def shaRoundWords : List W32 := shaPrimes.map (rootWord 3)
def shaStart : List W32 := (shaPrimes.take 8).map (rootWord 2)

/-- The exclusive or of a word's rotations to the right. -/
def turns (ks : List Nat) (x : W32) : W32 := ks.foldl (fun a k => a ^^^ x.rotateRight k) 0

/-- The message schedule, newest word first: one word more from the sixteen before it. -/
def shaExtend (w : List W32) : W32 :=
  let back (k : Nat) : W32 := w.getD (k - 1) 0
  back 16 + back 7 + (turns [7, 18] (back 15) ^^^ back 15 >>> 3) + (turns [17, 19] (back 2) ^^^ back 2 >>> 10)

/-- The schedule of a block of sixteen words after `k` more, newest first. -/
def shaSchedule (block : List W32) : Nat → List W32
  | 0 => block.reverse
  | k + 1 => let w := shaSchedule block k; shaExtend w :: w

/-- The two halves of the working variables, a to d and e to h. -/
structure ShaVars where
  lo : List W32
  hi : List W32
  deriving DecidableEq, Repr

/-- One round with its constant and schedule word: the newest variable of each half enters in front, the oldest leaves. -/
def shaTurn (v : ShaVars) (kw : W32) : ShaVars :=
  let l (i : Nat) : W32 := v.lo.getD i 0
  let h (i : Nat) : W32 := v.hi.getD i 0
  let pick := h 0 &&& h 1 ||| ~~~(h 0) &&& h 2
  let most := l 0 &&& l 1 ||| l 2 &&& (l 0 ||| l 1)
  let t := h 3 + turns [6, 11, 25] (h 0) + pick + kw
  ⟨(t + turns [2, 13, 22] (l 0) + most) :: v.lo.take 3, (l 3 + t) :: v.hi.take 3⟩

/-- The digest value after one more block of sixteen words. -/
def shaAbsorb (d : List W32) (block : List W32) : List W32 :=
  let v := (List.zipWith (· + ·) shaRoundWords (shaSchedule block 48).reverse).foldl shaTurn ⟨d.take 4, d.drop 4⟩
  List.zipWith (· + ·) d (v.lo ++ v.hi)

/-- The 64-byte block number `i` of a padded message, as sixteen words. -/
def shaBlockAt (m : List Byte) (i : Nat) : List W32 :=
  (List.range 16).map fun j => BitVec.ofNat 32 (beNat ((m.drop (64 * i + 4 * j)).take 4))

/-- The padding of a message of `n` bytes: a 1, zeros, and the length in bits in the last eight bytes of a block. -/
def shaTail (n : Nat) : List Byte := [(0x80 : Byte)] ++ List.replicate ((119 - n % 64) % 64) 0 ++ beBytes 8 (8 * n)

/-- SHA-256 (FIPS 180-4). -/
def sha256 (m : List Byte) : List Byte :=
  let padded := m ++ shaTail m.length
  ((List.range (padded.length / 64)).foldl (fun d i => shaAbsorb d (shaBlockAt padded i)) shaStart).flatMap fun w => beBytes 4 w.toNat

/-- HMAC with SHA-256 over a key of at most 64 bytes. -/
def hmac (key m : List Byte) : List Byte :=
  let k := key ++ List.replicate (64 - key.length) 0
  sha256 (k.map (· ^^^ 0x5C) ++ sha256 (k.map (· ^^^ 0x36) ++ m))

/-! ### P-256 -/

def ecP : Nat := 0xffffffff00000001000000000000000000000000ffffffffffffffffffffffff
def ecN : Nat := 0xffffffff00000000ffffffffffffffffbce6faada7179e84f3b9cac2fc632551
def ecB : Nat := 0x5ac635d8aa3a93e7b3ebbd55769886bc651d06b0cc53b0f63bce3c3e27d2604b
def ecG : Nat × Nat :=
  (0x6b17d1f2e12c4247f8bce6e563a440f277037d812deb33a0f4a13945d898c296,
   0x4fe342e2fe1a7f9b8ee7eb4a7c0f9e162bce33576b315ececbb6406837bf51f5)

/-- b^e mod m over `k` bits of the exponent. -/
def powMod (m : Nat) : Nat → Nat → Nat → Nat
  | 0, _, _ => 1 % m
  | k + 1, b, e => (if e % 2 = 1 then b else 1) * powMod m k (b * b % m) (e / 2) % m

/-- The inverse modulo a prime. -/
def invMod (m a : Nat) : Nat := powMod m 256 (a % m) (m - 2)

/-- The difference modulo m. -/
def subMod (m a b : Nat) : Nat := (a + (m - b % m)) % m

/-- The point lies on the curve. -/
def onCurve (q : Nat × Nat) : Bool :=
  decide (q.1 < ecP) && decide (q.2 < ecP) &&
  decide (q.2 * q.2 % ecP = (subMod ecP (q.1 * q.1 * q.1) (3 * q.1) + ecB) % ecP)

/-- Point addition; none is the point at infinity. -/
def ecAdd : Option (Nat × Nat) → Option (Nat × Nat) → Option (Nat × Nat)
  | none, q => q
  | p, none => p
  | some (x1, y1), some (x2, y2) =>
    if x1 = x2 ∧ (y1 + y2) % ecP = 0 then none
    else
      let l := if x1 = x2 then subMod ecP (3 * x1 * x1) 3 * invMod ecP (2 * y1) % ecP
        else subMod ecP y2 y1 * invMod ecP (subMod ecP x2 x1) % ecP
      let x := subMod ecP (subMod ecP (l * l) x1) x2
      some (x, subMod ecP (l * subMod ecP x1 x) y1)

/-- k · P over `n` bits of k. -/
def ecMul : Nat → Nat → Option (Nat × Nat) → Option (Nat × Nat)
  | 0, _, _ => none
  | n + 1, k, p => ecAdd (if k % 2 = 1 then p else none) (ecMul n (k / 2) (ecAdd p p))

/-- The public key of a private key. -/
def ecPublic (d : Nat) : Option (Nat × Nat) := ecMul 256 d (some ecG)

/-- Verify r, s over a digest (R502). -/
def ecVerify (q : Nat × Nat) (digest : List Byte) (r s : Nat) : Bool :=
  if r = 0 ∨ ecN ≤ r ∨ s = 0 ∨ ecN ≤ s then false
  else
    let w := invMod ecN s
    match ecAdd (ecMul 256 (beNat digest * w % ecN) (some ecG)) (ecMul 256 (r * w % ecN) (some q)) with
    | some (x, _) => decide (x % ecN = r)
    | none => false

/-- The candidates k of RFC 6979 from K and V, with the signature of the first usable one. -/
def signLoop : Nat → Nat → Nat → List Byte → List Byte → Nat × Nat
  | 0, _, _, _, _ => (0, 0)
  | fuel + 1, d, z, k, v =>
    let v := hmac k v
    let c := beNat v
    let r := match ecMul 256 c (some ecG) with | some (x, _) => x % ecN | none => 0
    let s := invMod ecN c * (z + r * d) % ecN
    if 0 < c ∧ c < ecN ∧ r ≠ 0 ∧ s ≠ 0 then (r, s)
    else (let k := hmac k (v ++ [0]); signLoop fuel d z k (hmac k v))

/-- Sign a digest with a private key (R502). -/
def ecSign (d : Nat) (digest : List Byte) : Nat × Nat :=
  let z := beNat digest % ecN
  let x := beBytes 32 d ++ beBytes 32 z
  let v := List.replicate 32 (1 : Byte)
  let k := hmac (List.replicate 32 0) (v ++ [0] ++ x)
  let v := hmac k v
  let k := hmac k (v ++ [1] ++ x)
  signLoop 64 d z k (hmac k v)

/-- A signature as 64 bytes, r then s (R502). -/
def sigBytes (p : Nat × Nat) : List Byte := beBytes 32 p.1 ++ beBytes 32 p.2

/-- Verify 64 signature bytes over a message. -/
def verifyBytes (q : Nat × Nat) (msg sig : List Byte) : Bool :=
  decide (sig.length = 64) && ecVerify q (sha256 msg) (beNat (sig.take 32)) (beNat (sig.drop 32))

/-- The device's signature over a message, or zeros when the identity unit is failed (R502, R506). -/
def deviceSign (ok : Bool) (d : Nat) (msg : List Byte) : List Byte :=
  if ok then sigBytes (ecSign d (sha256 msg)) else List.replicate 64 0

/-! ### Certificates (R504) -/

/-- One DER element: its tag, its content, all its bytes, and what follows it. -/
structure Der where
  tag : Nat
  val : List Byte
  all : List Byte
  rest : List Byte
  deriving DecidableEq, Repr

/-- Read one element with a definite, minimal length. -/
def derRead (l : List Byte) : Option Der :=
  match l with
  | t :: n :: r =>
    let k := n.toNat
    let lenBytes := if k < 128 then 0 else k - 128
    let len := if k < 128 then k else beNat (r.take lenBytes)
    let body := r.drop lenBytes
    if (k < 128 ∨ ((k = 129 ∧ 128 ≤ len) ∨ (k = 130 ∧ 256 ≤ len))) ∧ lenBytes ≤ r.length ∧ len ≤ body.length then
      some ⟨t.toNat, body.take len, l.take (2 + lenBytes + len), body.drop len⟩
    else none
  | _ => none

/-- Read one element of a given tag. -/
def derTag (t : Nat) (l : List Byte) : Option Der := (derRead l).filter fun d => decide (d.tag = t)

/-- The elements of a content, over a bound. -/
def derAll : Nat → List Byte → Option (List Der)
  | _, [] => some []
  | 0, _ => none
  | k + 1, l => match derRead l with
    | some d => (derAll k d.rest).map (d :: ·)
    | none => none

def oidEcdsaSha256 : List Byte := [0x2A, 0x86, 0x48, 0xCE, 0x3D, 0x04, 0x03, 0x02]
def oidEcKey : List Byte := [0x2A, 0x86, 0x48, 0xCE, 0x3D, 0x02, 0x01]
def oidP256 : List Byte := [0x2A, 0x86, 0x48, 0xCE, 0x3D, 0x03, 0x01, 0x07]
def oidKeyUsage : List Byte := [0x55, 0x1D, 0x0F]
def oidBasic : List Byte := [0x55, 0x1D, 0x13]

/-- AlgorithmIdentifier ecdsa-with-SHA256 without parameters. -/
def algOk (d : Der) : Bool := decide (d.tag = 0x30) && decide (d.val = (6 : Byte) :: 8 :: oidEcdsaSha256)

/-- The public key of a subjectPublicKeyInfo (R504). -/
def spkiKey (d : Der) : Option (Nat × Nat) :=
  match derAll 4 d.val with
  | some [alg, key] =>
    let q := (beNat ((key.val.drop 2).take 32), beNat (key.val.drop 34))
    if d.tag = 0x30 ∧ alg.tag = 0x30 ∧ alg.val = [(6 : Byte), 7] ++ oidEcKey ++ [6, 8] ++ oidP256 ∧ key.tag = 3 ∧
        key.val.length = 66 ∧ key.val.take 2 = [(0 : Byte), 4] ∧ onCurve q = true then some q else none
  | _ => none

/-- One extension: its OID, whether it is critical, and its value. -/
def extOf (d : Der) : Option (List Byte × Bool × List Byte) :=
  match derAll 4 d.val with
  | some [o, v] => if o.tag = 6 ∧ v.tag = 4 then some (o.val, false, v.val) else none
  | some [o, c, v] => if o.tag = 6 ∧ c.tag = 1 ∧ v.tag = 4 then some (o.val, decide (c.val = [(0xFF : Byte)]), v.val) else none
  | _ => none

/-- The keyUsage value has digitalSignature set. -/
def usageOk (v : List Byte) : Bool :=
  match derTag 3 v with | some d => decide (128 ≤ (d.val.getD 1 0).toNat) && decide (d.rest = []) | none => false

/-- The basicConstraints value has cA FALSE. -/
def basicOk (v : List Byte) : Bool :=
  match derTag 0x30 v with
  | some d => decide (d.rest = []) && (match derRead d.val with
      | some b => !(decide (b.tag = 1) && decide (b.val ≠ [(0 : Byte)]))
      | none => true)
  | none => false

/-- The extensions meet the profile. -/
def extsOk (l : List Der) : Bool :=
  let xs := l.map extOf
  xs.all (fun x => match x with
    | some (o, crit, v) =>
      if o = oidKeyUsage then crit && usageOk v else if o = oidBasic then basicOk v else !crit
    | none => false) &&
  xs.any fun x => match x with | some (o, _, _) => decide (o = oidKeyUsage) | none => false

/-- What R504 takes from a certificate: the issuer's bytes, the public key, the signed part and the signature. -/
structure CertView where
  issuer : List Byte
  key : Nat × Nat
  tbs : List Byte
  sig : Nat × Nat
  deriving DecidableEq, Repr

/-- ECDSA-Sig-Value inside a BIT STRING. -/
def certSig (d : Der) : Option (Nat × Nat) :=
  match derTag 0x30 (d.val.drop 1) with
  | some q => (match derAll 3 q.val with
    | some [r, s] => if d.tag = 3 ∧ d.val.headD 1 = 0 ∧ q.rest = [] ∧ r.tag = 2 ∧ s.tag = 2 then some (beNat r.val, beNat s.val) else none
    | _ => none)
  | none => none

/-- The TBSCertificate of the profile. -/
def certTbs (t : Der) : Option (List Byte × (Nat × Nat)) :=
  match derAll 16 t.val with
  | some (ver :: ser :: alg :: iss :: val :: subj :: spki :: more) =>
    match spkiKey spki, more.find? (fun d => decide (d.tag = 0xA3)) with
    | some q, some x =>
      (match derTag 0x30 x.val with
       | some es => (match derAll 64 es.val with
         | some l =>
           if ver.all = [(0xA0 : Byte), 3, 2, 1, 2] ∧ ser.tag = 2 ∧ 0 < beNat ser.val ∧ ser.val.length ≤ 20 ∧
               (ser.val.headD 0).toNat < 128 ∧ algOk alg = true ∧ iss.tag = 0x30 ∧ val.tag = 0x30 ∧ subj.tag = 0x30 ∧
               extsOk l = true then some (iss.all, q) else none
         | none => none)
       | none => none)
    | _, _ => none
  | _ => none

/-- Read a certificate under the profile of R504, all but its issuer and its signature. -/
def certRead (c : List Byte) : Option CertView :=
  if 1024 < c.length then none else
  match derTag 0x30 c with
  | some d => (match derAll 4 d.val with
    | some [t, alg, sg] => (match certTbs t, certSig sg with
      | some (iss, q), some s => if d.rest = [] ∧ t.tag = 0x30 ∧ algOk alg = true then some ⟨iss, q, t.all, s⟩ else none
      | _, _ => none)
    | _ => none)
  | none => none

/-- The certificate is accepted (R504): the issuer's bytes are those of the device's own certificate, and the CA key
verifies it. -/
def certKey (ca : Option (Nat × Nat)) (own c : List Byte) : Option (Nat × Nat) :=
  match certRead c, certRead own, ca with
  | some v, some o, some k =>
    if v.issuer = o.issuer ∧ ecVerify k (sha256 v.tbs) v.sig.1 v.sig.2 = true then some v.key else none
  | _, _, _ => none

/-- The fingerprint of a certificate (R505). -/
def fingerprint (c : List Byte) : List Byte := (sha256 c).take 8

/-- The fingerprint of an operator key (R505). -/
def keyFingerprint (q : Nat × Nat) : List Byte := (sha256 (beBytes 32 q.1 ++ beBytes 32 q.2)).take 8

end Sys2Proof.Machine
end

