-- ==== Sys2Proof/Machine/Timebase.lean ====
section
/-! DEFINITION. The switching timebase and its sources (08_phases_and_modulation.md R227, R244 to R249). -/

namespace Sys2Proof.Machine

open Sys2Proof

/-- SYNC_NOM in kHz. -/
def State.syncNom (s : State) : Nat := (s.pg 3 2).toNat

/-- The nominal SYNC_IN period in 1/256 ns. -/
def State.syncPeriod (s : State) : Nat := 256000000 / max 1 s.syncNom

/-- The highest-priority valid source that is enabled (R244). -/
def State.pickSource (s : State) : SyncSrc :=
  if bitAt (s.pg 3 0) 0 && s.stb.siValid then .syncIn
  else if bitAt (s.pg 3 0) 1 && s.stb.lshValid && decide (s.lsh.link ≠ .lead) then .leash
  else .osc

/-- A change of the selected source starts a glide (R247): from the present frequency, that of a pull included. -/
def reselect (s : State) : State :=
  let src := s.pickSource
  if src = s.stb.src then s
  else { s with stb := { s.stb with
      src := src
      changes := inc8 s.stb.changes
      gliding := true
      dev := s.stb.dev + s.stb.pull
      pull := 0
      err := none
      errRun := 0 } }

/-- The frequency deviation of the selected source in ppm (R248). -/
def Stb.target (b : Stb) : Int :=
  match b.src with | .osc => 0 | .syncIn => b.siPpm | .leash => b.lshPpm

/-- The epoch period of the selected source in 1/256 ns. -/
def Stb.sourcePeriod (b : Stb) : Nat := 2560000000000 / max 1 (1000000 + b.target).toNat

/-- The STB's own epoch period in 1/256 ns (R227). -/
def Stb.period (b : Stb) : Nat := 2560000000000 / max 1 (1000000 + b.dev + b.pull).toNat

/-- Move a value toward a target by at most `k`. -/
def toward (k x t : Int) : Int := if x < t then min t (x + k) else max t (x - k)

/-- The 0.5 % per ms of R247 in ppm for each 10 µs epoch. -/
def glideStep : Int := 50

/-- The distance of an epoch from the nearest epoch of the source, positive when it is late. -/
def Stb.error (b : Stb) (due : Nat) : Option Int :=
  match b.src, b.srcEpoch with
  | .osc, _ => none
  | _, none => none
  | _, some e =>
    let p := max 1 b.sourcePeriod
    let d : Int := ((due : Int) - e) % (p : Int)
    some (if 2 * d ≤ (p : Int) then d else d - p)

/-- The largest pull, up to 0.5 %, that can still be taken back in steps of `glideStep` before an error of `e` has gone. -/
def pullFor (e : Nat) : Nat :=
  (List.range 13).foldl (fun (p : Nat) (i : Nat) =>
    let q := p + 2 ^ (12 - i)
    if q ≤ 5000 ∧ 128 * (q * (q + 50)) ≤ 5000 * e then q else p) 0

/-- The STB's frequency and pull at an epoch (R247). Frequency and pull together change by at most `glideStep`. The pull takes
the epoch error away as fast as that allows and ends with it: the controller is the model's choice
(notes/assumptions/27.md). -/
def Stb.adjust (b : Stb) (due : Nat) : Stb :=
  let dev := toward glideStep b.dev b.target
  let err := if dev = b.target then b.error due else none
  let want : Int := match err with
    | some e => if e < 0 then -(pullFor e.natAbs : Int) else pullFor e.natAbs
    | none => 0
  let near := match err with | some e => decide (-(Config.ns 10 : Int) ≤ e) && decide (e ≤ (Config.ns 10 : Int)) | none => false
  { b with
    dev := dev
    pull := toward (glideStep - (dev - b.dev).natAbs) b.pull want
    err := err
    errRun := if near then b.errRun + 1 else 0 }

/-- An epoch of the STB (R227): the count, the alignment instant, SYNC_OUT in mode 1 (R249). -/
def stbTick (s : State) : State :=
  let b := s.stb.adjust s.stb.due
  let due := s.stb.due
  let count := match s.stb.src, s.lsh.syncAt with
    | .leash, some a =>
      if s.stb.gliding then (s.stb.count + 1) % 65536
      else (s.lsh.fcount + (roundUp ((due : Int) - a) (max 1 b.sourcePeriod)).toNat) % 65536
    | _, _ => (s.stb.count + 1) % 65536
  let al := decide (count % 100 = 0)
  { s with stb := { b with
      count := count
      at_ := due
      due := due + b.period
      align := s.stb.align || al
      alignAt := if al then due else s.stb.alignAt
      outUntil := if fld (s.pg 3 5) 1 0 = 1 then some (due + Config.ns 100) else b.outUntil } }

/-- ALIGNMENT_INSTANT (R228, R231, R264). -/
def execAlignmentInstant (t : Nat) (s : State) : Ans :=
  gated t (fun s => s.booted && s.stb.align)
    (fun s => forLoops alignLoop allLoops { s with stb := { s.stb with align := false } }) s

/-! ### SYNC_IN (R245, R246) -/

/-- A period lies within ±4 % of 1 / SYNC_NOM. -/
def State.syncInRange (s : State) (p : Nat) : Bool :=
  decide (96 * 256000000 ≤ 100 * (p * s.syncNom)) && decide (100 * (p * s.syncNom) ≤ 104 * 256000000)

/-- An edge of the selected polarity. -/
def syncEdge (s : State) : State :=
  let b := s.stb
  match b.siEdge with
  | none => { s with stb := { b with siEdge := some s.now, siFrom := some s.now, siCnt := 0, siBad := 0 } }
  | some e =>
    let p := s.now - e
    let ok := s.syncInRange p
    let restart := !ok && !b.siValid
    let cnt := if restart then 0 else b.siCnt + 1
    let per := s.syncNom / 100
    let epoch := !restart && decide (per ≠ 0) && decide (cnt % per = 0)
    { s with stb := { b with
        siEdge := some s.now
        siFrom := if restart then some s.now else b.siFrom
        siBad := if ok then 0 else b.siBad + 1
        siCnt := cnt
        siMeas := if p = 0 then 0 else (roundUp 256000000 p).toNat % 65536
        siPpm := if ok then roundEven ((256000000 : Int) * 1000000) (p * s.syncNom) - 1000000 else b.siPpm
        srcEpoch := if epoch && decide (b.src = .syncIn) then some s.now else b.srcEpoch } }

/-- SYNC_IN_EDGE (R245, R246). -/
def execSyncInEdge (t : Nat) (falling : Bool) (s : State) : Ans :=
  gated t (fun s => s.up && decide (bitAt (s.pg 3 0) 2 = falling)) syncEdge s

/-- SYNC_IN_VALID (R245): 10 ms of consecutive edges in range. -/
def execSyncInValid (t : Nat) (s : State) : Ans :=
  gated t (fun s => s.up && !s.stb.siValid && (match s.stb.siFrom, s.stb.siEdge with
      | some f, some e => decide (f + Config.ms 10 ≤ e)
      | _, _ => false))
    (fun s => reselect { s with stb := { s.stb with siValid := true } }) s

/-- SYNC_IN_LOST (R245): no edge for two nominal periods, or four consecutive periods out of range. -/
def execSyncInLost (t : Nat) (s : State) : Ans :=
  gated t (fun s => s.up && (match s.stb.siEdge with
      | some e => decide (e + 2 * s.syncPeriod ≤ s.now) || (s.stb.siValid && decide (4 ≤ s.stb.siBad))
      | none => false))
    (fun s => reselect { s with stb := { s.stb with
        siValid := false
        siFrom := none
        siEdge := none
        siMeas := 0
        siBad := 0 } }) s

/-- LEASH_VALID (R245, R386): 10 ms in FOLLOW. -/
def execLeashValid (t : Nat) (s : State) : Ans :=
  gated t (fun s => s.up && !s.stb.lshValid && decide (s.lsh.link = .follow) && (match s.stb.lshFrom with
      | some f => decide (f + Config.ms 10 ≤ s.now)
      | none => false))
    (fun s => reselect { s with stb := { s.stb with lshValid := true } }) s

/-- GLIDE_END (R247). -/
def execGlideEnd (t : Nat) (s : State) : Ans :=
  gated t (fun s => s.up && s.stb.gliding && decide (s.stb.dev = s.stb.target) &&
      (match s.stb.src with | .osc => decide (s.stb.pull = 0) | _ => decide (16 ≤ s.stb.errRun)))
    (fun s => { s with stb := { s.stb with gliding := false } }) s

/-- CLK.SRC. -/
def State.clkSrc (s : State) : W16 :=
  w16 ((match s.stb.src with | .osc => 0 | .leash => 1 | .syncIn => 2) + bitVal s.stb.gliding 2 +
    bitVal s.stb.siValid 3 + bitVal s.stb.lshValid 4 + bitVal (decide (s.lsh.link = .lead)) 5 + 256 * s.stb.changes)

/-- CLK.STB_DEV in 0.01 %. -/
def State.stbDev (s : State) : W16 := satS16 (roundEven (s.stb.dev + s.stb.pull) 100)

end Sys2Proof.Machine
end

