-- ==== Sys2Proof/Machine/Roster.lean ====
section
/-! DEFINITION. Who is on the Leash (14_leash_bus.md, 15_leash_services.md): the status word, the frames heard of late, the wiring plan
and the roster. -/

namespace Sys2Proof.Machine

open Sys2Proof

/-- The strap position. -/
def State.pos (s : State) : Nat := s.power.pos.toNat

def State.lshCtl (s : State) : W16 := s.pg 0x30 0
def State.lshEn (s : State) : Bool := bitAt s.lshCtl 0
def State.tkEn (s : State) : Bool := bitAt s.lshCtl 1
/-- NAP in use: 0 in GASP and while a sweep is ARMED or RUNNING (R396, R432). -/
def State.napEn (s : State) : Bool :=
  bitAt s.lshCtl 2 && decide (s.power.g ≠ .gasp) && decide (s.swp.st ≠ .armed) && decide (s.swp.st ≠ .running)

def State.updLsh (s : State) (f : Lsh → Lsh) : State := { s with lsh := f s.lsh }

/-- W_LEASH_STAT (R405). -/
def State.leashStat (s : State) : W16 :=
  let l := s.lsh
  w16 ((match l.err with | .active => 0 | .wary => 1 | .muted => 2 | .isolated => 3) +
    4 * (match l.link with | .off => 0 | .listen => 1 | .follow => 2 | .lead => 3) + 16 * (l.tk % 8) +
    bitVal l.nap 7 + bitVal l.edgeMute 8 + bitVal l.jabCut 9 + bitVal l.claim.isSome 10)

/-- The frame period in use in 1/256 ns. -/
def State.framePeriod (s : State) : Nat :=
  if s.lsh.link = .lead then s.stb.period
  else
    let ps := s.lsh.periods.take (if s.lsh.nap then 1 else 8)
    if ps = [] then Config.us 10 else (ps.foldl (· + ·) 0) / ps.length

/-- The frames that have passed in silence since the last frame that was heard or sent: those of Nap, and those of LISTEN (R384, R395). -/
def State.silent (s : State) : Nat :=
  let n := (s.now - s.lsh.frameAt) / max 1 s.framePeriod
  match s.lsh.link with
  | .listen => n
  | .off => 16
  | _ => if s.lsh.nap && decide (s.lsh.napFrame = 0) then n - 1 else 0

/-- What of a history lies in the last 16 frames, the silent ones counted. -/
def State.lately {α : Type} (s : State) (l : List α) : List α := l.take (16 - s.silent)

/-- LSH.HEARD[7:0] and [15:8]. -/
def orMasks (l : List Byte) : Byte := l.foldl (· ||| ·) 0
def State.heardMask (s : State) : Byte := orMasks (s.lately s.lsh.heard)
def State.edgeMask (s : State) : Byte := orMasks (s.lately s.lsh.edges)

/-- The histories before a frame that follows silence. -/
def ageHeard (s : State) : State :=
  s.updLsh fun l => { l with
    heard := s.lately l.heard
    edges := s.lately l.edges
    own := s.lately l.own }

def State.updPeers (s : State) (f : Peers → Peers) : State := { s with peers := f s.peers }
def State.peer (s : State) (p : Fin 8) : Peer := s.peers.pos[p]
def State.updPeer (s : State) (p : Fin 8) (f : Peer → Peer) : State :=
  s.updPeers fun x => { x with pos := x.pos.set p (f x.pos[p]) }
def State.updTok (s : State) (f : Token → Token) : State := s.updPeers fun x => { x with tok := f x.tok }

/-- Every position, ascending. -/
def allPos : List (Fin 8) := List.finRange 8
/-- The own position. -/
def State.own (s : State) : Fin 8 := ⟨s.power.pos.toNat, s.power.pos.isLt⟩
/-- The services run while the device is up and its Leash is not OFF. -/
def State.linked (s : State) : Bool := s.up && decide (s.lsh.link ≠ .off)
/-- FOLLOW or LEAD. -/
def State.synced (s : State) : Bool := decide (s.lsh.link = .follow) || decide (s.lsh.link = .lead)

/-- LSH.SVC_CFG. -/
def State.svcCfg (s : State) : W16 := s.pg 0x30 0x20

/-! ### The wiring plan (R415) -/

/-- WPL entry p as fingerprint bytes. -/
def State.wpl (s : State) (p : Fin 8) : List Byte := (List.range 4).flatMap fun i => wordBytes (s.pg 0x31 (4 * p.val + i))
/-- The 64 digest input bytes of R409. -/
def State.wplBytes (s : State) : List Byte := allPos.flatMap fun p => s.wpl p
def anyDevice (e : List Byte) : Bool := e.all fun b => decide (b = 0xFF)
def noDevice (e : List Byte) : Bool := e.all fun b => decide (b = 0)
/-- The own certificate's fingerprint. -/
def ownPrint : List Byte := fingerprint Config.deviceCert
/-- The own position verifies (R414). -/
def State.ownMatches (s : State) : Bool :=
  anyDevice (s.wpl s.own) || decide (ownPrint = s.wpl s.own)

/-! ### The roster (R407, R408) -/

/-- Position p is present now. -/
def State.presentNow (s : State) (p : Fin 8) : Bool :=
  if p = s.own then s.synced && (s.lately s.lsh.own).any id
  else bitAt s.heardMask p.val || (s.lsh.nap && bitAt (orMasks s.lsh.napHeard) p.val)

/-- The DUPLICATE condition belongs to the own position; the cause of a position's WIRING condition, 0 none (R416). -/
def State.wireCause (s : State) (p : Fin 8) : Nat :=
  let e := s.wpl p
  let q := s.peer p
  if !noDevice e && !anyDevice e && !q.present &&
      (match q.left.or s.peers.readyAt with | some a => decide (a + twDur (s.pg 0x30 0x27) ≤ s.now) | none => false) then 1
  else if noDevice e && q.present then 2
  else if q.fprintBad then 3
  else if 3 ≤ q.fails then 4
  else if p = s.own ∧ s.ownMatches = false then 5
  else if p = s.own ∧ s.peers.dup = true then 6
  else if q.planBad then 7
  else 0

/-- A position enters or leaves the roster: its record starts anew, or its VERIFIED bit clears with it. -/
def rosterPeer (now_ : Nat) (present : Bool) (q : Peer) : Peer :=
  if present = q.present then q
  else if present then { q with present := true, left := none, cert := [], chalAt := none }
  else { q with present := false, verified := false, left := some now_, heardBy := 0 }

/-- A WIRING condition that has ended may be logged again at its next onset. -/
def settleWiring : List (Fin 8) → State → State
  | [], s => s
  | p :: ps, s => settleWiring ps (if s.wireCause p = 0 then s.updPeer p fun q => { q with wiring := 0 } else s)

/-- W_ROSTER. -/
def State.rosterWord (s : State) : Nat :=
  allPos.foldl (fun a p => a + bitVal (s.peer p).present p.val + bitVal (s.peer p).verified (p.val + 8)) 0

/-- Bring every position's presence up to date. -/
def rosterAll : List (Fin 8) → State → State
  | [], s => s
  | p :: ps, s =>
    let now_ := s.presentNow p
    let enters := now_ && !(s.peer p).present && decide (p ≠ s.own)
    let s := s.updPeer p (rosterPeer s.now now_)
    let s := if p = s.own then s.updPeer p fun q => { q with verified := now_ && s.ownMatches } else s
    rosterAll ps (if enters then s.updPeers fun x => { x with digestDue := true } else s)

/-- The roster after anything that may change it; W_IRQ.LEASH is set when W_ROSTER changes (R407). -/
def rosterSettle (s : State) : State :=
  let s := settleWiring allPos (rosterAll allPos s)
  let w := s.rosterWord
  if w = s.peers.roster then s else (s.updPeers fun x => { x with roster := w }).irq 4

/-- W_IRQ.LEASH is set when a field of W_LEASH_STAT changes (R406), or W_ROSTER (R407). -/
def withStat (f : State → State) (s : State) : State :=
  let t := rosterSettle (f s)
  if t.leashStat = s.leashStat then t else t.irq 4

end Sys2Proof.Machine
end

