-- ==== Sys2Proof/Machine/Leash.lean ====
section
/-! DEFINITION. The Leash bus (14_leash_bus.md): link states, frames and timekeeping, handover, EDGE, Nap, error
states, queues and the slot. What the services do with messages is in `Services` and `Messages`. -/

namespace Sys2Proof.Machine

open Sys2Proof

/-! ### Periods and counts (R385) -/

/-- The average is discarded for the last pair of sync fields (R393). -/
def retime (l : Lsh) : Lsh := { l with periods := l.periods.take 1 }

/-- The count of the present frame: for a follower the last good sync field's and the frames missed since. -/
def State.frameCount (s : State) : Nat :=
  if s.lsh.link = .lead then s.stb.count
  else (s.lsh.fcount + s.lsh.missed + (if s.lsh.syncNow then 0 else 1)) % 65536

/-- Frames from one count to another, modulo 65,536. -/
def countFrom (a b : Nat) : Nat := (b + 65536 - a % 65536) % 65536

/-- The lowest multiple of 100 at least `k` above a count (R388, R394, R432). -/
def nextHundred (c k : Nat) : Nat := ((c + k + 99) / 100 * 100) % 65536

/-- The burst interval in frames (R395). -/
def napFrames (i : Nat) : Nat :=
  match i with | 0 => 100 | 1 => 200 | 2 => 500 | 3 => 1000 | 4 => 2000 | 5 => 5000 | 6 => 10000 | _ => 20000

/-! ### Link states (R384 to R390) -/

/-- The timekeeper is now at position p (R385). -/
def setTk (p : Nat) (l : Lsh) : Lsh :=
  if l.tkKnown && decide (l.tk = p) then l
  else { l with tk := p, tkKnown := true, tkChanges := inc8 l.tkChanges }

/-- Synchronisation ends: the Leash is no longer a source of the STB (R245, R386). -/
def lshUnsync (s : State) : State := reselect { s with stb := { s.stb with lshFrom := none, lshValid := false } }

/-- Entry to LISTEN (R384, R387). -/
def enterListen (orphan : Bool) (s : State) : State :=
  let was := decide (s.lsh.link = .follow) || decide (s.lsh.link = .lead)
  lshUnsync (s.updLsh fun l => { l with
    link := .listen
    orphan := orphan
    holdFrom := s.now
    heldAt := if was then some s.now else l.heldAt
    missed := 0
    periods := if was then l.periods else []
    claim := none
    handTo := none
    leadBad := 0
    nap := false
    napAt := none
    napFrame := 0
    napMiss := none
    quiet := 0
    cleanRun := 0
    wasSent := false
    sent := none })

/-- Entry to FOLLOW with the timekeeper at position p (R384, R386). -/
def enterFollow (p : Nat) (s : State) : State :=
  let s := s.updLsh fun l => { setTk p l with
    link := .follow
    orphan := false
    edgeMute := false
    edgeRun := 0
    missed := 0
    handTo := none
    leadBad := 0
    quiet := 0
    heldAt := some s.now }
  reselect { s with stb := { s.stb with lshFrom := some s.now } }

/-- Entry to LEAD (R387, R389). An EDGE mute goes on: R393 ends it at FOLLOW alone (DEDUCED, notes/assumptions/80.md). -/
def enterLead (s : State) : State :=
  lshUnsync ((ageHeard s).updLsh fun l => { setTk s.pos l with
    link := .lead
    claim := none
    leadBad := 0
    missed := 0 })

/-- The link follows LSH.CTL.EN in READY, RUN, GASP and KILLED (R384, R390, R404). -/
def leashEnable (s : State) : State :=
  if s.up && s.lshEn then
    (if s.lsh.link = .off then s.updLsh fun l => { l with link := .listen, holdFrom := s.now }
     else if s.lsh.link = .lead ∧ s.tkEn = false then enterListen false s
     else s)
  else if s.lsh.link = .off then s
  else lshUnsync (s.updLsh fun l => { l with
    link := .off
    claim := none
    handTo := none
    missed := 0
    cleanRun := 0
    quiet := 0
    wasSent := false
    sent := none
    nap := false
    napAt := none
    napFrame := 0
    heard := []
    edges := []
    own := []
    napHeard := [] })

/-- Two good sync fields are consecutive (R378). -/
def State.consecutive (s : State) (count : Nat) : Bool :=
  match s.lsh.syncAt with
  | some a => decide (countFrom s.lsh.fcount count = 1) && decide (a + Config.ns 9500 ≤ s.now) && decide (s.now ≤ a + Config.ns 10500)
  | none => false

/-- In FOLLOW a sync field continues the frames when it carries the next count and starts within 100 ns of its expected start: a whole
number of measured periods after the last good one (R385). Taking the 100 ns as the bound of acceptance is DEDUCED (notes/assumptions/81.md). -/
def State.expected (s : State) (count : Nat) : Bool :=
  match s.lsh.syncAt with
  | some a =>
    let k := s.lsh.missed + 1
    let due := a + k * s.framePeriod
    decide (countFrom s.lsh.fcount count = k) && decide (due ≤ s.now + Config.ns 100) && decide (s.now ≤ due + Config.ns 100)
  | none => false

/-- Take a good sync field as the present frame's start. -/
def takeSync (count : Nat) (s : State) : State :=
  let s := (ageHeard s).updLsh fun l => { l with
    syncAt := some s.now
    frameAt := s.now
    fcount := count
    missed := 0
    syncNow := true
    sent := none
    quiet := if l.missed = 0 then l.quiet - 1 else if 0 < l.quiet then 1 else 0
    heldAt := some s.now
    periods := match l.syncAt with
      | some a => if l.missed = 0 then ((s.now - a) :: l.periods).take 8 else l.periods
      | none => l.periods }
  let p := max 1 s.framePeriod
  { s with stb := { s.stb with
      lshPpm := roundEven ((2560000 : Int) * 1000000) p - 1000000
      srcEpoch := if s.stb.src = .leash then some s.now else s.stb.srcEpoch } }

/-- The first sync field of a burst: the silent frames have passed, and the next burst is an interval away until NAP names it (R395). -/
def napFirst (count : Nat) (l : Lsh) : Lsh :=
  { l with
    frames := l.frames + (countFrom l.fcount count - 2)
    napFrame := 1
    napMiss := none
    napAt := some ((count + napFrames l.napInt) % 65536) }

/-- A sync field about to be taken in Nap: the burst's two frames, and the frame after it, whose sync field ends Nap and is the first of
the two after which the device may send again (R395, R396). -/
def napSync (count : Nat) (s : State) : State :=
  (ageHeard s).updLsh fun l =>
    if !l.nap then l
    else if l.napAt = some count ∨ l.napFrame = 0 then napFirst count l
    else if l.napFrame = 1 then (if l.syncNow then { l with napFrame := 2 } else napFirst count l)
    else if l.napFrame = 2 ∧ l.syncNow = false then l
    else { l with nap := false, napAt := none, napFrame := 0, napEnd := false, quiet := 2 }

/-- In Nap a sync field continues the count over the silent frames (R385, R395). -/
def State.napConsecutive (s : State) (count : Nat) : Bool :=
  match s.lsh.syncAt with
  | some a =>
    let k := countFrom s.lsh.fcount count
    s.lsh.nap && decide (0 < k) && decide (a + k * Config.ns 9500 ≤ s.now) && decide (s.now ≤ a + k * Config.ns 10500)
  | none => false

/-- A good sync field naming position p with a count (R384, R385, R387, R390). -/
def syncReceived (p : Nat) (count : Nat) (s : State) : State :=
  match s.lsh.link with
  | .off => s
  | .listen =>
    let two := s.consecutive count
    let s := takeSync count { s with lsh := { s.lsh with holdFrom := s.now, missed := 0 } }
    if two then enterFollow p s else s.updLsh fun l => { l with syncNow := false }
  | .follow =>
    if s.napConsecutive count || s.expected count then takeSync count (napSync count (s.updLsh (setTk p)))
    else if p < s.lsh.tk then enterFollow p (takeSync count s)
    else s
  | .lead => if p < s.pos ∨ s.lsh.handTo = some (s.pos, count) then enterListen false s else s

/-- SYNC_FIELD_RECEIVED (R384, R385, R387, R390): its time is the frame start that it marks. -/
def execSyncFieldReceived (t : Nat) (p : Fin 8) (count : W16) (s : State) : Ans :=
  gated t (fun s => s.up && decide (s.lsh.link ≠ .off)) (withStat (syncReceived p.val count.toNat)) s

/-- SYNC_LOSS (R385): four consecutive sync fields missed. -/
def execSyncLoss (t : Nat) (s : State) : Ans :=
  gated t (fun s => s.up && decide (s.lsh.link = .follow) && decide (4 ≤ s.lsh.missed))
    (withStat fun s => enterListen false (s.updLsh fun l => { l with syncLoss := inc16 l.syncLoss })) s

/-- The holdoff (R387). -/
def State.holdoff (s : State) : Nat :=
  (s.pos + 1) * 3 * (if s.lsh.orphan then Config.us (10 * napFrames s.lsh.napInt) else Config.us 10)

/-- The holdoff has expired (R387, R397). -/
def holdoffExpired (s : State) : State :=
  if s.tkEn && (decide (s.lsh.err = .active) || decide (s.lsh.err = .wary)) then
    let orphan := s.lsh.orphan
    let recent := match s.lsh.heldAt, s.lsh.syncAt with
      | some h, some _ => decide (s.now ≤ h + Config.ms 100)
      | _, _ => false
    let p := max 1 s.framePeriod
    let a := s.lsh.syncAt.getD s.now
    let k := (s.now - a) / p + 1
    let s := if recent || (orphan && s.lsh.syncAt.isSome) then { s with stb := { s.stb with
          due := a + k * p
          count := (s.lsh.fcount + k - 1) % 65536 } }
      else s
    let s := enterLead s
    if orphan then s.updLsh fun l => { l with nap := true, napAt := some ((s.stb.count + 1) % 65536), napFrame := 0 } else s
  else s.updLsh fun l => { l with holdFrom := s.now }

/-- HOLDOFF_EXPIRE (R387). -/
def execHoldoffExpire (t : Nat) (s : State) : Ans :=
  gated t (fun s => s.up && decide (s.lsh.link = .listen) && decide (s.lsh.holdFrom + s.holdoff ≤ s.now))
    (withStat holdoffExpired) s

/-- A frame has started since a time (R404); frames go on in the silence of Nap. -/
def State.frameStarted (s : State) (since : Nat) : Bool :=
  let l := s.lsh
  let n (t : Nat) : Nat := (t - l.frameAt) / max 1 s.framePeriod
  decide (l.frameAt ≤ s.now) && (decide (since < l.frameAt) || decide (n since < n s.now))

/-! ### The timekeeper's frame (R377, R389, R395) -/

/-- The timekeeper sends the sync field of the STB's present count. -/
def sendSync (s : State) : State :=
  s.updLsh fun l => { l with
    fcount := s.stb.count
    syncAt := some s.stb.at_
    frameAt := s.stb.at_
    quiet := l.quiet - 1
    handTo := if l.handTo.map Prod.fst = some s.pos then none else l.handTo
    sent := none
    syncNow := false }

/-- The INT of the bursts that the timekeeper sends: its own in use, or on the orphan path the last one heard (R395, R397). -/
def State.leadInt (s : State) : Nat := if s.lsh.orphan then s.lsh.napInt else fld (s.pg 0x30 1) 2 0

/-- An STB epoch of the timekeeper: a full frame, a frame of a burst, or nothing in the silence of Nap, and none at the
frame from which a claimant leads. -/
def leadFrame (s : State) : State :=
  let l := s.lsh
  let c := s.stb.count
  if l.link ≠ .lead then s
  else if (match l.handTo with | some (_, h) => decide (h = c) | none => false) then s
  else if l.nap then
    (if l.napAt = some c then sendSync ((ageHeard s).updLsh fun l => { l with
         frames := l.frames + (countFrom l.fcount c - 2)
         napFrame := 1 })
     else if l.napFrame = 1 then
       sendSync (s.updLsh fun l => let i := s.leadInt; { l with napFrame := 2, napInt := i, napAt := some ((l.napAt.getD c + napFrames i) % 65536) })
     else if l.napFrame = 2 && l.napEnd then
       sendSync (s.updLsh fun l => { l with nap := false, napAt := none, napFrame := 0, napEnd := false, quiet := 2 })
     else if l.napFrame = 2 then s.updLsh fun l => { l with napFrame := 3, frameAt := s.stb.at_, sent := none }
     else s.updLsh fun l => { l with napFrame := 0 })
  else if l.napAt = some c then
    sendSync (s.updLsh fun l => { l with nap := true, napFrame := 1, napEnd := false })
  else sendSync s

/-- STB_EPOCH (R227, R244, R247, R249, R377, R378). -/
def execStbEpoch (t : Nat) (s : State) : Ans :=
  gated t (fun s => s.booted && decide (s.stb.due ≤ s.now)) (withStat fun s => leadFrame (stbTick s)) s

/-! ### Handover (R388, R389) -/

/-- An accepted CLAIM: the timekeeper honours the lowest position; another claimant gives way to a lower one. -/
def claimHeard (p : Nat) (h : Nat) (s : State) : State :=
  match s.lsh.link with
  | .lead =>
    (match s.lsh.handTo with
     | some (q, _) => if p ≤ q then s.updLsh fun l => { l with handTo := some (p, h) } else s
     | none => s.updLsh fun l => { l with handTo := some (p, h) })
  | _ => if p < s.pos then s.updLsh fun l => { l with claimLow := some l.frames, claim := none } else s

/-- At frame H (R389): the claimant leads, and yields to a sync field of another device at H; the outgoing timekeeper follows when it heard the claimant's sync field
(`heard`), and goes on leading otherwise. -/
def handover (heard : Bool) (s : State) : State :=
  match s.lsh.link with
  | .follow => let h := s.stb.count
    (sendSync (enterLead s)).updLsh fun l => { l with handTo := some (s.pos, h) }
  | .lead =>
    (match s.lsh.handTo with
     | some (p, h) =>
       if heard then (enterFollow p (s.updLsh fun l => { l with syncNow := true })).updLsh fun l => { l with
           fcount := h
           syncAt := some s.now
           frameAt := s.now
           sent := none }
       else s.updLsh fun l => { l with handTo := none }
     | none => s)
  | _ => s

/-- HANDOVER (R389). -/
def execHandover (t : Nat) (heard : Bool) (s : State) : Ans :=
  gated t (fun s => s.up && (match s.lsh.link with
      | .follow => decide (s.lsh.claim = some s.stb.count)
      | .lead => (match s.lsh.handTo with | some (_, h) => decide (h = s.stb.count) | none => false)
      | _ => false))
    (withStat (handover heard)) s

/-- The conditions for a CLAIM (R388). -/
def State.mayClaim (s : State) : Bool :=
  let l := s.lsh
  decide (l.link = .follow) && decide (s.pos < l.tk) && s.tkEn && decide (l.err = .active) && bitAt (s.pg 3 0) 1 &&
  decide (s.stb.src = .leash) && !s.stb.gliding && !l.nap &&
  (match l.claimLow with | some f => decide (f + 16 < l.frames) | none => true)

/-- The claim at the end of a frame (R388). -/
def claimFrame (s : State) : State :=
  if s.mayClaim then
    (match s.lsh.claim with
     | some _ => s
     | none => s.updLsh fun l => { l with claim := some (nextHundred s.frameCount 3) })
  else s.updLsh fun l => { l with claim := none }

/-! ### Queues (R403) -/

/-- Add to a queue of `k` entries; a full one loses its oldest. The second part is 1 when it did. -/
def pushQ (k : Nat) (m : LshMsg) (q : List LshMsg) : List LshMsg × Nat :=
  if q.length < k then (q ++ [m], 0) else (q.drop 1 ++ [m], 1)

/-- Offer a message of a class to its queue. -/
def queueMsg (cls typ : Nat) (data : W32) (s : State) : State :=
  s.updLsh fun l =>
    let m : LshMsg := { cls, typ, data, at_ := l.frames }
    match cls with
    | 3 => let r := pushQ 4 m l.howl; { l with howl := r.1, dropCnt := min 65535 (l.dropCnt + r.2) }
    | 2 => let r := pushQ 8 m l.cmd; { l with cmd := r.1, dropCnt := min 65535 (l.dropCnt + r.2) }
    | 1 => let r := pushQ 16 m l.data; { l with data := r.1, dropCnt := min 65535 (l.dropCnt + r.2) }
    | _ => let r := pushQ 8 m l.mgmt; { l with mgmt := r.1, dropCnt := min 65535 (l.dropCnt + r.2) }

/-- A 32-bit message word from bytes, most significant first. -/
def msgBytes (a b c d : Nat) : W32 := BitVec.ofNat 32 (((a % 256 * 256 + b % 256) * 256 + c % 256) * 256 + d % 256)

/-! ### Slots (R379 to R382, R392) -/

/-- One step of a CRC-8, most significant bit first. -/
def crc8Bit (poly : Nat) (r : Nat) : Nat := if 128 ≤ r then ((2 * r) % 256) ^^^ poly else (2 * r) % 256

/-- CRC-8 over bytes. -/
def crc8 (poly init : Nat) (l : List Byte) : Nat :=
  l.foldl (fun r b => (List.range 8).foldl (fun r _ => crc8Bit poly r) (r ^^^ b.toNat)) init

/-- The four bytes of a 32-bit word, most significant first. -/
def w32Bytes (d : W32) : List Byte := beBytes 4 d.toNat

/-- The slot CRC of a header and data (R382). -/
def slotCrc (hdr : Byte) (d : W32) : Byte := w8 (crc8 0x2F 0xFF (hdr :: w32Bytes d) ^^^ 0xFF)

/-- EREP of this frame (R392): the next marked position above the last reported, cyclically; the own for none. -/
def State.erep (s : State) : Nat :=
  let marked := (List.range 8).filter fun k => bitAt s.lsh.edgeNow k && decide (k ≠ s.pos)
  match marked.find? fun k => decide (s.lsh.erepLast < k) with
  | some k => k
  | none => marked.headD s.pos

/-- The start of bit `b` of the present frame (R375, R377). -/
def State.bitStart (s : State) (b : Nat) : Nat := s.lsh.frameAt + s.framePeriod * b / 500

/-- Bit 3 of the own slot, from which its owner drives the bus (R379). -/
def State.slotBit (s : State) : Nat := 35 + 56 * s.pos

/-- The IDLE message (R381). -/
def State.idleMsg (s : State) : LshMsg :=
  let l := s.lsh
  { cls := 0, typ := 0, data := msgBytes l.tx l.rx s.heardMask.toNat
      (bitVal s.napEn 7 + 32 * (match l.err with | .active => 0 | .wary => 1 | .muted => 2 | .isolated => 3)) }

/-- The device may begin to transmit its slot: in its first driven bit (R379), of a frame that the link state, EDGE, the
jabber cut and Nap leave it (R380, R393, R395, R402). -/
def State.maySlot (s : State) : Bool :=
  let l := s.lsh
  (decide (l.link = .follow) || decide (l.link = .lead)) && !l.edgeMute && !l.jabCut && l.sent.isNone &&
  decide (s.bitStart s.slotBit ≤ s.now) && decide (s.now < s.bitStart (s.slotBit + 1)) && decide (l.quiet = 0) &&
  (!l.nap || (decide (l.link = .lead) && decide (l.napFrame = 1)) ||
    (decide (l.napFrame = 2) && (decide (l.link = .lead) || (l.syncNow && decide (l.missed = 0)))))

/-! ### The driver (R375, R377, R379) -/

/-- A sync field: 0xB518 plus the timekeeper's position, and the frame count (R378). -/
def syncField (pos count : Nat) : W32 := BitVec.ofNat 32 ((0xB518 + pos % 8) * 65536 + count % 65536)

/-- The header of a slot (R381). -/
def slotHeader (m : LshMsg) (erep : Nat) : Byte := w8 (64 * m.cls + 8 * (m.typ % 8) + erep % 8)

/-- The 48 bits of a slot, the first sent as the highest (R377, R382). -/
def slotBits (m : LshMsg) (erep : Nat) : BitVec 48 :=
  let h := slotHeader m erep
  (h ++ m.data ++ slotCrc h m.data).cast (by decide)

/-- The level of one half of a Manchester bit (R375). -/
def manchester (b second : Bool) : Bool := b == second

/-- A sync field of the own opens the frame that follows the present one (R377, R389, R395). -/
def State.syncNext (s : State) : Bool :=
  let l := s.lsh
  let c := ((if l.link = .lead then s.stb.count else l.fcount + l.missed) + 1) % 65536
  match l.link with
  | .lead => !decide (l.handTo.map Prod.snd = some c) &&
      (!l.nap || decide (l.napAt = some c) || decide (l.napFrame = 1) || (decide (l.napFrame = 2) && l.napEnd))
  | .follow => decide (l.claim = some c)
  | _ => false

/-- What the driver sends in half-bit `h` of the present frame; none while it is not enabled (R379). The timekeeper drives from bit 499
of the frame before to bit 32, and the owner of a slot from its bit 3 to its bit 52, a driven-low bit on each side of what it sends. -/
def State.halfDrive (s : State) (h : Nat) : Option Bool :=
  let l := s.lsh
  let b := h / 2
  let second := decide (h % 2 = 1)
  if decide (l.link = .lead) && decide (l.syncAt = some l.frameAt) && decide (b ≤ 32) then
    some (decide (b < 32) && manchester ((syncField s.pos l.fcount).getLsbD (31 - b)) second)
  else if b = 499 then (if s.syncNext then some false else none)
  else match l.sent with
    | some (m, e) =>
      let k := b - s.slotBit
      if b < s.slotBit ∨ 49 < k then none
      else some (decide (1 ≤ k) && decide (k ≤ 48) && manchester ((slotBits m e).getLsbD (48 - k)) second)
    | none => none

/-- The level that the driver holds LSH_P and LSH_N at (R373, R379, R402); none while it is not enabled. -/
def State.leashDrive (s : State) : Option Bool :=
  if s.up && decide (s.lsh.link ≠ .off) && !s.lsh.jabCut && decide (s.lsh.frameAt ≤ s.now) then
    s.halfDrive ((s.now - s.lsh.frameAt) * 1000 / max 1 s.framePeriod)
  else none

/-! ### Frame ends (R391 to R396, R399 to R401) -/

/-- What a receiver observed in one frame. -/
structure FrameView where
  syncGood : Bool                     -- a good sync field was received, or the own echoed good
  echo : Nat                          -- own slot: 0 absent, 1 failed, 2 accepted
  ownEdge : Bool                      -- R391: the own echo was marked EDGE
  acc : Byte                          -- other positions' accepted slots
  fail : Byte                         -- other positions' failed slots
  edge : Byte                         -- positions marked EDGE
  rep : Byte                          -- accepted slots whose EREP names the own position
  deriving DecidableEq, Repr

/-- The number of set bits of a byte. -/
def popCount (b : Byte) : Nat := ((List.range 8).filter fun i => bitAt b i).length

/-- The frame before was an EDGE frame of the owner, decided at the end of this one (R393). -/
def edgeFrame (l : Lsh) (v : FrameView) : Bool := l.wasSent && (l.echoEdge || decide (v.rep ≠ 0))

/-- The own slot was sent in this frame, and its echo failed or was absent. -/
def badEcho (l : Lsh) (v : FrameView) : Bool := l.sent.isSome && decide (v.echo ≠ 2)

/-- This frame is clean but for an EDGE decision on the own slot (R399). -/
def cleanView (l : Lsh) (v : FrameView) : Bool := v.syncGood && decide (v.fail = 0) && !badEcho l v

/-- The clean frames known at the end of this one: the frame before, when the own slot was sent in it, and this one, when it was not
(R393, R399). Each is given as clean or not. -/
def cleanFrames (l : Lsh) (v : FrameView) : List Bool :=
  (if l.wasSent then [l.wasClean && !edgeFrame l v] else []) ++ (if l.sent.isSome then [] else [cleanView l v])

/-- A run of clean frames goes on over the frames just decided. -/
def cleanOn (run : Nat) (fs : List Bool) : Nat := fs.foldl (fun r c => if c then r + 1 else 0) run

/-- A counter moved and held to 0 to 255. -/
def moveErr (x : Nat) (up down : Nat) : Nat := min 255 (x + up) - down

/-- A frame counts: every frame, and in Nap those of the burst (R399). -/
def frameCounts (l : Lsh) : Bool := !l.nap || decide (l.napFrame ≤ 2)

/-- The error counters after a frame (R399). The own slot of the frame before is settled with R393's decision on it: +8 once for a bad
echo, counted at once, or an EDGE frame, and −1 for neither. -/
def errCounts (l : Lsh) (v : FrameView) : Lsh :=
  let wasBad := !l.own.headD false
  let edge := edgeFrame l v
  let on := frameCounts l
  let up := (if edge && !wasBad then 8 else 0) + (if badEcho l v then 8 else 0) +
    (if on && decide (l.link = .lead) && !v.syncGood then 8 else 0)
  let down := if l.wasSent && !wasBad && !edge then 1 else 0
  let rup := (if on && decide (l.link = .follow) && !v.syncGood then 1 else 0) + popCount v.fail
  let cs := cleanFrames l v
  let cs := if on then cs else cs.take 1
  { l with
    tx := moveErr l.tx up down
    rx := moveErr l.rx rup (cs.filter id).length
    crcCnt := min 65535 (l.crcCnt + popCount v.fail)
    cleanRun := cleanOn l.cleanRun cs }

/-- The error state after a frame (R400, R401). -/
def errState (l : Lsh) : Lsh :=
  match l.err with
  | .muted =>
    if decide (l.link = .follow) && decide (128 ≤ l.cleanRun) then { l with err := .active, tx := 64, rx := 64, jabCut := false, cleanRun := 0 }
    else if l.tx = 255 then { l with err := .isolated, isoHowl := 3 } else l
  | .isolated =>
    if decide (l.link = .follow) && decide (128 ≤ l.cleanRun) then { l with err := .active, tx := 64, rx := 64, jabCut := false, cleanRun := 0 }
    else l
  | _ =>
    if l.tx = 255 then { l with err := .isolated, isoHowl := 3, cleanRun := 0 }
    else if 128 ≤ l.tx then { l with err := .muted, cleanRun := 0 }
    else { l with err := if 96 ≤ l.tx ∨ 96 ≤ l.rx then .wary else .active }

/-- The histories after a frame. -/
def frameHistory (pos : Nat) (v : FrameView) (l : Lsh) : Lsh :=
  { l with
    heard := (v.acc :: l.heard).take 16
    edges := (v.edge :: l.edges).take 16
    own := ((l.sent.isSome && decide (v.echo = 2)) :: l.own).take 16
    echoEdge := l.sent.isSome && v.ownEdge
    erepLast := match l.sent with | some (_, e) => if e = pos then l.erepLast else e | none => l.erepLast
    edgeNow := v.edge
    napHeard := if !l.nap then [] else if frameCounts l then (v.acc :: l.napHeard).take 4 else l.napHeard
    wasSent := l.sent.isSome
    wasClean := cleanView l v
    frames := l.frames + 1
    sent := none
    syncNow := false }

/-- The EDGE decision on the frame before at the end of a frame (R393, R406). -/
def edgeDecision (edge : Bool) (s : State) : State :=
  if edge then
    let cnt := inc16 s.lsh.edgeCnt
    let run := s.lsh.edgeRun + 1
    let mute := decide (3 ≤ run)
    let log := mute || (match s.lsh.edgeLog with | some a => decide (a + Config.ms 1000 ≤ s.now) | none => true)
    let s := s.updLsh fun l => { retime l with edgeCnt := cnt, edgeRun := run, edgeLog := if log then some s.now else l.edgeLog }
    let s := if log then s.event 0x19 none (w16 (cnt ||| bitVal mute 15)) 0 else s
    if mute then (enterListen false s).updLsh fun l => { l with edgeMute := true, edgeRun := 0 } else s
  else s.updLsh fun l => { l with edgeRun := 0 }

/-- The Nap conditions of a timekeeper (R394). -/
def State.napReady (s : State) : Bool :=
  let l := s.lsh
  decide (l.link = .lead) && s.napEn && !l.nap && l.napAt.isNone && decide (l.traffic + 100 ≤ l.frames) &&
  (List.range 8).all fun p => !bitAt s.heardMask p ||
    (match l.napOk.getD p none with | some f => decide (l.frames ≤ f + 100) | none => false)

/-- Nap at the end of a frame (R394 to R396). -/
def napFrameEnd (s : State) : State :=
  let l := s.lsh
  let busy := decide (l.howl ≠ []) || decide (l.cmd ≠ []) || decide (l.data ≠ [])
  if l.nap then
    (if l.link = .lead then
       (if l.napFrame = 2 then s.updLsh fun l => { l with napEnd := l.napEnd || busy || !s.napEn } else s)
     else s.updLsh fun l => { l with napFrame := (l.napFrame + 1) % 4, missed := if l.napFrame = 3 then 0 else l.missed })
  else if s.napReady then
    s.updLsh fun l => { l with napAt := some (nextHundred (s.stb.count + 1) 100), napInt := fld (s.pg 0x30 1) 2 0, orphan := false }
  else if decide (l.link = .follow) && decide (l.napAt = some s.frameCount) then
    s.updLsh fun l => { l with nap := true, napFrame := 0, napEnd := false }
  else s

/-- The next frame of a follower begins where its period puts it, until a sync field says where (R385). -/
def followOn (s : State) : State :=
  match s.lsh.link, s.lsh.syncAt with
  | .follow, some a => s.updLsh fun l => { l with frameAt := a + (l.missed + 1) * s.framePeriod }
  | _, _ => s

/-- The bus part of the end of a frame (R385, R388, R390, R393, R394, R399 to R401). -/
def frameEnd (v : FrameView) (s : State) : State :=
  let was := s.lsh.err
  let edge := edgeFrame s.lsh v
  let on := frameCounts s.lsh
  let s := s.updLsh fun l => frameHistory s.pos v (errState (errCounts l v))
  let s := if s.lsh.err = .isolated ∧ was ≠ .isolated then s.event 0x13 none 0 0 else s
  let s := edgeDecision edge s
  let s := s.updLsh fun l => { l with
    leadBad := if decide (l.link = .lead) && on && !v.syncGood then l.leadBad + 1 else 0
    missed := if decide (l.link = .follow) && on && !v.syncGood then l.missed + 1 else l.missed }
  let s := if s.lsh.link = .lead ∧ (3 ≤ s.lsh.leadBad ∨ s.lsh.err = .muted ∨ s.lsh.err = .isolated) then enterListen false s else s
  claimFrame (napFrameEnd (followOn s))

/-! ### Jabber, Nap windows, counters -/

/-- JABBER_CUT (R400, R402). -/
def execJabberCut (t : Nat) (s : State) : Ans :=
  gated t (fun s => s.up && decide (s.lsh.link ≠ .off) && !s.lsh.jabCut)
    (withStat fun s =>
      let isolated := decide (s.lsh.err = .isolated)
      let s := s.updLsh fun l => { l with jabCut := true, jabCnt := inc8 l.jabCnt, err := .isolated, isoHowl := 0, cleanRun := 0 }
      let s := if isolated then s else s.event 0x13 none 1 0
      if s.lsh.link = .lead then enterListen false s else s) s

/-- The expected time of the next burst (R395). -/
def State.burstAt (s : State) : Option Nat :=
  match s.lsh.napAt, s.lsh.syncAt with
  | some f, some a => some (a + countFrom s.lsh.fcount f * s.framePeriod)
  | _, _ => none

/-- NAP_BURST (R395): a follower opens its receiver at the expected start less G. -/
def execNapBurst (t : Nat) (s : State) : Ans :=
  gated t (fun s => s.up && s.lsh.nap && decide (s.lsh.link = .follow) && decide (s.lsh.napFrame = 0) && s.lsh.napMiss.isNone &&
      (match s.burstAt with | some a => decide (a ≤ s.now + twDur (s.pg 0x30 2)) | none => false))
    (withStat fun s => (ageHeard s).updLsh fun l => { l with napFrame := 1, syncNow := false, frameAt := s.burstAt.getD s.now }) s

/-- NAP_WINDOW_MISS (R397). -/
def execNapWindowMiss (t : Nat) (s : State) : Ans :=
  gated t (fun s => s.up && s.lsh.nap && decide (s.lsh.link = .follow) && decide (s.lsh.napFrame = 1) && !s.lsh.syncNow &&
      (match s.burstAt with | some a => decide (a + twDur (s.pg 0x30 2) ≤ s.now) | none => false))
    (withStat fun s => s.updLsh fun l => { l with
      napFrame := 0
      napHeard := (0 :: 0 :: l.napHeard).take 4
      napMiss := some s.now
      napAt := l.napAt.map fun f => (f + napFrames l.napInt) % 65536 }) s

/-- NAP_ORPHAN (R397): a whole interval without a burst. -/
def execNapOrphan (t : Nat) (s : State) : Ans :=
  gated t (fun s => s.up && s.lsh.nap && (match s.lsh.napMiss with
      | some a => decide (a + napFrames s.lsh.napInt * s.framePeriod ≤ s.now)
      | none => false))
    (withStat (enterListen true)) s

/-- Clear the Leash counters (LSH.CLR). -/
def lshClear (w : W16) (s : State) : State :=
  if bitAt w 0 then s.updLsh fun l => { l with syncLoss := 0, edgeCnt := 0, crcCnt := 0, dropCnt := 0 } else s

/-- LSH_CLR (R404). -/
def execLshClr (t : Nat) (w : W16) (s : State) : Ans := strobed t State.up (lshClear w) s

end Sys2Proof.Machine
end

