-- ==== Sys2Proof/Machine/Signing.lean ====
section
/-! DEFINITION. The engine of every signature and verification (19_identity.md R503): the work that waits for it, the order in
which it serves that work, and the gate of each command that reports an operation's end. -/

namespace Sys2Proof.Machine

open Sys2Proof

/-- The identity unit works (R506). -/
def State.idnOk (s : State) : Bool := s.idn.devKey && s.idn.cert

/-- One operation of the engine. -/
inductive SignWork where
  | summary                           -- a gasp summary (R452)
  | verify (p : Fin 8)                -- the response of position p (R414)
  | respond                           -- the own response (R413)
  | token                             -- SUBMIT or ATTEST (R513, R519)
  | record (i : Fin 16)               -- the record of Crumb slot i (R491)
  deriving DecidableEq, Repr

/-- Work that waits: its place in the order of R503, its deadline within it, and since when it waits. -/
structure Waiting where
  work : SignWork
  rank : Nat
  due : Nat
  since : Nat
  deriving DecidableEq, Repr

/-- A Leash operation ends within 8 ms of what asks for it (R413, R414). -/
def leashWork (w : SignWork) (a : Nat) : Waiting := ⟨w, 2, a + Config.ms 8, a⟩

/-- The work that waits for the engine or is in it. A failed identity unit signs nothing (R506); a command refused at its strobe
checks nothing (R511). -/
def State.signWork (s : State) : List Waiting :=
  (if s.gsp.pend.isSome && !s.gsp.pendSigned && s.idnOk then [⟨.summary, 1, 0, s.gsp.pendAt⟩] else []) ++
  ((List.finRange 8).filterMap fun p => match s.peers.pos[p].chal with
    | some c => c.verify.map (leashWork (.verify p))
    | none => none) ++
  (match s.peers.answers with
    | a :: _ => if !a.signed && s.idnOk then [leashWork .respond a.at_] else []
    | [] => []) ++
  (if (decide (s.idn.busy = some .submit) || decide (s.idn.busy = some .attest)) && decide (s.idn.early = 0) && !s.idn.served then
    [⟨.token, 3, 0, s.idn.busyAt⟩] else []) ++
  (List.finRange 16).filterMap fun i =>
    let x := s.crb.slots[i]
    if decide (x.st = .seal) && x.comp && s.idnOk then some ⟨.record i, 4, x.compAt, x.compAt⟩ else none

/-- The work that is served first among what waits. -/
def firstWork : List Waiting → Option Waiting
  | [] => none
  | a :: r =>
    match firstWork r with
    | none => some a
    | some b => if b.rank < a.rank ∨ (b.rank = a.rank ∧ b.due < a.due) then some b else some a

/-- The time at which the engine takes up its next work: when it is free and some work waits. -/
def State.signFrom (s : State) : Nat :=
  max s.idn.engAt ((s.signWork.foldl (fun (m : Option Nat) w => some (min w.since (m.getD w.since))) none).getD 0)

/-- The operation in the engine: the first in order of what waited when the engine took it up; it is never interrupted. -/
def State.signNext (s : State) : Option Waiting := firstWork (s.signWork.filter fun w => decide (w.since ≤ s.signFrom))

/-- An operation whose write to MTP follows leaves the engine before its command ends: another that ends now has come after it (DESIGN
CHOICE, notes/assumptions/79.md). -/
def signPass (w : SignWork) (s : State) : State :=
  let from_ := max s.signFrom ((s.signWork.find? fun x => decide (x.work = w)).map Waiting.since |>.getD 0)
  match s.signNext with
  | some x =>
    if x.work = w then s
    else match x.work with
      | .summary => { s with gsp := { s.gsp with pendSigned := true }, idn := { s.idn with engAt := from_ } }
      | .token => if s.idn.busy = some .submit then { s with idn := { s.idn with served := true, engAt := from_ } } else s
      | _ => s
  | none => s

/-- What must have left the engine before `w`, at most a summary and a SUBMIT. -/
def signAhead (w : SignWork) (s : State) : State := signPass w (signPass w s)

/-- `w` is in the engine, or next in it. -/
def State.signReady (s : State) (w : SignWork) : Bool := decide ((signAhead w s).signNext.map Waiting.work = some w)

/-- `w` ends with the effect `f`, and the engine is free. -/
def signDone (w : SignWork) (f : State → State) (s : State) : State :=
  let s := f (signAhead w s)
  { s with idn := { s.idn with engAt := s.now } }

end Sys2Proof.Machine
end

