-- ==== Sys2Proof/Machine/Services.lean ====
section
/-! DEFINITION. Services over the Leash (15_leash_services.md): challenges, the wiring plan, published
values and the handler lease. The messages themselves are dispatched in `Messages`. -/

namespace Sys2Proof.Machine

open Sys2Proof

/-! ### Challenges (R412 to R414) -/

/-- The next DRBG output of `k` bytes (R524). -/
def drawRandom (k : Nat) (s : State) : List Byte × State :=
  ((List.range k).map fun i => Config.randomByte s.idn.drbg i,
    { s with idn := { s.idn with drbg := s.idn.drbg + 1, reqs := s.idn.reqs + 1 } })

/-- The data of a CHAL message (R409). -/
def chalData (target : Nat) (want : Bool) (nonce : List Byte) (i : Nat) : W32 :=
  msgBytes (32 * target + bitVal want 4) i (nonce.getD (2 * i) 0).toNat (nonce.getD (2 * i + 1) 0).toNat

/-- Queue the CHAL messages from index i on. -/
def queueChal (target : Nat) (want : Bool) (nonce : List Byte) : List Nat → State → State
  | [], s => s
  | i :: r, s => queueChal target want nonce r (queueMsg 0 5 (chalData target want nonce i) s)

/-- A challenge to position p may start (R412, R506, R525). -/
def State.chalReady (s : State) (p : Fin 8) : Bool :=
  let q := s.peer p
  bitAt s.svcCfg 1 && q.present && decide (p ≠ s.own) && !noDevice (s.wpl p) && q.chal.isNone && !q.verified &&
  (match q.chalAt with | some t => decide (t + Config.ms 10000 ≤ s.now) | none => true) && s.idn.rng && s.idnOk

/-- Start a challenge. -/
def challengeStart (p : Fin 8) (s : State) : State :=
  let r := drawRandom 16 s
  let want := decide ((s.peer p).cert = [])
  let s := r.2.updPeer p fun q => { q with chal := some { nonce := r.1, cert := want }, chalAt := some r.2.now }
  queueChal p.val want r.1 (List.range 8) s

/-- CHALLENGE_START (R412). -/
def execChallengeStart (t : Nat) (p : Fin 8) (s : State) : Ans :=
  gated t (fun s => s.linked && s.chalReady p) (challengeStart p) s

/-- A challenge fails; `fprint` says that the certificate's fingerprint was the reason (R414, R416). -/
def chalFail (p : Fin 8) (fprint : Bool) (s : State) : State :=
  rosterSettle ((s.updPeer p fun q => { q with
    chal := none
    verified := false
    fails := if fprint then 0 else q.fails + 1
    fprintBad := q.fprintBad || fprint }).updPeers fun x => { x with failures := inc8 x.failures })

/-- A challenge passes. -/
def chalPass (p : Fin 8) (s : State) : State :=
  rosterSettle ((s.updPeer p fun q => { q with
    chal := none
    verified := q.present
    fails := 0
    fprintBad := false }).updPeers fun x => { x with passes := inc8 x.passes })

/-- The 32 signed bytes of a Leash response (R521). -/
def respBytes (challenger target : Nat) (nonce print : List Byte) : List Byte :=
  [0x46, 0x59, 0x52, 0x4C, w8 challenger, w8 target, 0, 0] ++ nonce ++ print

/-- The padding byte of an odd certificate is removed (R413). -/
def certTrim (l : List Byte) : List Byte :=
  match derRead l with
  | some d => if d.rest = [0] ∧ d.all.length % 2 = 1 then d.all else l
  | none => l

/-- The outcome of a challenge whose response is complete (R414). -/
def challengeVerified (p : Fin 8) (c : Chal) (s : State) : State :=
  let cert := (s.peer p).cert
  let e := s.wpl p
  let print := fingerprint cert
  let fits := anyDevice e || decide (print = e)
  if (derRead cert).isSome && !fits then chalFail p true s
  else match certKey Config.caKey Config.deviceCert cert with
    | some k => if fits && verifyBytes k (respBytes s.pos p.val c.nonce print) c.respIn then chalPass p s else chalFail p false s
    | none => chalFail p false s

/-- CHALLENGE_VERIFIED (R414, R503): within 8 ms of RESP index 31. -/
def execChallengeVerified (t : Nat) (p : Fin 8) (s : State) : Ans :=
  gated t (fun s => s.up && (match (s.peer p).chal with | some c => c.verify.isSome | none => false) && s.signReady (.verify p))
    (signDone (.verify p) fun s => match (s.peer p).chal with | some c => challengeVerified p c s | none => s) s

/-- The index-7 message of the challenge to p still waits in the queue. -/
def State.chalQueued (s : State) (p : Fin 8) : Bool :=
  s.lsh.mgmt.any fun m => decide (m.typ = 5) && decide (fld m.data 31 29 = p.val) && decide (fld m.data 18 16 = 7)

/-- CHALLENGE_TIMEOUT (R414): 500 ms after the index-7 message; a challenge whose index-7 message was replaced in its
queue fails too. -/
def execChallengeTimeout (t : Nat) (p : Fin 8) (s : State) : Ans :=
  gated t (fun s => s.up && (match (s.peer p).chal with
      | some c => (match c.sentAt with
        | some a => decide (a + Config.ms 500 ≤ s.now)
        | none => !s.chalQueued p)
      | none => false))
    (chalFail p false) s

/-! #### The receiving sides -/

/-- An accepted CHAL for this device (R413): two nonce bytes; index 7 opens the challenge to be answered. -/
def chalReceived (p : Fin 8) (d : W32) (s : State) : State :=
  if fld d 31 29 ≠ s.pos then s
  else
    let i := fld d 18 16
    let two := [w8 (fld d 15 8), w8 (fld d 7 0)]
    let have_ := if i = 0 then [] else (s.peer p).nonceIn
    if have_.length ≠ 2 * i then s.updPeer p fun q => { q with nonceIn := [] }
    else if i = 7 then
      let s := s.updPeer p fun q => { q with nonceIn := [] }
      if s.idnOk then
        s.updPeers fun x => { x with answers := x.answers ++
          [{ to_ := p.val, nonce := have_ ++ two, cert := bitAt d 28, at_ := s.now }] }
      else s
    else s.updPeer p fun q => { q with nonceIn := have_ ++ two }

/-- The head of the open answers changes. -/
def updAnswer (f : Answer → Answer) (s : State) : State :=
  s.updPeers fun x => match x.answers with
    | a :: r => { x with answers := f a :: r }
    | [] => x

/-- The response to a challenge is signed (R413, R521). -/
def responseSigned (s : State) : State :=
  updAnswer (fun a => { a with
    signed := true
    resp := deviceSign s.idnOk Config.deviceKey (respBytes a.to_ s.pos a.nonce ownPrint) }) s

/-- RESPONSE_SIGNED (R413, R503): within 8 ms of CHAL index 7. -/
def execResponseSigned (t : Nat) (s : State) : Ans :=
  gated t (fun s => s.up && s.idnOk && (match s.peers.answers with | a :: _ => !a.signed | [] => false) && s.signReady .respond)
    (signDone .respond responseSigned) s

/-- An accepted CERT (R413, R414). CERT carries no target, so a stream is taken from its index 0. -/
def certReceived (p : Fin 8) (d : W32) (s : State) : State :=
  match (s.peer p).chal with
  | some c =>
    let i := fld d 25 16
    let two := [w8 (fld d 15 8), w8 (fld d 7 0)]
    if !c.cert then s
    else if i = 0 then s.updPeer p fun q => { q with chal := some { c with certIn := two } }
    else if c.certIn.length = 2 * i then s.updPeer p fun q => { q with chal := some { c with certIn := c.certIn ++ two } }
    else if c.certIn = [] then s
    else chalFail p false s
  | none => s

/-- An accepted RESP (R414). -/
def respReceived (p : Fin 8) (d : W32) (s : State) : State :=
  match (s.peer p).chal with
  | some c =>
    let i := fld d 28 24
    let two := [w8 (fld d 15 8), w8 (fld d 7 0)]
    if fld d 31 29 ≠ s.pos then s
    else if c.respIn.length ≠ 2 * i then chalFail p false s
    else s.updPeer p fun q => { q with
      cert := if c.cert then certTrim c.certIn else q.cert
      chal := some { c with respIn := c.respIn ++ two, verify := if i = 31 then some s.now else none } }
  | none => s

/-! ### WIRING, DIGEST and the plan in MTP (R416 to R418) -/

/-- The own plan digest as the data of DIGEST. -/
def State.planDigest (s : State) : W32 := BitVec.ofNat 32 (beNat ((sha256 s.wplBytes).take 4))

/-- An accepted DIGEST (R416). -/
def digestReceived (p : Fin 8) (d : W32) (s : State) : State :=
  settleWiring allPos (s.updPeer p fun q => { q with planBad := decide (d ≠ s.planDigest) })

/-- WIRING (R416): the onset of a condition, or a change of its cause. -/
def execWiring (t : Nat) (p : Fin 8) (s : State) : Ans :=
  gated t (fun s => s.up && decide (s.wireCause p ≠ 0) && decide (s.wireCause p ≠ (s.peer p).wiring))
    (fun s => (s.updPeer p fun q => { q with wiring := s.wireCause p }).event 0x0F none
      (w16 (4096 * s.wireCause p + p.val)) 0) s

/-- DIGEST_SEND (R416). -/
def execDigestSend (t : Nat) (s : State) : Ans :=
  gated t (fun s => s.linked && (allPos.any fun p => decide (p ≠ s.own) && (s.peer p).present) &&
      (s.peers.digestDue || decide (s.peers.digestAt + Config.ms 100 ≤ s.now)))
    (fun s => queueMsg 0 7 s.planDigest (s.updPeers fun x => { x with digestDue := false, digestAt := s.now })) s

/-- The DUPLICATE condition at the end of a frame (R417). -/
def dupFrame (v : FrameView) (clean : List Bool) (x : Peers) : Peers :=
  let run := if v.echo = 1 ∧ v.acc ≠ 0 then x.dupRun + 1 else 0
  let cl := cleanOn x.dupClean clean
  { x with dupRun := run, dupClean := cl, dup := if 8 ≤ run then true else if 128 ≤ cl then false else x.dup }

/-! ### The handler lease (R423 to R428) -/

/-- The lease is live (R423). -/
def State.leaseLive (s : State) : Bool := s.peers.tok.live && decide (s.now < s.peers.tok.expiry)
/-- HELD of W_HANDLER (R424). -/
def State.leaseHeld (s : State) : Bool := s.leaseLive && decide (s.peers.tok.holder = s.peers.tok.hostId)
/-- The device is a read-only peer (R428). -/
def State.readOnly (s : State) : Bool := bitAt (s.pg 0x30 0x23) 0 && !s.leaseHeld

/-- W_HANDLER on reads (R424). -/
def State.handlerWord (s : State) : W16 :=
  let k := s.peers.tok
  w16 (k.hostId + bitVal k.pend 8 + bitVal s.leaseHeld 9 + bitVal k.refused 10 + bitVal s.leaseLive 11)

/-- Generation a is newer than b (R423). -/
def newer (a b : Nat) : Bool :=
  let d := (a + 256 - b % 256) % 256
  decide (1 ≤ d) && decide (d ≤ 127)

/-- The remaining lease in ms (R409). -/
def State.leaseLeft (s : State) : Nat :=
  if s.leaseLive then min 65535 ((s.peers.tok.expiry - s.now) / Config.ms 1) else 0

/-- Queue TOKEN_HOLD (R426); off the Leash no message is sent. -/
def sendHold (s : State) : State :=
  let k := s.peers.tok
  let s := if s.lsh.link = .off then s
    else queueMsg 2 1 (msgBytes k.holder k.gen (s.leaseLeft / 256) s.leaseLeft) s
  s.updTok fun k => { k with holdAt := s.lsh.frames }

/-- This device becomes the source of a lease (R425, R427). -/
def grantLease (id gen : Nat) (s : State) : State :=
  s.updTok fun k => { k with
    holder := id
    gen := gen
    expiry := s.now + twDur (s.pg 0x30 0x24)
    source := s.pos
    live := true
    pend := false
    refused := false }

/-- Grant or renew, and say so (R425, R427). -/
def takeLease (id gen : Nat) (s : State) : State := sendHold (grantLease id gen s)

/-- RELEASE of the held lease (R427). -/
def releaseLease (s : State) : State :=
  let k := s.peers.tok
  let s := if s.lsh.link = .off then s else queueMsg 2 2 (msgBytes k.holder k.gen 0 0) s
  s.updTok fun k => { k with live := false, refused := false }

/-- A write of W_HANDLER is ignored in whole while PENDING, or for a command with HOST_ID 0 (R424). -/
def State.handlerOpen (s : State) (id : Byte) : Bool := s.up && !s.peers.tok.pend && decide (id ≠ 0)

/-- HOST_ID is stored. -/
def storeHost (id : Byte) (s : State) : State := s.updTok fun k => { k with hostId := id.toNat }

/-- HANDLER_STORE (R424). -/
def execHandlerStore (t : Nat) (id : Byte) (s : State) : Ans :=
  strobed t (fun s => !s.peers.tok.pend) (storeHost id) s

/-- The RENEW command with HOST_ID stored (R427). -/
def renewLease (s : State) : State :=
  if s.leaseHeld then takeLease s.peers.tok.holder s.peers.tok.gen s else s.updTok fun k => { k with refused := true }

/-- The ACQUIRE command with HOST_ID stored (R425). -/
def acquireLease (s : State) : State :=
  if s.leaseHeld then renewLease s
  else if s.leaseLive then s.updTok fun k => { k with refused := true }
  else
    let g := (s.peers.tok.gen + 1) % 256
    let s := s.updTok fun k => { k with pend := true, pendGen := g, pendFrom := none, pendAt := s.now, pendSent := s.synced, lost := false }
    if s.synced then queueMsg 2 0 (msgBytes s.peers.tok.hostId g 0 0) s else s

/-- ACQUIRE (R425). -/
def execAcquire (t : Nat) (id : Byte) (s : State) : Ans :=
  strobed t (fun s => s.handlerOpen id) (fun s => acquireLease (storeHost id s)) s

/-- RENEW (R427). -/
def execRenew (t : Nat) (id : Byte) (s : State) : Ans :=
  strobed t (fun s => s.handlerOpen id) (fun s => renewLease (storeHost id s)) s

/-- The RELEASE command with HOST_ID stored (R427). -/
def releaseHeld (s : State) : State := if s.leaseHeld then releaseLease s else s.updTok fun k => { k with refused := true }

/-- RELEASE (R427). -/
def execRelease (t : Nat) (id : Byte) (s : State) : Ans :=
  strobed t (fun s => s.handlerOpen id) (fun s => releaseHeld (storeHost id s)) s

/-- A write of W_HANDLER (R424). -/
def handlerWrite (w : W16) (s : State) : State :=
  let id := w8 (fld w 7 0)
  let cmd := fld w 10 8
  if cmd = 0 then (if s.peers.tok.pend then s else storeHost id s)
  else if s.handlerOpen id = false then s
  else if cmd = 1 then acquireLease (storeHost id s)
  else if cmd = 2 then renewLease (storeHost id s)
  else if cmd = 3 then releaseHeld (storeHost id s)
  else s

/-- The wait of an acquisition has ended (R425): 8 frames from the frame that carried TOKEN_ACQ, or 100 µs off the
link. -/
def State.acquireDue (s : State) : Bool :=
  let k := s.peers.tok
  k.pend && (if s.synced && k.pendSent then (match k.pendFrom with | some f => decide (f + 8 ≤ s.lsh.frames) | none => false)
    else decide (k.pendAt + Config.us 100 ≤ s.now))

/-- ACQUIRE_DECIDE (R425). -/
def execAcquireDecide (t : Nat) (s : State) : Ans :=
  gated t (fun s => s.up && s.acquireDue)
    (fun s =>
      let k := s.peers.tok
      if k.lost then s.updTok fun k => { k with pend := false, refused := true }
      else if s.synced && k.pendSent then takeLease k.hostId k.pendGen s
      else grantLease k.hostId k.pendGen s) s

/-- TOKEN_HOLD_SEND (R426): every 100 frames at the source. -/
def execTokenHoldSend (t : Nat) (s : State) : Ans :=
  gated t (fun s => s.linked && s.leaseLive && decide (s.peers.tok.source = s.pos) &&
      decide (s.peers.tok.holdAt + 100 ≤ s.lsh.frames)) sendHold s

/-- LEASE_EXPIRE (R427). -/
def execLeaseExpire (t : Nat) (s : State) : Ans :=
  gated t (fun s => s.peers.tok.live && decide (s.peers.tok.expiry ≤ s.now)) (fun s => s.updTok fun k => { k with live := false }) s

/-- An accepted TOKEN_ACQ or TOKEN_HOLD may defeat a pending acquisition (R425). -/
def defeat (p : Fin 8) (g : Nat) (s : State) : State :=
  let k := s.peers.tok
  if k.pend && (newer g k.pendGen || (decide (g = k.pendGen) && decide (p.val < s.pos))) then
    s.updTok fun k => { k with lost := true }
  else s

/-- An accepted TOKEN_HOLD (R426). -/
def holdReceived (p : Fin 8) (d : W32) (s : State) : State :=
  let id := fld d 31 24
  let g := fld d 23 16
  let s := defeat p g s
  let k := s.peers.tok
  if newer g k.gen || (decide (g = k.gen) && (decide (id = k.holder) || decide (p.val < k.source))) then
    s.updTok fun k => { k with
      holder := id
      gen := g
      expiry := s.now + Config.ms (fld d 15 0)
      source := p.val
      live := true }
  else s

/-- An accepted TOKEN_REL (R427). -/
def relReceived (d : W32) (s : State) : State :=
  if fld d 31 24 = s.peers.tok.holder ∧ fld d 23 16 = s.peers.tok.gen then s.updTok fun k => { k with live := false } else s

/-! ### The plan in MTP (R418) -/

/-- A write of LSH.PLAN_CMD (R418, R428). -/
def planWrite (w : W16) (s : State) : State :=
  if w = 0x5A50 ∧ s.readOnly = false ∧ s.peers.planBusy = none then
    s.updPeers fun x => { x with
      planBusy := some s.now
      planNew := (List.range 32).map fun i => s.pg 0x31 i }
  else s

/-- PLAN_SAVE: a write of 0x5A50. -/
def execPlanSave (t : Nat) (s : State) : Ans := strobed t (fun _ => true) (planWrite 0x5A50) s

/-- PLAN_SAVE_DONE (R418): `ok` is the program verify's outcome. -/
def execPlanSaveDone (t : Nat) (ok : Bool) (s : State) : Ans :=
  gated t (fun s => s.peers.planBusy.isSome)
    (fun s => (s.updPeers fun x => { x with
      planBusy := none
      planNew := []
      plan := if ok then some x.planNew else x.plan
      planRes := if ok then 0 else 7 }).irq 10) s

/-- LSH.PLAN_STAT (R418). -/
def State.planStat (s : State) : W16 :=
  w16 (bitVal s.peers.plan.isSome 0 + 256 * s.peers.planRes + bitVal s.peers.planBusy.isSome 15)

/-! ### Published values (R420) -/

/-- The index of loop n of position p. -/
def valIx (p : Fin 8) (n : Fin 16) : Fin 128 := ⟨16 * p.val + n.val, by omega⟩

/-- An accepted VREF (R420). -/
def vrefReceived (p : Fin 8) (d : W32) (s : State) : State :=
  let n : Fin 16 := ⟨fld d 31 28 % 16, by omega⟩
  let v : PeerVal := { vref := w16 (fld d 15 0), st := fld d 27 24, pg := bitAt d 16, at_ := some s.now }
  s.updPeers fun x => { x with vals := x.vals.set (valIx p n) v }

/-- PEER_VALUE_TIMEOUT (R420): 200 µs without a value. -/
def execPeerValueTimeout (t : Nat) (p : Fin 8) (n : Fin 16) (s : State) : Ans :=
  gated t (fun s => match s.peers.vals[valIx p n].at_ with | some a => decide (a + Config.us 200 ≤ s.now) | none => false)
    (fun s =>
      let v : PeerVal := { s.peers.vals[valIx p n] with pg := false, at_ := none }
      s.updPeers fun x => { x with vals := x.vals.set (valIx p n) v }) s

/-- LSH.PEER_PGp (R420). -/
def State.peerPg (s : State) (p : Fin 8) : W16 :=
  if (s.peer p).present then
    w16 (allLoops.foldl (fun a n =>
      let v := s.peers.vals[valIx p n]
      let fresh := match v.at_ with | some t => decide (s.now < t + Config.us 200) | none => false
      a + bitVal (fresh && v.pg) n.val) 0)
  else 0

/-- LSH.ALIGN (R419). -/
def State.aligned (s : State) : Bool :=
  decide (s.lsh.link = .lead) || (decide (s.lsh.link = .follow) && decide (s.stb.src = .leash) && !s.stb.gliding)

/-- LSH.WIRE_STAT and WIRE_CAUSE (R416). -/
def State.wireStat (s : State) : W16 := w16 (allPos.foldl (fun a p => a + bitVal (decide (s.wireCause p ≠ 0)) p.val) 0)
def State.wireCauses (s : State) (base : Nat) : W16 :=
  w16 ((allPos.filter fun p => decide (base ≤ p.val) && decide (p.val < base + 4)).foldl (fun a p =>
    a + 16 ^ (p.val - base) * s.wireCause p) 0)

end Sys2Proof.Machine
end

