-- ==== Sys2Proof/Machine/Nvm.lean ====
section
/-! DEFINITION. Configuration images and the MTP controller (03_proof_and_commit.md R106 to R109, R116 to R121).
Loading an image at BOOT is in `Power`. -/

namespace Sys2Proof.Machine

open Sys2Proof

def State.updNvm (s : State) (f : Nvm → Nvm) : State := { s with nvm := f s.nvm }

/-! ### Images (R106 to R109) -/

/-- The two-byte and four-byte fields of an image. -/
def img16 (b : List Byte) (o : Nat) : Nat := leNat ((b.drop o).take 2)
def img32 (b : List Byte) (o : Nat) : Nat := leNat ((b.drop o).take 4)

/-- SEQUENCE of an image. -/
def imgSeq (b : List Byte) : Nat := img32 b 12
/-- FLAGS.SIGNED. -/
def imgSigned (b : List Byte) : Bool := decide (img16 b 6 % 2 = 1)
/-- LENGTH lies within R106. -/
def lengthOk (n : Nat) : Bool := decide (n % 2 = 0) && decide (64 ≤ n) && decide (n ≤ 49152)
/-- The offset of the digest. -/
def digestAt (b : List Byte) : Nat := img32 b 8 - 32 - (if imgSigned b then 64 else 0)

/-- One record: the first address and the values. -/
abbrev Rec := Nat × List W16

/-- The records of a body, with a bound on their number; none when one is malformed by itself (R107). -/
def parseRecs : Nat → List Byte → Option (List Rec)
  | _, [] => some []
  | 0, _ => none
  | k + 1, b =>
    let a := img16 b 0
    let n := img16 b 2
    let vals := wordsOf ((b.drop 4).take (2 * n))
    if b.length < 4 + 2 * n ∨ n = 0 ∨ 256 < n ∨ 256 < a % 256 + n ∨
        ((List.range n).all fun i => isRw (a + i)) = false then none
    else match parseRecs k (b.drop (4 + 2 * n)) with
      | some r => some ((a, vals) :: r)
      | none => none

/-- Two records name a common word. -/
def recsClash (x y : Rec) : Bool := decide (x.1 < y.1 + y.2.length) && decide (y.1 < x.1 + x.2.length)

/-- No word is named twice (R107). -/
def recsApart : List Rec → Bool
  | [] => true
  | x :: r => (r.all fun y => !recsClash x y) && recsApart r

/-- The records of an image, when they are well formed and exactly fill its body. -/
def imgRecs (b : List Byte) : Option (List Rec) :=
  let body := (b.take (digestAt b)).drop 32
  match parseRecs (img16 b 16) body with
  | some r => if r.length = img16 b 16 ∧ recsApart r = true then some r else none
  | none => none

/-- The signature bytes of a signed image. -/
def imgSig (b : List Byte) : List Byte := (b.drop (digestAt b + 32)).take 64

/-- The tests of R109 in their order: the IMG_STAT reason of the first that fails, none for a valid image. -/
def imgReason (key : Option (Nat × Nat)) (b : List Byte) : Option Nat :=
  if b.take 4 ≠ [(0x46 : Byte), 0x59, 0x52, 0x43] ∨ img16 b 4 ≠ 1 ∨ img16 b 18 ≠ 0x6416 ∨ 2 ≤ img16 b 6 then some 3
  else if lengthOk (img32 b 8) = false ∨ img32 b 8 ≠ b.length then some 4
  else if (b.drop (digestAt b)).take 32 ≠ sha256 (b.take (digestAt b)) then some 5
  else if (imgRecs b).isNone then some 7
  else match key with
    | some q => if imgSigned b && !verifyBytes q (b.take (digestAt b)) (imgSig b) then some 6 else none
    | none => none

/-- The W_NVM_STAT RESULT of an IMG_STAT reason (R109). -/
def reasonResult (r : Nat) : Nat :=
  match r with | 3 => 11 | 4 => 2 | 5 => 3 | 7 => 8 | _ => 4

/-- The operator key in use: the highest written entry (R507). -/
def State.opKey (s : State) : Option (Nat × Nat) := s.idn.opk.getLast?

/-- Consecutive addresses in runs. -/
def runsOf : List Nat → List (List Nat)
  | [] => []
  | a :: r =>
    match runsOf r with
    | (b :: q) :: t => if b = a + 1 ∧ b % 256 ≠ 0 then (a :: b :: q) :: t else [a] :: (b :: q) :: t
    | t => [a] :: t

/-- The unsigned image of all RW values in use (R116). Its LABEL is 12 zero bytes (DESIGN CHOICE,
notes/assumptions/62.md). -/
def State.saveImage (s : State) (seq : Nat) : List Byte :=
  let runs := runsOf allRw
  let recs := runs.flatMap fun r => leBytes 2 (r.headD 0) ++ leBytes 2 r.length ++ r.flatMap fun a => wordBytes (s.baseUse a)
  let len := 32 + recs.length + 32
  let b := [(0x46 : Byte), 0x59, 0x52, 0x43] ++ leBytes 2 1 ++ leBytes 2 0 ++ leBytes 4 len ++ leBytes 4 seq ++
    leBytes 2 runs.length ++ leBytes 2 0x6416 ++ List.replicate 12 0 ++ recs
  b ++ sha256 b

/-! ### Slots -/

def Nvm.slot (x : Nvm) (b : Bool) : ImgSlot := if b then x.slotB else x.slotA
def Nvm.setSlot (x : Nvm) (b : Bool) (v : ImgSlot) : Nvm := if b then { x with slotB := v } else { x with slotA := v }
def State.updSlot (s : State) (b : Bool) (f : ImgSlot → ImgSlot) : State := s.updNvm fun x => x.setSlot b (f (x.slot b))

/-- Slot `b` was loaded at this BOOT. -/
def Nvm.isLoaded (x : Nvm) (b : Bool) : Bool := decide (x.loaded.toNat = if b then 2 else 1)

/-- The highest SEQUENCE of a slot that holds a valid image (R109, R116), whatever the slot's state. -/
def State.topSeq (s : State) : Nat :=
  [s.nvm.slotA, s.nvm.slotB].foldl (fun m x => if (imgReason s.opKey x.bytes).isNone then max m (imgSeq x.bytes) else m) 0

/-- The slot that SAVE writes (R116). -/
def Nvm.saveSlot (x : Nvm) : Bool := decide (x.loaded.toNat = 1)

/-- W_NVM_STAT.BUSY (R119, R452). -/
def State.nvmBusy (s : State) : Bool := s.nvm.busy || s.gsp.pend.isSome

/-- A command or transfer ends with a result; W_IRQ.NVM is set (R119). -/
def nvmResult (r : Nat) (s : State) : State :=
  (s.updNvm fun x => { x with
    op := none
    xfer := none
    busy := false
    checking := false
    words := []
    result := BitVec.ofNat 4 r }).irq 10

/-! ### Commands (R116) -/

/-- A command word is taken (R116). -/
def State.nvmOpen (s : State) : Bool := s.nvm.xfer.isNone && !s.nvmBusy

/-- Begin a command. -/
def nvmBegin (op : NvmOp) (s : State) : State :=
  s.updNvm fun x => { x with op := some op, busy := true }

/-- A command acts, or is refused with result 1 (R116, R428). -/
def nvmCommand (ok : State → Bool) (f : State → State) (s : State) : State :=
  if s.readOnly || !ok s then nvmResult 1 s else f s

/-- SAVE (R116): the image is taken at the command. -/
def nvmSave (s : State) : State :=
  let seq := s.topSeq + 1
  let b := s.nvm.saveSlot
  let s := s.updSlot b fun x => { x with cycles := x.cycles + 1 }
  nvmBegin .save (s.updNvm fun x => { x with words := wordsOf (s.saveImage seq) })

/-- The SAVE command. -/
def saveCommand (s : State) : State := nvmCommand (fun s => decide (s.topSeq < 0xFFFFFFFF)) nvmSave s

/-- SAVE. -/
def execSave (t : Nat) (s : State) : Ans := strobed t State.nvmOpen saveCommand s

/-- OPEN into slot `b` is allowed (R116). -/
def State.mayOpen (s : State) (b : Bool) : Bool :=
  !s.nvm.isLoaded b || decide ((s.nvm.slot (!b)).st = .confirmed)

/-- OPEN (R116): the slot is INVALID from the start of its erase. -/
def nvmOpenSlot (b : Bool) (s : State) : State :=
  let s := s.updSlot b fun x => { x with st := .invalid, bytes := [], cycles := x.cycles + 1 }
  let s := if s.nvm.isLoaded b then s.updNvm fun x => { x with opened := true } else s
  nvmBegin (if b then .openB else .openA) s

/-- The OPEN command of slot `b`. -/
def openCommand (b : Bool) (s : State) : State := nvmCommand (fun s => s.mayOpen b) (nvmOpenSlot b) s

/-- OPEN_A. -/
def execOpenA (t : Nat) (s : State) : Ans := strobed t State.nvmOpen (openCommand false) s
/-- OPEN_B. -/
def execOpenB (t : Nat) (s : State) : Ans := strobed t State.nvmOpen (openCommand true) s

/-- CONFIRM is accepted (R116). -/
def State.mayConfirm (s : State) : Bool :=
  let x := s.nvm
  x.loadedTrial && !x.opened &&
  ((x.isLoaded false && decide (x.slotA.st = .trial)) || (x.isLoaded true && decide (x.slotB.st = .trial)))

/-- The CONFIRM command. -/
def confirmCommand (s : State) : State := nvmCommand State.mayConfirm (nvmBegin .confirm) s

/-- CONFIRM. -/
def execConfirm (t : Nat) (s : State) : Ans := strobed t State.nvmOpen confirmCommand s
/-- INVALIDATE_A. -/
def execInvalidateA (t : Nat) (s : State) : Ans :=
  strobed t State.nvmOpen (nvmCommand (fun _ => true) (nvmBegin .invalidateA)) s
/-- INVALIDATE_B. -/
def execInvalidateB (t : Nat) (s : State) : Ans :=
  strobed t State.nvmOpen (nvmCommand (fun _ => true) (nvmBegin .invalidateB)) s

/-- What a completed command does to the slots (R116); `ok` is the outcome of the program verify. After a failed one (RESULT
7) SAVE's slot is INVALID and holds no valid image, and a slot whose state was to be written keeps it (DESIGN CHOICE,
notes/assumptions/63.md). -/
def nvmFinish (op : NvmOp) (ok : Bool) (s : State) : State :=
  let mark (b : Bool) (st : SlotState) (s : State) : State := if ok then s.updSlot b fun x => { x with st := st } else s
  match op with
  | .save =>
    let bytes := s.nvm.words.flatMap wordBytes
    s.updSlot s.nvm.saveSlot fun x => { x with
      st := if ok then .confirmed else .invalid
      trials := 0
      bytes := if ok then bytes else [] }
  | .openA => s
  | .openB => s
  | .confirm => mark (s.nvm.isLoaded true) .confirmed s
  | .invalidateA => mark false .invalid s
  | .invalidateB => mark true .invalid s

/-- NVM_OP_COMPLETE (R116, R119). -/
def nvmComplete (ok : Bool) (s : State) : State :=
  match s.nvm.op with
  | some op =>
    let s := nvmResult (if ok then 0 else 7) (nvmFinish op ok s)
    let opened (b : Bool) : State := if ok then s.updNvm fun x => { x with xfer := some b, gapFrom := s.now } else s
    match op with
    | .openA => opened false
    | .openB => opened true
    | _ => s
  | none => s

/-- NVM_OP_COMPLETE. -/
def execNvmOpComplete (t : Nat) (ok : Bool) (s : State) : Ans :=
  gated t (fun s => s.nvm.op.isSome && s.nvm.busy) (nvmComplete ok) s

/-! ### Transfers (R117, R118) -/

/-- LENGTH of the image being received, when it has arrived. -/
def Nvm.wanted (x : Nvm) : Option Nat :=
  if 6 ≤ x.words.length then some (leNat (((x.words.drop 4).take 2).flatMap wordBytes)) else none

/-- One image word (R117). -/
def nvmWord (w : W16) (s : State) : State :=
  if s.nvmBusy then nvmResult 6 s
  else
    let s := s.updNvm fun x => { x with words := x.words ++ [w], gapFrom := s.now }
    match s.nvm.wanted with
    | some n =>
      if lengthOk n = false then nvmResult 2 s
      else if n ≤ 2 * s.nvm.words.length then s.updNvm fun x => { x with busy := true, checking := true }
      else if s.nvm.words.length % 64 = 0 then s.updNvm fun x => { x with busy := true }
      else s
    | none => s

/-- NVM_DATA_WORD (R117). -/
def execNvmDataWord (t : Nat) (w : W16) (s : State) : Ans :=
  strobed t (fun s => s.nvm.xfer.isSome) (nvmWord w) s

/-- A write of W_NVM_CTL (R116, R117). -/
def nvmWrite (w : W16) (s : State) : State :=
  if s.nvm.xfer.isSome then nvmWord w s
  else if s.nvmOpen = false then s
  else if w = 0x5A01 then saveCommand s
  else if w = 0x5A02 then openCommand false s
  else if w = 0x5A03 then openCommand true s
  else if w = 0x5A04 then confirmCommand s
  else if w = 0x5A05 then nvmCommand (fun _ => true) (nvmBegin .invalidateA) s
  else if w = 0x5A06 then nvmCommand (fun _ => true) (nvmBegin .invalidateB) s
  else s

/-- NVM_PAGE_PROGRAMMED (R117). -/
def execNvmPageProgrammed (t : Nat) (s : State) : Ans :=
  gated t (fun s => s.nvm.xfer.isSome && s.nvm.busy && !s.nvm.checking) (fun s => s.updNvm fun x => { x with busy := false }) s

/-- NVM_TRANSFER_TIMEOUT (R117). -/
def execNvmTransferTimeout (t : Nat) (s : State) : Ans :=
  gated t (fun s => s.nvm.xfer.isSome && !s.nvm.checking && decide (s.nvm.gapFrom + Config.ms 100 < s.now)) (nvmResult 5) s

/-- The final check of a transferred image (R118); `ok` is the outcome of the program verify. -/
def nvmChecked (ok : Bool) (s : State) : State :=
  match s.nvm.xfer with
  | some b =>
    let bytes := s.nvm.words.flatMap wordBytes
    if ok then
      match imgReason s.opKey bytes with
      | none => nvmResult 0 (s.updSlot b fun x => { x with st := .trial, trials := 0, bytes := bytes })
      | some r => nvmResult (reasonResult r) (s.updSlot b fun x => { x with st := .invalid })
    else nvmResult 7 (s.updSlot b fun x => { x with st := .invalid })
  | none => s

/-- NVM_IMAGE_CHECKED (R118). -/
def execNvmImageChecked (t : Nat) (ok : Bool) (s : State) : Ans :=
  gated t (fun s => s.nvm.xfer.isSome && s.nvm.checking) (nvmChecked ok) s

/-! ### Aborts (R120, R121) -/

/-- The slot contents being written are left INVALID, and hold no whole image. -/
def nvmDamage (s : State) : State :=
  match s.nvm.op with
  | some .save => s.updSlot s.nvm.saveSlot fun x => { x with st := .invalid, bytes := [] }
  | _ => s

/-- A command runs or a transfer is open. -/
def Nvm.active (x : Nvm) : Bool := x.op.isSome || x.xfer.isSome

/-- Entry to GASP (R120, R418). -/
def nvmGasp (s : State) : State :=
  let s := s.updPeers fun x => { x with planBusy := none, planNew := [] }
  if s.nvm.active then nvmResult 9 (nvmDamage s) else s

/-- Loss of VAUX (R120, R418, R452): no result. -/
def nvmLoss (s : State) : State :=
  let s := s.updPeers fun x => { x with planBusy := none, planNew := [] }
  (nvmDamage s).updNvm fun x => { x with op := none, xfer := none, busy := false, checking := false, words := [] }

/-- A reset (R121): a single state write completes; an erase, a transfer or a SAVE ends, with RESULT 10 at the end of the
BOOT that follows. -/
def nvmReset (s : State) : State :=
  if s.nvm.active then
    let single := match s.nvm.op with
      | some .confirm => true | some .invalidateA => true | some .invalidateB => true | _ => false
    let s := match s.nvm.op with
      | some op => if single then nvmFinish op true s else nvmDamage s
      | none => s
    s.updNvm fun x => { x with
      op := none
      xfer := none
      busy := false
      checking := false
      words := []
      resetRes := some (if single then 0 else 10) }
  else s

/-- The MTP controller is idle (R47, R121). -/
def State.mtpIdle (s : State) : Bool := !s.nvmBusy && s.peers.planBusy.isNone

/-! ### Views -/

def SlotState.code : SlotState → Nat
  | .erased => 0 | .trial => 1 | .confirmed => 2 | .invalid => 3

/-- W_NVM_CTL on reads (R119). -/
def State.nvmCtl (s : State) : W16 :=
  if s.nvm.xfer.isSome then
    match s.nvm.wanted with
    | some n => w16 (n / 2 - s.nvm.words.length)
    | none => 0xFFFF
  else 0

/-- W_NVM_STAT (R119). -/
def State.nvmStat (s : State) : W16 :=
  w16 (s.nvm.slotA.st.code + 4 * s.nvm.slotB.st.code + 256 * s.nvm.result.toNat + bitVal s.nvm.xfer.isSome 14 +
    bitVal s.nvmBusy 15)

/-- PRF.SLOT_STAT. -/
def State.slotStat (s : State) : W16 :=
  w16 (s.nvm.slotA.st.code + 4 * s.nvm.slotB.st.code + 16 * (s.nvm.slotA.trials % 4) + 256 * (s.nvm.slotB.trials % 4))

/-- PRF.IMG_STAT. -/
def State.imgStat (s : State) : W16 :=
  w16 (s.nvm.loaded.toNat + bitVal s.nvm.kSkip 3 + 16 * s.nvm.reasonA.toNat + 256 * s.nvm.reasonB.toNat +
    4096 * s.nvm.reasonE.toNat)

/-- PRF.MTP_WEAR. -/
def State.mtpWear (s : State) : W16 :=
  w16 (min 255 (s.nvm.slotA.cycles / 100) + 256 * min 255 (s.nvm.slotB.cycles / 100))

end Sys2Proof.Machine
end

