-- ==== Sys2Proof/Machine/Ram.lean ====
section
/-! DEFINITION. The Crumb SRAM (18 R476): a byte memory from 0x000000 to 0x1FFFFF in one canonical form. A byte that
nothing has written reads as 0 until VAUX is lost (notes/assumptions/3.md), and as a free value after a loss of VAUX, which
leaves the contents undefined (R51). -/

namespace Sys2Proof.Machine

open Sys2Proof

/-- What an unlisted byte reads as, by the mark of the last loss of VAUX. -/
def ramDefault (gen a : Nat) : Byte := if gen = 0 then 0 else Config.freeByte (gen * 2 ^ 24 + a)

/-- The canonical form of a memory: strictly rising addresses, no entry equal to what an unlisted address reads as. -/
def Memory.wf (gen : Nat) (m : List Host.Cell) : Bool := sparseWf (ramDefault gen) m

/-- The byte of the Crumb SRAM at an address. -/
def State.ram (s : State) (a : Nat) : Byte := sparseGet (ramDefault s.crb.gen) s.crb.sram a

/-- `k` bytes from an address. -/
def State.ramBytes (s : State) (a k : Nat) : List Byte := (List.range k).map fun i => s.ram (a + i)

/-- Write bytes from an address. -/
def ramPut (a : Nat) (l : List Byte) (s : State) : State :=
  { s with crb := { s.crb with sram := sparseSetList (ramDefault s.crb.gen) s.crb.sram a l } }

/-- Write a word, low byte first. -/
def ramPut16 (a : Nat) (v : W16) (s : State) : State := ramPut a (wordBytes v) s

/-- A loss of VAUX leaves every byte undefined (R51). -/
def ramLose (s : State) : State :=
  { s with
    freeCount := s.freeCount + 1
    crb := { s.crb with sram := [], gen := s.freeCount + 1 } }

end Sys2Proof.Machine
end

