-- ==== Sys2Proof/Machine/Sweep.lean ====
section
/-! DEFINITION. The input bus sweep and the damping of a bus resonance (16_bus_sweep_damping_gasp.md R431 to R445).
Analogue products are computed in fixed point of 2^−48 (notes/assumptions/30.md). -/

namespace Sys2Proof.Machine

open Sys2Proof

def State.updSwp (s : State) (f : Swp → Swp) : State := { s with swp := f s.swp }
def State.updDamp (s : State) (f : Damp → Damp) : State := { s with damp := f s.damp }

/-! ### Configuration (SWP page) -/

def State.swpCtl (s : State) : W16 := s.pg 0x32 0
def State.swpEn (s : State) : Bool := bitAt s.swpCtl 0
def State.swpInj (s : State) : Bool := bitAt s.swpCtl 1
/-- The injecting loop. -/
def State.swpLoop (s : State) : Fin 16 := ⟨fld s.swpCtl 7 4 % 16, by omega⟩
def State.swpNf (s : State) : Nat := fld (s.pg 0x32 3) 6 0
def State.swpNcyc (s : State) : Nat := fld (s.pg 0x32 4) 7 0
def State.swpSettle (s : State) : Nat := fld (s.pg 0x32 4) 15 8
def SwpSt.code : SwpSt → Nat
  | .idle => 0 | .armed => 1 | .running => 2 | .done => 3 | .aborted => 4 | .lost => 5 | .refused => 6 | .gasp => 7
def State.sweeping (s : State) : Bool := decide (s.swp.st = .armed) || decide (s.swp.st = .running)

/-- The digest of SWP_CHECK (R432). -/
def State.swpDigest (s : State) : W32 :=
  BitVec.ofNat 32 (beNat ((sha256 ((List.range 5).flatMap fun i => wordBytes (s.pg 0x32 (i + 1)))).take 4))

/-! ### Schedule (R434) -/

/-- f_j in Hz. -/
def sweepFreq (lo hi nf j : Nat) : Nat :=
  if nf ≤ 1 then lo else rootBits (nf - 1) (lo ^ (nf - 1 - j) * hi ^ j) 16 0

def State.swpFreq (s : State) (j : Nat) : Nat := sweepFreq (s.pg 0x32 1).toNat (s.pg 0x32 2).toNat s.swpNf j

/-- The positions of the mask, ascending. -/
def maskPositions (m : Byte) : List Nat := (List.range 8).filter fun p => bitAt m p

/-- The number of steps of the sweep. -/
def State.swpSteps (s : State) : Nat := s.swpNf * (maskPositions s.swp.mask).length

/-- L_j in frames. -/
def State.swpLen (s : State) (f : Nat) : Nat :=
  ((s.swpSettle + s.swpNcyc) * 100000 + max 1 f - 1) / max 1 f + 2

/-- Frames from S to the last good sync field. -/
def State.sweepFrame (s : State) : Nat :=
  let d := countFrom s.swp.frameCnt s.lsh.fcount
  s.swp.frame + (if d < 32768 then d else 0)

/-- Sweep time since frame S in 1/256 ns: 10 µs for each frame, and the fraction of the present one. -/
def State.sweepTime (s : State) (at_ : Nat) : Nat :=
  let p := max 1 s.framePeriod
  match s.lsh.syncAt with
  | some a => s.sweepFrame * Config.us 10 + (at_ - a) * Config.us 10 / p
  | none => s.sweepFrame * Config.us 10

/-- Sweep time since the present step's start. -/
def State.stepTime (s : State) (at_ : Nat) : Nat := s.sweepTime at_ - s.swp.stepFrame * Config.us 10

/-- One second in units of time. -/
def oneSec : Nat := Config.ms 1000

/-- `k` periods of the present step's frequency. -/
def State.periods (s : State) (k : Nat) : Nat := k * oneSec / max 1 s.swp.f

/-- 2 to the greatest power not above `x`, at most 64 (NS of R436). -/
def powBelow (x : Nat) : Nat :=
  (([64, 32, 16, 8, 4, 2, 1] : List Nat).find? fun p => decide (p ≤ x)).getD 1

def State.swpNs (s : State) : Nat := powBelow (100000 / max 1 s.swp.f)
/-- M of R436. -/
def State.swpM (s : State) : Nat := s.swpNs * s.swpNcyc

/-- The frames of a sweep followed over the frame count's wraps; a leader that takes no part has led it once S is past (R431, R432). -/
def sweepTrack (s : State) : State :=
  if s.swp.st = .running then s.updSwp fun w => { w with frame := s.sweepFrame, frameCnt := s.lsh.fcount }
  else if s.swp.leading && s.swp.sFixed && decide (s.swp.st ≠ .armed) && decide (countFrom s.swp.frameS s.lsh.fcount < 32768) then
    s.updSwp fun w => { w with leading := false }
  else s

/-- The frame that ends now overlaps the integration window of the present step (R437). -/
def State.windowFrame (s : State) : Bool :=
  decide (s.swp.st = .running) && s.swp.step.isSome && decide (s.periods s.swpSettle < s.stepTime s.now)

/-! ### The record (R438) -/

/-- The address of the record in use. -/
def State.swpBase (s : State) : Nat := 0x1E0000 + 16384 * s.swp.recNo

/-- The header at frame S. -/
def State.swpHeader (s : State) : List Byte :=
  let w (i : Nat) : W16 := s.pg 0x32 i
  wordBytes 0x5357 ++ [w8 s.swp.sid, w8 s.swp.leadPos] ++ leBytes 4 s.power.bootCnt.toNat ++ leBytes 2 s.swp.frameS ++
  [s.swp.mask, w8 s.pos, w8 s.swpNf, w8 s.swpNcyc, w8 s.swpSettle, w8 (fld (w 5) 5 0)] ++ wordBytes (w 1) ++ wordBytes (w 2) ++
  leBytes 2 0 ++ [w8 SwpSt.running.code, 0] ++ leBytes 2 0xFFFF ++ leBytes 6 0 ++
  [w8 (fld s.swpCtl 13 8), if s.swpInj && bitAt s.swp.mask s.pos then w8 s.swpLoop.val else 0xFF] ++
  wordBytes (s.pgL s.swpLoop 4 (0x10 + s.swpLoop.val)) ++ leBytes 28 0

/-- The header's status and segment-lost step follow the sweep. -/
def swpPutStatus (s : State) : State :=
  ramPut (s.swpBase + 22) ([w8 s.swp.st.code, 0] ++ leBytes 2 (s.swp.segLost.getD 0xFFFF)) s

/-- The sweep ends with a status (R433, R440, R441). A record that runs takes the status. -/
def sweepEnd (st : SwpSt) (s : State) : State :=
  let ran := decide (s.swp.st = .running)
  let lost := if st = .lost then s.swp.step else s.swp.segLost
  let s := s.updSwp fun w => { w with
    st := st
    started := false
    leading := false
    step := none
    injOn := false
    dampHold := false
    waits := []
    segLost := lost
    windowDone := true }
  if ran then swpPutStatus s else s

/-! ### Start (R431 to R433) -/

/-- SWEEP_START (R431): a write of 0x5A01 to SWP.CMD. -/
def sweepStart (s : State) : State :=
  if !s.synced || s.sweeping then s.updSwp fun w => { w with st := if s.sweeping then w.st else .refused }
  else
    let sid := (s.swp.lastSid + 1) % 256
    let s := s.updSwp fun w => { w with
      st := if s.swpEn then .armed else .idle
      leader := true
      leading := true
      leadPos := s.pos
      sid := sid
      lastSid := sid
      sFixed := false
      setAt := none
      joins := 0
      dampOff := bitAt s.swpCtl 2
      mask := 0
      maskSet := false
      started := false
      dampHold := false }
    queueMsg 2 5 s.swpDigest (queueMsg 2 4 (msgBytes sid 0 0 0) s)

/-- SWEEP_START (R431). -/
def execSweepStart (t : Nat) (s : State) : Ans := strobed t State.up sweepStart s

/-- SWEEP_ABORT (R441): a write of 0x5A02 to SWP.CMD ends a sweep in progress; the leader sends an empty SWP_SET. -/
def sweepAbort (s : State) : State :=
  if s.sweeping || s.swp.leading then
    (let s := if s.swp.leader && s.swp.leadPos = s.pos then
        queueMsg 2 7 (msgBytes s.swp.sid 0 (s.swp.frameS / 256) s.swp.frameS) s else s
     sweepEnd .aborted s)
  else s

/-- SWEEP_ABORT. -/
def execSweepAbort (t : Nat) (s : State) : Ans := strobed t State.up sweepAbort s

/-- A write of SWP.CMD (R431, R441). -/
def swpWrite (w : W16) (s : State) : State :=
  if w = 0x5A01 then sweepStart s else if w = 0x5A02 then sweepAbort s else s

/-- The last sweep ID that has been heard (R431). -/
def heardSid (sid : Nat) (s : State) : State := s.updSwp fun w => { w with lastSid := sid }

/-- An accepted SWP_START (R432). Its message does not carry DAMP_OFF: the own word of that moment stands for it (DEDUCED, notes/assumptions/82.md). -/
def swpStartReceived (p : Fin 8) (d : W32) (s : State) : State :=
  let sid := fld d 31 24
  let s := heardSid sid s
  if s.swpEn && !s.sweeping then
    s.updSwp fun w => { w with
      started := true
      sid := sid
      frameS := fld d 15 0
      sFixed := true
      leader := false
      leading := false
      leadPos := p.val
      dampOff := bitAt s.swpCtl 2
      mask := 0
      maskSet := false }
  else s

/-- An accepted SWP_CHECK (R432). -/
def swpCheckReceived (p : Fin 8) (d : W32) (s : State) : State :=
  if s.swp.started && decide (s.swp.leadPos = p.val) then
    if d = s.swpDigest then
      queueMsg 2 6 (msgBytes s.swp.sid (bitVal s.swpInj 7) 0 0) (s.updSwp fun w => { w with st := .armed, started := false })
    else s.updSwp fun w => { w with st := .refused, started := false }
  else s

/-- An accepted SWP_JOIN at the leader (R432). -/
def swpJoinReceived (p : Fin 8) (d : W32) (s : State) : State :=
  let s := heardSid (fld d 31 24) s
  if s.swp.leading && decide (fld d 31 24 = s.swp.sid) && bitAt d 23 then
    s.updSwp fun w => { w with joins := setBit w.joins p.val }
  else s

/-- An SWP_SET takes effect (R432, R433). -/
def takeSet (mask : Byte) (s : State) : State :=
  if mask = 0 then (if s.sweeping then sweepEnd .aborted s else s)
  else if s.swp.st = .armed then s.updSwp fun w => { w with mask := mask, maskSet := true }
  else s

/-- An accepted SWP_SET (R432, R433). -/
def swpSetReceived (p : Fin 8) (d : W32) (s : State) : State :=
  let s := heardSid (fld d 31 24) s
  if s.sweeping && decide (p.val = s.swp.leadPos) && decide (fld d 31 24 = s.swp.sid) then takeSet (w8 (fld d 23 16)) s else s

/-- The leader's injector mask (R432). -/
def State.leadMask (s : State) : Byte := if s.swpEn && s.swpInj then setBit s.swp.joins s.pos else s.swp.joins

/-- SWP_SET_SEND (R432): once in each of the frames S − 100 to S − 98, before the own slot that carries it. -/
def execSwpSetSend (t : Nat) (s : State) : Ans :=
  gated t (fun s => s.linked && s.swp.leading && s.swp.sFixed && decide (s.swp.setAt ≠ some s.frameCount) && s.lsh.sent.isNone &&
      decide (s.now < s.bitStart (s.slotBit + 1)) &&
      (let d := countFrom s.frameCount s.swp.frameS; decide (98 ≤ d) && decide (d ≤ 100)))
    (fun s =>
      let m := s.leadMask
      let s := queueMsg 2 7 (msgBytes s.swp.sid m.toNat (s.swp.frameS / 256) s.swp.frameS) s
      takeSet m (s.updSwp fun w => { w with setAt := some s.frameCount })) s

/-- Frame S has been reached. -/
def State.sweepDue (s : State) : Bool :=
  s.swp.sFixed && decide (countFrom s.swp.frameS (s.lsh.fcount + s.lsh.missed) < 32768)

/-- SWEEP_RUN_START (R432, R438): at frame S. -/
def sweepRunStart (s : State) : State :=
  if s.swp.maskSet then
    let s := s.updSwp fun w => { w with
      st := .running
      leading := false
      recNo := if w.recUsed then (w.recNo + 1) % 4 else 0
      recUsed := true
      dampHold := w.dampOff
      frame := countFrom w.frameS s.lsh.fcount % 32768
      frameCnt := s.lsh.fcount
      step := none
      stepFrame := 0
      nextFrame := 0
      windowDone := true
      injOn := false
      waits := []
      written := 0
      figs := []
      segLost := none
      ys := []
      ps := [] }
    ramPut s.swpBase s.swpHeader s
  else s.updSwp fun w => { w with st := .idle, leading := false }

/-- SWEEP_RUN_START (R432). -/
def execSweepRunStart (t : Nat) (s : State) : Ans :=
  gated t (fun s => s.up && decide (s.swp.st = .armed) && s.sweepDue) sweepRunStart s

/-- SWEEP_LEADER_LOST (R440). -/
def execSweepLeaderLost (t : Nat) (s : State) : Ans :=
  gated t (fun s => s.up && s.sweeping && !s.swp.leader && !(s.peer ⟨s.swp.leadPos % 8, by omega⟩).present)
    (sweepEnd .lost) s

/-! ### Steps and injection (R434, R435, R440) -/

/-- The next step. -/
def State.nextStep (s : State) : Nat := match s.swp.step with | some k => k + 1 | none => 0

/-- A step begins. -/
def sweepStepStart (s : State) : State :=
  let k := s.nextStep
  let nf := max 1 s.swpNf
  let f := s.swpFreq (k % nf)
  let inj := (maskPositions s.swp.mask).getD (k / nf) 0
  let seg := !(s.peer ⟨inj % 8, by omega⟩).present
  let own := decide (inj = s.pos) && !seg
  s.updSwp fun w => { w with
    step := some k
    stepFrame := w.nextFrame
    nextFrame := w.nextFrame + s.swpLen f
    f := f
    inj := inj
    injOn := own
    injOk := own
    clip := false
    syncOk := true
    seg := seg
    segLost := if seg && w.segLost.isNone then some k else w.segLost
    windowDone := false
    reqs := 0
    ys := []
    ps := [] }

/-- SWEEP_STEP_START (R434). -/
def execSweepStepStart (t : Nat) (s : State) : Ans :=
  gated t (fun s => s.up && decide (s.swp.st = .running) && s.swp.windowDone && decide (s.nextStep < s.swpSteps) &&
      decide (s.swp.nextFrame * Config.us 10 ≤ s.sweepTime s.now))
    sweepStepStart s

/-- The present frame has its good sync field (FOLLOW), which may come up to 100 ns late (R385), or its sync echo (LEAD), which the
end of a frame reports (R435, R437). -/
def State.syncHeld (s : State) : Bool :=
  match s.lsh.link with
  | .follow => decide (s.lsh.missed = 0) && (s.lsh.syncNow || decide (s.now ≤ s.lsh.frameAt + Config.ns 100))
  | .lead => decide (s.lsh.leadBad = 0)
  | _ => false

/-- The conditions under which an injector injects (R435). -/
def State.mayInject (s : State) : Bool :=
  decide (s.st s.swpLoop = .regulate) && decide (s.power.g ≠ .gasp) && s.syncHeld

/-- v_inj at the pins in 2^−48 of 100 µV (R435). -/
def State.injected (s : State) : Int :=
  let sc := sinCosTurn (s.swp.f * s.stepTime s.now) oneSec
  fmul (fixOf ((Frac.ofNats (fld (s.pg 0x32 5) 5 0) 1).mul (s.rho s.swpLoop))) sc.1

/-- v_inj of LPn at its boundary, and the end of the injection where a condition fails (R435). -/
def sweepInject (n : Fin 16) (s : State) : Int × State :=
  if s.swp.st = .running ∧ s.swp.injOn = true ∧ n = s.swpLoop then
    if s.mayInject then (s.injected, s) else (0, s.updSwp fun w => { w with injOn := false, injOk := false })
  else (0, s)

/-! ### Demodulation (R436) -/

/-- The integration window of the present step is open at a sweep time since the step's start. -/
def State.inWindow (s : State) (tau : Nat) : Bool :=
  decide (s.periods s.swpSettle ≤ tau) && decide (tau < s.periods (s.swpSettle + s.swpNcyc))

/-- The sweep time, since the step's start, at which request m falls due. -/
def State.reqDue (s : State) (m : Nat) : Nat :=
  s.periods s.swpSettle + m * oneSec / max 1 (s.swpNs * s.swp.f)

/-- A sweep request is pending or being converted. -/
def State.sweepWaiting (s : State) : Bool :=
  (s.svc.reqs.any fun q => decide (q.src = .sweep)) ||
  (match s.svc.run with | some (q, _) => decide (q.src = .sweep) | none => false)

/-- Place the sweep's request that has fallen due (R436), at its due time. -/
def placeSweep (s : State) : State :=
  if s.swp.st = .running ∧ s.swp.windowDone = false ∧ s.swp.reqs < s.swpM ∧ s.sweepWaiting = false then
    let tau := s.stepTime s.now
    let due := s.reqDue s.swp.reqs
    if due ≤ tau then
      let at_ := s.now - (tau - due) * max 1 s.framePeriod / Config.us 10
      let q : UrgReq := { src := .sweep, ch := fld s.swpCtl 13 8, at_ := at_ }
      let s := { s with svc := { s.svc with reqs := s.svc.reqs ++ [q] } }
      s.updSwp fun w => { w with reqs := w.reqs + 1 }
    else s
  else s

/-- A sweep conversion completes: its sampling instant, its unrounded value in 2^−48 V, and its CLIP mark. -/
def sweepConv (at_ : Nat) (y : Int) (clip : Bool) (s : State) : State :=
  if s.swp.st = .running ∧ s.swp.windowDone = false then
    s.updSwp fun w => { w with ys := (s.stepTime at_, y) :: w.ys, clip := w.clip || clip }
  else s

/-- A sample of the injecting loop in the window: its instant, VOUT and IOUT (R436). -/
def sweepSample (n : Fin 16) (at_ : Nat) (vout iout : W16) (s : State) : State :=
  if s.swp.st = .running ∧ s.swp.windowDone = false ∧ s.swp.inj = s.pos ∧ s.swp.seg = false ∧ n = s.swpLoop ∧
      s.inWindow (s.stepTime at_) = true then
    let p := ((Frac.ofNats vout.toNat 10000).div (s.rho n)).mul ⟨iout.toInt, 40⟩
    s.updSwp fun w => { w with ps := (s.stepTime at_, fixOf p) :: w.ps }
  else s

/-- (2 / K) Σ x e^(−j 2π f τ) over samples, fixed point. -/
def demod (f : Nat) (xs : List (Nat × Int)) : Int × Int :=
  let k := max 1 xs.length
  let r := xs.foldl (fun a x =>
    let sc := sinCosTurn (f * x.1) oneSec
    (a.1 + fmul x.2 sc.2, a.2 - fmul x.2 sc.1)) ((0, 0) : Int × Int)
  (roundEven (2 * r.1) k, roundEven (2 * r.2) k)

/-- A fixed-point value times `k`, as an integer. -/
def scaled (x : Int) (k : Nat) : Int := roundEven (x * k) (2 ^ 48)

/-- A value leaves a signed 16-bit field. -/
def beyond16 (x : Int) : Bool := decide (x < -32768) || decide (32767 < x)

/-- The end of a window (R436): every device demodulates its voltage; the injector its current, and queues it. -/
def sweepWindowEnd (s : State) : State :=
  let w := s.swp
  let k := w.step.getD 0
  let v := demod w.f w.ys
  let vre := scaled v.1 100000
  let vim := scaled v.2 100000
  let own := decide (w.inj = s.pos) && !w.seg
  let mean := roundEven (w.ys.foldl (fun a y => a + y.2) 0) (max 1 w.ys.length)
  let ev := fmul mean (fixOf (Frac.ofNats (fld (s.pg 0x33 7) 6 0) 100))
  let i := demod w.f w.ps
  let ire := scaled (fdiv i.1 ev) 10000
  let iim := scaled (fdiv i.2 ev) 10000
  let clip := w.clip || beyond16 vre || beyond16 vim || (own && (beyond16 ire || beyond16 iim))
  let e : SwpWait := {
    k := k
    f := w.f
    inj := w.inj
    vre := (satS16 vre).toInt
    vim := (satS16 vim).toInt
    ire := if own then some (satS16 ire).toInt else none
    iim := if own then some (satS16 iim).toInt else none
    ok := w.syncOk && s.syncHeld && !w.seg && (!own || w.injOk)
    clip := clip
    seg := w.seg
    at_ := s.lsh.frames }
  let s := s.updSwp fun w => { w with windowDone := true, injOn := false, waits := w.waits ++ [e], ys := [], ps := [] }
  if own then
    let msg (x : Int) : W32 := BitVec.ofNat 32 (k * 2 ^ 23 + (satS16 x).toNat)
    queueMsg 1 5 (msg iim) (queueMsg 1 4 (msg ire) s)
  else s

/-- SWEEP_WINDOW_END (R436): the window has ended and its conversions have completed. -/
def execSweepWindowEnd (t : Nat) (s : State) : Ans :=
  gated t (fun s => s.up && decide (s.swp.st = .running) && s.swp.step.isSome && !s.swp.windowDone &&
      decide (s.periods (s.swpSettle + s.swpNcyc) ≤ s.stepTime s.now) && decide (s.swpM ≤ s.swp.ys.length))
    sweepWindowEnd s

/-- Take a current message into the waiting entries. -/
def takeCurrent (k : Nat) (p : Fin 8) (re : Bool) (x : Int) : List SwpWait → List SwpWait
  | [] => []
  | e :: r =>
    if e.k = k ∧ e.inj = p.val then (if re then { e with ire := some x } else { e with iim := some x }) :: r
    else e :: takeCurrent k p re x r

/-- An accepted SWP_IRE or SWP_IIM (R436). -/
def currentReceived (p : Fin 8) (re : Bool) (d : W32) (s : State) : State :=
  s.updSwp fun w => { w with waits := takeCurrent (fld d 31 23) p re (w16 (fld d 15 0)).toInt w.waits }

/-! ### Entries and results (R437 to R439) -/

/-- |Z| in mΩ to the nearest, not yet saturated. -/
def impedance (vre vim ire iim : Int) : Nat :=
  let v := (vre * vre + vim * vim).natAbs
  let i := (ire * ire + iim * iim).natAbs
  (isqrt 40 (40000 * v / max 1 i) 0 + 1) / 2

/-- An entry's 16 bytes. -/
def entryBytes (e : SwpWait) (valid clip low : Bool) (ire iim : Int) (z arg : W16) : List Byte :=
  wordBytes (w16 (e.k % 512 + bitVal valid 9 + bitVal clip 10 + bitVal low 11 + bitVal e.seg 12 + 8192 * (e.inj % 8))) ++
  leBytes 2 e.f ++ wordBytes (satS16 e.vre) ++ wordBytes (satS16 e.vim) ++ wordBytes (satS16 ire) ++ wordBytes (satS16 iim) ++
  wordBytes z ++ wordBytes arg

/-- Write the entry of the oldest waiting step (R436 to R438). A current that has not arrived, and the quotient by a
current of zero, are values that the specification does not state. -/
def entryWrite (e : SwpWait) (s : State) : State :=
  let r := freeWords 4 s
  let s := r.2
  let free (i : Nat) : W16 := r.1.getD i 0
  let both := e.ire.isSome && e.iim.isSome
  let ire := e.ire.getD (free 0).toInt
  let iim := e.iim.getD (free 1).toInt
  let zero := decide (ire = 0) && decide (iim = 0)
  let zn := impedance e.vre e.vim ire iim
  let z := if zero then free 2 else w16 (min 65535 zn)
  let arg := if zero then free 3 else
    satS16 (argOf (-(e.vre * ire + e.vim * iim)) (-(e.vim * ire - e.vre * iim)))
  let valid := e.ok && both
  let clip := e.clip || (!zero && decide (65535 < zn))
  let low := decide (ire * ire + iim * iim < 100)
  let fig : SwpFig := { inj := e.inj, f := e.f, z := z.toNat, arg := arg.toInt }
  let s := s.updSwp fun w => { w with
    waits := w.waits.drop 1
    written := w.written + 1
    lastAt := s.now
    figs := if valid && !low then w.figs ++ [fig] else w.figs }
  let s := ramPut (s.swpBase + 64 + 16 * e.k) (entryBytes e valid clip low ire iim z arg) s
  let s := ramPut16 (s.swpBase + 20) (w16 s.swp.written) s
  if e.seg then ramPut16 (s.swpBase + 24) (w16 (s.swp.segLost.getD 0xFFFF)) s else s

/-- SWEEP_ENTRY_WRITE (R436): both current messages have arrived, or 50 frames have passed. -/
def execSweepEntryWrite (t : Nat) (s : State) : Ans :=
  gated t (fun s => s.up && decide (s.swp.st = .running) && (match s.swp.waits with
      | e :: _ => (e.ire.isSome && e.iim.isSome) || decide (e.at_ + 50 ≤ s.lsh.frames)
      | [] => false))
    (fun s => match s.swp.waits with | e :: _ => entryWrite e s | [] => s) s

/-- Insert into a list in falling order. -/
def insertDown (x : Int) : List Int → List Int
  | [] => [x]
  | y :: r => if y ≤ x then x :: y :: r else y :: insertDown x r

/-- The entry of largest |Z|, the first of equals. -/
def largestZ (l : List SwpFig) : Option SwpFig :=
  l.foldl (fun b e => match b with | none => some e | some x => if x.z < e.z then some e else some x) none

/-- C_SWEEP in µF (R439). `den` is f × |Z| × −sin(arg Z) in Hz mΩ, fixed point; the lower middle of the capacitances is the
upper middle of these. Where it is 0 the specification states no quotient: the result is the free word `free`. -/
def cSweep (free : W16) (res : Nat) (l : List SwpFig) : W16 :=
  let q := l.filter fun e => decide (2 * res ≤ e.f) && decide (-12000 ≤ e.arg) && decide (e.arg ≤ -6000)
  let dens := (q.map fun e => -((e.f * e.z : Nat) * (sinCosTurn e.arg 36000).1)).foldl (fun a d => insertDown d a) []
  if dens.length < 3 then 0 else
    let d := dens.getD ((dens.length - 1) / 2) 1
    if d ≤ 0 then free else satU16 (roundEven (1000000000 * fixOne * fixOne) (twoPi * d).toNat)

/-- The results of the sweep (R439). -/
def sweepResults (s : State) : State :=
  let inj := if bitAt s.swp.mask s.pos then s.pos else (maskPositions s.swp.mask).headD 0
  let l := s.swp.figs.filter fun e => decide (e.inj = inj)
  let res := largestZ l
  let f := match res with | some e => e.f | none => 0
  let z := match res with | some e => e.z | none => 0
  let r := freeWords 1 s
  let c := cSweep (r.1.getD 0 0) f l
  let s := r.2.updSwp fun w => { w with resF := w16 f, resZ := w16 z, cSweep := c }
  let s := ramPut (s.swpBase + 26) (leBytes 2 f ++ leBytes 2 z ++ wordBytes c) s
  sweepEnd .done s

/-- SWEEP_RESULTS (R439). -/
def execSweepResults (t : Nat) (s : State) : Ans :=
  gated t (fun s => s.up && decide (s.swp.st = .running) && decide (s.swpSteps ≤ s.swp.written)) sweepResults s

/-- SWP.STAT. -/
def State.swpStat (s : State) : W16 :=
  w16 (s.swp.st.code + bitVal s.swp.leader 3 + 16 * s.swp.recNo + 256 * (s.swp.sid % 256))

/-! ### Damping (R442 to R445) -/

/-- LPn.DAMP_CTL. -/
def State.dampCtl (s : State) (n : Fin 16) : W16 := s.lp n 0x31

/-- The damping loop (R442). -/
def State.dampLoop (s : State) : Option (Fin 16) := allLoops.find? fun n => bitAt (s.dampCtl n) 0

/-- F_D in Hz (R442). -/
def State.dampFreq (s : State) (n : Fin 16) : Nat :=
  if bitAt (s.dampCtl n) 2 && decide (s.swp.resF ≠ 0) then s.swp.resF.toNat else (s.pg 0x32 0x10).toNat

/-- FSEL of the damping loop. -/
def State.dampSel (s : State) (n : Fin 16) : Fin 2 := if bitAt (s.dampCtl n) 1 then 1 else 0

/-- Damping is frozen (R445). -/
def State.dampFrozen (s : State) (n : Fin 16) : Bool :=
  decide (s.st n ≠ .regulate) || decide (s.power.g = .gasp) || s.swp.dampHold ||
  decide (s.prot.fastMark[s.dampSel n] ≠ .good)

/-- V_o in volts: v_eff / ρ (R443). -/
def State.dampVo (s : State) (n : Fin 16) : Frac :=
  (Frac.ofNats (s.loop n).eng.veff.toNat 10000).div (s.rho n)

/-- The band-pass at one fast result in volts (R443), and Δi_o. -/
def dampBand (f : Nat) (tF : Nat) (q : Nat) (y : Int) (d : Damp) : Damp × Int :=
  let sc := sinCosTurn (f * tF) oneSec
  let al := roundEven (8 * sc.1) (max 1 q)
  let x := fdiv (fmul al (y - d.y2) + fmul (2 * sc.2) d.x1 - fmul (fixOne - al) d.x2) (fixOne + al)
  ({ d with y1 := y, y2 := d.y1, x1 := x, x2 := d.x1 }, x)

/-- A fast result of channel `i` in the bus-voltage encoding reaches the damping loop (R443). -/
def dampFast (i : Nat) (v : W16) (s : State) : State :=
  match s.dampLoop with
  | some n =>
    if (s.dampSel n).val = i ∧ s.dampFrozen n = false then
      let y := fixOf (Frac.ofNats v.toNat 500)
      let r := dampBand (s.dampFreq n) (twDur (s.pg 2 0x0A)) (fld (s.pg 0x32 0x11) 7 0) y s.damp
      let rv := (s.pg 0x32 0x12).toNat
      let eta := Frac.ofNats (fld (s.pg 0x33 7) 6 0) 100
      let num := fmul (fmul y r.2) (fixOf eta)
      let di := if rv = 0 then 0 else fdiv (num * 1000) (fixOf ((s.dampVo n).mul ⟨rv, 1⟩))
      s.updDamp fun _ => { r.1 with dio := di }
    else s
  | none => s

/-- One step of the damping loop (R443, R444): v_d, whether it clipped, the unclipped v_d, and i_damp, in volts and amperes
(fixed point). `lo` and `hi` are what keeps the DAC word within VMIN to VMAX. -/
def dampLaw (f period c : Nat) (auth lo hi : Int) (d : Damp) : Int × Bool × Int × Int :=
  let t := fixOf ⟨period, oneSec⟩
  let leak := fixOne - fmul (fmul twoPi (fixOf ⟨f, 10⟩)) t
  let inc := if c = 0 then 0 else roundEven (fmul d.dio t * 1000000) c
  let raw := fmul d.vd leak + inc
  let v := clampI (max (-auth) lo) (min auth hi) raw
  (v, decide (v ≠ raw), raw, fdiv (roundEven ((v - d.vd) * c) 1000000) t)

/-- The damping part of a step of LPn: i_damp in amperes, fixed point (R443 to R445). -/
def dampStep (n : Fin 16) (s : State) : Int × State :=
  if s.dampLoop = some n ∧ s.dampFrozen n = false then
    let eff : Int := (s.loop n).eng.veff.toNat
    let lim (w : W16) : Int := fixOf ((Frac.mul ⟨w.toNat - eff, 10000⟩ (s.rho n).inv))
    let auth := fixOf (Frac.ofNats (fld (s.dampCtl n) 15 8) 2000)
    let r := dampLaw (s.dampFreq n) (s.samplePeriod n) (s.lp n 0x19).toNat auth (lim (s.lp n 2)) (lim (s.lp n 1)) s.damp
    let was := s.damp.clipped
    let s := s.updDamp fun d => { d with vd := r.1, clipped := r.2.1 }
    let s := if r.2.1 && !was then tugCount n 5 (satS16 (scaled r.2.2.1 10000)) s else s
    (r.2.2.2, s)
  else (0, s)

/-- v_d × ρ of LPn at the pins, in 2^−48 of 100 µV (R443). -/
def State.dampRef (s : State) (n : Fin 16) : Int :=
  if s.dampLoop = some n then fmul (10000 * s.damp.vd) (fixOf (s.rho n)) else 0

/-- SWP.DMP_STAT. -/
def State.dmpStat (s : State) : W16 :=
  match s.dampLoop with
  | some n =>
    let frozen := s.dampFrozen n
    w16 (bitVal (!frozen) 0 + bitVal frozen 1 + bitVal s.damp.clipped 2 + 256 * min 255 (scaled s.damp.vd 2000).natAbs)
  | none => 0

end Sys2Proof.Machine
end

