-- ==== Sys2Proof/Machine/Gasp.lean ====
section
/-! DEFINITION. Last gasp (16_bus_sweep_damping_gasp.md R446 to R455, 19 R523): the energy budget, shedding, the
summary, the exit and the rehearsal. -/

namespace Sys2Proof.Machine

open Sys2Proof

def State.updGsp (s : State) (f : Gsp → Gsp) : State := { s with gsp := f s.gsp }

/-! ### Configuration (GSP page) -/

def State.gspCtl (s : State) : W16 := s.pg 0x33 0
def State.gspEn (s : State) : Bool := bitAt s.gspCtl 0
def State.gspPeer (s : State) : Bool := bitAt s.gspCtl 1
def State.gspHowl (s : State) : Bool := bitAt s.gspCtl 4
/-- The fast channel of the bus. -/
def State.gspSel (s : State) : Fin 2 := if bitAt s.gspCtl 8 then 1 else 0
/-- V_b: the latest fast result (R449). -/
def State.vBus (s : State) : W16 := s.prot.fastVal[s.gspSel]
/-- The rank of LPn (R448). -/
def State.rank (s : State) (n : Fin 16) : Nat :=
  let i := n.val % 4
  fld (s.pg 0x33 (0x0A + n.val / 4)) (4 * i + 3) (4 * i)
/-- LPn answers to its rank: not a self-biased LP15 (R37, R448). -/
def State.ranked (s : State) (n : Fin 16) : Bool := !(s.selfBias && decide (n.val = 15))
/-- Bit n of GSP.BUSMASK. -/
def State.onBus (s : State) (n : Fin 16) : Bool := bitAt (s.pg 0x33 0x0E) n.val

/-- A rehearsal runs. -/
def State.rehearsing (s : State) : Bool := s.gsp.rehearse.isSome

/-- A state that last gasp turns off: it is neither OFF already nor held by a latch. -/
def LoopSt.sheddable : LoopSt → Bool
  | .off => false
  | .latched => false
  | .crowbar => false
  | _ => true

/-- LPn still runs for the ranks of R450 and R455. -/
def State.gaspRuns (s : State) (n : Fin 16) : Bool :=
  s.ranked n && (s.st n).sheddable && !(s.loop n).prt.gaspHold && !(s.rehearsing && bitAt s.gsp.simGone n.val)

/-- The lowest rank still running, 15 when none below 15 runs (R455). -/
def State.lowestRank (s : State) : Nat :=
  allLoops.foldl (fun m n => if s.gaspRuns n then min m (s.rank n) else m) 15

/-! ### The energy budget (R449) -/

/-- C in use, µF. -/
def State.gaspC (s : State) : Nat :=
  let b := (s.pg 0x33 6).toNat
  if bitAt s.gspCtl 3 then
    let b := if s.gsp.cHold = 0 then b else min b s.gsp.cHold.toNat
    if s.swp.cSweep = 0 then b else min b s.swp.cSweep.toNat
  else b

/-- ½ C (v² − w²) in 2^−48 J for voltages in 2 mV. -/
def energyAbove (c : Nat) (v w : W16) : Int :=
  if v.toNat ≤ w.toNat then 0
  else fixOf (Frac.ofNats (c * (v.toNat * v.toNat - w.toNat * w.toNat)) 500000000000)

/-- The input power of LPn in 2^−48 W: max(0, VOUT / ρ × IOUT) / η. -/
def State.loopPower (s : State) (n : Fin 16) : Int :=
  if s.st n = .off then 0
  else
    let i := (s.loop n).mod.iout.toInt
    if i ≤ 0 then 0 else
      let p := (Frac.ofNats (s.loop n).sense.vout.toNat 10000).mul ⟨i, 40⟩
      fixOf ((p.div (s.rho n)).mul (Frac.ofNats 100 (max 1 (fld (s.pg 0x33 7) 6 0))))

/-- P_own (R449). -/
def State.pOwn (s : State) : Int :=
  (allLoops.filter fun n => s.onBus n).foldl (fun a n => a + s.loopPower n) 0

/-- P_tot (R449). -/
def State.pTotal (s : State) : Int :=
  s.pOwn + fixOf (Frac.ofNats (s.gsp.peerP.foldl (· + ·) 0) 10)

/-- t_left in 1/256 ns; none while P_tot is 0. -/
def timeLeft (e p : Int) : Option Nat := if p ≤ 0 then none else some (e * oneSec / p).toNat

/-- A power in 0.1 W. -/
def power10 (p : Int) : Nat := min 65535 (scaled p 10).toNat

/-! ### HOWL GASP (R433) -/

/-- Queue HOWL GASP of a phase. -/
def sendGasp (phase : Nat) (s : State) : State :=
  if s.gspHowl && decide (s.lsh.link ≠ .off) then
    let p := power10 s.pOwn
    (queueMsg 3 1 (msgBytes (p / 256) p (16 * s.lowestRank + bitVal s.rehearsing 3 + phase) 0) s).updGsp
      fun g => { g with howlFrame := s.lsh.frames }
  else s

/-- The phase of a HOWL GASP in progress: 2 once the summary of this GASP or rehearsal has been written, 1 before (R433, R449). -/
def State.gaspPhase (s : State) : Nat :=
  if s.gsp.started && s.gsp.pend.isNone && s.gsp.startWait.isNone then 2 else 1

/-- HOWL GASP at every tenth frame (R449). -/
def gaspFrame (s : State) : State :=
  if (decide (s.power.g = .gasp) || s.rehearsing) && decide (s.gsp.howlFrame + 10 ≤ s.lsh.frames) then sendGasp s.gaspPhase s
  else s

/-! ### The summary (R452, 19 R523) -/

/-- The per-rank bytes of a summary: device time and V_b of rank 0 to 14 at its shed, 0 where it has not been shed. -/
def shedBytes (l : List (Nat × Nat × W16)) : List Byte :=
  (List.range 15).flatMap fun r =>
    match l.find? fun e => decide (e.1 = r) with
    | some e => leBytes 4 e.2.1 ++ wordBytes e.2.2 ++ [0, 0]
    | none => List.replicate 8 0

/-- The sequence of a new summary. -/
def Gsp.nextSeq (g : Gsp) : Nat := g.slots.toList.foldl (fun m x => if x.valid then max m x.seq else m) 0 + 1

/-- The first 448 bytes of a summary with VALID not yet written (R523). -/
def State.summaryBytes (s : State) (cause trigger outcome : Nat) (sheds : List (Nat × Nat × W16)) : List Byte :=
  let g := s.gsp
  let f := g.first.getD (0, 0, 0)
  wordBytes 0x4753 ++ [(1 : Byte), 0] ++ leBytes 4 g.nextSeq ++ leBytes 4 s.power.bootCnt.toNat ++ leBytes 4 g.entryTime ++
  [w8 s.pos, w8 cause, w8 trigger, w8 outcome] ++ wordBytes g.vEntry ++ wordBytes f.1 ++ wordBytes f.2.1 ++ wordBytes f.2.2 ++
  wordBytes g.actEntry ++ wordBytes g.fcEntry ++ wordBytes g.flEntry ++ wordBytes g.lowV ++ wordBytes g.cHold ++
  wordBytes s.swp.cSweep ++ [g.heard, 0] ++ ownPrint ++ List.replicate 14 0 ++ shedBytes sheds ++ List.replicate 264 0

/-- The slot a summary takes: the lowest-numbered invalid one, or the one of lowest sequence (R523). -/
def Gsp.sumSlot (g : Gsp) : Nat :=
  match (List.finRange 4).find? fun k => !g.slots[k].valid with
  | some k => k.val
  | none => ((List.finRange 4).foldl (fun b k => if g.slots[k].seq < g.slots[b].seq then k else b) (0 : Fin 4)).val

/-- Begin to write a summary: its contents are taken now. -/
def summaryBegin (trigger outcome : Nat) (s : State) : State :=
  let reh := s.rehearsing
  let bytes := s.summaryBytes (if reh then 2 else s.gsp.cause) trigger outcome (if reh then s.gsp.simShed else s.gsp.sheds)
  let k := s.gsp.sumSlot
  s.updGsp fun g => { g with
    pend := some (bytes, k)
    pendAt := s.now
    pendSigned := false
    started := true
    startWait := none
    slots := if h : k < 4 then g.slots.set k { g.slots[k] with valid := false } else g.slots }

/-- The summary is started once per GASP (R452); a start that falls into an earlier write waits for its end. -/
def summaryStart (trigger outcome : Nat) (s : State) : State :=
  if s.gsp.started then s
  else if s.gsp.pend.isSome then s.updGsp fun g => { g with started := true, startWait := some (trigger, outcome) }
  else summaryBegin trigger outcome s

/-- The signed bytes of a summary or record: byte 3 is left out (R518). -/
def signedPart (b : List Byte) : List Byte := b.take 3 ++ b.drop 4

/-- SUMMARY_WRITTEN (R452). -/
def summaryWritten (s : State) : State :=
  match s.gsp.pend with
  | some (b, k) =>
    let sig := deviceSign s.idnOk Config.deviceKey (signedPart b)
    let x : SumSlot := { bytes := b.take 3 ++ [0xA5] ++ b.drop 4 ++ sig, valid := true, seq := img32 b 4 }
    let s := s.updGsp fun g => { g with
      pend := none
      pendSigned := false
      slots := if h : k < 4 then g.slots.set k x else g.slots
      latest := some k
      count := inc8 g.count
      wrote := g.wrote || decide (b.getD 17 0 ≠ 2) }
    let s := s.irq 5
    match s.gsp.startWait with
    | some (tr, o) => summaryBegin tr o s
    | none => s
  | none => s

/-- The summary is signed by the engine unless it has been already, or is written with zeros (R503, R506). -/
def State.summarySigned (s : State) : Bool := s.gsp.pendSigned || !s.idnOk

/-- SUMMARY_WRITTEN (R452, R503). -/
def execSummaryWritten (t : Nat) (s : State) : Ans :=
  gated t (fun s => s.gsp.pend.isSome && (s.summarySigned || s.signReady .summary))
    (fun s => if s.summarySigned then summaryWritten s else signDone .summary summaryWritten s) s

/-! ### Shedding (R450, R451) -/

/-- Hold the loops that satisfy a test: each turns off at its next boundary. -/
def gaspHoldLoops (c : State → Fin 16 → Bool) (s : State) : State :=
  forLoops (fun n s => s.updPrt n fun p => { p with gaspHold := true }) (allLoops.filter fun n => c s n) s

/-- Shed rank r. -/
def shedRank (r : Nat) (s : State) : State :=
  let s := gaspHoldLoops (fun s n => s.ranked n && decide (s.rank n = r) && !(s.loop n).prt.gaspHold) s
  s.updGsp fun g => { g with sheds := g.sheds ++ [(r, s.devTime, s.vBus)] }

/-- The simulated bus V_s in 2 mV, to the nearest (R454): its energy above V_FLOOR is simE. It is what a rehearsal reads as V_b (DEDUCED, notes/assumptions/83.md). -/
def State.simBus (s : State) : W16 :=
  let w := (s.pg 0x33 5).toNat
  let c := s.gaspC
  let d := if c = 0 then 0 else (4 * 500000000000 * s.gsp.simE / (2 ^ 48 * c)).toNat
  w16 ((isqrt 18 (4 * w * w + d) 0 + 1) / 2)

/-- Shed rank r in simulation: its loops' power leaves P_sim (R454). -/
def simRank (r : Nat) (s : State) : State :=
  let ls := allLoops.filter fun n => s.gaspRuns n && decide (s.rank n = r)
  let off := (ls.filter fun n => s.onBus n).foldl (fun a n => a + s.loopPower n) 0
  s.updGsp fun g => { g with
    simOff := g.simOff + off
    simGone := ls.foldl (fun w n => setBit w n.val) g.simGone
    simShed := g.simShed ++ [(r, s.devTime, s.simBus)] }

/-- The ranks that peers' reports shed (R450): those still running below a peer's lowest. -/
def State.peerSheds (s : State) : List Nat :=
  let top := s.gsp.peerRank.foldl (fun m r => match r with | some k => max m k | none => m) 0
  (List.range 15).filter fun r => decide (0 < r) && decide (r < top) &&
    allLoops.any fun n => s.gaspRuns n && decide (s.rank n = r)

/-- Apply a shed to a list of ranks. -/
def shedRanks (f : Nat → State → State) : List Nat → State → State
  | [], s => s
  | r :: l, s => shedRanks f l (f r s)

/-- The sheds of one evaluation (R450). -/
def evalSheds (f : Nat → State → State) (left : Option Nat) (s : State) : State :=
  let keep := twDur (s.pg 0x33 8)
  let low := match left with | some t => decide (t < keep) | none => false
  let s := shedRanks f s.peerSheds s
  let r := s.lowestRank
  if low && decide (0 < r) && decide (r < 15) then f r s else s

/-! ### Entry, evaluation and exit (R446, R447, R449 to R453) -/

/-- A bound loop in TRANSITION under the ACP source stops its reference where it is (R324): its accepted target is
dropped, and no arrival follows. -/
def acpFreeze (n : Fin 16) (s : State) : State :=
  if s.acpBound n && decide (fld (s.lp n 3) 2 0 = 1) && decide (s.st n = .transition) then
    let v := (s.loop n).eng.vref
    (enterRegulate n ⟨v.toNat, 1⟩ s).updAcp n fun a => { a with
      target := v
      tgtPend := none
      moving := false
      holdFrom := none }
  else s

/-- Entry to GASP (R120, R324, R441, R446, R447, 02 R82). -/
def gaspEnter (cause : Nat) (s : State) : State :=
  let v := s.vBus
  let s := { s with
    power := { s.power with g := .gasp }
    win := { s.win with wdogLeft := some (s.now - s.win.wdogFrom) } }
  let s := s.updGsp fun g => { g with
    entryTime := s.devTime
    vEntry := v
    cause := cause
    evalAt := s.now
    first := none
    retFrom := none
    lossFrom := none
    sheds := []
    floorShed := false
    lowV := v
    v1 := some v
    energy := 0
    started := false
    startWait := none
    wrote := false
    rehearse := none
    simShed := []
    simGone := 0
    simOff := 0
    peerP := List.replicate 8 0
    peerRank := List.replicate 8 none
    lastHowl := if cause = 1 then some s.now else none
    heard := if cause = 1 then g.heard else 0
    actEntry := s.loopAct
    fcEntry := wordOf s.win.fltCode s.win.fltCount
    flEntry := w16 (s.win.fltLoop.toNat + bitVal s.win.fltValid 15) }
  let s := forLoops acpFreeze allLoops ((s.event 0x14 none v 0).irq 5)
  let s := shedRank 0 s
  let s := if s.sweeping || s.swp.leading then sweepEnd .gasp s else s
  sendGasp 0 (nvmGasp s)

/-- The conditions of the device's own loss (R447). -/
def State.ownLoss (s : State) : Bool :=
  s.gspEn && (decide (s.power.g = .ready) || decide (s.power.g = .run)) &&
  (match s.gsp.lossFrom with | some a => decide (a + twDur (s.pg 0x33 2) ≤ s.now) | none => false)

/-- C_HOLD at the end of its window (R446). -/
def holdWindow (v2 : W16) (s : State) : State :=
  match s.gsp.v1 with
  | some v1 =>
    let d := v1.toNat * v1.toNat - v2.toNat * v2.toNat
    let c := if v2.toNat + 1000 ≤ v1.toNat then satU16 (roundEven (s.gsp.energy * 500000000000) (2 ^ 48 * d)) else s.gsp.cHold
    s.updGsp fun g => { g with v1 := none, cHold := c }
  | none => s

/-- One evaluation of the real budget. -/
def gaspEval (s : State) : State :=
  let v := s.vBus
  let c := s.gaspC
  let e := energyAbove c v (s.pg 0x33 5)
  let p := s.pTotal
  let left := timeLeft e p
  let dt := Config.us 100
  let s := s.updGsp fun g => { g with
    evalAt := g.evalAt + Config.us 100
    eRem := e
    pTot := p
    tLeft := left
    first := match g.first with
      | some f => some f
      | none => some (w16 c, w16 (power10 p), satU16 (scaled e 1000))
    lowV := if v.toNat < g.lowV.toNat then v else g.lowV
    energy := if g.v1.isSome then g.energy + p * dt / oneSec else g.energy }
  let s := match s.gsp.v1 with
    | some v1 => if 10 * v.toNat ≤ 9 * v1.toNat then holdWindow v s else s
    | none => s
  let s := evalSheds shedRank left s
  let s := if e = 0 ∧ s.gsp.floorShed = false then
      (gaspHoldLoops (fun s n => s.ranked n && (s.st n).sheddable) s).updGsp fun g => { g with floorShed := true }
    else s
  let low := match left with | some t => decide (t < twDur (s.pg 0x33 9)) | none => false
  if e = 0 then summaryStart 1 0 s else if low then summaryStart 0 0 s else s

/-- One evaluation of a rehearsal (R454). -/
def rehearseEval (s : State) : State :=
  let p := s.pTotal - s.gsp.simOff
  let dt := Config.us 100
  let e := max 0 (s.gsp.simE - max 0 p * dt / oneSec)
  let left := timeLeft e p
  let s := s.updGsp fun g => { g with
    evalAt := g.evalAt + Config.us 100
    lowV := ({ s with gsp := { g with simE := e } } : State).simBus
    simE := e
    eRem := e
    pTot := p
    tLeft := left
    first := match g.first with
      | some f => some f
      | none => some (w16 s.gaspC, w16 (power10 p), satU16 (scaled e 1000)) }
  let s := evalSheds simRank left s
  let low := match left with | some t => decide (t < twDur (s.pg 0x33 9)) | none => false
  if bitAt s.gspCtl 5 then
    (if e = 0 then summaryStart 1 0 s else if low then summaryStart 0 0 s else s)
  else s

/-- GASP_EVALUATION (R449): every 100 µs from the entry, or from the start of a rehearsal. -/
def execGaspEvaluation (t : Nat) (s : State) : Ans :=
  gated t (fun s => (decide (s.power.g = .gasp) || s.rehearsing) && decide (s.gsp.evalAt + Config.us 100 ≤ s.now))
    (fun s => if s.power.g = .gasp then gaspEval s else rehearseEval s) s

/-- What GASP leaves behind: the C_HOLD window closes, the holds end, the peers' powers are dropped, and the watchdog
goes on from its held count (R446, R449, R451, 02 R82). -/
def gaspLeave (s : State) : State :=
  let s := holdWindow s.vBus s
  let s := forLoops (fun n s => s.updPrt n fun p => { p with gaspHold := false }) allLoops s
  let s := s.updGsp fun g => { g with
    peerP := List.replicate 8 0
    peerRank := List.replicate 8 none
    lossFrom := none
    retFrom := none }
  { s with win := { s.win with wdogFrom := s.now - (s.win.wdogLeft.getD 0), wdogLeft := none } }

/-- The conditions of an exit (R453). -/
def State.gaspOver (s : State) : Bool :=
  let ret := twDur (s.pg 0x33 4)
  decide (s.power.g = .gasp) &&
  (match s.gsp.retFrom with | some a => decide (a + ret ≤ s.now) | none => false) &&
  (match s.gsp.lastHowl with | some a => decide (a + ret ≤ s.now) | none => true)

/-- GASP_EXIT (R452, R453). -/
def gaspExit (s : State) : State :=
  let s := summaryStart 2 1 (holdWindow s.vBus s)
  let s := gaspLeave s
  let s := { s with power := { s.power with g := if s.anyOn then .run else .ready } }
  sendGasp 3 s

/-- GASP_EXIT. -/
def execGaspExit (t : Nat) (s : State) : Ans := gated t State.gaspOver gaspExit s

/-- A fast result of the bus channel (R447, R453). -/
def gaspFast (i : Nat) (v : W16) (s : State) : State :=
  if s.gspSel.val = i then
    s.updGsp fun g => { g with
      lossFrom := if v.toNat < (s.pg 0x33 1).toNat then some (g.lossFrom.getD s.now) else none
      retFrom := if (s.pg 0x33 3).toNat ≤ v.toNat then some (g.retFrom.getD s.now) else none }
  else s

/-! ### Rehearsal (R454) -/

/-- A rehearsal may start. -/
def State.mayRehearse (s : State) : Bool :=
  s.up && s.gspEn && decide (s.power.g ≠ .gasp) && !s.rehearsing && s.gsp.pend.isNone

/-- Start a rehearsal: the simulated bus stands at V_LOSS. -/
def rehearseStart (s : State) : State :=
  let v := s.pg 0x33 1
  let s := s.updGsp fun g => { g with
    rehearse := some s.now
    entryTime := s.devTime
    vEntry := v
    evalAt := s.now
    first := none
    simE := energyAbove s.gaspC v (s.pg 0x33 5)
    simOff := 0
    simGone := 0
    simShed := []
    started := false
    startWait := none
    heard := 0
    lowV := v
    actEntry := s.loopAct
    fcEntry := wordOf s.win.fltCode s.win.fltCount
    flEntry := w16 (s.win.fltLoop.toNat + bitVal s.win.fltValid 15) }
  sendGasp 0 (simRank 0 s)

/-- REHEARSAL_START: a write of 0x6A51 to W_GASP. -/
def execRehearsalStart (t : Nat) (s : State) : Ans := strobed t State.mayRehearse rehearseStart s

/-- A write of W_GASP: values other than 0x6A51 are ignored (R454). -/
def gaspWrite (w : W16) (s : State) : State := if w = 0x6A51 ∧ s.mayRehearse = true then rehearseStart s else s

/-- The end of a rehearsal: a summary that RH_SAVE asks for and that has not been started is started now. -/
def rehearseEnd (s : State) : State :=
  let s := if bitAt s.gspCtl 5 then summaryStart (if s.gsp.simE = 0 then 1 else 2) 0 s else s
  let s := sendGasp 3 s
  s.updGsp fun g => { g with
    rehearse := none
    simGone := 0
    simOff := 0
    peerP := List.replicate 8 0
    peerRank := List.replicate 8 none }

/-- REHEARSAL_END: the simulated floor, or 10 s. -/
def execRehearsalEnd (t : Nat) (s : State) : Ans :=
  gated t (fun s => match s.gsp.rehearse with
      | some a => decide (s.gsp.simE = 0) || decide (a + Config.ms 10000 ≤ s.now)
      | none => false)
    rehearseEnd s

/-! ### Views -/

/-- W_GASP (R455). -/
def State.gaspWord (s : State) : W16 :=
  let g := s.gsp
  let k := g.latest.getD 0
  let valid := g.latest.isSome && (if h : k < 4 then g.slots[k].valid else false)
  w16 (bitVal (decide (s.power.g = .gasp)) 0 + bitVal s.rehearsing 1 + bitVal g.wrote 2 + bitVal g.pend.isSome 3 +
    16 * s.lowestRank + 256 * (k % 4) + bitVal valid 10)

/-- GSP.T_LEFT in 0.1 ms. -/
def State.tLeftWord (s : State) : W16 :=
  match s.gsp.tLeft with | some t => w16 (min 65535 (t / Config.us 100)) | none => 0xFFFF

/-- GSP.SUM_STAT. -/
def State.sumStat (s : State) : W16 :=
  w16 ((List.finRange 4).foldl (fun a k => a + bitVal s.gsp.slots[k].valid k.val) 0 + 16 * (s.gsp.latest.getD 0 % 4) +
    256 * s.gsp.count)

end Sys2Proof.Machine
end

