-- ==== Sys2Proof/Machine/Watch.lean ====
section
/-! DEFINITION. What protection keeps of input voltages and temperatures (13_protection.md R358 to R361): noted
at every new result, at the boundaries of the loops, and at every new Fetch value. -/

namespace Sys2Proof.Machine

open Sys2Proof

/-! ### Input voltage (R361) -/

/-- The limits of the input set of LPn: VIN_UV, VIN_OV, HYS_UV and HYS_OV in 2 mV. -/
def State.vinLimits (s : State) (n : Fin 16) : Nat × Nat × Nat × Nat :=
  let k := fld (s.lp n 0x2A) 8 7
  let h := s.pg 2 (0x10 + 3 * k)
  ((s.pg 2 (0x0E + 3 * k)).toNat, (s.pg 2 (0x0F + 3 * k)).toNat, 50 * fld h 7 0, 50 * fld h 15 8)

/-- VIN of LPn is compared with its limits: the stays below and above run, and the conditions end (R361). A limit of 0
disables its condition; with EN = 0 there is no VIN. -/
def vinNote (n : Fin 16) (s : State) : State :=
  let (uv, ov, hu, ho) := s.vinLimits n
  if !bitAt (s.lp n 0x2A) 15 then s.updPrt n fun p => { p with vinUvFrom := none, vinOvFrom := none }
  else match s.vinOf n with
  | none => s
  | some v =>
    let v := v.toNat
    s.updPrt n fun p => { p with
      vin := s.vinOf n
      vinUvFrom := if v < uv then some (p.vinUvFrom.getD s.now) else none
      vinUv := p.vinUv && decide (uv ≠ 0) && decide (v < uv + hu)
      vinOvFrom := if decide (ov ≠ 0) && decide (ov < v) then some (p.vinOvFrom.getD s.now) else none
      vinOv := p.vinOv && decide (ov ≠ 0) && decide (ov < v + ho) }

/-- The loops whose VIN may have changed with a new result, or with the output of another loop. -/
def vinNoteAll (s : State) : State := forLoops vinNote (allLoops.filter fun n => bitAt (s.lp n 0x2A) 15) s

/-- A fault of the input voltage is armed for LPn (R344): running, outside GASP. -/
def State.vinArmed (s : State) (n : Fin 16) : Bool := (s.st n).running && decide (s.power.g ≠ .gasp)

/-- VIN_UV (R361): the stay below the limit has lasted VIN_FILT. -/
def execVinUv (t : Nat) (n : Fin 16) (s : State) : Ans :=
  gated t (fun s => s.up && bitAt (s.lp n 0x2A) 15 && (s.vinOf n).isSome && !(s.loop n).prt.vinUv &&
      (match (s.loop n).prt.vinUvFrom with | some a => decide (a + twDur (s.pg 2 6) ≤ s.now) | none => false))
    (fun s =>
      let s := s.updPrt n fun p => { p with vinUv := true }
      if s.vinArmed n then s.raiseFault n 0x07 ((s.loop n).prt.vin.getD 0) [] else s) s

/-- VIN_OV (R361): the stay above the limit has lasted VIN_FILT. -/
def execVinOv (t : Nat) (n : Fin 16) (s : State) : Ans :=
  gated t (fun s => s.up && bitAt (s.lp n 0x2A) 15 && (s.vinOf n).isSome && !(s.loop n).prt.vinOv &&
      (match (s.loop n).prt.vinOvFrom with | some a => decide (a + twDur (s.pg 2 6) ≤ s.now) | none => false))
    (fun s =>
      let s := s.updPrt n fun p => { p with vinOv := true }
      if s.vinArmed n then s.raiseFault n 0x08 ((s.loop n).prt.vin.getD 0) [] else s) s

/-! ### Temperature (R358, R359) -/

/-- A source's value, and the time until which it is, or was, present (R359); none when its mark, its port or its entry
makes it absent. -/
def State.otSource (s : State) (src : Nat) : Option (W16 × Nat) :=
  if h : src < 32 then
    let r := s.svc.slots[src]
    if r.mark = .good then some (r.value, r.at_ + Config.ms 100) else none
  else if h : src - 32 < 32 then
    let e := s.fch.entries[src - 32]
    if e.st = .good ∧ s.fch.port ≠ .dead then e.last.map fun v => (v, s.now) else none
  else none

/-- A source is present now. -/
def State.otPresent (s : State) (src : Nat) : Bool :=
  match s.otSource src with | some (_, u) => decide (s.now ≤ u) | none => false

/-- The later of two values that were present, the first on a tie. -/
def laterOf (a b : Option (W16 × Nat)) : Option (W16 × Nat) :=
  match a, b with
  | none, b => b
  | a, none => a
  | some x, some y => if x.2 < y.2 then some y else some x

/-- Primary and fallback source codes of entry `k`. -/
def State.otPrimary (s : State) (k : Fin 6) : Nat := fld (s.pg 2 (0x1A + 3 * k.val)) 7 0
def State.otFallback (s : State) (k : Fin 6) : Nat := fld (s.pg 2 (0x1A + 3 * k.val)) 15 8

/-- The temperature in use of entry `k` (R359), with the time up to which it was present. -/
def State.otUse (s : State) (k : Fin 6) : Option (W16 × Nat) :=
  let p := s.otSource (s.otPrimary k)
  let f := s.otSource (s.otFallback k)
  if s.otPresent (s.otPrimary k) then p
  else if s.otPresent (s.otFallback k) then f
  else laterOf (laterOf p f) (s.prot.ot[k].last.map fun v => (v, s.prot.ot[k].lastAt))

/-- The temperature in use. -/
def State.otTemp (s : State) (k : Fin 6) : Option W16 := (s.otUse k).map Prod.fst

/-- Note the temperature in use of one entry. -/
def otNote (k : Fin 6) (s : State) : State :=
  match s.otUse k with
  | some (v, u) =>
    let e : OtEntry := s.prot.ot[k]
    let e : OtEntry := { e with last := some v, lastAt := min u s.now }
    { s with prot := { s.prot with ot := s.prot.ot.set k e } }
  | none => s

/-- Note the entries of a list. -/
def otNotes : List (Fin 6) → State → State
  | [], s => s
  | k :: r, s => otNotes r (otNote k s)

/-- Note every temperature. -/
def otNoteAll (s : State) : State := otNotes (List.finRange 6) s

/-- The limit and the end of entry `k` (R358): OT_LIM and OT_LIM − HYST, in 1/128 °C. -/
def State.otLimit (s : State) (k : Fin 6) : Int := (s.pg 2 (0x1B + 3 * k.val)).toInt
def State.otLow (s : State) (k : Fin 6) : Int := s.otLimit k - 256 * fld (s.pg 2 (0x1C + 3 * k.val)) 15 13

/-- The mapped phases of LPn in the target of entry `k`. -/
def State.otPhases (s : State) (k : Fin 6) (n : Fin 16) : List (Fin 64) :=
  (s.mappedPhases n).filter fun m => s.otTargets k m

/-- Put the condition of entry `k`. -/
def otPut (k : Fin 6) (c : Bool) (s : State) : State :=
  let e : OtEntry := s.prot.ot[k]
  let e : OtEntry := { e with cond := c }
  { s with prot := { s.prot with ot := s.prot.ot.set k e } }

/-- The onset of entry `k` (R358): OT is raised for every running loop with a mapped phase in the target. -/
def otOnset (k : Fin 6) (s : State) : State :=
  let v := (s.otTemp k).getD 0
  let s := otPut k true (otNote k s)
  forLoops (fun n s => s.updPrt n fun p => { p with
      raised := p.raised ++ [{ code := 6, value := v, ph := s.otPhases k n, ot := some k, at_ := s.devTime }] })
    (allLoops.filter fun n => (s.st n).running && decide (s.otPhases k n ≠ [])) s

/-- OT_ONSET (R358). -/
def execOtOnset (t : Nat) (k : Fin 6) (s : State) : Ans :=
  gated t (fun s => s.up && !s.prot.ot[k].cond &&
      (match s.otTemp k with | some v => decide (s.otLimit k ≤ v.toInt) | none => false))
    (otOnset k) s

/-- A cause of the removal of some phases ends (R357). -/
def phasesReturn (why : Removal) (l : List (Fin 64)) (s : State) : State :=
  updPhases (fun p => { endRemoval why p with ocpRun := 0, negRun := 0 }) (l.filter fun m => (s.phase m).removed.contains why) s

/-- OT_END (R357, R358): the condition ends, and the phases it removed return. -/
def execOtEnd (t : Nat) (k : Fin 6) (s : State) : Ans :=
  gated t (fun s => s.up && s.prot.ot[k].cond &&
      (match s.otTemp k with | some v => decide (v.toInt ≤ s.otLow k) | none => false))
    (fun s => phasesReturn (.ot k) allPhases (otPut k false (otNote k s))) s

/-- PRT.OT_STAT. -/
def State.otStat (s : State) : W16 :=
  w16 ((List.finRange 6).foldl (fun a k => a + bitVal s.prot.ot[k].cond k.val +
    bitVal (!s.otPresent (s.otPrimary k) && s.otPresent (s.otFallback k)) (8 + k.val)) 0)

end Sys2Proof.Machine
end

