-- ==== Sys2Proof/Machine/Survey.lean ====
section
/-! DEFINITION. The survey converter (05_survey_converter.md): conversions, filter profiles, the sequence, urgent
requests, the reference, and system calibration. -/

namespace Sys2Proof.Machine

open Sys2Proof

def State.updSvc (s : State) (f : Svc → Svc) : State := { s with svc := f s.svc }

/-- The SVC runs (R150): from the entry to BOOT until VAUX is lost. -/
def State.svcRuns (s : State) : Bool := s.power.vaux && (s.up || decide (s.power.g = .boot))

def State.svrCtl (s : State) : W16 := s.pg 8 0
def State.svrRun (s : State) : Bool := bitAt s.svrCtl 0
def State.lowPower (s : State) : Bool := bitAt s.svrCtl 1
/-- The spacing of start slots (R152). -/
def State.slotTime (s : State) : Nat := if s.lowPower then Config.us 16 else Config.ns 500
/-- The duration of one conversion (R152). -/
def State.convTime (s : State) : Nat := if s.lowPower then Config.us 16 else Config.us 1
/-- The spacing of urgent conversions (R161). -/
def State.urgentGap (s : State) : Nat := if s.lowPower then Config.us 32 else Config.us 2

/-! ### Results (R145 to R149) -/

/-- A reserved channel code (R145). -/
def reservedCh (c : Nat) : Bool := decide (39 ≤ c)

/-- The kind, gain and offset of a channel (R145, R147). -/
def State.chanCoefs (s : State) (ch : Nat) : Nat × Int × Int :=
  if ch < 32 then
    let w := s.pg 6 (0x40 + ch)
    let g := fld w 13 0
    (fld w 15 14, if 8192 ≤ g then (g : Int) - 16384 else g, (s.pg 6 (0x20 + ch)).toInt)
  else (if ch = 32 then 1 else if ch = 33 ∨ ch = 38 then 0 else 2, Config.factoryG ch, Config.factoryB ch)

/-- A result y = round(r × G / 8,192) + B in its kind, and whether it saturated (R147). -/
def svcResult (kind : Nat) (g b : Int) (r : Frac) : W16 × Bool :=
  let y := (r.mul ⟨g, 8192⟩).roundUp + b
  if kind = 2 then (satS16 y, decide (y < -32768) || decide (32767 < y))
  else (satU16 y, decide (y < 0) || decide (65535 < y))

/-- A raw code (R146). -/
def rawCode (r : Nat) : Nat := min r 65535

/-- A conversion that starts at a time is REF_COLD (R165). -/
def State.coldAt (s : State) (at_ : Nat) : Bool :=
  !s.lowPower && (match s.svc.bufFrom with | some b => decide (at_ < b + Config.us 400) | none => true)

/-- The mark of a result (R148). -/
def markOf (cold clip : Bool) : Mark := if cold then .refCold else if clip then .clip else .good

/-- The one REF_COLD event of a cold period (R167). -/
def coldEvent (cold : Bool) (ch : Nat) (s : State) : State :=
  if cold && !s.svc.coldLogged && (decide (s.power.g = .ready) || decide (s.power.g = .run) || decide (s.power.g = .gasp)) then
    (s.event 0x18 none (w16 ch) 0).updSvc fun v => { v with coldLogged := true }
  else s

/-- Write a result and its mark to a slot (R149); input voltages and temperatures follow. -/
def svcWrite (slot : Nat) (value : W16) (mark : Mark) (s : State) : State :=
  if h : slot < 32 then
    let s := otNoteAll s
    let e : SvcSlot := s.svc.slots[slot]
    let e : SvcSlot := { value := value, mark := mark, at_ := s.now, good := if mark = .good then some value else e.good }
    otNoteAll (vinNoteAll (s.updSvc fun v => { v with slots := v.slots.set slot e }))
  else s

/-! ### Filter profiles (R155, R156) -/

/-- Running sums from `a`. -/
def runSums (a : Int) : List Int → List Int
  | [] => [a]
  | x :: r => a :: runSums (a + x) r

/-- A boxcar of length `d` with cleared state: each output is the sum of the last `d` inputs. -/
def boxcar (d : Nat) (xs : List Int) : List Int :=
  let p := runSums 0 xs
  List.zipWith (· - ·) (p.drop 1) (List.replicate (d - 1) 0 ++ p)

/-- `k` boxcars. -/
def boxcars (d : Nat) : Nat → List Int → List Int
  | 0, xs => xs
  | k + 1, xs => boxcars d k (boxcar d xs)

/-- Every `d`-th element, from the `d`-th (R155). -/
def decimate (d : Nat) (xs : List Int) : List Int :=
  (List.range (xs.length / max 1 d)).map fun j => xs.getD (d * j + d - 1) 0

/-- The outputs of the sinc filter, times D^k. -/
def sincOut (k d : Nat) (xs : List Int) : List Int := decimate d (boxcars d k xs)

/-- The coefficients b0, b0 × 2 cos(w0), a1 and a2 of the notch in 2^−24 (R156): f_n in kHz, f_out = 2,000 / D kHz. -/
def notchCoefs (fn d : Nat) : Int × Int × Int × Int :=
  let sc := sinCosTurn (fn * d) 2000
  let den := 2 * fixOne + sc.1
  let q (x : Int) : Int := roundEven x (2 ^ 24)
  let c := q (fdiv (4 * sc.2) den)
  (q (fdiv (2 * fixOne) den), c, -c, q (fdiv (2 * fixOne - sc.1) den))

/-- The notch in direct form I from cleared states, on values in 2^−48 (R156): the last output. -/
def notchLast (c : Int × Int × Int × Int) : Int → Int → Int → Int → List Int → Int
  | _, _, y1, _, [] => y1
  | x1, x2, y1, y2, x :: r =>
    let y := roundEven (c.1 * (x + x2) - c.2.1 * x1 - c.2.2.1 * y1 - c.2.2.2 * y2) (2 ^ 24)
    notchLast c x x1 y y1 r

/-- The filtered raw code of a visit (R155, R156, R158). -/
def svcFilter (prof notch : W16) (lp : Bool) (rs : List Nat) : Frac :=
  let k := fld prof 1 0 + 1
  let d := fld prof 15 8 + 1
  let ys := sincOut k d (rs.map fun r => (rawCode r : Int))
  if bitAt prof 2 && !lp then
    ⟨notchLast (notchCoefs notch.toNat d) 0 0 0 0 (ys.map fun y => roundEven (y * fixOne) (d ^ k)), 2 ^ 48⟩
  else Frac.ofNats (ys.getLastD 0).toNat (d ^ k)

/-! ### The sequence (R151 to R154) -/

/-- The words of entry `e`: ENTRY, PROF, NOTCH_F and its slot. -/
def State.svcEntry (s : State) (e : Nat) : SvcTail :=
  let w := s.pg 7 (2 * e)
  let p := fld w 7 6
  let d := s.pg 6 (e / 2)
  { entry := w
    prof := s.pg 8 (4 + p)
    notch := s.pg 8 (8 + p)
    slot := if e % 2 = 0 then fld d 4 0 else fld d 12 8
    from_ := s.svc.from_
    lp := s.lowPower
    cold := s.coldAt s.svc.firstAt }

/-- The conversions of a visit (R151). -/
def SvcTail.count (x : SvcTail) : Nat := fld x.entry 15 8 + 1
/-- The spacing of its start slots, and the duration of each conversion (R152). -/
def SvcTail.slotTime (x : SvcTail) : Nat := if x.lp then Config.us 16 else Config.ns 500
def SvcTail.convTime (x : SvcTail) : Nat := if x.lp then Config.us 16 else Config.us 1
/-- The start slot that follows its last conversion. -/
def SvcTail.after (x : SvcTail) : Nat := x.from_ + x.count * x.slotTime
/-- The end of its last conversion. -/
def SvcTail.endAt (x : SvcTail) : Nat := x.from_ + (x.count - 1) * x.slotTime + x.convTime

/-- The result of a visit (R147, R148, R155). -/
def visitResult (x : SvcTail) (rs : List Nat) (clip : Bool) (s : State) : State :=
  let ch := fld x.entry 5 0
  let c := s.chanCoefs ch
  let r := svcResult c.1 c.2.1 c.2.2 (svcFilter x.prof x.notch x.lp rs)
  let s := s.updSvc fun v => { v with vhv := if ch = 32 then r.1 else v.vhv, vaux := if ch = 33 then r.1 else v.vaux }
  coldEvent x.cold ch (svcWrite x.slot r.1 (markOf x.cold (clip || r.2)) s)

/-- The first start slot from `a` on that is not before `b`. -/
def slotFrom (slot a b : Nat) : Nat := a + (b - a + slot - 1) / slot * slot

/-- An urgent conversion from `g` to `e` meets the visits (R160): the most recently started conversion restarts at the first start
slot after it, and with it the rest of its visit. One that belongs to a visit after the present one waits for that visit to
become the present one; during a delay none is met. -/
def meetUrgent (g e : Nat) (s : State) : State :=
  if s.svc.phase ≠ .visit then s
  else
    let x := s.svcEntry s.svc.entry
    let k := (g - x.from_) / x.slotTime
    if k < x.count then
      let restart := slotFrom x.slotTime x.from_ e - k * x.slotTime
      s.updSvc fun v => { v with from_ := restart, firstAt := if k = 0 then restart else v.firstAt, later := none }
    else if (s.pg 7 (2 * s.svc.entry + 1)).toNat = 0 then s.updSvc fun v => { v with later := some (g, e) }
    else s

/-- A visit or its delay is over: the next entry's visit begins at the start slot `at_`, or at the first after an urgent conversion
that runs then (R151, R153, R160). -/
def nextEntry (at_ : Nat) (s : State) : State :=
  let last := fld s.svrCtl 13 8
  let begin_ := match s.svc.lastUrg with
    | some g => if g ≤ at_ ∧ at_ < s.svc.urgEnd then slotFrom s.slotTime at_ s.svc.urgEnd else at_
    | none => at_
  let s := s.updSvc fun v => { v with
    phase := if s.svrRun then .visit else .stopped
    entry := if last ≤ v.entry then 0 else v.entry + 1
    from_ := begin_
    firstAt := begin_ }
  match s.svc.later with
  | some (g, e) => meetUrgent g e s
  | none => s

/-- The visit of the present entry has written its result: its delay follows, or the next visit (R152, R153). -/
def visitDone (s : State) : State :=
  let next := (s.svcEntry s.svc.entry).after
  if (s.pg 7 (2 * s.svc.entry + 1)).toNat = 0 then nextEntry next s
  else s.updSvc fun v => { v with phase := .delay, from_ := next }

/-- A visit of `rs` conversions is complete: 100 ns after its last conversion ends (R149, R152). -/
def State.visitOver (s : State) (x : SvcTail) (rs : List Nat) : Bool :=
  decide (rs.length = x.count) && decide (x.endAt + Config.ns 100 ≤ s.now)

/-- SVC_VISIT_END (R149): the raw codes of the visit's conversions in their order, and whether an input lay outside the
range of R148. -/
def execSvcVisitEnd (t : Nat) (rs : List Nat) (clip : Bool) (s : State) : Ans :=
  gated t (fun s => s.svcRuns && (match s.svc.tail with
      | some x => s.visitOver x rs
      | none => decide (s.svc.phase = .visit) && s.visitOver (s.svcEntry s.svc.entry) rs))
    (fun s => match s.svc.tail with
      | some x => visitResult x rs clip (s.updSvc fun v => { v with tail := none })
      | none => visitDone (visitResult (s.svcEntry s.svc.entry) rs clip s)) s

/-- SVC_DELAY_END (R153). -/
def execSvcDelayEnd (t : Nat) (s : State) : Ans :=
  gated t (fun s => s.svcRuns && decide (s.svc.phase = .delay) &&
      decide (s.svc.from_ + Config.us (s.pg 7 (2 * s.svc.entry + 1)).toNat ≤ s.now))
    (fun s => nextEntry (s.svc.from_ + Config.us (s.pg 7 (2 * s.svc.entry + 1)).toNat) s) s

/-- The sequence restarts at entry 0 (R154). `old` is the state before the new words: a visit whose conversions have all
finished still writes its result. -/
def svcRestart (old : State) (s : State) : State :=
  let x := old.svcEntry old.svc.entry
  let ended := decide (old.svc.phase = .visit) && decide (x.endAt ≤ s.now)
  let at_ := max s.now s.svc.urgEnd
  s.updSvc fun v => { v with
    phase := if s.svrRun then .visit else .stopped
    entry := 0
    from_ := at_
    firstAt := at_
    later := none
    tail := if ended then some x else v.tail }

def CalSt.code : CalSt → Nat
  | .idle => 0 | .measuring => 1 | .zeroHeld => 2 | .done => 3 | .failSpan => 4 | .failRange => 5 | .refused => 6 | .aborted => 7
/-- SVR.STAT. Where no entry is visited, bits [5:0] show the finished entry during its delay, and the next index while RUN is 0
(DESIGN CHOICE, notes/assumptions/78.md). -/
def State.svrStat (s : State) : W16 :=
  w16 (s.svc.entry % 64 + bitVal s.lowPower 6 + bitVal s.svc.warm 7 + 256 * s.svc.cal.st.code + 2048 * s.svc.cal.ch)

/-- SVR.MARKw. -/
def Mark.code : Mark → Nat
  | .good => 0 | .refCold => 1 | .clip => 2 | .none => 3
def State.svrMarks (s : State) (w : Nat) : W16 :=
  w16 ((List.range 8).foldl (fun a i => if h : 8 * w + i < 32 then a + 4 ^ i * (s.svc.slots[8 * w + i]).mark.code else a) 0)

/-! ### The reference (R164, R165) -/

/-- The buffer is on. -/
def bufferOn (ctl : W16) : Bool := bitAt ctl 2 && !bitAt ctl 1

/-- An aborted measurement (R169, R170): its waiting conversions are dropped. -/
def calDrop (v : Svc) : Svc :=
  { v with
    reqs := v.reqs.filter fun q => !q.cal
    run := v.run.map fun r => if r.1.cal then ({ r.1 with drop := true }, r.2) else r }

/-- A change of SVR.CTL from `old` to the words now in use: the 400 µs count, REF_WARM and a measurement (R165, R167, R170). -/
def svrChange (old : W16) (s : State) : State :=
  let new := s.svrCtl
  let restart := (bitAt new 2 && !bitAt old 2) || decide (bitAt new 3 ≠ bitAt old 3) || (bitAt old 1 && !bitAt new 1)
  let stays := bufferOn new && !restart
  let other := decide (fld old 3 1 ≠ fld new 3 1)
  s.updSvc fun v =>
    let v : Svc := { v with
      bufFrom := if bufferOn new then (if restart then some s.now else v.bufFrom) else none
      warm := v.warm && stays
      coldLogged := v.coldLogged && !(v.warm && !stays) }
    if other ∧ v.cal.st = .measuring then
      let c : Cal := { v.cal with st := .aborted }
      { calDrop v with cal := c }
    else v

/-- REF_WARM (R165). -/
def execRefWarm (t : Nat) (s : State) : Ans :=
  gated t (fun s => s.svcRuns && !s.svc.warm && (match s.svc.bufFrom with | some b => decide (b + Config.us 400 ≤ s.now) | none => false))
    (fun s => s.updSvc fun v => { v with warm := true }) s

/-- The SVC at the entry to BOOT (R150, R165, R167, R170): everything from reset, the count restarted. -/
def svcBoot (s : State) : State :=
  s.updSvc fun _ => { phase := if s.svrRun then .visit else .stopped, from_ := s.now, firstAt := s.now,
                      bufFrom := if bufferOn s.svrCtl then some s.now else none }

/-! ### Urgent requests (R159 to R163) -/

/-- A request of a source is pending or being converted. -/
def State.urgentOf (s : State) (src : UrgSrc) : Bool :=
  (s.svc.reqs.any fun q => decide (q.src = src)) || (match s.svc.run with | some (q, _) => decide (q.src = src) | none => false)

/-- Place a request now. -/
def urgentPlace (q : UrgReq) (s : State) : State := s.updSvc fun v => { v with reqs := v.reqs ++ [{ q with at_ := s.now }] }

/-- W_URGENT reads BUSY (R163). -/
def State.urgentBusy (s : State) : Bool := s.svc.urgBusy || decide (s.svc.cal.st = .measuring)

/-- W_URGENT. -/
def State.urgentWord (s : State) : W16 :=
  w16 (s.svc.urgCh + bitVal s.svc.urgRaw 8 + 4096 * s.svc.urgMark.code + bitVal s.urgentBusy 15)

/-- A write of W_URGENT (R145, R163). -/
def urgentWrite (w : W16) (s : State) : State :=
  if s.urgentBusy then s else
  let ch := fld w 5 0
  let s := s.updSvc fun v => { v with urgCh := ch, urgRaw := bitAt w 8 }
  if !bitAt w 15 then s
  else if reservedCh ch then s.updSvc fun v => { v with urgData := 0, urgMark := .none }
  else urgentPlace { src := .host, ch := ch, at_ := 0 } (s.updSvc fun v => { v with urgBusy := true })

/-- URGENT_REQUEST (R163): a write of W_URGENT with BUSY. -/
def execUrgentRequest (t : Nat) (w : W16) (s : State) : Ans :=
  strobed t (fun s => s.up && bitAt w 15) (urgentWrite w) s

/-- The order of R161 within one cycle. -/
def UrgSrc.order : UrgSrc → Nat
  | .protection => 0 | .sweep => 1 | .host => 2

/-- The request that is granted next: the oldest, and of those that arrived in one cycle of 3.125 ns the first in the order of the
sources (R161). -/
def firstReq : List UrgReq → Option UrgReq
  | [] => none
  | q :: r =>
    match firstReq r with
    | none => some q
    | some k =>
      if k.at_ / 800 < q.at_ / 800 ∨ (k.at_ / 800 = q.at_ / 800 ∧ k.src.order < q.src.order) then some k else some q

/-- A request is granted: its conversion runs from now, and the sequence gives way to it (R160, R165). -/
def urgentStart (q : UrgReq) (s : State) : State :=
  let e := s.now + s.convTime
  meetUrgent s.now e (s.updSvc fun v => { v with
    reqs := v.reqs.erase q
    run := some ({ q with took := s.convTime, cold := s.coldAt s.now }, s.now)
    lastUrg := some s.now
    urgEnd := e })

/-- URGENT_GRANT (R160, R161). -/
def execUrgentGrant (t : Nat) (s : State) : Ans :=
  gated t (fun s => s.svcRuns && s.svc.run.isNone && decide ((placeSweep s).svc.reqs ≠ []) &&
      (match s.svc.lastUrg with | some a => decide (a + s.urgentGap ≤ s.now) | none => true))
    (fun s =>
      let s := placeSweep s
      match firstReq s.svc.reqs with
      | some q => urgentStart q s
      | none => s) s

/-- The next conversion of a measurement is placed when no host request waits (R170). -/
def calPlace (s : State) : State :=
  if s.svc.cal.st = .measuring ∧ s.svc.cal.cnt < 256 ∧ s.urgentOf .host = false then
    urgentPlace { src := .host, ch := s.svc.cal.ch, at_ := 0, cal := true } s
  else s

/-- A fast result of protection (R166, R362). -/
def fastResult (i : Fin 2) (value : W16) (mark : Mark) (s : State) : State :=
  let s := { s with prot := { s.prot with
    fastShow := s.prot.fastShow.set i value
    fastMark := s.prot.fastMark.set i mark
    fastVal := if mark = .refCold then s.prot.fastVal else s.prot.fastVal.set i value } }
  let s := if mark = .refCold then s else dampFast i.val value (gaspFast i.val value s)
  vinNoteAll s

/-- A conversion of a calibration measurement (R170). -/
def calConv (q : UrgReq) (r : Nat) (cold : Bool) (s : State) : State :=
  if q.drop ∨ s.svc.cal.st ≠ .measuring then s
  else if cold then
    s.updSvc fun v => let c : Cal := { v.cal with st := .aborted }; { calDrop v with cal := c }
  else s.updSvc fun v => let c : Cal := { v.cal with sum := v.cal.sum + rawCode r, cnt := v.cal.cnt + 1 }; { v with cal := c }

/-- A host result (R163). -/
def hostResult (raw : Bool) (r : Nat) (y : W16 × Bool) (cold clip : Bool) (s : State) : State :=
  s.updSvc fun v => { v with
    urgBusy := false
    urgData := if raw then w16 (rawCode r) else y.1
    urgMark := markOf cold (if raw then clip else clip || y.2) }

/-- The end of an urgent conversion (R159): its result goes to its source. -/
def urgentDone (q : UrgReq) (at_ : Nat) (r : Nat) (clip : Bool) (s : State) : State :=
  let c := s.chanCoefs q.ch
  let y := svcResult c.1 c.2.1 c.2.2 ⟨rawCode r, 1⟩
  let cold := q.cold
  let s := coldEvent cold q.ch (s.updSvc fun v => { v with run := none })
  let mark := markOf cold (clip || y.2)
  match q.src with
  | .protection => fastResult (if q.fast = 0 then 0 else 1) y.1 mark s
  | .sweep => sweepConv at_ (fixOf (Frac.mul ⟨rawCode r * c.2.1, 8192⟩ ⟨1, 500⟩)) (decide (mark = .clip)) s
  | .host => calPlace (if q.cal then calConv q r cold s else hostResult s.svc.urgRaw r y cold clip s)

/-- URGENT_DONE (R159, R163): the raw code, and whether the input lay outside the range of R148. -/
def execUrgentDone (t : Nat) (r : Nat) (clip : Bool) (s : State) : Ans :=
  gated t (fun s => s.svcRuns && (match s.svc.run with | some (q, a) => decide (a + q.took ≤ s.now) | none => false))
    (fun s => match s.svc.run with | some (q, a) => urgentDone q a r clip s | none => s) s

/-- FAST_CHANNEL_REQUEST (R362): every FAST_PER, alternating between the enabled channels. -/
def execFastChannelRequest (t : Nat) (s : State) : Ans :=
  gated t (fun s => let w := s.pg 2 9
      s.up && (bitAt w 6 || bitAt w 14) && !s.urgentOf .protection && decide (s.prot.fastAt + twDur (s.pg 2 0x0A) ≤ s.now))
    (fun s =>
      let w := s.pg 2 9
      let i := if bitAt w 6 && bitAt w 14 then s.prot.fastNext else if bitAt w 14 then 1 else 0
      let s := { s with prot := { s.prot with fastAt := s.now, fastNext := 1 - i } }
      urgentPlace { src := .protection, ch := if i = 0 then fld w 5 0 else fld w 13 8, at_ := 0, fast := i } s) s

/-! ### System calibration (R169 to R172) -/

def State.updCal (s : State) (f : Cal → Cal) : State := s.updSvc fun v => { v with cal := f v.cal }

/-- A command is refused (R169). -/
def State.calRefused (s : State) : Bool := s.lowPower || !s.svc.warm

/-- Start a measurement of AUXn. -/
def calMeasure (n : Nat) (full : Bool) (s : State) : State :=
  calPlace (s.updCal fun c => { c with st := .measuring, ch := n, full := full, sum := 0, cnt := 0 })

/-- The ZERO command (R169, R170). -/
def calZero (n : Nat) (s : State) : State :=
  if s.svc.cal.st = .measuring then s
  else if s.calRefused then s.updCal fun c => { c with st := .refused }
  else calMeasure n false (s.updCal fun c => { c with y1 := s.pg 8 2, zero := none })

/-- CAL_ZERO. -/
def execCalZero (t : Nat) (n : Fin 32) (s : State) : Ans := strobed t State.up (calZero n.val) s

/-- The FULL command (R169, R170). -/
def calFull (n : Nat) (s : State) : State :=
  let held := match s.svc.cal.zero with | some z => decide (z.1 = n) | none => false
  if s.svc.cal.st = .measuring then s
  else if s.calRefused || !held then s.updCal fun c => { c with st := .refused }
  else calMeasure n true (s.updCal fun c => { c with y2 := s.pg 8 2 })

/-- CAL_FULL. -/
def execCalFull (t : Nat) (n : Fin 32) (s : State) : Ans := strobed t State.up (calFull n.val) s

/-- An integer quotient rounded to nearest, a half toward +∞, for a divisor of either sign. -/
def roundQuot (n d : Int) : Int := if 0 < d then roundUp n d.toNat else roundUp (-n) (-d).toNat

/-- G and B of a FULL measurement (R171): y1 and y2 in the channel's kind, 256 r1 and 256 r2. -/
def calCompute (kind : Nat) (y1 y2 : W16) (r1 r2 : Int) : CalSt × Int × Int :=
  let v (y : W16) : Int := if kind = 2 then y.toInt else y.toNat
  let dr := r2 - r1
  if dr.natAbs < 4096 * 256 then (.failSpan, 0, 0) else
  let g := roundQuot (8192 * 256 * (v y2 - v y1)) dr
  let b := roundUp (v y1 * 8192 * 256 - r1 * g) (8192 * 256)
  if g = 0 ∨ g < -8192 ∨ 8191 < g ∨ b < -32768 ∨ 32767 < b then (.failRange, 0, 0) else (.done, g, b)

/-- CAL_MEASURE_END (R170, R171): 256 conversions have been made. -/
def calMeasureEnd (s : State) : State :=
  let c := s.svc.cal
  if c.full then
    let x := calCompute (s.chanCoefs c.ch).1 c.y1 c.y2 ((c.zero.map Prod.snd).getD 0) c.sum
    s.updCal fun c => { c with st := x.1, g := x.2.1, b := x.2.2 }
  else s.updCal fun c => { c with st := .zeroHeld, zero := some (c.ch, (c.sum : Int)) }

/-- CAL_MEASURE_END. -/
def execCalMeasureEnd (t : Nat) (s : State) : Ans :=
  gated t (fun s => decide (s.svc.cal.st = .measuring) && decide (s.svc.cal.cnt = 256)) calMeasureEnd s

/-- The APPLY command (R172): G and B go into the proof copies. -/
def calApply (s : State) : State :=
  let c := s.svc.cal
  if c.st ≠ .done then s else
  let a := pgA 6 (0x40 + c.ch)
  let kind := fld (s.proof a) 15 14
  let s := s.setProof a (w16 (kind * 16384 + (c.g % 16384).toNat))
  let s := s.setProof (pgA 6 (0x20 + c.ch)) (BitVec.ofInt 16 c.b)
  s.updCal fun c => { c with st := .idle, zero := none }

/-- CAL_APPLY. -/
def execCalApply (t : Nat) (s : State) : Ans := strobed t State.up calApply s

/-- The ABORT command (R169). -/
def calAbort (s : State) : State :=
  s.updSvc fun v => let c : Cal := { v.cal with st := .idle, zero := none }; { calDrop v with cal := c }

/-- CAL_ABORT. -/
def execCalAbort (t : Nat) (s : State) : Ans := strobed t State.up calAbort s

/-- A write of SVR.CAL_CMD (R169). Bits [11:5] are not looked at: a word with one of them set is the command that OP and n give
(DESIGN CHOICE, notes/assumptions/77.md). -/
def calWrite (w : W16) (s : State) : State :=
  match fld w 15 12 with
  | 1 => calZero (fld w 4 0) s
  | 2 => calFull (fld w 4 0) s
  | 3 => calApply s
  | 4 => calAbort s
  | _ => s

end Sys2Proof.Machine
end

