-- ==== Sys2Proof/Machine/Messages.lean ====
section
/-! DEFINITION. Leash messages (14 R381 to R396, R403, 15 R408 to R427, 16 R432 to R453): what a device sends in its
slot, what an accepted message does, the end of a frame, and the arming and disarming of Chew, which may hold
messages back (20 R526 to R530). -/

namespace Sys2Proof.Machine

open Sys2Proof

/-! ### Accepted messages -/

/-- An accepted IDLE (R381, R394, R408). -/
def idleReceived (p : Fin 8) (d : W32) (s : State) : State :=
  let s := if bitAt d 7 then s.updLsh fun l => { l with napOk := l.napOk.set p.val (some l.frames) } else s
  s.updPeer p fun q => { q with heardBy := w8 (fld d 15 8) }

/-- An accepted NAP (R394, R395): from the timekeeper, to a follower. -/
def napReceived (p : Fin 8) (d : W32) (s : State) : State :=
  if s.lsh.link = .follow ∧ p.val = s.lsh.tk then
    s.updLsh fun l => { l with napAt := some (fld d 15 0), napInt := fld d 18 16 }
  else s

/-- An accepted HOWL FAULT (R422). -/
def howlFault (p : Fin 8) (d : W32) (s : State) : State :=
  let n : Fin 16 := ⟨fld d 23 20 % 16, by omega⟩
  s.offer (s.eventEntry (w8 (fld d 31 24)) (if bitAt d 19 then none else some n) true false (w16 (fld d 15 0)) p.val)

/-- What a HOWL GASP of the present mode leaves: the peer's power and rank, that it has been heard, and its time. -/
def howlNote (p : Fin 8) (d : W32) (s : State) : State :=
  let three := decide (fld d 10 8 = 3)
  s.updGsp fun g => { g with
    peerP := g.peerP.set p.val (fld d 31 16)
    peerRank := g.peerRank.set p.val (if three then none else some (fld d 15 12))
    heard := setBit g.heard p.val
    lastHowl := if three then g.lastHowl else some s.now }

/-- An accepted HOWL GASP (R447, R449, R450, R453, R454). -/
def howlGasp (p : Fin 8) (d : W32) (s : State) : State :=
  if bitAt d 11 then
    (let s := if s.gspPeer && s.mayRehearse && decide (fld d 10 8 = 0) then rehearseStart s else s
     if s.rehearsing then howlNote p d s else s)
  else
    let s := if s.gspEn && s.gspPeer && (decide (s.power.g = .ready) || decide (s.power.g = .run)) then
        gaspEnter 1 (s.updGsp fun g => { g with heard := 0 }) else s
    if s.power.g = .gasp then howlNote p d s else s

/-- An accepted TOKEN_ACQ (R425). -/
def acqReceived (p : Fin 8) (d : W32) (s : State) : State := defeat p (fld d 23 16) s

/-- A reserved type is discarded and counted (R410). -/
def reservedReceived (s : State) : State := s.updPeers fun x => { x with unk := inc16 x.unk }

/-- The services of one accepted message (R381, R409, R433). -/
def service (p : Fin 8) (cls typ : Nat) (d : W32) (s : State) : State :=
  match cls, typ with
  | 0, 0 => idleReceived p d s
  | 0, 1 => claimHeard p.val (fld d 15 0) s
  | 0, 2 => napReceived p d s
  | 0, 3 => s
  | 0, 4 => certReceived p d s
  | 0, 5 => chalReceived p d s
  | 0, 6 => respReceived p d s
  | 0, 7 => digestReceived p d s
  | 1, 0 => vrefReceived p d s
  | 1, 4 => currentReceived p true d s
  | 1, 5 => currentReceived p false d s
  | 2, 0 => acqReceived p d s
  | 2, 1 => holdReceived p d s
  | 2, 2 => relReceived d s
  | 2, 4 => swpStartReceived p d s
  | 2, 5 => swpCheckReceived p d s
  | 2, 6 => swpJoinReceived p d s
  | 2, 7 => swpSetReceived p d s
  | 3, 0 => howlFault p d s
  | 3, 1 => howlGasp p d s
  | _, _ => reservedReceived s

/-- A message is passed on: CMD and DATA from a position that is not verified are discarded while REQ_VERIFY is 1 (R410). -/
def deliver (p : Fin 8) (m : LshMsg) (s : State) : State :=
  if bitAt s.svcCfg 0 && (decide (m.cls = 1) || decide (m.cls = 2)) && !(s.peer p).verified then s
  else rosterSettle (service p m.cls m.typ m.data s)

/-! ### Chew's disarm (R527, R530, R532) -/

/-- Pass on the held messages of a list. -/
def releaseAll : List (Nat × LshMsg × Nat) → State → State
  | [], s => s
  | h :: r, s => releaseAll r (deliver ⟨h.1 % 8, by omega⟩ h.2.1 s)

/-- Chew disarms: held messages are passed on and a simulated line ends. -/
def chewDisarm (cause : Nat) (s : State) : State :=
  if s.chw.armed then
    let held := s.chw.held
    let s := s.updChw fun c => { c with armed := false, cause := cause, held := [] }
    let s := { s with fch := { s.fch with simLine := none } }
    let s := if cause = 7 then s else s.event 0x17 none (w16 (0x8000 + cause)) 0
    releaseAll held s
  else s

/-- What ends a run by itself: the budget, and the entry to GASP (R527). -/
def chewSettle (s : State) : State :=
  if s.chw.armed && decide (s.chw.left = 0) then chewDisarm 2 s
  else if s.power.g = .gasp then chewDisarm 4 s
  else s

/-! ### Reception of one message -/

/-- The bus's own view of an accepted message: traffic, and the end of Nap (R394, R396). -/
def noteTraffic (m : LshMsg) (s : State) : State :=
  s.updLsh fun l => { l with
    traffic := if 1 ≤ m.cls then l.frames else l.traffic
    napEnd := l.napEnd || (l.nap && decide (l.link = .lead) && (decide (1 ≤ m.cls) || decide (m.typ = 3))) }

/-- The held message of a position follows the one just passed on (R530). -/
def releaseOf (p : Fin 8) (s : State) : State :=
  let hs := s.chw.held.filter fun h => decide (h.1 = p.val)
  releaseAll hs (s.updChw fun c => { c with held := c.held.filter fun h => decide (h.1 ≠ p.val) })

/-- An accepted slot of another position, with Chew's alteration (R383, R530). -/
def receive (p : Fin 8) (cls typ : Nat) (d : W32) (s : State) : State :=
  let m : LshMsg := { cls, typ, data := d, at_ := s.lsh.frames }
  let r := chewLeash p cls s
  let s := r.2
  chewSettle (match r.1 with
  | some 0 => s.updChw fun c => { c with dropped := setBit c.dropped p.val }
  | some 1 => s.updChw fun c => { c with corrupt := setBit c.corrupt p.val }
  | some _ => (noteTraffic m s).updChw fun c => { c with held := c.held ++ [(p.val, m, s.lsh.frames)] }
  | none => releaseOf p (deliver p m (noteTraffic m s)))

/-- One message row: an accepted slot of position `p` with the data of the message. -/
def msgRow (cls typ : Nat) (t : Nat) (p : Fin 8) (d : W32) (s : State) : Ans :=
  gated t (fun s => s.linked && decide (p ≠ s.own)) (withStat (receive p cls typ d)) s

/-- IDLE (R381, R394, R408). -/
def execIdle (t : Nat) (p : Fin 8) (d : W32) (s : State) : Ans := msgRow 0 0 t p d s
/-- CLAIM (R389). -/
def execClaim (t : Nat) (p : Fin 8) (d : W32) (s : State) : Ans := msgRow 0 1 t p d s
/-- NAP (R394, R395). -/
def execNap (t : Nat) (p : Fin 8) (d : W32) (s : State) : Ans := msgRow 0 2 t p d s
/-- WAKE (R396). -/
def execWake (t : Nat) (p : Fin 8) (d : W32) (s : State) : Ans := msgRow 0 3 t p d s
/-- CERT (R413, R414). -/
def execCert (t : Nat) (p : Fin 8) (d : W32) (s : State) : Ans := msgRow 0 4 t p d s
/-- CHAL (R413). -/
def execChal (t : Nat) (p : Fin 8) (d : W32) (s : State) : Ans := msgRow 0 5 t p d s
/-- RESP (R414). -/
def execResp (t : Nat) (p : Fin 8) (d : W32) (s : State) : Ans := msgRow 0 6 t p d s
/-- DIGEST (R416). -/
def execDigest (t : Nat) (p : Fin 8) (d : W32) (s : State) : Ans := msgRow 0 7 t p d s
/-- VREF (R420). -/
def execVref (t : Nat) (p : Fin 8) (d : W32) (s : State) : Ans := msgRow 1 0 t p d s
/-- SWP_IRE (R436). -/
def execSwpIre (t : Nat) (p : Fin 8) (d : W32) (s : State) : Ans := msgRow 1 4 t p d s
/-- SWP_IIM (R436). -/
def execSwpIim (t : Nat) (p : Fin 8) (d : W32) (s : State) : Ans := msgRow 1 5 t p d s
/-- TOKEN_ACQ (R425). -/
def execTokenAcq (t : Nat) (p : Fin 8) (d : W32) (s : State) : Ans := msgRow 2 0 t p d s
/-- TOKEN_HOLD (R426). -/
def execTokenHold (t : Nat) (p : Fin 8) (d : W32) (s : State) : Ans := msgRow 2 1 t p d s
/-- TOKEN_REL (R427). -/
def execTokenRel (t : Nat) (p : Fin 8) (d : W32) (s : State) : Ans := msgRow 2 2 t p d s
/-- SWP_START (R432). -/
def execSwpStart (t : Nat) (p : Fin 8) (d : W32) (s : State) : Ans := msgRow 2 4 t p d s
/-- SWP_CHECK (R432). -/
def execSwpCheck (t : Nat) (p : Fin 8) (d : W32) (s : State) : Ans := msgRow 2 5 t p d s
/-- SWP_JOIN (R432). -/
def execSwpJoin (t : Nat) (p : Fin 8) (d : W32) (s : State) : Ans := msgRow 2 6 t p d s
/-- SWP_SET (R432, R433). -/
def execSwpSet (t : Nat) (p : Fin 8) (d : W32) (s : State) : Ans := msgRow 2 7 t p d s
/-- HOWL_FAULT (R422). -/
def execHowlFault (t : Nat) (p : Fin 8) (d : W32) (s : State) : Ans := msgRow 3 0 t p d s
/-- HOWL_GASP (R447, R449). -/
def execHowlGasp (t : Nat) (p : Fin 8) (d : W32) (s : State) : Ans := msgRow 3 1 t p d s

/-- RESERVED_TYPE_MESSAGE (R410). -/
def execReservedTypeMessage (t : Nat) (p : Fin 8) (cls : Fin 4) (typ : Fin 8) (d : W32) (s : State) : Ans :=
  if reservedType cls.val typ.val then msgRow cls.val typ.val t p d s else .next (s.atTime t)

/-! ### The own slot (R380, R394, R396, R400, R403, R411) -/

/-- The published loop that has waited longest and is due (R411). -/
def State.dueVref (s : State) : Option (Fin 16) :=
  let w := s.pg 0x30 0x22
  let due := allLoops.filter fun n => bitAt w n.val &&
    (match s.peers.pubAt.getD n.val none with | some f => decide (f + 8 < s.lsh.frames) | none => true)
  let key (n : Fin 16) : Nat := match s.peers.pubAt.getD n.val none with | some f => f + 1 | none => 0
  due.foldl (fun b n => match b with
    | none => some n
    | some k => if key n < key k then some n else some k) none

/-- The VREF message of LPn (R409). -/
def State.vrefMsg (s : State) (n : Fin 16) : LshMsg :=
  { cls := 1, typ := 0, data := BitVec.ofNat 32 (n.val * 2 ^ 28 + (s.st n).code * 2 ^ 24 + bitVal (s.powerGood n) 16 +
      (s.vrefNow n).toNat) }

/-- What the slot may take, with the state after it has been taken. -/
structure Pick where
  msg : LshMsg
  st : State

/-- The head of a queue. -/
def headMsg (q : List LshMsg) (pop : State → State) (s : State) : Option Pick :=
  match q with | m :: _ => some ⟨m, pop s⟩ | [] => none

/-- HOWL, CMD and DATA heads. -/
def pickHowl (s : State) : Option Pick := headMsg s.lsh.howl (fun s => s.updLsh fun l => { l with howl := l.howl.drop 1 }) s
def pickCmd (s : State) : Option Pick := headMsg s.lsh.cmd (fun s => s.updLsh fun l => { l with cmd := l.cmd.drop 1 }) s
def pickData (s : State) : Option Pick := headMsg s.lsh.data (fun s => s.updLsh fun l => { l with data := l.data.drop 1 }) s
def pickMgmt (s : State) : Option Pick := headMsg s.lsh.mgmt (fun s => s.updLsh fun l => { l with mgmt := l.mgmt.drop 1 }) s

/-- A due VREF (R411). -/
def pickVref (s : State) : Option Pick :=
  s.dueVref.map fun n => ⟨s.vrefMsg n, s.updPeers fun x => { x with pubAt := x.pubAt.set n.val (some s.lsh.frames) }⟩

/-- CLAIM or NAP in the MGMT turn (R388, R394, R395). -/
def pickTurn (s : State) : Option Pick :=
  match s.lsh.claim, s.lsh.napAt with
  | some h, _ => some ⟨{ cls := 0, typ := 1, data := BitVec.ofNat 32 h }, s⟩
  | none, some f =>
    if s.lsh.link = .lead ∧ (s.lsh.nap = false ∨ s.lsh.napFrame = 2) then some ⟨{ cls := 0, typ := 2, data := BitVec.ofNat 32 (f + 65536 * s.lsh.napInt) }, s⟩ else none
  | none, none => none

/-- The next message of an active CERT or RESP stream (R411, R413). -/
def pickStream (s : State) : Option Pick :=
  match s.peers.answers with
  | a :: r =>
    let cert := Config.deviceCert
    let k := (cert.length + 1) / 2
    if a.cert && decide (a.certNext < k) then
      let i := a.certNext
      some ⟨{ cls := 0, typ := 4, data := msgBytes (i / 256) i (cert.getD (2 * i) 0).toNat (cert.getD (2 * i + 1) 0).toNat },
        updAnswer (fun a => { a with certNext := i + 1 }) s⟩
    else if a.signed then
      let i := a.respNext
      let s' := if 31 ≤ i then s.updPeers fun x => { x with answers := r } else updAnswer (fun a => { a with respNext := i + 1 }) s
      some ⟨{ cls := 0, typ := 6, data := msgBytes (32 * a.to_ + i) 0 (a.resp.getD (2 * i) 0).toNat (a.resp.getD (2 * i + 1) 0).toNat }, s'⟩
    else none
  | [] => none

/-- IDLE, or WAKE from a follower in Nap whose NAP is 0 (R380, R396). -/
def pickIdle (s : State) : Pick :=
  if s.lsh.nap && decide (s.lsh.link = .follow) && !s.napEn then ⟨{ cls := 0, typ := 3 }, s⟩ else ⟨s.idleMsg, s⟩

/-- The oldest MGMT message has waited 64 frames (R403). -/
def State.mgmtAged (s : State) : Bool :=
  match s.lsh.mgmt with | m :: _ => decide (m.at_ + 64 ≤ s.lsh.frames) | [] => false

/-- The message of the own slot (R380, R400, R403, R411); none where the error state sends nothing. -/
def State.slotPick (s : State) : Option Pick :=
  match s.lsh.err with
  | .muted => pickHowl s
  | .isolated => if 0 < s.lsh.isoHowl then (pickHowl s).map fun k => ⟨k.msg, k.st.updLsh fun l => { l with isoHowl := l.isoHowl - 1 }⟩
      else none
  | _ =>
    let mgmt := (pickTurn s).or (pickMgmt s)
    (pickHowl s).or ((pickCmd s).or ((pickVref s).or ((if s.mgmtAged then mgmt else none).or
      ((pickData s).or (mgmt.or ((pickStream s).or (some (pickIdle s))))))))

/-- What sending a message settles: S of SWP_START (R432), the frame of TOKEN_ACQ (R425), the time of CHAL index 7 (R414). -/
def sendNote (m : LshMsg) (s : State) : LshMsg × State :=
  match m.cls, m.typ with
  | 2, 4 =>
    let f := nextHundred s.frameCount 300
    ({ m with data := BitVec.ofNat 32 (fld m.data 31 24 * 2 ^ 24 + f) },
      if fld m.data 31 24 = s.swp.sid ∧ s.swp.leading then s.updSwp fun w => { w with frameS := f, sFixed := true } else s)
  | 2, 0 => (m, s.updTok fun k => { k with pendFrom := some s.lsh.frames })
  | 0, 5 =>
    if fld m.data 18 16 = 7 then
      (m, s.updPeer ⟨fld m.data 31 29 % 8, by omega⟩ fun q => { q with chal := q.chal.map fun c => { c with sentAt := some s.now } })
    else (m, s)
  | _, _ => (m, s)

/-- The device transmits its slot. -/
def slotTransmit (s : State) : State :=
  match s.slotPick with
  | some k =>
    let r := sendNote k.msg k.st
    let e := r.2.erep
    r.2.updLsh fun l => { l with
      sent := some (r.1, e)
      traffic := if 1 ≤ r.1.cls then l.frames else l.traffic }
  | none => s

/-- SLOT_TRANSMIT (R380, R403). -/
def execSlotTransmit (t : Nat) (s : State) : Ans :=
  gated t (fun s => s.linked && s.maySlot && s.slotPick.isSome) slotTransmit s

/-! ### The end of a frame -/

/-- When the present frame ends (R377, R385). -/
def State.frameDue (s : State) : Nat := s.lsh.frameAt + s.framePeriod

/-- Held messages whose position has sent nothing for 16 frames (R530). -/
def releaseOld (s : State) : State :=
  let old (h : Nat × LshMsg × Nat) : Bool := decide (h.2.2 + 16 ≤ s.lsh.frames)
  releaseAll (s.chw.held.filter old) (s.updChw fun c => { c with held := c.held.filter fun h => !old h })

/-- The end of a frame: what Chew altered in it, the bus, DUPLICATE, held messages, the roster, the sweep's time, and
HOWL GASP (R385, R390 to R401, R407, R417, R435, R449, R530). -/
def frameDone (v : FrameView) (s : State) : State :=
  let v := { v with
    acc := v.acc &&& ~~~(s.chw.dropped ||| s.chw.corrupt)
    fail := v.fail ||| s.chw.corrupt }
  let s := s.updChw fun c => { c with dropped := 0, corrupt := 0 }
  let clean := cleanFrames s.lsh v
  let s := frameEnd v s
  let s := s.updPeers (dupFrame v clean)
  let s := rosterSettle (releaseOld s)
  let s := sweepTrack (s.updSwp fun w => { w with syncOk := w.syncOk && (v.syncGood || !s.windowFrame) })
  chewSettle (gaspFrame s)

/-- LEASH_FRAME_END (R399): what was received in the frame. -/
def execLeashFrameEnd (t : Nat) (syncGood : Bool) (echo : Fin 3) (ownEdge : Bool) (acc fail edge rep : Byte) (s : State) : Ans :=
  gated t (fun s => s.linked && s.synced && (!s.lsh.nap || decide (s.lsh.napFrame ≠ 0)) &&
      decide (s.frameDue ≤ s.now + Config.ns 100))
    (withStat (frameDone { syncGood, echo := echo.val, ownEdge, acc, fail, edge, rep })) s

/-! ### Entry to GASP by the own bus (R447) -/

/-- GASP_ENTRY (R446, R447, R527). -/
def execGaspEntry (t : Nat) (s : State) : Ans :=
  gated t State.ownLoss (fun s => chewSettle (gaspEnter 0 s)) s

/-! ### Arming Chew (R526, R527) -/

/-- The active unlock covers an address (R515). -/
def State.unlockCovers (s : State) (a : Nat) : Bool :=
  match s.idn.unlock with
  | some u => (u.ranges.any fun r => decide (r.1 ≤ a) && decide (a ≤ r.2)) &&
      (decide (twCount u.life = 0) || decide (s.now < u.from_ + twDur u.life))
  | none => false

/-- The conditions of an arm (R526). -/
def State.mayArm (s : State) : Bool :=
  !s.chw.armed && (decide (s.power.g = .ready) || decide (s.power.g = .run)) && decide (fld (s.chwW 0) 2 0 ≠ 0) &&
  s.unlockCovers 0x3B00

/-- ARM (R526): a write of 0x5A01 to CHW.CMD. -/
def chewArm (s : State) : State :=
  if s.mayArm then
    let seed := s.chwW 4
    let s := s.updChw fun c => { c with
      armed := true
      refused := false
      arms := inc8 c.arms
      armAt := s.now
      count := 0
      left := (s.chwW 2).toNat
      acp := selRestart seed c.acp
      lsh := selRestart seed c.lsh
      fch := selRestart seed c.fch }
    s.event 0x17 none (s.chwW 0) 0
  else s.updChw fun c => { c with refused := true }

/-- ARM. -/
def execArm (t : Nat) (s : State) : Ans := strobed t (fun _ => true) chewArm s

/-- STOP (R527): a write of 0x5A00 to CHW.CMD. -/
def execStop (t : Nat) (s : State) : Ans := strobed t (fun _ => true) (withStat (chewDisarm 1)) s

/-- A write of CHW.CMD (R526, R527). -/
def chwWrite (w : W16) (s : State) : State :=
  if w = 0x5A01 then chewArm s else if w = 0x5A00 then withStat (chewDisarm 1) s else s

/-- CHEW_LIFE_EXPIRE (R527). -/
def execChewLifeExpire (t : Nat) (s : State) : Ans :=
  gated t (fun s => s.chw.armed && decide (s.chw.armAt + twDur (s.chwW 3) ≤ s.now)) (withStat (chewDisarm 3)) s

end Sys2Proof.Machine
end

