-- ==== Sys2Proof/Machine/Protect.lean ====
section
/-! DEFINITION. Protection (13_protection.md): output voltage, current, the action on faults, hiccup and latch,
FAULT_N, FAULT_IN, and the entry to KILLED. -/

namespace Sys2Proof.Machine

open Sys2Proof

/-! ### FAULT_N (R368) -/

/-- A condition that PRT.FAULT_CFG selects is present. -/
def State.faultSelected (s : State) : Bool :=
  let w := s.pg 2 0
  (bitAt w 0 && allLoops.any fun n => decide (s.st n = .latched) || decide (s.st n = .crowbar)) ||
  (bitAt w 1 && allLoops.any fun n => decide (s.st n = .hiccupWait)) ||
  (bitAt w 2 && decide (s.power.g = .killed))

/-- Drive FAULT_N while a selected condition is present. -/
def driveFault (s : State) : State :=
  if s.up && s.faultSelected && s.prot.fltDrive.isNone then { s with prot := { s.prot with fltDrive := some s.now } } else s

/-- FAULT_N_RELEASE (R368): every selected condition has ended, and 20 µs have passed. -/
def execFaultNRelease (t : Nat) (s : State) : Ans :=
  gated t (fun s => !s.faultSelected && (match s.prot.fltDrive with | some a => decide (a + Config.us 20 ≤ s.now) | none => false))
    (fun s => { s with prot := { s.prot with fltDrive := none } }) s

/-! ### HOWL FAULT (R421) -/

/-- Queue HOWL FAULT. -/
def howlSend (code : Byte) (loop : Option (Fin 16)) (act : Nat) (value : W16) (s : State) : State :=
  if s.lsh.link = .off then s
  else queueMsg 3 0 (msgBytes code.toNat (16 * (loop.map Fin.val).getD 0 + bitVal loop.isNone 3 + act % 8) (value.toNat / 256) value.toNat) s

/-- HOWL FAULT for an action that LSH.HOWL_CFG selects. -/
def howlAction (code : Byte) (n : Fin 16) (act : Nat) (value : W16) (s : State) : State :=
  let w := s.pg 0x30 0x21
  if (bitAt w 0 && (decide (act = 4) || decide (act = 5))) || (bitAt w 1 && decide (act = 3)) then howlSend code (some n) act value s else s

/-! ### Output voltage (R350 to R353) -/

/-- The OV threshold of LPn in 50 µV: OV_LEVEL rounded up to a 6.25 mV step (R350). -/
def State.ovLevel (s : State) (n : Fin 16) : Nat := (2 * (s.lp n 0x24).toNat + 124) / 125 * 125

/-- OV_TRIP (R350, R351): turn-ons are blocked, pulses end, a CROWBAR action sets the latch, OV is raised. -/
def ovTrip (n : Fin 16) (s : State) : State :=
  let s := s.updPrt n fun p => { p with ov := true }
  let a := s.actionOf n 1
  let s := if a = 0 then s else
    updPhases (fun p => if p.onAt.isSome then pulseEnd s.now false false p else p) (s.mappedPhases n) s
  let s := if a = 5 then crowbarPhases n (s.updPrt n fun p => { p with latch := true }) else s
  s.raiseFault n 1 (s.loop n).sense.vout []

/-- OV_TRIP. -/
def execOvTrip (t : Nat) (n : Fin 16) (s : State) : Ans :=
  gated t (fun s => s.up && s.psEnHigh n && !s.kennel15 n && !(s.loop n).prt.ov) (ovTrip n) s

/-- The OV condition ends when the output is below the threshold by the hysteresis of 1 %, or PS_EN is low (R350). -/
def ovSettle (n : Fin 16) (s : State) : State :=
  let l := s.loop n
  if l.prt.ov && (!s.psEnHigh n || decide (200 * l.sense.vout.toNat < 99 * s.ovLevel n)) then
    s.updPrt n fun p => { p with ov := false }
  else s

/-- One sample of VOUT against UV_LEVEL (R353). -/
def uvNote (n : Fin 16) (s : State) : State :=
  let lvl := s.lp n 0x25
  let low := decide ((s.loop n).sense.vout.toNat < lvl.toNat)
  s.updPrt n fun p =>
    if low then { p with uvRun := p.uvRun + 1, uvFrom := if 3 ≤ p.uvRun then some (p.uvFrom.getD s.now) else none }
    else { p with uvRun := 0, uvFrom := none, uvRaised := false }

/-- UV (R353): the condition has lasted UV_FILT in REGULATE or TRANSITION. -/
def execUv (t : Nat) (n : Fin 16) (s : State) : Ans :=
  gated t (fun s => s.up && (decide (s.st n = .regulate) || decide (s.st n = .transition)) && !(s.loop n).prt.uvRaised &&
      (match (s.loop n).prt.uvFrom with | some a => decide (a + twDur (s.pg 2 4) ≤ s.now) | none => false))
    (fun s => (s.updPrt n fun p => { p with uvRaised := true }).raiseFault n 2 (s.loop n).sense.vout []) s

/-! ### Current (R354 to R357) -/

/-- L of R356 in 25 mA, times 100; none while OC_TOTAL is 0. -/
def State.octLimit (s : State) (n : Fin 16) : Option Int :=
  let w := (s.lp n 0x26).toInt
  if w = 0 then none
  else some (w * (100 + (if s.stale n then fld (s.pg 0 0x25) 6 0 else 0)))

/-- One step's IOUT against L (R356). -/
def octNote (n : Fin 16) (s : State) : State :=
  let high := match s.octLimit n with | some l => decide (l ≤ 100 * (s.loop n).mod.iout.toInt) | none => false
  s.updPrt n fun p =>
    if high then { p with octFrom := some (p.octFrom.getD s.now) } else { p with octFrom := none, octRaised := false }

/-- OC_TOTAL (R356). -/
def execOcTotal (t : Nat) (n : Fin 16) (s : State) : Ans :=
  gated t (fun s => s.up && (s.st n).running && !(s.loop n).prt.octRaised &&
      (match (s.loop n).prt.octFrom with | some a => decide (a + twDur (s.pg 2 5) ≤ s.now) | none => false))
    (fun s => (s.updPrt n fun p => { p with octRaised := true }).raiseFault n 4 (s.loop n).mod.iout []) s

/-- The over-current comparator of PHm in LPn (R354): the pulse ends; 2^PK consecutive cycles raise OC_PEAK, but under
the kennel law, where it only ends the pulse (R27). -/
def ocpTrip (n : Fin 16) (m : Fin 64) (s : State) : State :=
  let p := s.phase m
  let run := if p.ocpTrip then p.ocpRun else p.ocpRun + 1
  let s := s.updPhase m fun p => { pulseEnd s.now false false p with ocpTrip := true, ocpRun := run }
  if p.ocpTrip = false ∧ run = 2 ^ fld (s.pg 2 7) 2 0 ∧ s.kennel15 n = false then s.raiseFault n 3 (w16 m.val) [m] else s

/-- OCP_TRIP (R354): after the blanking of R232. -/
def execOcpTrip (t : Nat) (m : Fin 64) (s : State) : Ans :=
  gated t (fun s => match s.swLoop m with
      | some n => (s.phase m).onAt.isSome && decide ((s.phase m).lastOn + s.blankTime n m ≤ s.now)
      | none => false)
    (fun s => match s.swLoop m with | some n => ocpTrip n m s | none => s) s

/-- The negative-current comparator of PHm (R355): mid-level for the rest of the cycle; 2^NG cycles raise NEG_OC. -/
def negTrip (n : Fin 16) (m : Fin 64) (s : State) : State :=
  let run := (s.phase m).negRun + 1
  let s := s.updPhase m fun p => { p with pwm := .mid, negTrip := true, negRun := run }
  if run = 2 ^ fld (s.pg 2 7) 6 4 then s.raiseFault n 5 (w16 m.val) [m] else s

/-- NEG_TRIP (R355): in the off-time of a CCM cycle, after 20 ns of blanking. -/
def execNegTrip (t : Nat) (m : Fin 64) (s : State) : Ans :=
  gated t (fun s => match s.swLoop m with
      | some n => let p := s.phase m
        !s.kennel15 n && !p.de && decide (p.pwm = .low) && decide (p.onAt = none) && !p.negTrip && decide (fld (s.ph n m 3) 15 10 ≠ 0) &&
        decide (p.lastOff + Config.ns 20 ≤ s.now)
      | none => false)
    (fun s => match s.swLoop m with | some n => negTrip n m s | none => s) s

/-- A write to PRT.PH_RMVk (R357). -/
def removedClear (k : Nat) (w : W16) (s : State) : State :=
  phasesReturn .oc (allPhases.filter fun m => decide (m.val / 16 = k) && bitAt w (m.val % 16)) s

/-- PHASE_RETURN (R357): a write of PRT.PH_RMVk; an OT removal whose condition is present stays. -/
def execPhaseReturn (t : Nat) (k : Fin 4) (w : W16) (s : State) : Ans := strobed t (fun _ => true) (removedClear k.val w) s

/-- PRT.PH_RMVk. -/
def State.phRemoved (s : State) (k : Nat) : W16 :=
  w16 ((allPhases.filter fun m => decide (m.val / 16 = k)).foldl (fun a m => a + bitVal (!(s.phase m).removed.isEmpty) (m.val % 16)) 0)

/-! ### The action on faults (R345 to R348, R363) -/

/-- A loop whose state a new fault does not change (R346), OFF among them: its pulses have stopped already. -/
def LoopSt.held : LoopSt → Bool
  | .hiccupWait => true
  | .latched => true
  | .crowbar => true
  | .off => true
  | _ => false

/-- A fault with the action taken on it. -/
abbrev Acted := Raised × Nat

/-- Insert a fault in ascending order of code, after its equals. -/
def insertRaised (r : Raised) : List Raised → List Raised
  | [] => [r]
  | x :: l => if r.code.toNat < x.code.toNat then r :: x :: l else x :: insertRaised r l

/-- The faults in ascending order of code. -/
def sortRaised (l : List Raised) : List Raised := l.foldl (fun a r => insertRaised r a) []

/-- The phases that the SHED faults of a list remove. -/
def shedOf (l : List Acted) : List (Fin 64) := (l.filter fun a => decide (a.2 = 2)).flatMap fun a => a.1.ph

/-- The actions of the faults raised at one boundary (R345, R346, R363): SHED of the last available phase, and HICCUP
beyond RETRIES when it is the most severe, become LATCH_OFF. -/
def State.actions (s : State) (n : Fin 16) (l : List Raised) : List Acted :=
  let as := l.map fun r => (r, s.actionOf n r.code)
  let gone := shedOf as
  let empty := decide (gone ≠ []) && (s.available n).all fun m => gone.contains m
  let as := as.map fun a => if empty && decide (a.2 = 2) then (a.1, 4) else a
  let most : Nat := as.foldl (fun (m : Nat) (a : Acted) => max m a.2) 0
  let tries := fld (s.lp n 0x29) 15 12
  let excess := decide (most = 3) && decide (tries ≠ 0) && decide (tries < (s.loop n).prt.retries + 1) && !(s.st n).held
  if excess then as.map fun a => if a.2 = 3 then (a.1, 4) else a else as

/-- Log and count one fault (R347, R348, R421). -/
def logFault (n : Fin 16) (a : Acted) (s : State) : State :=
  if a.2 = 0 then s else
  let r := a.1
  let s := s.offer (s.eventAt r.at_ r.code (some n) false false r.value a.2)
  let s := s.countFault r.code (some n)
  let s := s.updPrt n fun p => { p with fltFirst := if p.fltFirst = 0 then w16 (r.code.toNat + 256 * a.2) else p.fltFirst }
  howlAction r.code n a.2 r.value s

/-- Log and count the faults of a list. -/
def logFaults (n : Fin 16) : List Acted → State → State
  | [], s => s
  | a :: l, s => logFaults n l (logFault n a s)

/-- The FAULTED latch of a bound loop, where its port asks for it (R318). -/
def faultAlert (n : Fin 16) (s : State) : State :=
  let w := s.lp n 0x2B
  if bitAt w 0 && bitAt (s.pgL n 0x28 (12 * fld w 3 1)) 5 then s.updAcp n fun a => { a with faulted := true } else s

/-- LPn enters HICCUP_WAIT (R345, R363). -/
def enterHiccup (n : Fin 16) (s : State) : State :=
  let s := putState n .hiccupWait (stopPulses n s)
  let s := (s.updPrt n fun p => { p with retries := p.retries + 1 }).updSp n fun p => { p with offPending := none, noSink := false }
  faultAlert n s

/-- LPn enters LATCHED (R345, R363, R364). -/
def enterLatched (n : Fin 16) (s : State) : State :=
  let s := putState n .latched (stopPulses n s)
  faultAlert n (s.updSp n fun p => { p with offPending := none, noSink := false })

/-- LPn enters CROWBAR (R345, R351). -/
def enterCrowbar (n : Fin 16) (s : State) : State :=
  let s := (putState n .crowbar s).updPrt n fun p => { p with latch := true }
  faultAlert n (crowbarPhases n (s.updSp n fun p => { p with offPending := none, noSink := false }))

/-- Protection removes the phases of one fault from LPn (R357, R358). -/
def removePhases (r : Raised) (s : State) : State :=
  let why : Removal := match r.ot with | some k => .ot k | none => .oc
  updPhases (fun p => { p with removed := if p.removed.contains why then p.removed else why :: p.removed, back := false }) r.ph s

/-- The removals of the SHED faults, and the phase count that is left. -/
def shedFaults (n : Fin 16) (l : List Acted) (s : State) : State :=
  let l := l.filter fun a => decide (a.2 = 2)
  let s := l.foldl (fun s a => removePhases a.1 s) s
  setTarget n (s.loop n).mod.nt s

/-- The action on the faults raised since the last boundary (R345, R346, R273, R368). -/
def faultAction (n : Fin 16) (s : State) : State :=
  let l := s.actions n (sortRaised (s.loop n).prt.raised)
  let s := s.updPrt n fun p => { p with raised := [] }
  let s := logFaults n l s
  let most : Nat := l.foldl (fun (m : Nat) (a : Acted) => max m a.2) 0
  let s := if 2 ≤ most then s.updMod n fun m => { m with blankEnd := m.blankOn } else s
  let s := if (s.st n).held then
      (if s.st n = .hiccupWait ∧ (l.any fun a => decide (a.2 = 4)) = true then enterLatched n s else s)
    else match most with
      | 5 => enterCrowbar n s
      | 4 => enterLatched n s
      | 3 => enterHiccup n s
      | 2 => shedFaults n l s
      | _ => s
  driveFault s

/-- FAULT_ACTION (R345, R346): at the loop's first sample boundary after the raise. -/
def execFaultAction (t : Nat) (n : Fin 16) (s : State) : Ans :=
  gated t (fun s => s.up && s.isBoundary n && decide ((s.loop n).prt.raised ≠ [])) (faultAction n) s

/-- HICCUP_RETRY (R363): the delay has passed, the loop is enabled, and nothing holds it. -/
def execHiccupRetry (t : Nat) (n : Fin 16) (s : State) : Ans :=
  gated t (fun s => s.up && decide (s.st n = .hiccupWait) && s.isBoundary n && s.enabled n && !s.heldOff n &&
      decide ((s.loop n).sp.since + Config.ms (fld (s.lp n 0x29) 11 0) ≤ s.now))
    (enterDelayOn n) s

/-- HICCUP_COUNT_CLEAR (R363): 100 ms of continuous REGULATE. -/
def execHiccupCountClear (t : Nat) (n : Fin 16) (s : State) : Ans :=
  gated t (fun s => decide (s.st n = .regulate) && decide (0 < (s.loop n).prt.retries) &&
      decide ((s.loop n).sp.since + Config.ms 100 ≤ s.now))
    (fun s => s.updPrt n fun p => { p with retries := 0 }) s

/-- A write of PRT.FLT_CLR (R348, R363). -/
def fltClr (w : W16) (s : State) : State :=
  forLoops (fun n s => s.updPrt n fun p => { p with fltFirst := 0, retries := 0 }) (bitsOf w) s

/-- FLT_CLR. -/
def execFltClr (t : Nat) (w : W16) (s : State) : Ans := strobed t (fun _ => true) (fltClr w) s

/-- W_LOOP_FLT. -/
def State.loopFlt (s : State) : W16 :=
  w16 (allLoops.foldl (fun a n => a + bitVal (decide (s.st n = .hiccupWait) || decide (s.st n = .latched) ||
    decide (s.st n = .crowbar)) n.val) 0)

/-! ### FAULT_IN (R369 to R371) -/

def State.faultIgnore (s : State) : Bool := bitAt (s.pg 2 1) 0

/-- A FIN_MASK loop at an onset (R370): it turns off as FIN_SEQ says, and is held unless LATCHED or CROWBAR. A latch
that is set keeps its loop for CROWBAR (R351). -/
def finLoop (n : Fin 16) (s : State) : State :=
  if (s.loop n).prt.latch then s else
  let st := s.st n
  let s := if st.running || decide (st = .delayOn) then
      (if bitAt (s.pg 2 0) 3 then enterRampDown n .held s else enterOff n s)
    else s
  if st = .latched ∨ st = .crowbar then s else s.updPrt n fun p => { p with finHold := true }

/-- An onset of FAULT_IN (R369 to R371). -/
def finOnset (s : State) : State :=
  let s := { s with prot := { s.prot with finOnset := true, finCount := inc8 s.prot.finCount } }
  if s.faultIgnore then s.event 0x0C none 1 0
  else
    let s := (s.event 0x0C none 0 0).countFault 0x0C none
    let s := { s with prot := { s.prot with finHold := true } }
    forLoops finLoop (allLoops.filter fun n => bitAt (s.pg 2 2) n.val && s.ownStart n) s

/-- FAULT_N has been low for 1 µs without being driven (R369). -/
def faultInSeen (s : State) : State :=
  let s : State := { s with prot := { s.prot with fltLow := true } }
  if s.up then finOnset s else s

/-- FAULT_IN (R369): the line has been low for 1 µs while the device was not driving it. In BOOT the line is only
sampled; the onset comes with the end of the BOOT. -/
def execFaultIn (t : Nat) (s : State) : Ans :=
  gated t (fun s => s.power.vaux && s.prot.fltDrive.isNone && !s.prot.finOnset)
    faultInSeen s

/-- FAULT_IN_HOLD_END (R370): the line has been high for 1 µs. -/
def execFaultInHoldEnd (t : Nat) (s : State) : Ans :=
  gated t (fun s => s.prot.fltDrive.isNone && s.prot.fltLow)
    (fun s => forLoops (fun n s => s.updPrt n fun p => { p with finHold := false }) allLoops
      { s with prot := { s.prot with fltLow := false, finOnset := false, finHold := false } }) s

/-- PRT.FIN_STAT. -/
def State.finStat (s : State) : W16 :=
  let p := s.prot
  w16 (bitVal (p.fltLow || p.fltDrive.isSome) 0 + bitVal p.fltDrive.isSome 1 + bitVal (p.finHold && !s.faultIgnore) 2 + 256 * p.finCount)

/-! ### KILLED (R365 to R367) -/

/-- The analogue gate of KILL_N (R365): every PWM pin whose loop has no crowbar latch goes to mid-level. -/
def killPins (s : State) : State :=
  updPhases (phaseMid s) (allPhases.filter fun m => decide ((s.phase m).pwm ≠ .highZ) &&
    match s.loopOf m with | some n => !(s.loop n).prt.latch | none => true) s

/-- A loop at the entry to KILLED: OFF unless LATCHED or CROWBAR; hiccup counts clear (R366). A latch that is set keeps
its loop for CROWBAR (R351). -/
def killLoop (n : Fin 16) (s : State) : State :=
  let st := s.st n
  if st = .latched ∨ st = .crowbar ∨ (s.loop n).prt.latch = true then s.updPrt n fun p => { p with retries := 0 }
  else if st = .off then s.updPrt n fun p => { p with retries := 0 }
  else enterOff n s

/-- KILL is raised (R347, R366, R421). -/
def raiseKill (s : State) : State :=
  let s := (s.event 0x0B none 0 0).countFault 0x0B none
  if bitAt (s.pg 0x30 0x21) 2 then howlSend 0x0B none 0 0 s else s

/-- The device enters KILLED (R366): a summary of the GASP it leaves is started (R452). -/
def enterKilled (s : State) : State :=
  let s := if s.power.g = .gasp then gaspLeave (summaryStart 3 2 (holdWindow s.vBus s)) else s
  let s := { s with power := { s.power with g := .killed } }
  driveFault (forLoops killLoop allLoops s)

/-- The device leaves KILLED (R367). -/
def leaveKilled (s : State) : State :=
  let g : GState := if s.anyOn then .run else .ready
  let s := { s with power := { s.power with g := g } }
  s.updPeers fun x => { x with readyAt := some (x.readyAt.getD s.now) }

end Sys2Proof.Machine
end

