-- ==== Sys2Proof/Machine/Acp.lean ====
section
/-! DEFINITION. The Agique command port (11_agique_command_port.md): requests and responses, the decision of a request,
targets, arrival, link loss and the port's registers. A request row carries the 32 bits sampled up to edge 32; a request
whose bits fail the CRC is answered as one, whatever row brings it. -/

namespace Sys2Proof.Machine

open Sys2Proof

/-! ### CRC (R303) -/

/-- The CRC of bits [31:8] of a frame (R303). -/
def acpCrc (f : W32) : Byte :=
  w8 (crc8 0x07 0 [w8 (fld f 31 24), w8 (fld f 23 16), w8 (fld f 15 8)] ^^^ 0x55)

/-- The CRC field of a frame is right. -/
def acpValid (f : W32) : Bool := decide (fld f 7 0 = (acpCrc f).toNat)

/-- A response frame (R302). -/
def acpFrame (status : Nat) (echo : Bool) (data : W16) : W32 :=
  let f : W32 := BitVec.ofNat 32 (status * 2 ^ 28 + bitVal echo 27 + data.toNat * 256)
  f ||| BitVec.ofNat 32 (acpCrc f).toNat

/-! ### Ports -/

def State.port (s : State) (p : Fin 8) : AcpPort := s.acp[p]
def State.updPort (s : State) (p : Fin 8) (f : AcpPort → AcpPort) : State :=
  let v : AcpPort := f (s.port p)
  { s with acp := s.acp.set p v }
/-- Word `k` of port p in use. -/
def State.acpW (s : State) (p : Fin 8) (k : Nat) : W16 := s.pg 0x28 (12 * p.val + k)

/-- The port answers (R296). -/
def State.acpOn (s : State) (p : Fin 8) : Bool := s.up && s.power.vddioL && bitAt (s.acpW p 0) 0

/-- The loop bound to port p at an address (R307). -/
def State.acpLoop (s : State) (p : Fin 8) (addr : Nat) : Option (Fin 16) :=
  allLoops.find? fun n => let w := s.lp n 0x2B
    bitAt w 0 && decide (fld w 3 1 = p.val) && decide (fld w 5 4 = addr)

/-- The loops bound to port p. -/
def State.acpLoops (s : State) (p : Fin 8) : List (Fin 16) :=
  allLoops.filter fun n => let w := s.lp n 0x2B
    bitAt w 0 && decide (fld w 3 1 = p.val)

/-- The port of a bound loop. -/
def State.portOf (s : State) (n : Fin 16) : Fin 8 := ⟨fld (s.lp n 0x2B) 3 1 % 8, by omega⟩

/-- SP_SRC selects ACP. -/
def State.acpSource (s : State) (n : Fin 16) : Bool := decide (fld (s.lp n 3) 2 0 = 1)

/-- Set bits of EVTp; an enabled bit that was clear sets W_IRQ.ACP (R325). -/
def acpEvt (p : Fin 8) (bit : Nat) (s : State) : State :=
  let old := (s.port p).evt
  let new := old ||| 2 ^ bit
  let s := s.updPort p fun x => { x with evt := new }
  if new ≠ old ∧ bitAt (s.acpW p 9) bit = true then s.irq 3 else s

/-! ### The decision of a request (R309, R310) -/

/-- The target in use of LPn under the ACP: the last accepted one, clamped (R317, R279). -/
def State.acpTarget (s : State) (n : Fin 16) : W16 :=
  let a := (s.loop n).acp
  let g := match a.tgtPend with | some (v, _) => v | none => a.target
  if g.toNat < (s.lp n 2).toNat then s.lp n 2 else if (s.lp n 1).toNat < g.toNat then s.lp n 1 else g

/-- What a decided request answers and does. -/
structure AcpAnswer where
  status : Nat
  data : W16
  act : State → State

/-- An answer without an effect. -/
def acpSay (status : Nat) (data : W16) : AcpAnswer := ⟨status, data, fun s => s⟩

/-- DATA of REJECT_STATE (R309). -/
def State.acpStateData (s : State) (n : Fin 16) : W16 :=
  w16 ((s.st n).code + bitVal (s.loop n).sp.offPending.isSome 4 + bitVal (!s.acpSource n) 5 +
    bitVal (decide (s.power.g = .gasp)) 6 + bitVal (decide (s.power.g = .killed)) 7 +
    256 * fld (s.loop n).prt.fltFirst 7 0)

/-- SP_SRC selects ACP and the device is not in GASP (R310 "Set"). -/
def State.acpSettable (s : State) (n : Fin 16) : Bool := s.acpSource n && decide (s.power.g ≠ .gasp)

/-- The state requirement of an opcode (R310). -/
def State.acpNeeds (s : State) (n : Fin 16) (op : Nat) : Bool :=
  match op with
  | 1 => s.acpSettable n && !(s.loop n).sp.offPending.isSome &&
      (decide (s.st n = .delayOn) || decide (s.st n = .rampUp) || decide (s.st n = .regulate) || decide (s.st n = .transition))
  | 2 => s.acpSettable n
  | 3 => s.acpSettable n
  | 4 => decide (s.power.g ≠ .gasp)
  | _ => true

/-- The permission of an opcode on a port (R310). -/
def acpPermitted (cfg : W16) (op : Nat) : Bool :=
  match op with | 2 => bitAt cfg 4 | 3 => bitAt cfg 2 | 4 => bitAt cfg 3 | _ => true

/-- The limit that a payload breaks (R310). -/
def State.acpRange (s : State) (p : Fin 8) (n : Fin 16) (op : Nat) (v : W16) : Option W16 :=
  match op with
  | 1 => if v.toNat < (s.lp n 2).toNat then some (s.lp n 2) else if (s.lp n 1).toNat < v.toNat then some (s.lp n 1) else none
  | 2 => if v.toNat = 0 ∨ (s.acpW p 4).toNat < v.toNat then some (s.acpW p 4) else none
  | 3 => if (s.acpW p 5).toNat < v.toNat then some (s.acpW p 5) else none
  | 4 => if v.toInt < 0 then some 0 else none
  | _ => none

/-- The GETSTAT word (R318). -/
def State.acpStatWord (s : State) (n : Fin 16) : W16 :=
  let a := (s.loop n).acp
  let hint := if a.hint = 0 then 0 else if s.hintLight n then 2 else 1
  w16 ((s.st n).code + bitVal a.arrived 4 + bitVal a.faulted 5 + bitVal a.moving 6 + 128 * hint +
    bitVal (s.powerGood n) 9 + bitVal (s.stale n) 10)

/-- GETTEMP (R310). -/
def State.acpTemp (s : State) (p : Fin 8) : W16 :=
  let k := fld (s.acpW p 6) 7 0
  if h : k < 32 then (if s.svc.slots[k].mark = .good then s.svc.slots[k].value else 0x8000) else 0x8000

/-- A new target is accepted (R311, R317). -/
def acpAccept (n : Fin 16) (v : W16) (s : State) : State :=
  s.updAcp n fun a => { a with tgtPend := some (v, s.now), moving := true, holdFrom := none }

/-- A hint acts from the next reference instant of the running loop (R315). -/
def acpHint (n : Fin 16) (e : Nat) (s : State) : State := s.updAcp n fun a => { a with hintPend := some e }

/-- The time of a FRAME mark: edge 32, in device time to 3.125 ns, less the payload (R316). -/
def State.frameTime (s : State) (v : W16) : Int := (s.now / 800 * 800 : Nat) - Config.ns 100 * v.toNat

/-- A FRAME mark is recorded, and marks the Layer of a loop that listens to it (R316, R328). -/
def acpMark (n : Fin 16) (v : W16) (s : State) : State :=
  let at_ := s.frameTime v
  let s := s.updAcp n fun a => { a with frameAt := some at_ }
  if s.lyrOn n ∧ s.lyrSrc n = 2 then layerMark n at_.toNat s else s

/-- The answer of a permitted request to LPn in a state that allows it, in its range (R309 steps 9 and 10). -/
def State.acpDo (s : State) (p : Fin 8) (n : Fin 16) (op : Nat) (v : W16) : AcpAnswer :=
  let l := s.loop n
  match op with
  | 1 =>
    let g := s.acpTarget n
    if l.acp.moving && !bitAt (s.acpW p 0) 1 && decide (v ≠ g) then acpSay 2 g
    else if v = g ∧ l.acp.moving = false then acpSay 0 v
    else ⟨1, v, acpAccept n v⟩
  | 2 => ⟨0, v, fun s => s.updAcp n fun a => { a with slew := some v }⟩
  | 3 => ⟨0, v, fun s => s.updAcp n fun a => { a with llPend := some (v, s.now) }⟩
  | 4 => ⟨0, v, acpHint n v.toNat⟩
  | 5 => ⟨0, v, acpMark n v⟩
  | 6 => acpSay 0 l.sense.vout
  | 7 => acpSay 0 l.mod.iout
  | 8 => ⟨0, s.acpStatWord n, fun s => s.updPort p fun x => { x with report := some (n, l.acp.arrived, l.acp.faulted) }⟩
  | 9 => acpSay 0 (s.acpTemp p)
  | 10 => acpSay 0 (s.vrefNow n)
  | _ => acpSay 0 (w16 (fld l.prt.fltFirst 7 0))

/-- The decision of a new request (R309 steps 2 to 10). -/
def State.acpDecide (s : State) (p : Fin 8) (req : W32) : AcpAnswer :=
  let op := fld req 29 25
  let v := w16 (fld req 23 8)
  if 12 ≤ op then acpSay 7 (w16 op)
  else if op = 0 then acpSay 0 v
  else match s.acpLoop p (fld req 31 30) with
  | none => acpSay 6 0
  | some n =>
    if !acpPermitted (s.acpW p 0) op then acpSay 8 (w16 op)
    else if 5 ≤ op then s.acpDo p n op v
    else if !s.acpNeeds n op then acpSay 5 (s.acpStateData n)
    else match s.acpRange p n op v with
      | some l => acpSay 3 l
      | none => s.acpDo p n op v

/-! ### Requests (R298 to R306, R320) -/

/-- A link that returns to UP (R320, R322, R325). -/
def acpLinkUp (p : Fin 8) (s : State) : State :=
  let was := (s.port p).link
  let s := s.updPort p fun x => { x with link := .up, linkAt := s.now }
  if was = .up then s
  else acpEvt p 1 (forLoops (fun n s => s.updAcp n fun a => { a with lossOff := a.lossOff && !bitAt (s.lp n 0x2C) 2 })
    (s.acpLoops p) s)

/-- Drive a response from edge 34 (R298), unless DIO_LOW is set (R305). -/
def acpSend (p : Fin 8) (status : Nat) (f : W32) (s : State) : State :=
  if (s.port p).dioLow then s else s.updPort p fun x => { x with dio := some f, status := status }

/-- A request whose CRC fails (R304, R305). -/
def acpBadCrc (p : Fin 8) (req : W32) (s : State) : State :=
  if (s.port p).dioLow then s
  else
    let s := acpSend p 4 (acpFrame 4 (bitAt req 24) 0) (s.updPort p fun x => { x with crcCnt := inc16 x.crcCnt })
    acpEvt p 2 s

/-- A new valid request (R306, R309). -/
def acpNew (p : Fin 8) (req : W32) (s : State) : State :=
  let a := s.acpDecide p req
  let f := acpFrame a.status (bitAt req 24) a.data
  let s := s.updPort p fun x => { x with last := some (fld req 31 8, f), report := none }
  let s := a.act (acpSend p a.status f s)
  if a.status = 2 ∨ a.status = 3 ∨ 5 ≤ a.status then acpEvt p 3 s else s

/-- A valid request (R306, R320): a repeat gets the stored response. -/
def acpGood (p : Fin 8) (req : W32) (s : State) : State :=
  let s := acpLinkUp p (s.updPort p fun x => { x with reqCnt := (x.reqCnt + 1) % 65536 })
  match (s.port p).last with
  | some (b, f) =>
    if b = fld req 31 8 then acpSend p (fld f 31 28) f (s.updPort p fun x => { x with report := none }) else acpNew p req s
  | none => acpNew p req s

/-- DIO low through edges 0 to 32 of two consecutive transactions sets DIO_LOW (R305). -/
def acpLow (p : Fin 8) (req : W32) (s : State) : State :=
  let x := s.port p
  let run := if req = 0 then min 2 (x.lowRun + 1) else 0
  let set := decide (2 ≤ run) && !x.dioLow
  let s := s.updPort p fun x => { x with lowRun := run, dioLow := x.dioLow || set, clkAt := some s.now }
  if set then acpEvt p 5 s else s

/-- The request received at edge 32 (R300, R301, R529); `took` is the time from there to edge 66. -/
def acpRequest (p : Fin 8) (req : W32) (took : Nat) (s : State) : State :=
  let s := s.updPort p fun x => { x with dio := none, report := none, reqAt := s.now, doneAt := s.now + took }
  let s := acpLow p req s
  if acpValid req then
    let r := chewAcp p s
    chewSettle (match r.1 with
      | none => acpGood p req r.2
      | some 0 => r.2
      | some _ => acpBadCrc p req r.2)
  else acpBadCrc p req s

/-- One request row: the port is idle again since the transaction before (R298), and the request's opcode is the
row's. -/
def acpRow (ops : Nat → Bool) (t : Nat) (p : Fin 8) (req : AcpRequest) (s : State) : Ans :=
  gated t (fun s => s.acpOn p && decide ((s.port p).doneAt ≤ s.now) && ops (fld req.word 29 25))
    (withStat (acpRequest p req.word req.took)) s

/-- ACP_PING (R310). -/
def execAcpPing (t : Nat) (p : Fin 8) (req : AcpRequest) (s : State) : Ans :=
  acpRow (fun o => decide (o = 0)) t p req s
/-- ACP_SETV (R310, R311). -/
def execAcpSetv (t : Nat) (p : Fin 8) (req : AcpRequest) (s : State) : Ans :=
  acpRow (fun o => decide (o = 1)) t p req s
/-- ACP_SETSLEW (R310, R312). -/
def execAcpSetslew (t : Nat) (p : Fin 8) (req : AcpRequest) (s : State) : Ans :=
  acpRow (fun o => decide (o = 2)) t p req s
/-- ACP_SETLL (R310, R313). -/
def execAcpSetll (t : Nat) (p : Fin 8) (req : AcpRequest) (s : State) : Ans :=
  acpRow (fun o => decide (o = 3)) t p req s
/-- ACP_HINT (R310, R315). -/
def execAcpHint (t : Nat) (p : Fin 8) (req : AcpRequest) (s : State) : Ans :=
  acpRow (fun o => decide (o = 4)) t p req s
/-- ACP_FRAME (R310, R316). -/
def execAcpFrame (t : Nat) (p : Fin 8) (req : AcpRequest) (s : State) : Ans :=
  acpRow (fun o => decide (o = 5)) t p req s
/-- ACP_GETV (R310). -/
def execAcpGetv (t : Nat) (p : Fin 8) (req : AcpRequest) (s : State) : Ans :=
  acpRow (fun o => decide (o = 6)) t p req s
/-- ACP_GETI (R310). -/
def execAcpGeti (t : Nat) (p : Fin 8) (req : AcpRequest) (s : State) : Ans :=
  acpRow (fun o => decide (o = 7)) t p req s
/-- ACP_GETSTAT (R310, R318). -/
def execAcpGetstat (t : Nat) (p : Fin 8) (req : AcpRequest) (s : State) : Ans :=
  acpRow (fun o => decide (o = 8)) t p req s
/-- ACP_GETTEMP (R310). -/
def execAcpGettemp (t : Nat) (p : Fin 8) (req : AcpRequest) (s : State) : Ans :=
  acpRow (fun o => decide (o = 9)) t p req s
/-- ACP_GETREF (R310). -/
def execAcpGetref (t : Nat) (p : Fin 8) (req : AcpRequest) (s : State) : Ans :=
  acpRow (fun o => decide (o = 10)) t p req s
/-- ACP_GETFLT (R310). -/
def execAcpGetflt (t : Nat) (p : Fin 8) (req : AcpRequest) (s : State) : Ans :=
  acpRow (fun o => decide (o = 11)) t p req s
/-- ACP_RESERVED_OP (R309). -/
def execAcpReservedOp (t : Nat) (p : Fin 8) (req : AcpRequest) (s : State) : Ans :=
  acpRow (fun o => decide (12 ≤ o)) t p req s

/-- The end of a new GETSTAT's response (R319): the reported latches clear. -/
def getstatEnd (p : Fin 8) (s : State) : State :=
  let s' := s.updPort p fun x => { x with report := none, dio := none }
  match (s.port p).report with
  | some (n, arr, flt) => s'.updAcp n fun a => { a with arrived := a.arrived && !arr, faulted := a.faulted && !flt }
  | none => s'

/-- GETSTAT_RESPONSE_END (R319). -/
def execGetstatResponseEnd (t : Nat) (p : Fin 8) (s : State) : Ans :=
  gated t (fun s => s.acpOn p && (s.port p).report.isSome && (s.port p).dio.isSome &&
    decide ((s.port p).doneAt ≤ s.now)) (getstatEnd p) s

/-- ACP_ABORT (R300): a response in progress ends unfinished; a request not received by edge 32 never was. -/
def execAcpAbort (t : Nat) (p : Fin 8) (s : State) : Ans :=
  gated t (fun s => s.acpOn p) (fun s => s.updPort p fun x => { x with dio := none, report := none, doneAt := s.now }) s

/-- DIO_LOW_CLEAR (R305). -/
def execDioLowClear (t : Nat) (p : Fin 8) (s : State) : Ans :=
  gated t (fun s => s.acpOn p && (s.port p).dioLow)
    (fun s => s.updPort p fun x => { x with dioLow := false, lowRun := 0, clkAt := some s.now }) s

/-! ### Targets and load line (R311, R313) -/

/-- ACP_TARGET_APPLY (R311): at the loop's first boundary at least 500 ns after edge 32. -/
def execAcpTargetApply (t : Nat) (n : Fin 16) (s : State) : Ans :=
  gated t (fun s => s.up && s.isBoundary n &&
      (match (s.loop n).acp.tgtPend with | some (_, a) => decide (a + Config.ns 500 ≤ s.now) | none => false))
    (fun s => s.updAcp n fun a => match a.tgtPend with
      | some (v, _) => { a with target := v, tgtPend := none, slewOwn := false }
      | none => a) s

/-- ACP_LL_APPLY (R313). -/
def execAcpLlApply (t : Nat) (n : Fin 16) (s : State) : Ans :=
  gated t (fun s => s.up && s.isBoundary n &&
      (match (s.loop n).acp.llPend with | some (_, a) => decide (a + Config.ns 500 ≤ s.now) | none => false))
    (fun s => s.updAcp n fun a => match a.llPend with
      | some (v, _) => { a with ll := some v, llPend := none }
      | none => a) s

/-- R_LL of LPn (R208, R313). -/
def State.loadLine (s : State) (n : Fin 16) : W16 :=
  match (s.loop n).acp.ll with | some v => v | none => s.lp n 0x17

/-! ### Arrival (R317) -/

/-- The reference stands at the target in use in REGULATE. -/
def State.atTarget (s : State) (n : Fin 16) : Bool :=
  let l := s.loop n
  decide (l.sp.st = .regulate) && l.acp.tgtPend.isNone && decide (l.eng.vref = s.acpTarget n)

/-- The hold of R317 at one sample boundary. -/
def arrivalNote (n : Fin 16) (s : State) : State :=
  if s.acpBound n && (s.loop n).acp.moving then
    let l := s.loop n
    let off := ((l.sense.vout.toNat : Int) - l.sense.dac.toNat).natAbs
    let ok := s.atTarget n && decide (off ≤ (s.pgL n 0x28 (12 * (s.portOf n).val + 2)).toNat)
    s.updAcp n fun a => { a with holdFrom := if ok then some (a.holdFrom.getD s.now) else none }
  else s

/-- An arrival (R317, R325). -/
def arrive (n : Fin 16) (s : State) : State :=
  acpEvt (s.portOf n) 4 (s.updAcp n fun a => { a with moving := false, arrived := true, holdFrom := none })

/-- ARRIVAL (R317). -/
def execArrival (t : Nat) (n : Fin 16) (s : State) : Ans :=
  gated t (fun s => s.up && s.acpBound n && (s.loop n).acp.moving && s.atTarget n &&
      (match (s.loop n).acp.holdFrom with
       | some a => decide (a + twDur (s.acpW (s.portOf n) 3) ≤ s.now) | none => false))
    (arrive n) s

/-! ### Link loss (R320 to R323) -/

/-- One loop at the loss of its link (R321). -/
def acpLossLoop (n : Fin 16) (s : State) : State :=
  let s := s.raiseFree n 0x0D
  if s.actionOf n 0x0D ≤ 2 ∧ (s.st n).running = true then s.updAcp n fun a => { a with lossPend := true } else s

/-- The link of port p is lost (R321). -/
def acpLose (p : Fin 8) (s : State) : State :=
  let s := s.updPort p fun x => { x with link := .lost, losses := inc8 x.losses, last := none }
  acpEvt p 0 (forLoops acpLossLoop ((s.acpLoops p).filter fun n => s.acpSource n && decide (s.st n ≠ .off)) s)

/-- ACP_LOSS (R320, R321). -/
def execAcpLoss (t : Nat) (p : Fin 8) (s : State) : Ans :=
  gated t (fun s => s.up && bitAt (s.acpW p 0) 0 && decide ((s.port p).link = .up) &&
      decide ((s.port p).linkAt + twDur (s.acpW p 1) ≤ s.now)) (acpLose p) s

/-- The LINKLOSS action (R322). -/
def linklossAct (n : Fin 16) (s : State) : State :=
  let s := s.updAcp n fun a => { a with lossPend := false }
  match fld (s.lp n 0x2C) 1 0 with
  | 1 => s.updAcp n fun a => { a with target := s.lp n 0x2D, tgtPend := none, slewOwn := true, moving := false, holdFrom := none }
  | 2 => s.updAcp n fun a => { a with lossOff := true }
  | _ => s

/-- LINKLOSS_ACTION (R321, R322): the reference has reached the target in use, or nothing moves. -/
def execLinklossAction (t : Nat) (n : Fin 16) (s : State) : Ans :=
  gated t (fun s => s.up && (s.st n).running && (s.loop n).acp.lossPend &&
      (!(s.loop n).acp.moving || ((s.loop n).acp.tgtPend.isNone && decide ((s.loop n).eng.vref = s.acpTarget n))))
    (linklossAct n) s

/-- A write to ACP.EVTp (R325). -/
def acpEvtWrite (p : Fin 8) (w : W16) (s : State) : State :=
  s.updPort p fun x => { x with
    evt := fld (w16 x.evt &&& ~~~w) 5 0
    crcCnt := if bitAt w 15 then 0 else x.crcCnt
    reqCnt := if bitAt w 15 then 0 else x.reqCnt }

/-- ACP_EVT_CLEAR. -/
def execAcpEvtClear (t : Nat) (p : Fin 8) (w : W16) (s : State) : Ans := strobed t (fun _ => true) (acpEvtWrite p w) s

/-! ### Commits, BOOT and views -/

/-- A port whose EN in use is 0: DOWN, without a stored request (R306, R320), its pins high-impedance (R296). -/
def acpPortOff (p : Fin 8) (s : State) : State :=
  if bitAt (s.acpW p 0) 0 then s
  else s.updPort p fun x => { x with last := none, link := .down, dio := none, report := none, doneAt := s.now }

/-- The ports after a commit of their words. -/
def acpCommit (s : State) : State := (List.finRange 8).foldl (fun s p => acpPortOff p s) s

/-- ACP.STATp. -/
def State.acpStat (s : State) (p : Fin 8) : W16 :=
  let x := s.port p
  let seen := match x.clkAt with | some a => decide (s.now ≤ a + Config.us 10) | none => false
  w16 ((match x.link with | .down => 0 | .up => 1 | .lost => 2) + bitVal x.dioLow 2 + bitVal seen 3 + 16 * x.status +
    256 * x.losses)

/-- ACPp_ALERT_N is low (R319). -/
def State.acpAlert (s : State) (p : Fin 8) : Bool :=
  s.acpOn p && (s.acpLoops p).any fun n => (s.loop n).acp.arrived || (s.loop n).acp.faulted

end Sys2Proof.Machine
end

