-- ==== Sys2Proof/Machine/Lane.lean ====
section
/-! DEFINITION. A lane's array (06_control_engine.md R178, R179): the output and state parts of its loops'
steps, run in the order of the arbitration, in CCLK cycles. -/

namespace Sys2Proof.Machine

open Sys2Proof

/-- `a` runs before `b` among ready output parts: the earlier acquisition end, then the lower loop (R179). -/
def outBefore (a b : LaneJob) : Bool :=
  decide (a.acqEnd < b.acqEnd) || (decide (a.acqEnd = b.acqEnd) && decide (a.n.val ≤ b.n.val))

/-- `a` runs before `b` among ready state parts: the earlier next acquisition end, then the lower loop (R179). -/
def stateBefore (a b : LaneJob) : Bool :=
  decide (a.nextAcq < b.nextAcq) || (decide (a.nextAcq = b.nextAcq) && decide (a.n.val ≤ b.n.val))

/-- The first job of a list under an order. -/
def firstJob (le : LaneJob → LaneJob → Bool) : List LaneJob → Option LaneJob
  | [] => none
  | j :: r => match firstJob le r with | none => some j | some k => if le j k then some j else some k

/-- Replace the job of a loop. -/
def putJob (j : LaneJob) (l : List LaneJob) : List LaneJob := j :: l.filter fun k => decide (k.n ≠ j.n)

/-- Spend `c` cycles of a state part: the compensator and damping first, the Layer update last (R178). -/
def spendState (c : Nat) (j : LaneJob) : LaneJob :=
  { j with state := j.state - c, layer := j.layer - (c - j.state) }

/-- The earliest time after `at_` at which a waiting output part becomes ready. -/
def nextReady (l : List LaneJob) (at_ : Nat) : Option Nat :=
  (l.filter fun j => decide (0 < j.out) && decide (at_ < j.readyAt)).foldl
    (fun m j => match m with | none => some j.readyAt | some k => some (min k j.readyAt)) none

/-- Run the array until `t` (R179): one job piece for each unit of fuel. -/
def laneRun : Nat → Nat → Lane → Lane
  | 0, _, l => l
  | fuel + 1, t, l =>
    if t ≤ l.at_ then l else
    match firstJob outBefore (l.jobs.filter fun j => decide (0 < j.out) && decide (j.readyAt ≤ l.at_)) with
    | some j =>
      let c := min j.out ((t - l.at_) / Config.cclk)
      if c = 0 then l else
      laneRun fuel t { jobs := putJob { j with out := j.out - c } l.jobs, at_ := l.at_ + c * Config.cclk }
    | none =>
      let stop := match nextReady l.jobs l.at_ with | some r => min r t | none => t
      match firstJob stateBefore (l.jobs.filter fun j => decide (j.out = 0) && decide (0 < j.state + j.layer)) with
      | some j =>
        let c := min (j.state + j.layer) ((stop - l.at_ + Config.cclk - 1) / Config.cclk)
        if c = 0 then { l with at_ := stop } else
        laneRun fuel t { jobs := putJob (spendState c j) l.jobs, at_ := l.at_ + c * Config.cclk }
      | none => laneRun fuel t { l with at_ := stop }

/-- The array brought to time `t`. -/
def laneAdvance (t : Nat) (l : Lane) : Lane := laneRun 64 t l

/-- The unfinished work of a loop's last step. -/
def Lane.job (l : Lane) (n : Fin 16) : LaneJob := (l.jobs.find? fun j => decide (j.n = n)).getD { n }

/-- The lane of LPn (R174). -/
def laneOf (n : Fin 16) : Fin 4 := ⟨n.val / 4, by omega⟩

def State.updLane (s : State) (n : Fin 16) (f : Lane → Lane) : State :=
  { s with lanes := s.lanes.set (laneOf n) (f s.lanes[laneOf n]) }

end Sys2Proof.Machine
end

