-- ==== Sys2Proof/Machine/Engine.lean ====
section
/-! DEFINITION. The control engine (06_control_engine.md): a sample boundary and the end of an acquisition with the step of
the loop law (07_loop_law.md), the overrun ladder, the snapshot, and the two views that Proof compares (03 R101, R102). -/

namespace Sys2Proof.Machine

open Sys2Proof

/-! ### The pairs of views (R101, R102) -/

/-- Pair k of LPn differs. -/
def State.pairDiffers (s : State) (n : Fin 16) (k : Fin 4) : Bool :=
  let l := s.loop n
  let reg := decide (l.sp.st = .regulate)
  match k.val with
  | 0 => if bitAt s.win.loopOn n.val then !(reg || decide (l.sp.st = .transition)) else decide (l.sp.st ≠ .off)
  | 1 => reg && decide (fld (s.lp n 3) 2 0 = 0) && decide (2 < ((s.lp n 0).toNat - l.eng.vref.toNat : Int).natAbs)
  | 2 => reg && (decide (l.mod.sw.length < fld (s.lp n 0x1F) 6 0) || decide (fld (s.lp n 0x20) 6 0 < l.mod.sw.length))
  | _ => reg && (decide ((s.fswAct n).toNat < s.fLo n) || decide (s.fHi n < (s.fswAct n).toNat))

/-- A difference of pair k of LPn is explained. -/
def State.pairExplained (s : State) (n : Fin 16) (k : Fin 4) : Bool :=
  let l := s.loop n
  match k.val with
  | 0 => decide (l.sp.st = .hiccupWait) || decide (l.sp.st = .latched) || decide (l.sp.st = .crowbar) ||
      decide (s.power.g = .killed) || decide (s.power.g = .gasp) || !s.ownStart n
  | 1 => false
  | 2 => ((s.mappedPhases n).any fun m => !(s.phase m).removed.isEmpty || (s.phase m).back) || l.mod.blankOn || l.prt.latch
  | _ => s.stb.gliding || l.prt.latch

/-- One pair's timer (R102). -/
def pairNote (n : Fin 16) (k : Fin 4) (s : State) : State :=
  let run := s.pairDiffers n k && !s.pairExplained n k
  let p := s.par
  if run then
    (if (p.timers.lookup (n, k)).isSome then s
     else { s with par := { p with timers := p.timers ++ [((n, k), s.now)] } })
  else { s with par := { p with
    timers := p.timers.filter fun x => decide (x.1 ≠ (n, k))
    fired := p.fired.filter fun x => decide (x ≠ (n, k)) } }

/-- The four timers of LPn. -/
def pairsNote (n : Fin 16) (s : State) : State := (List.finRange 4).foldl (fun s k => pairNote n k s) s

/-- The requested and the actual value of pair k (R102). -/
def State.pairValues (s : State) (n : Fin 16) (k : Fin 4) : W16 × W16 :=
  let l := s.loop n
  match k.val with
  | 0 => (w16 (bitVal (bitAt s.win.loopOn n.val) 0), w16 l.sp.st.code)
  | 1 => (s.targetOf n, l.eng.vref)
  | 2 => (w16 (if l.mod.sw.length < fld (s.lp n 0x1F) 6 0 then fld (s.lp n 0x1F) 6 0 else fld (s.lp n 0x20) 6 0),
      w16 l.mod.sw.length)
  | _ => (w16 (if (s.fswAct n).toNat < s.fLo n then s.fLo n else s.fHi n), s.fswAct n)

/-- DISAGREE of pair k of LPn (R102, R483): two entries, the second one marked CONT. -/
def disagree (n : Fin 16) (k : Fin 4) (s : State) : State :=
  let v := s.pairValues n k
  let s := { s with par := { s.par with fired := s.par.fired ++ [(n, k)] } }
  (s.offer (s.eventEntry 0x12 (some n) false false v.1 k.val)).offer (s.eventEntry 0x12 (some n) false true v.2 k.val)

/-- DISAGREE (R102 to R104). -/
def execDisagree (t : Nat) (n : Fin 16) (k : Fin 4) (s : State) : Ans :=
  gated t (fun s => s.up && bitAt (s.pg 1 1) k.val && decide (twCount (s.pg 1 0) ≠ 0) && !s.par.fired.contains (n, k) &&
      (match s.par.timers.lookup (n, k) with | some a => decide (a + twDur (s.pg 1 0) < s.now) | none => false))
    (disagree n k) s

/-- LPn.REQ_ACT_DIFF (R101). -/
def State.reqActDiff (s : State) (n : Fin 16) : W16 :=
  w16 ((List.finRange 4).foldl (fun a k =>
    a + bitVal (s.pairDiffers n k && !s.pairExplained n k) k.val + bitVal (s.pairDiffers n k && s.pairExplained n k) (4 + k.val)) 0)

/-! ### Sample boundaries (R176, R196, R198, R215, R216) -/

/-- The lane of LPn runs it (R175, R49). -/
def State.laneOn (s : State) (n : Fin 16) : Bool :=
  s.kennel15 n || (s.power.vaux && (s.up || decide (s.power.g = .boot)))

/-- Rung 3 (R198): the rate halves at the next boundary on the doubled period. -/
def halveRate (n : Fin 16) (s : State) : State :=
  let g := (s.loop n).eng
  if g.rung3 && decide ((s.now - s.grid - seatOf n) % (2 * s.samplePeriod n) = 0) then
    let s := s.updEng n fun g => { g with halved := true, rung3 := false, holdRun := 0, cleanRun := 0 }
    s.event 0x1A (some n) (w16 (fld (s.lp n 0x0D) 2 0 + 1)) 0
  else s

/-- The saturation-time supervisor at one boundary (R215, R216). -/
def superviseSat (n : Fin 16) (s : State) : State :=
  let w := s.lp n 0x1C
  let p := s.samplePeriod n
  let g := (s.loop n).eng
  if twCount w = 0 then s.updEng n fun g => { g with satAcc := 0, satRaised := false }
  else
    let a := if g.ceilFlag || g.floorFlag then g.satAcc + 8 * p else g.satAcc - p
    let excess := decide (8 * twDur w < a)
    let s := s.updEng n fun g => { g with satAcc := a, satRaised := decide (a ≠ 0) && (g.satRaised || excess) }
    if excess && !g.satRaised then s.raiseFree n 0x09 else s

/-- The reference-DAC word of a boundary (R208, R209, R435, R443): the effective reference plus v_d plus v_inj, held to VMIN
to VMAX where a damping or injection term is added. The droop is that of the step before; without one there is none. -/
def loadDac (n : Fin 16) (s : State) : State :=
  let g := (s.loop n).eng
  let eff := effectiveRef g.vref (s.lp n 2) (s.lp n 1) g.d
  let s := s.updEng n fun g => { g with veff := eff, d := 0 }
  let r := sweepInject n s
  let add := r.1 + s.dampRef n
  let s := r.2
  if add = 0 then s.updSense n fun c => { c with dac := eff }
  else
    let v : Int := eff.toNat + scaled add 1
    let lo : Int := (s.lp n 2).toNat
    let hi : Int := (s.lp n 1).toNat
    let s := if (v < lo ∨ hi < v) ∧ s.sweepInjects n = true then s.updSwp fun w => { w with clip := true } else s
    s.updSense n fun c => { c with dac := satU16 (clampI lo hi v) }

/-- The no-sink window closes at the boundary after the fourth step with e ≥ 0, and outside RAMP_UP (R284). -/
def closeNoSink (n : Fin 16) (s : State) : State :=
  s.updSp n fun p => if p.noSink && (decide (4 ≤ p.posRun) || decide (p.st ≠ .rampUp)) then { p with noSink := false } else p

/-- The mode of the sample that begins (R131). -/
def takeMode (n : Fin 16) (s : State) : State :=
  s.updSense n (sampleMode (fld (s.pgL n 4 n.val) 1 0) (s.loop n).sp.since s.now (s.st n))

/-- A sample boundary under the configured law. After a held sample the reference DAC keeps its word (R196). -/
def sampleBoundary (n : Fin 16) (s : State) : State :=
  let s := staleEnd n (closeNoSink n (boundaryState n (takeMode n (layerMarks n s))))
  let s := if (s.st n).running then superviseSat n (halveRate n s) else s
  let r := s.refNow n
  let s := s.updSp n fun p => { p with ref := r, refAt := s.now }
  let s := s.updEng n fun g => { g with vref := vrefWord r }
  let s := if (s.loop n).eng.held then s else loadDac n s
  let s := s.updEng n fun g => { g with sampled := true, sampleAt := s.now, held := false }
  let s := arrivalNote n (layerBoundary n s)
  vinNote n (pairsNote n s)

/-- A sample boundary of LP15 under the kennel law (R27): the fixed ramp, then the target. Once the PLL has locked, lane 3
moves to CCLK here (R38). -/
def kennelBoundary (n : Fin 16) (s : State) : State :=
  let p := (s.loop n).sp
  let s := if p.st = .rampUp ∧ p.startAt + p.dur ≤ s.now then
      s.updSp n fun p => { p with st := .regulate, since := s.now } else s
  let v := vrefWord (s.refNow n)
  let s := { s with power := { s.power with lane3Cclk := s.power.lane3Cclk || s.power.pll } }
  let s := s.updEng n fun g => { g with vref := v, veff := v, sampled := true, sampleAt := s.now }
  let s := s.updSense n fun c => { c with dac := v, full := true }
  if s.up then pairsNote n s else s

/-- SAMPLE_BOUNDARY (R176). -/
def execSampleBoundary (t : Nat) (n : Fin 16) (s : State) : Ans :=
  gated t (fun s => s.laneOn n && s.isBoundary n && s.unsampled n)
    (fun s => if s.kennel15 n then kennelBoundary n s else sampleBoundary n s) s

/-! ### The end of an acquisition (R124 to R134, R177) -/

/-- The longest arbitration delays of the last 1,024 samples (R126), the largest first. -/
def arbNote (delay : Nat) (c : LoopSense) : LoopSense :=
  let k := c.arbCnt + 1
  { c with
    arbCnt := k
    arb := (c.arb.filter fun x => decide (delay < x.1) && decide (k < x.2 + 1024)) ++ [(delay, k)] }

/-- The channel takes its result (R124 to R134). -/
def takeSense (n : Fin 16) (codes : List Int) (sup : Option Int) (s : State) : State :=
  let w := s.pgL n 4 n.val
  let ken := s.kennel15 n
  let delay := (s.now - (s.loop n).eng.sampleAt - s.acqTime n) / Config.ns 25
  let st := s.st n
  s.updSense n fun c =>
    arbNote delay (senseAfter (if ken then 2 else fld w 1 0) (!ken && bitAt w 4) st c codes sup)

/-- VOUT of a full-range result during DELAY_ON (R283). -/
def notePreBias (n : Fin 16) (full : Bool) (s : State) : State :=
  if s.st n = .delayOn ∧ full = true then
    s.updSp n fun p => { p with vpb := ((s.loop n).sense.vout :: p.vpb).take 4 }
  else s

/-- What hangs on a new VOUT and IOUT (R350, R353, R356, R360). -/
def noteOutputs (n : Fin 16) (s : State) : State :=
  let s := octNote n (uvNote n (ovSettle n s))
  forLoops vinNote (allLoops.filter fun k => let w := s.lp k 0x2A
    bitAt w 15 && decide (fld w 6 5 = 1) && decide (fld w 4 0 = n.val)) s

/-! ### The step (R178, R206 to R214) -/

/-- LAYER and DAMP of R178. -/
def State.stepLayer (s : State) (n : Fin 16) : Nat := if s.lyrOn n then 1 else 0
def State.stepDamp (s : State) (n : Fin 16) : Nat := if bitAt (s.dampCtl n) 0 then 1 else 0

/-- The latest usable VIN and k_vin of a step (R210, R235). -/
def takeVin (n : Fin 16) (s : State) : State :=
  let ff := s.lp n 0x18
  let en := bitAt (s.lp n 0x2A) 15
  let v := if en then s.vinOf n else none
  s.updEng n fun g =>
    let g := match v with | some x => { g with vinLast := some x } | none => g
    if bitAt ff 0 && en then
      (match v with
       | some x => { g with kvin := kvinOf (fld ff 15 8) x, kvinSet := true }
       | none => if g.kvinSet then g else { g with kvin := 8192 })
    else { g with kvin := 8192, kvinSet := false }

/-- i_slew of a step in stage-3 mantissa LSBs, exact (R211). -/
def State.slewTerm (s : State) (n : Fin 16) (e3 : Int) : Frac :=
  let g := (s.loop n).eng
  match g.prevAt with
  | some a =>
    if bitAt (s.lp n 0x18) 1 then
      slewOf (s.lp n 0x19).toNat ((g.vref.toNat : Int) - g.prevVref.toNat) (g.sampleAt - a) (s.rho n) e3
    else ⟨0, 1⟩
  | none => ⟨0, 1⟩

/-- A current in 2^−48 A in stage-3 mantissa LSBs. -/
def dampTerm (x : Int) (e3 : Int) : Frac := Frac.mul ⟨x * 4096, 2 ^ 48⟩ (Frac.pow2 (-e3))

/-- What a step leaves in the engine's part of a loop. -/
def storeStep (o : LawOut) (e3 : Int) (exps : W16) (g : LoopEng) : LoopEng :=
  { g with
    xI := o.xI
    s1 := o.s1
    s2 := o.s2
    s3 := o.s3
    s4 := o.s4
    accL := o.layerM * 2 ^ 15
    accD := o.dampM * 2 ^ 15
    accC := o.cmdM * 2 ^ 15
    exps := exps
    ceilFlag := o.ceil
    floorFlag := o.floor
    preload := none
    icmd := satS16 (mantCurrent o.cmdM e3).roundEven
    wErr := BitVec.ofInt 16 o.eM
    wRaw := BitVec.ofInt 16 o.rawM
    wCmd := BitVec.ofInt 16 o.cmdM
    wLayer := BitVec.ofInt 16 o.layerM
    wDamp := BitVec.ofInt 16 o.dampM
    wExps := exps
    wSat := decide (o.sats ≠ 0) || g.shiftSat
    shiftSat := false
    satCnt := min 255 (g.satCnt + o.sats)
    steps := (g.steps + 1) % 65536
    prevVref := g.vref
    prevAt := some g.sampleAt }

/-- IOUT and the droop of the next boundary's word (R208, R267); with LL_SRC the current is i_cmd less i_slew, here `slew` as a
stage-3 mantissa. -/
def takeDroop (n : Fin 16) (slew : Int) (s : State) : State :=
  let s := s.updMod n fun m => { m with iout := s.sumPhases n }
  let g := (s.loop n).eng
  let iLL := if s.stale n then g.iLL else (s.loop n).mod.iout.toInt
  let e3 := expsNib g.exps 3
  let i : Frac := if bitAt (s.lp n 0x18) 2 then (mantCurrent g.wCmd.toInt e3).sub (mantCurrent slew e3) else ⟨iLL, 1⟩
  let on := decide (s.st n = .regulate) || decide (s.st n = .transition)
  let d := if on then droop (s.loadLine n) i (s.rho n) else 0
  s.updEng n fun g => { g with iLL := iLL, d := d }

/-- A step's place on the array (R178, R179); saturations add two cycles each (R186), and Layer costs nothing at the halved
rate. -/
def placeJob (n : Fin 16) (layer dmp sats : Nat) (s : State) : State :=
  let lay := if (s.loop n).eng.halved then 0 else layer
  let j : LaneJob :=
    { n := n
      readyAt := s.now + 8 * Config.cclk
      out := 24 + 2 * lay + 2 * dmp
      state := 12 + 2 * dmp + 2 * sats
      layer := 4 * lay
      acqEnd := s.now
      nextAcq := s.now + s.samplePeriod n }
  (s.updLane n fun l => { l with jobs := putJob j l.jobs }).updEng n fun g => { g with stepOpen := some true }

/-- One completed step of LPn (R206); `x` is the acquisition's result and `full` and `dac` its mode and reference. -/
def step206 (n : Fin 16) (full : Bool) (dac : W16) (x : Frac) (skip : Bool) (s : State) : State :=
  let s := takeVin n s
  let g := (s.loop n).eng
  let exps := s.lp n 0x16
  let e3 := expsNib exps 3
  let e := senseError full dac x
  let slew := s.slewTerm n e3
  let lay := if s.lyrOn n then s.layerTerm n e3 else ⟨0, 1⟩
  let dr := dampStep n s
  let s := dr.2
  let dmp := if bitAt (s.dampCtl n) 0 then dampTerm dr.1 e3 else ⟨0, 1⟩
  let o := lawStep (s.coefs n)
    { e := e
      kvin := g.kvin
      preload := g.preload
      slew := slew
      layer := lay
      damp := dmp
      floorM := if (s.loop n).sp.noSink then 0 else currentMant (s.lp n 0x1B) e3
      ceilM := currentMant (s.lp n 0x1A) e3 } g
  let s := s.updEng n fun g => recordNeeds o.need { storeStep o e3 exps g with wSkip := skip }
  let s := s.updSp n fun p => { p with posRun := if 0 ≤ o.eM then p.posRun + 1 else 0 }
  let s := takeDroop n o.slewM s
  let s := adaptPhases n e (noteLoad n e (peakUpdate n s))
  let s := layerRecord n o.eM (o.ceil || o.floor) s
  let s := sweepSample n g.sampleAt (s.loop n).sense.vout (s.loop n).mod.iout s
  placeJob n (s.stepLayer n) (s.stepDamp n) o.sats s

/-- One step of the kennel law (R27, R39, R175). The specification gives the law's properties and no coefficients: its command
and its mantissas are free words, the command not below 0 in the start ramp, which does not sink; its peak word stays at or
below 1.35 V, 864 LSB of the monitor scale (DESIGN CHOICE, notes/assumptions/74.md). -/
def kennelStep (n : Fin 16) (s : State) : State :=
  let r := freeWords 11 s
  let w (i : Nat) : W16 := r.1.getD i 0
  let b := r.2.freeBool
  let s := b.2
  let cmd := if s.st n = .rampUp then w 0 &&& 0x7FFF else w 0
  let s := s.updPhase 63 fun p => { p with peak := min 864 ((w 1).toNat % 1024), rampNext := 0 }
  let s := s.updEng n fun g =>
    { g with
      icmd := cmd
      wErr := w 2
      xI := (w 3).toInt * 2 ^ 24
      s1 := (w 4).toInt * 2 ^ 24
      s2 := (w 5).toInt * 2 ^ 24
      s3 := (w 6).toInt * 2 ^ 24
      s4 := (w 7).toInt * 2 ^ 24
      wRaw := w 8
      wCmd := w 9
      wLayer := 0
      wDamp := 0
      wExps := w 10
      wSat := b.1
      wSkip := false
      ceilFlag := false
      floorFlag := false
      steps := (g.steps + 1) % 65536
      prevVref := g.vref
      prevAt := some g.sampleAt }
  if s.power.lane3Cclk then placeJob n 0 0 0 s else s

/-- Rung 1 (R195): the Layer update of the sample before is abandoned. -/
def abandonLayer (n : Fin 16) (s : State) : State :=
  let s := layerAbandon n (s.updEng n fun g => { g with skipCnt := inc8 g.skipCnt, wSkip := true })
  s.updLane n fun l => { l with jobs := putJob { l.job n with layer := 0 } l.jobs }

/-- Rung 2 and what hangs on it (R196 to R198, R200): the sample is held. -/
def holdSample (n : Fin 16) (s : State) : State :=
  let g := (s.loop n).eng
  let run := g.holdRun + 1
  let four := g.halved && decide (64 ≤ run) && !g.ovrRaised
  let s := s.updEng n fun g => { g with
    held := true
    ovrCnt := min 4095 (g.ovrCnt + 1)
    holdRun := run
    cleanRun := 0
    sinceHold := 0
    rung3 := g.rung3 || (!g.halved && decide (16 ≤ run))
    ovrRaised := g.ovrRaised || four
    stepOpen := some false }
  layerHeld n (if four then s.raiseFree n 0x0A else s)

/-- A sample whose step has completed without a hold (R194, R197): the sixteenth in a row ends the run of holds. -/
def cleanSample (g : LoopEng) : LoopEng :=
  { g with cleanRun := g.cleanRun + 1, holdRun := if 16 ≤ g.cleanRun + 1 then 0 else g.holdRun }

/-- The array of LPn's lane accounted for up to now. -/
def laneNow (n : Fin 16) (s : State) : State :=
  s.updLane n fun l => if l.jobs = [] then { l with at_ := s.now } else laneAdvance s.now l

/-- LPn's last step is judged once its state part has ended (R194). -/
def settleStep (n : Fin 16) (s : State) : State :=
  let j := s.lanes[laneOf n].job n
  if 0 < j.out + j.state then s
  else s.updEng n fun g =>
    let g := if g.stepOpen = some true then cleanSample g else g
    { g with stepOpen := none }

/-- The end of an acquisition of a loop that runs steps: the ladder, then the step. -/
def runningEnd (n : Fin 16) (full : Bool) (dac : W16) (x : Frac) (s : State) : State :=
  let s := settleStep n (laneNow n s)
  let j := s.lanes[laneOf n].job n
  let skip := decide (0 < j.layer)
  let s := if skip then abandonLayer n s else s
  if 0 < j.out + j.state then holdSample n s
  else step206 n full dac x skip (s.updEng n fun g => { g with sinceHold := min 16 (g.sinceHold + 1) })

/-- The end of an acquisition (R176, R178). -/
def acquisitionEnd (n : Fin 16) (codes : List Int) (sup : Option Int) (s : State) : State :=
  let c := (s.loop n).sense
  let x := senseResult c.full codes
  let s := takeSense n codes sup s
  let s := s.updEng n fun g => { g with sampled := false }
  if s.kennel15 n then kennelStep n (settleStep n (laneNow n s))
  else
    let s := notePreBias n c.full s
    let s := if (s.st n).running then runningEnd n c.full c.dac x s else s
    noteOutputs n s

/-- The sample in progress of LPn carries the supplementary conversion of R133. -/
def State.checkNow (s : State) (n : Fin 16) : Bool :=
  !s.kennel15 n && bitAt (s.pgL n 4 n.val) 4 && (s.loop n).sense.checkDue

/-- ACQUISITION_END (R124, R177, R178): the codes of the acquisition's conversions and of the supplementary one. -/
def execAcquisitionEnd (t : Nat) (n : Fin 16) (codes : List Int) (sup : Option Int) (s : State) : Ans :=
  gated t (fun s => s.laneOn n && (s.loop n).eng.sampled && decide (codes.length = s.acqCount n) && s.acqEnds n &&
      decide (sup.isSome = s.checkNow n))
    (acquisitionEnd n codes sup) s

/-! ### Snapshots (R190 to R193) -/

/-- LPn runs steps. -/
def State.stepping (s : State) (n : Fin 16) : Bool := (s.st n).running || s.kennel15 n

/-- W_SNAP. -/
def State.snapWord (s : State) : W16 := w16 (s.snap.loop.val + 256 * s.snap.index + bitVal s.snap.busy 15)

/-- A write of W_SNAP (R190). -/
def snapWrite (w : W16) (s : State) : State :=
  if s.snap.busy then s
  else { s with snap := { s.snap with
    loop := ⟨fld w 3 0 % 16, by omega⟩
    index := 0
    busy := bitAt w 15
    reqAt := s.now } }

/-- SNAP_REQUEST (R190). -/
def execSnapRequest (t : Nat) (w : W16) (s : State) : Ans := strobed t (fun _ => true) (snapWrite w) s

/-- Bits [39:24] of an accumulator. -/
def accHigh (x : Int) : W16 := BitVec.ofInt 16 (x / 2 ^ 24)

/-- The frame of LPn (R192). -/
def State.snapFrame (s : State) (n : Fin 16) (cap : Nat) : List W16 :=
  let g := (s.loop n).eng
  let law := if s.kennel15 n then 1 else if (s.st n).running then 0 else 2
  [w16 (n.val + 16 * law + bitVal g.halved 7 + 256 * (cap % 256)), w16 s.power.bootCnt.toNat, w16 g.steps, s.stateWord n,
    g.wErr, accHigh g.xI, accHigh g.s1, accHigh g.s2, accHigh g.s3, accHigh g.s4, g.wRaw, g.wCmd,
    (if s.lyrOn n then g.wLayer else 0), (if bitAt (s.dampCtl n) 0 then g.wDamp else 0), g.wExps,
    w16 (bitVal g.ceilFlag 0 + bitVal g.floorFlag 1 + bitVal g.wSat 2 + bitVal g.wSkip 3 + bitVal (decide (g.sinceHold < 16)) 4 +
      256 * min 255 g.holdRun)]

/-- A capture: the step before it is complete, and is judged. -/
def capture (s : State) : State :=
  let s := settleStep s.snap.loop (laneNow s.snap.loop s)
  let c := s.snap.captures + 1
  let f := s.snapFrame s.snap.loop c
  { s with snap := { s.snap with busy := false, captures := c, frame := f } }

/-- SNAPSHOT_CAPTURE (R191): at a boundary of the loop at which its previous step is complete, or at once for a loop that
runs no steps. -/
def execSnapshotCapture (t : Nat) (s : State) : Ans :=
  gated t (fun s =>
      let n := s.snap.loop
      let j := (laneAdvance s.now s.lanes[laneOf n]).job n
      s.up && s.snap.busy && (!s.stepping n || (s.isBoundary n && decide (s.snap.reqAt < s.now) && decide (j.out + j.state + j.layer = 0))))
    capture s

/-- SNAP_DATA_READ (R193): a completed read of W_SNAP_DATA. -/
def execSnapDataRead (t : Nat) (s : State) : Ans :=
  slotRead t (fun s => { s with
      win := { s.win with adOut := s.snap.frame.getD s.snap.index 0 }
      snap := { s.snap with index := (s.snap.index + 1) % 16 } }) s

/-! ### The ladder's registers (R194 to R201) -/

/-- A write to DEV.ENG_CLR. -/
def engClr (w : W16) (s : State) : State :=
  forLoops (fun n s => s.updEng n fun g => { g with ovrCnt := 0, satCnt := 0, skipCnt := 0 }) (bitsOf w) s

/-- ENG_CLR. -/
def execEngClr (t : Nat) (w : W16) (s : State) : Ans := strobed t (fun _ => true) (engClr w) s

/-- A write to DEV.ENG_RESTORE (R201): a loop that is not halved ignores it. -/
def engRestore (w : W16) (s : State) : State :=
  forLoops (fun n s => s.updEng n fun g => { g with restore := g.restore || g.halved }) (bitsOf w) s

/-- ENG_RESTORE. -/
def execEngRestore (t : Nat) (w : W16) (s : State) : Ans := strobed t (fun _ => true) (engRestore w) s

/-- RATE_RESTORE (R201): at the next boundary on the configured grid. -/
def execRateRestore (t : Nat) (n : Fin 16) (s : State) : Ans :=
  gated t (fun s => let g := (s.loop n).eng
      s.up && g.halved && g.restore && decide (s.grid + seatOf n ≤ s.now) &&
      decide ((s.now - s.grid - seatOf n) % (Config.gridCycle * 2 ^ fld (s.lp n 0x0D) 2 0) = 0))
    (fun s => s.updEng n fun g => { g with
      halved := false
      restore := false
      rung3 := false
      ovrRaised := false
      holdRun := 0
      cleanRun := 0 }) s

/-- LPn.OVR_CNT. -/
def State.ovrWord (s : State) (n : Fin 16) : W16 :=
  let g := (s.loop n).eng
  w16 (g.ovrCnt + bitVal g.halved 12 + bitVal g.ovrRaised 13)

/-- DEV.ENG_STAT. -/
def State.engStat (s : State) : W16 :=
  w16 ((List.range 4).foldl (fun a k => a + bitVal (allLoops.any fun n => decide (n.val / 4 = k) && (s.loop n).eng.halved) k) 0 +
    bitVal (decide (s.power.law15 = .kennel)) 4)

/-- The step cost C of LPn (R178) under a given view of its words. -/
def stepCost (lyrCtl dampCtl : W16) : Nat := 36 + (if bitAt lyrCtl 0 then 6 else 0) + (if bitAt dampCtl 0 then 4 else 0)

/-- The load of lane k in 1/320,000,000 (R182), times 32: Σ fs × C in kHz. -/
def State.laneLoad (s : State) (k : Nat) : Nat :=
  (allLoops.filter fun n => decide (n.val / 4 = k) && decide (s.mappedPhases n ≠ [])).foldl (fun a n =>
    a + (if s.kennel15 n then 100 * 36 else (2000 * stepCost (s.lyrCtl n) (s.dampCtl n)) / 2 ^ fld (s.lp n 0x0D) 2 0)) 0

/-- LANE_LOADk in per mille, rounded up. -/
def State.laneLoadWord (s : State) (k : Nat) : W16 := w16 ((s.laneLoad k + 319) / 320)

/-! ### Layer clear and the enable inputs -/

/-- LYR_CLR (R340): a write to LYR.CLR. -/
def execLyrClr (t : Nat) (w : W16) (s : State) : Ans := strobed t (fun _ => true) (lyrClear w) s

/-- PIN.GCFGg in use. -/
def State.gcfg (s : State) (g : Fin 24) : W16 := s.pg 0x3C g.val

/-- The level of LPn's enable input (R275, R546): active where no GPIO is configured as one; an input without its bank
supply reads as inactive (R25). -/
def State.enInput (s : State) (n : Fin 16) : Bool :=
  match (List.finRange 24).find? fun g => decide (fld (s.gcfg g) 2 0 = 2) && decide (fld (s.gcfg g) 11 8 = n.val) with
  | some g => s.power.vddioL && (s.pins.gpio[g] ^^ bitAt (s.gcfg g) 3)
  | none => true

/-- A change of a loop's enable input waits for the first boundary at least 1 µs later (R275). -/
def enableNote (n : Fin 16) (s : State) : State :=
  let now := s.enInput n
  let p := (s.loop n).sp
  let known := match p.enPend.getLast? with | some (l, _) => l | none => p.enPin
  if now = known then s else s.updSp n fun p => { p with enPend := p.enPend ++ [(now, s.now)] }

/-- A level at GPIO g. -/
def setGpio (g : Fin 24) (high : Bool) (s : State) : State := { s with pins := { s.pins with gpio := s.pins.gpio.set g high } }

/-- ENABLE_INPUT_CHANGE (R275): the level at GPIO g changes. -/
def execEnableInputChange (t : Nat) (g : Fin 24) (high : Bool) (s : State) : Ans :=
  gated t (fun s => s.power.vaux) (fun s => forLoops enableNote allLoops (setGpio g high s)) s

end Sys2Proof.Machine
end

