-- ==== Sys2Proof/Machine/Validate.lean ====
section
/-! DEFINITION. Validation of a configuration (03_proof_and_commit.md R98, and the refusal tables of the other chapters): the
failed checks of a state whose values in use are the configuration to be judged. -/

namespace Sys2Proof.Machine

open Sys2Proof

/-- A failed check: its code (R98) and the address of its word, 0xFFFF for the configuration as a whole. -/
abbrev Fail := Nat × Nat

/-- The check `code` at `a` fails when `c` holds. -/
def failIf (c : Bool) (code a : Nat) : List Fail := if c then [(code, a)] else []

/-- The first failed check of R98, with the lowest address among its words. -/
def firstFail (l : List Fail) : Option Fail :=
  l.foldl (fun b f =>
    match b with
    | none => some f
    | some g => if f.1 < g.1 ∨ (f.1 = g.1 ∧ f.2 < g.2) then some f else b) none

/-- The state that the values in use `use` would make. -/
def State.withUse (s : State) (use : List (Nat × W16)) : State :=
  { s with par := { s.par with inUse := use, phase := .idle } }

/-- The values in use with a commit set applied. -/
def overlay (set : List (Nat × W16)) (use : List (Nat × W16)) : List (Nat × W16) :=
  set.foldl (fun u x => sparseSet paramReset u x.1 x.2) use

/-- Reserved bits that are not 0 (R98, R542). -/
def reservedBits (use : List (Nat × W16)) : List Fail :=
  use.flatMap fun x =>
    match paramInfo x.1 with
    | some p => failIf (decide (x.2 &&& ~~~(BitVec.ofNat 16 p.mask) ≠ 0)) 0x12 x.1
    | none => []

/-- A slot number of a consumer parameter: 0 to 31, or 0xFF for none (05, 11). -/
def slotOk (w : W16) : Bool := decide (w.toNat < 32) || decide (w.toNat = 0xFF)

/-- Some pair of a list satisfies `f`, the second after the first; the second of each such pair. -/
def secondsOf {α : Type} (f : α → α → Bool) : List α → List α
  | [] => []
  | x :: r => (r.filter fun y => f x y) ++ secondsOf f r

/-! ### Loops -/

/-- Encodings and fault actions of a loop page (R98, R128, R130, R222, R279, R293, R307, R343, R372). -/
def State.loopEncodings (s : State) (n : Fin 16) : List Fail :=
  let w (i : Nat) : W16 := s.lp n i
  let sns := s.pgL n 4 n.val
  let heel := w 0x0A
  let acts0 := (List.range 5).map fun k => fld (w 0x27) (3 * k + 2) (3 * k)
  let acts1 := (List.range 5).map fun k => fld (w 0x28) (3 * k + 2) (3 * k)
  failIf (decide (5 < fld (w 0x0D) 2 0)) 0x12 (lpA n 0x0D) ++
  failIf (decide (5 ≤ fld (w 3) 2 0)) 0x12 (lpA n 3) ++
  failIf (decide (fld heel 1 0 = 3) || decide (fld heel 13 12 = 3)) 0x12 (lpA n 0x0A) ++
  failIf (decide (fld (w 0x2C) 1 0 = 3)) 0x12 (lpA n 0x2C) ++
  failIf (decide (fld (w 0x2E) 14 13 = 3)) 0x12 (lpA n 0x2E) ++
  failIf (acts0.any fun a => decide (6 ≤ a)) 0x12 (lpA n 0x27) ++
  failIf (acts1.any fun a => decide (6 ≤ a)) 0x12 (lpA n 0x28) ++
  failIf (decide (fld (w 0x2A) 6 5 = 3)) 0x12 (lpA n 0x2A) ++
  failIf (decide (fld sns 1 0 = 3) || decide (fld sns 3 2 = 3)) 0x12 (pgA 4 n.val) ++
  failIf ((acts0.drop 1).any fun a => decide (a = 5)) 0x13 (lpA n 0x27) ++
  failIf (acts1.any fun a => decide (a = 5)) 0x13 (lpA n 0x28)

/-- Ranges of I_CEIL and I_FLOOR (R222). -/
def State.limitRanges (s : State) (n : Fin 16) : List Fail :=
  failIf (decide ((s.lp n 0x1A).toInt ≤ 0)) 0x14 (lpA n 0x1A) ++ failIf (decide (0 < (s.lp n 0x1B).toInt)) 0x14 (lpA n 0x1B)

/-- Ranges of the set-point and law words of a loop page (R222, R279, R293). -/
def State.loopRangesLow (s : State) (n : Fin 16) : List Fail :=
  let w (i : Nat) : W16 := s.lp n i
  let heel := w 0x0A
  let kind := fld heel 1 0
  let div := (s.pgL n 4 (0x10 + n.val)).toNat
  failIf (decide (64000 < (w 1).toNat)) 0x14 (lpA n 1) ++
  failIf ((decide (kind = 0) || decide (kind = 2)) && decide (15 < fld heel 6 2) ||
      bitAt heel 10 && decide (w 0x0B = 0)) 0x14 (lpA n 0x0A) ++
  failIf (decide ((w 0x0E).toInt ≤ 0)) 0x14 (lpA n 0x0E) ++
  failIf (bitAt (w 0x18) 0 && decide (fld (w 0x18) 15 8 = 0)) 0x14 (lpA n 0x18) ++
  s.limitRanges n ++
  failIf (decide (div ≠ 0) && decide (div < 0x800)) 0x14 (pgA 4 (0x10 + n.val))

/-- Ranges of the modulation, protection and Layer words of a loop page (R224, R231, R257, R263, R343, R372). -/
def State.loopRangesHigh (s : State) (n : Fin 16) : List Fail :=
  let w (i : Nat) : W16 := s.lp n i
  let fsw := (w 0x1D).toNat
  let cnt (v : W16) : Bool := decide (fld v 6 0 = 0) || decide (64 < fld v 6 0)
  let frq (v : W16) : Bool := let f := fld v 15 8; decide (1 ≤ f ∧ f ≤ 9) || decide (250 < f)
  let act (v : W16) (k : Nat) : Bool := decide (fld v (3 * k + 2) (3 * k) = 2)
  failIf (decide (fsw < 100) || decide (2500 < fsw)) 0x14 (lpA n 0x1D) ++
  failIf (decide (64 < fld (w 0x1E) 5 0 + fld (w 0x1E) 12 6)) 0x14 (lpA n 0x1E) ++
  failIf (cnt (w 0x1F) || frq (w 0x1F)) 0x14 (lpA n 0x1F) ++
  failIf (cnt (w 0x20) || frq (w 0x20)) 0x14 (lpA n 0x20) ++
  failIf (decide (fld (w 0x23) 7 3 = 0)) 0x14 (lpA n 0x23) ++
  failIf (decide ((w 0x26).toInt < 0)) 0x14 (lpA n 0x26) ++
  failIf (act (w 0x27) 0 || act (w 0x27) 1 || act (w 0x27) 3) 0x14 (lpA n 0x27) ++
  failIf (act (w 0x28) 1 || act (w 0x28) 2 || act (w 0x28) 3 || act (w 0x28) 4) 0x14 (lpA n 0x28) ++
  failIf (decide (fld (w 0x29) 11 0 = 0)) 0x14 (lpA n 0x29) ++
  failIf (decide (fld (w 0x2A) 6 5 = 2) && decide (1 < fld (w 0x2A) 4 0)) 0x14 (lpA n 0x2A) ++
  failIf (decide (23 < fld (w 0x2E) 7 3)) 0x14 (lpA n 0x2E) ++
  failIf (decide (s.lyrNom n < 16)) 0x14 (lpA n 0x2F)

/-- A voltage outside the 3.000 V to 3.600 V of R36. -/
def kennelOut (v : W16) : Bool := decide (v.toNat < 30000) || decide (36000 < v.toNat)

/-- LP15.VSET under self-bias (R36). -/
def State.kennelVset (s : State) : List Fail := failIf (s.selfBias && kennelOut (s.lp 15 0)) 0x15 (lpA 15 0)

/-- The kennel loop's words under self-bias (R36). -/
def State.kennelChecks (s : State) : List Fail :=
  let n : Fin 16 := 15
  let map := s.baseUse (phA 63 0)
  if !s.selfBias then []
  else
    failIf (decide (s.lp n 0x1E ≠ 0x007F)) 0x15 (lpA n 0x1E) ++
    failIf (bitAt map 4 && decide (fld map 3 0 ≠ 15)) 0x15 (phA 63 0) ++
    s.kennelVset ++
    failIf (kennelOut (s.lp n 1)) 0x15 (lpA n 1) ++
    failIf (kennelOut (s.lp n 2)) 0x15 (lpA n 2)

/-- A section that is not bypassed is not stable as R222 asks. -/
def sectionBad (a1 a2 : Int) : Bool := decide (16384 ≤ a2.natAbs) || decide (16384 + a2 ≤ a1.natAbs)

/-- I_CEIL and I_FLOOR against each other and against stage 3 (R222). -/
def State.limitConflicts (s : State) (n : Fin 16) : List Fail :=
  let ceil := (s.lp n 0x1A).toInt
  let floor := (s.lp n 0x1B).toInt
  let lim := Frac.mul ⟨320, 1⟩ (Frac.pow2 (s.coefs n).e3)
  failIf (decide (ceil ≤ floor)) 0x16 (lpA n 0x1B) ++
  failIf (lim.le (Frac.ofInt ceil)) 0x16 (lpA n 0x1A) ++
  failIf ((Frac.ofInt floor).lt lim.neg) 0x16 (lpA n 0x1B)

/-- The law's words among themselves (R222). -/
def State.lawConflicts (s : State) (n : Fin 16) : List Fail :=
  let c := s.coefs n
  s.limitConflicts n ++
  failIf (!c.byp1 && sectionBad c.a11 c.a12) 0x16 (lpA n 0x12) ++
  failIf (!c.byp2 && sectionBad c.a21 c.a22) 0x16 (lpA n 0x14) ++
  failIf (!c.byp1 && decide ((c.b10 + c.b11 + c.b12) * (16384 + c.a11 + c.a12) ≤ 0)) 0x16 (lpA n 0x0F)

/-- The loop that LPn follows locally (R288). -/
def State.heelNext (s : State) (n : Fin 16) : Option (Fin 16) :=
  let h := s.lp n 0x0A
  if s.isHeel n && decide (fld h 1 0 = 0) then (if k : fld h 6 2 < 16 then some ⟨fld h 6 2, k⟩ else none) else none

/-- Following the local masters from `m` for at most `k` steps comes to `n`. -/
def State.heelReaches (s : State) (n : Fin 16) : Nat → Fin 16 → Bool
  | 0, _ => false
  | k + 1, m =>
    match s.heelNext m with
    | some q => decide (q = n) || s.heelReaches n k q
    | none => false

/-- VSET between VMIN and VMAX (R279). -/
def State.vsetConflict (s : State) (n : Fin 16) : List Fail :=
  failIf (decide (s.lp n 0 < s.lp n 2) || decide (s.lp n 1 < s.lp n 0)) 0x16 (lpA n 0)

/-- The set-point words among themselves (R279, R293, R307). -/
def State.setConflicts (s : State) (n : Fin 16) : List Fail :=
  let h := s.lp n 0x0A
  let vmax := s.lp n 1
  let vmin := s.lp n 2
  let boot := s.lp n 0x2D
  let acp := decide (fld (s.lp n 3) 2 0 = 1)
  s.vsetConflict n ++
  failIf (s.isHeel n && (s.heelReaches n 16 n ||
      decide (fld h 1 0 = 1) && bitAt h 11 ||
      decide (fld h 1 0 = 2) && decide (fld h 9 7 = s.power.pos.toNat))) 0x16 (lpA n 0x0A) ++
  failIf (acp && !bitAt (s.lp n 0x2B) 0) 0x16 (lpA n 0x2B) ++
  failIf (acp && (decide (boot < vmin) || decide (vmax < boot))) 0x16 (lpA n 0x2D)

/-- PHm lies in the list of LPn. -/
def State.inList (s : State) (n : Fin 16) (m : Fin 64) : Bool :=
  let l := s.lp n 0x1E
  decide (fld l 5 0 ≤ m.val) && decide (m.val < fld l 5 0 + fld l 12 6)

/-- The phase map and the phase-count words of a loop (R140, R257, R263). -/
def State.phaseConflicts (s : State) (n : Fin 16) : List Fail :=
  let ms := s.mappedPhases n
  let nmin := fld (s.lp n 0x1F) 6 0
  let fsw := (s.lp n 0x1D).toNat
  let vmax : Frac := ⟨(s.lp n 1).toNat, 1⟩
  failIf (decide (fld (s.lp n 0x20) 6 0 < nmin) ||
      decide (ms ≠ []) && decide ((ms.filter fun m => !s.outOfService n m).length < nmin)) 0x16 (lpA n 0x1F) ++
  failIf (decide (fld (s.lp n 0x21) 9 0 ≤ fld (s.lp n 0x22) 9 0)) 0x16 (lpA n 0x22) ++
  failIf (decide (fsw < s.fLo n) || decide (s.fHi n < fsw)) 0x16 (lpA n 0x1D) ++
  (match ms.find? fun m => !bitAt (s.ph n m 1) 15 with
   | some m => failIf ((Frac.mul ⟨55000, 1⟩ (s.rho n)).lt vmax) 0x16 (phA m 1)
   | none => [])

/-- LEAD and the smoothing against the period (R343). -/
def State.leadConflict (s : State) (n : Fin 16) : List Fail :=
  failIf (decide (s.lyrNom n ≤ 2 * (s.lyrLead n + s.lyrHalf n))) 0x16 (lpA n 0x30)

/-- The Layer words of a loop (R343, R549). -/
def State.layerConflicts (s : State) (n : Fin 16) : List Fail :=
  let c := s.lyrCtl n
  let g := fld c 7 3
  let strobe := s.lyrOn n && decide (s.lyrSrc n = 1) && decide (g < 24) && decide (fld (s.baseUse (pgA 0x3C g)) 2 0 ≠ 3)
  let p := s.lyrNom n
  failIf strobe 0x16 (lpA n 0x2E) ++
  failIf (decide (s.lyrSrc n = 2) && !bitAt (s.lp n 0x2B) 0) 0x16 (lpA n 0x2E) ++
  failIf (decide (p ≤ 2 * s.lyrWin n)) 0x16 (lpA n 0x2F) ++
  s.leadConflict n

/-- What damping asks of C_OUT_EST, of the fast channel and of its period (R456). -/
def State.dampConflict (s : State) (n : Fin 16) : List Fail :=
  let damp := s.lp n 0x31
  let fastEn := bitAt (s.baseUse (pgA 2 9)) (if bitAt damp 1 then 14 else 6)
  let per := twDur (s.baseUse (pgA 2 0x0A)) * 10 * (s.baseUse (pgA 0x32 0x10)).toNat
  failIf (bitAt damp 0 && (decide (s.lp n 0x19 = 0) || !fastEn || decide (Config.us 1000000 < per))) 0x16 (lpA n 0x31)

/-- The protection and damping words of a loop (R372, R456), and its acquisition (R128). -/
def State.protConflicts (s : State) (n : Fin 16) : List Fail :=
  let uv := s.lp n 0x25
  let src := s.lp n 0x2A
  failIf (decide (s.lp n 0x24 ≤ s.lp n 1)) 0x16 (lpA n 0x24) ++
  failIf (decide (uv ≠ 0) && decide (s.lp n 2 ≤ uv)) 0x16 (lpA n 0x25) ++
  failIf (decide (fld src 6 5 = 1) && decide (fld src 4 0 = n.val)) 0x16 (lpA n 0x2A) ++
  s.dampConflict n ++
  failIf (decide (fld (s.lp n 0x0D) 2 0 = 0) && decide (fld (s.pgL n 4 n.val) 3 2 = 2)) 0x16 (pgA 4 n.val)

/-- Every check that rests on the words of LPn. -/
def State.loopChecks (s : State) (n : Fin 16) : List Fail :=
  s.loopEncodings n ++ s.loopRangesLow n ++ s.loopRangesHigh n ++ s.lawConflicts n ++ s.setConflicts n ++
  s.phaseConflicts n ++ s.layerConflicts n ++ s.protConflicts n

/-- The checks between loops (R224, R307, R456). -/
def State.pairChecks (s : State) : List Fail :=
  let overlap (a b : Fin 16) : Bool := allPhases.any fun m => s.inList a m && s.inList b m
  let bound (a b : Fin 16) : Bool :=
    bitAt (s.lp a 0x2B) 0 && bitAt (s.lp b 0x2B) 0 && decide (fld (s.lp a 0x2B) 5 1 = fld (s.lp b 0x2B) 5 1)
  let damps (a b : Fin 16) : Bool := bitAt (s.lp a 0x31) 0 && bitAt (s.lp b 0x31) 0
  ((secondsOf overlap allLoops).map fun n => (0x16, lpA n 0x1E)) ++
  ((secondsOf bound allLoops).map fun n => (0x16, lpA n 0x2B)) ++
  ((secondsOf damps allLoops).map fun n => (0x16, lpA n 0x31))

/-- The words of PHm (R139, R224, R235). -/
def State.phaseChecks (s : State) (m : Fin 64) : List Fail :=
  let map := s.baseUse (phA m 0)
  let sense := s.baseUse (phA m 1)
  let slope := s.baseUse (phA m 2)
  let gain := fld sense 14 0
  let lists := allLoops.filter fun n => s.inList n m
  let agree (n : Fin 16) : Bool := bitAt map 4 && decide (fld map 3 0 = n.val)
  failIf (decide (gain < if bitAt sense 15 then 1000 else 500)) 0x14 (phA m 1) ++
  failIf ((lists.any fun n => !agree n) || bitAt map 4 && !(lists.any agree)) 0x16 (phA m 0) ++
  failIf (decide (fld slope 5 0 ≠ 0) && decide (fld slope 15 6 = 0)) 0x16 (phA m 2)

/-! ### Converters and the survey converter -/

/-- The demand on VSCk in 1/512 kS/s (R123). -/
def State.vscDemand (s : State) (k : Nat) : Nat :=
  let loops := allLoops.filter fun n => decide (n.val / 4 = k) && decide (s.mappedPhases n ≠ [])
  loops.foldl (fun (a : Nat) n => a + (if s.kennel15 n then 100 * 32 * 16 else
      let w := s.pgL n 4 n.val
      64000 / 2 ^ fld (s.lp n 0x0D) 2 0 * (16 * s.acqLen n + bitVal (bitAt w 4) 0))) 0

/-- The demand on ISCk in 1/8 kS/s (R123). -/
def State.iscDemand (s : State) (k : Nat) : Nat :=
  (allPhases.filter fun m => decide (m.val / 16 = k)).foldl (fun (a : Nat) m =>
      match s.loopOf m with
      | some n => a + 8 * s.fHi n / s.decimation m
      | none => a) 0

/-- The demand on the sense converters (R123). -/
def State.demandChecks (s : State) (k : Fin 4) : List Fail :=
  failIf (decide (36000 * 32 * 16 < s.vscDemand k.val) || decide (8 * 36000 < s.iscDemand k.val)) 0x16 0xFFFF

/-- ISC page (04). -/
def State.iscChecks (s : State) (k : Nat) : List Fail :=
  let z := (s.baseUse (pgA 5 k)).toNat
  failIf (decide (z < 3000) || decide (15000 < z)) 0x14 (pgA 5 k) ++
  failIf (decide (10000 < (s.baseUse (pgA 5 (4 + k))).toNat)) 0x14 (pgA 5 (4 + k)) ++
  failIf (!slotOk (s.baseUse (pgA 5 (8 + k)))) 0x14 (pgA 5 (8 + k))

/-- CLK page (08). -/
def State.clkChecks (s : State) : List Fail :=
  let f := (s.baseUse (pgA 3 2)).toNat
  failIf (decide (fld (s.baseUse (pgA 3 5)) 1 0 = 3)) 0x12 (pgA 3 5) ++
  failIf (decide (f % 100 ≠ 0) || decide (f < 200) || decide (10000 < f)) 0x14 (pgA 3 2)

/-- One sequence entry within LAST (R157, R158). -/
def State.seqEntryChecks (s : State) (e : Nat) : List Fail :=
  let w := s.baseUse (pgA 7 (2 * e))
  let p := fld w 7 6
  let prof := s.baseUse (pgA 8 (4 + p))
  let lp := bitAt (s.baseUse (pgA 8 0)) 1
  let d := fld prof 15 8 + 1
  let notch := bitAt prof 2 && !lp
  let n := fld w 15 8 + 1
  let f := (s.baseUse (pgA 8 (8 + p))).toNat
  failIf (decide (n % d ≠ 0) || decide (n < d * (fld prof 1 0 + 1 + (if notch then 48 else 0)))) 0x16 (pgA 7 (2 * e)) ++
  failIf (notch && (decide (8 * d * f < 2000) || decide (900 < d * f))) 0x16 (pgA 8 (8 + p))

/-- SVC, SEQ and SVR pages (05). -/
def State.surveyChecks (s : State) : List Fail :=
  let ctl := s.baseUse (pgA 8 0)
  ((List.range 32).flatMap fun i => failIf (decide (fld (s.baseUse (pgA 6 (0x40 + i))) 15 14 = 3)) 0x12 (pgA 6 (0x40 + i))) ++
  ((List.range 64).flatMap fun e => failIf (reservedCh (fld (s.baseUse (pgA 7 (2 * e))) 5 0)) 0x12 (pgA 7 (2 * e))) ++
  ((List.range (fld ctl 13 8 + 1)).flatMap s.seqEntryChecks) ++
  failIf (bitAt ctl 1 && bitAt ctl 3) 0x16 (pgA 8 0)

/-! ### Other pages -/

/-- DEV page (09). -/
def State.devChecks (s : State) : List Fail := failIf (decide (50 < (s.baseUse (pgA 0 0x25)).toNat)) 0x14 (pgA 0 0x25)

/-- PRT page (R372). -/
def State.prtChecks (s : State) : List Fail :=
  let fast := s.baseUse (pgA 2 9)
  let badSrc (c : Nat) : Bool := decide (0x40 ≤ c) && decide (c ≠ 0xFF)
  failIf (reservedCh (fld fast 5 0) || reservedCh (fld fast 13 8)) 0x12 (pgA 2 9) ++
  failIf (decide (twDur (s.baseUse (pgA 2 0x0A)) < Config.us 10)) 0x14 (pgA 2 0x0A) ++
  ((List.range 6).flatMap fun k =>
    let src := s.baseUse (pgA 2 (0x1A + 3 * k))
    let tgt := s.baseUse (pgA 2 (0x1C + 3 * k))
    failIf (badSrc (fld src 7 0) || badSrc (fld src 15 8)) 0x14 (pgA 2 (0x1A + 3 * k)) ++
    failIf (decide (64 < fld tgt 5 0 + fld tgt 12 6)) 0x14 (pgA 2 (0x1C + 3 * k))) ++
  ((List.range 4).flatMap fun k =>
    let uv := s.baseUse (pgA 2 (0x0E + 3 * k))
    let ov := s.baseUse (pgA 2 (0x0F + 3 * k))
    failIf (decide (uv ≠ 0) && decide (ov ≠ 0) && decide (ov ≤ uv)) 0x16 (pgA 2 (0x0F + 3 * k)))

/-- ACP page (11). -/
def State.acpChecks (s : State) (p : Nat) : List Fail :=
  let w (k : Nat) : W16 := s.baseUse (pgA 0x28 (12 * p + k))
  let a (k : Nat) : Nat := pgA 0x28 (12 * p + k)
  let tmo := twDur (w 1)
  let tol := (w 2).toNat
  failIf (decide (tmo < Config.us 100) || decide (Config.us 10000000 < tmo)) 0x14 (a 1) ++
  failIf (decide (tol < 1) || decide (1000 < tol)) 0x14 (a 2) ++
  failIf (decide (Config.ms 10 < twDur (w 3))) 0x14 (a 3) ++
  failIf (decide (w 4 = 0)) 0x14 (a 4) ++
  failIf (!slotOk (w 6)) 0x14 (a 6)

/-- The interval of an INT code in milliseconds (R395). -/
def napMs (code : Nat) : Nat := [1, 2, 5, 10, 20, 50, 100, 200].getD code 10

/-- LSH page (R398, R430). -/
def State.lshChecks (s : State) : List Fail :=
  let g := twDur (s.baseUse (pgA 0x30 2))
  let int := napMs (fld (s.baseUse (pgA 0x30 1)) 2 0)
  let pub := s.baseUse (pgA 0x30 0x22)
  let lease := twDur (s.baseUse (pgA 0x30 0x24))
  failIf (decide (g < Config.us 1) || decide (Config.ms 10 < g)) 0x14 (pgA 0x30 2) ++
  failIf (decide (g < Config.us (int + 2))) 0x16 (pgA 0x30 2) ++
  failIf (decide (8 < (bitsOf pub).length)) 0x14 (pgA 0x30 0x22) ++
  failIf (decide (lease < Config.ms 10) || decide (Config.ms 60000 < lease)) 0x14 (pgA 0x30 0x24) ++
  failIf (decide (twDur (s.baseUse (pgA 0x30 0x27)) < Config.ms 100)) 0x14 (pgA 0x30 0x27)

/-- SWP page (R456). -/
def State.swpChecks (s : State) : List Fail :=
  let w (i : Nat) : W16 := s.baseUse (pgA 0x32 i)
  let n : Fin 16 := ⟨fld (w 0) 7 4 % 16, by omega⟩
  let nf := (w 3).toNat
  let df := (w 0x10).toNat
  let damping := allLoops.any fun k => bitAt (s.lp k 0x31) 0
  failIf (reservedCh (fld (w 0) 13 8)) 0x12 (pgA 0x32 0) ++
  failIf (decide ((w 1).toNat < 20)) 0x14 (pgA 0x32 1) ++
  failIf (decide (20000 < (w 2).toNat)) 0x14 (pgA 0x32 2) ++
  failIf (decide (nf = 0) || decide (64 < nf)) 0x14 (pgA 0x32 3) ++
  failIf (decide (fld (w 4) 7 0 = 0) || decide (fld (w 4) 15 8 = 0)) 0x14 (pgA 0x32 4) ++
  failIf (decide ((w 5).toNat = 0) || decide (50 < (w 5).toNat)) 0x14 (pgA 0x32 5) ++
  failIf (decide (df < 20) || decide (20000 < df)) 0x14 (pgA 0x32 0x10) ++
  failIf (decide ((w 0x11).toNat < 8)) 0x14 (pgA 0x32 0x11) ++
  failIf (damping && decide (w 0x12 = 0)) 0x14 (pgA 0x32 0x12) ++
  failIf (decide (w 2 < w 1)) 0x16 (pgA 0x32 1) ++
  failIf (bitAt (w 0) 1 && decide (s.mappedPhases n = [])) 0x16 (pgA 0x32 0)

/-- GSP page (R456). -/
def State.gspChecks (s : State) : List Fail :=
  let w (i : Nat) : W16 := s.baseUse (pgA 0x33 i)
  let eta := (w 7).toNat
  let fastEn := bitAt (s.baseUse (pgA 2 9)) (if bitAt (w 0) 8 then 14 else 6)
  failIf (decide (eta < 50) || decide (100 < eta)) 0x14 (pgA 0x33 7) ++
  failIf (bitAt (w 0) 0 && (decide (w 5 = 0) || decide (w 1 = 0) || decide (w 3 = 0) || decide (w 6 = 0) || decide (w 0x0E = 0) ||
      !(decide (w 5 < w 1) && decide (w 1 < w 3)) || !fastEn)) 0x16 (pgA 0x33 0)

/-- The period of a PER code in milliseconds (R465). -/
def fchPeriodMs (code : Nat) : Nat := [10, 20, 50, 100, 200, 500, 1000, 2000].getD code 10

/-- f_SCL of a SPEED code in kHz (R460). -/
def fchKhz (code : Nat) : Nat := match code with | 0 => 100 | 1 => 400 | _ => 1000

/-- FCH page (R475). -/
def State.fchChecks (s : State) : List Fail :=
  let w (i : Nat) : W16 := s.baseUse (pgA 0x34 i)
  let on := (List.range 32).filter fun e => bitAt (w (3 * e + 1)) 0
  let load := on.foldl (fun (a : Nat) e =>
    let c := w (3 * e + 1)
    a + (39 + 9 * (1 + bitVal (bitAt c 1) 0 + bitVal (bitAt c 7) 0)) * (2000 / fchPeriodMs (fld c 10 8))) 0
  failIf (decide (fld (w 0x60) 2 1 = 3)) 0x12 (pgA 0x34 0x60) ++
  ((List.range 32).flatMap fun e => failIf (decide (fld (w (3 * e + 1)) 12 11 = 3)) 0x12 (pgA 0x34 (3 * e + 1))) ++
  (on.flatMap fun e => let a := fld (w (3 * e)) 6 0; failIf (decide (a < 8) || decide (0x78 ≤ a)) 0x14 (pgA 0x34 (3 * e))) ++
  failIf (decide (twDur (w 0x61) < Config.ms 10)) 0x14 (pgA 0x34 0x61) ++
  failIf (decide (2000 * fchKhz (fld (w 0x60) 2 1) < 2 * load)) 0x16 0xFFFF

/-- A channel code of a template is reserved (R486). -/
def crbReserved (c : Nat) : Bool :=
  !(decide (c ≤ 0x63) || decide (0x80 ≤ c) && decide (c ≤ 0xDF) || decide (c = 0xFF))

/-- The eight channel codes of a template in use. -/
def State.crbCodes (s : State) (k : Nat) : List Nat :=
  (List.range 8).map fun c => fld (s.baseUse (pgA 0x38 (12 * k + 1 + c / 2))) (8 * (c % 2) + 7) (8 * (c % 2))

/-- The channels of a template: those before the first 0xFF. -/
def State.crbChans (s : State) (k : Nat) : List Nat := (s.crbCodes k).takeWhile fun c => decide (c ≠ 0xFF)

/-- FIRST and COUNT of a template's pool. -/
def State.crbPool (s : State) (k : Nat) : Nat × Nat :=
  let w := s.baseUse (pgA 0x38 (12 * k + 10))
  (fld w 11 8, fld w 7 3)

/-- An armed template has channels and slots (R500). -/
def State.armConflict (s : State) (k : Nat) : List Fail :=
  failIf (bitAt (s.baseUse (pgA 0x38 0x30)) k && (decide (s.crbChans k = []) || decide ((s.crbPool k).2 = 0))) 0x16 (pgA 0x38 0x30)

/-- Template k of the CRB page (R500). -/
def State.crbTplChecks (s : State) (k : Nat) : List Fail :=
  let w (i : Nat) : W16 := s.baseUse (pgA 0x38 (12 * k + i))
  let a (i : Nat) : Nat := pgA 0x38 (12 * k + i)
  let chs := s.crbChans k
  let len := (w 5).toNat
  let mode := fld (w 0) 1 0
  let q := fld (w 0) 5 2
  let pool := s.crbPool k
  ((List.range 4).flatMap fun i =>
    failIf (crbReserved (fld (w (1 + i)) 7 0) || crbReserved (fld (w (1 + i)) 15 8)) 0x12 (a (1 + i))) ++
  failIf (decide (mode = 3)) 0x12 (a 0) ++
  failIf (decide (len = 0) || decide (len % 64 ≠ 0) || decide (49152 < len * chs.length)) 0x14 (a 5) ++
  failIf (decide (mode = 1) && decide (8 < q) || decide (mode = 0) && decide (q ≠ 0)) 0x14 (a 0) ++
  failIf (decide (16 < pool.1 + pool.2)) 0x14 (a 10) ++
  s.armConflict k ++
  failIf (bitAt (w 0) 14 && decide (chs.length ≤ fld (w 10) 2 0)) 0x16 (a 0)

/-- CRB page (R500): templates whose pools overlap name the higher TCFG. -/
def State.crbChecks (s : State) : List Fail :=
  let overlap (i j : Nat) : Bool :=
    let x := s.crbPool i
    let y := s.crbPool j
    decide (0 < x.2) && decide (0 < y.2) && decide (x.1 < y.1 + y.2) && decide (y.1 < x.1 + x.2)
  ((List.range 4).flatMap s.crbTplChecks) ++
  ((secondsOf overlap (List.range 4)).map fun k => (0x16, pgA 0x38 (12 * k + 10)))

/-- LYR page (R343). -/
def State.lyrChecks (s : State) : List Fail :=
  let d := s.baseUse (pgA 0x39 0x0D)
  let ratio := fld d 7 0
  failIf (decide (fld d 11 8 = 0) && decide (ratio ≠ 0) || decide (1 ≤ ratio) && decide (ratio ≤ 16)) 0x14 (pgA 0x39 0x0D) ++
  failIf (decide (s.baseUse (pgA 0x39 0x0E) = 0)) 0x14 (pgA 0x39 0x0E)

/-- CHW page (R534). -/
def State.chwChecks (s : State) : List Fail :=
  let w (i : Nat) : W16 := s.baseUse (pgA 0x3B i)
  let a (i : Nat) : Nat := pgA 0x3B i
  let on (i : Nat) : Bool := bitAt (w 0) i
  let rate0 (v : W16) : Bool := decide (fld v 15 8 = 0)
  failIf (decide (2 ≤ fld (w 5) 1 0)) 0x12 (a 5) ++
  failIf (decide (fld (w 7) 1 0 = 3)) 0x12 (a 7) ++
  failIf (decide (fld (w 9) 1 0 = 3)) 0x12 (a 9) ++
  failIf (decide (w 2 = 0)) 0x14 (a 2) ++
  failIf (decide (twCount (w 3) = 0)) 0x14 (a 3) ++
  failIf (decide (w 4 = 0)) 0x14 (a 4) ++
  failIf (on 0 && rate0 (w 5)) 0x14 (a 5) ++
  failIf (on 1 && rate0 (w 7)) 0x14 (a 7) ++
  failIf (on 2 && rate0 (w 9)) 0x14 (a 9) ++
  failIf (on 0 && decide (w 6 = 0)) 0x16 (a 6) ++
  failIf (on 1 && decide (fld (w 7) 7 4 = 0)) 0x16 (a 7) ++
  failIf (on 1 && decide (w 8 = 0) || bitAt (w 8) s.power.pos.toNat) 0x16 (a 8) ++
  failIf (on 2 && decide (w 0x0A = 0) && decide (w 0x0B = 0)) 0x16 (a 0x0A)

/-- PIN page (R549). -/
def State.pinChecks (s : State) : List Fail :=
  let w (g : Fin 24) : W16 := s.baseUse (pgA 0x3C g.val)
  let a (g : Fin 24) : Nat := pgA 0x3C g.val
  let func (g : Fin 24) : Nat := fld (w g) 2 0
  let arg (g : Fin 24) : Nat := fld (w g) 15 8
  let badArg (g : Fin 24) : Bool :=
    if func g = 1 ∨ func g = 2 then decide (16 ≤ arg g)
    else if func g = 4 then decide (0x1C < arg g)
    else if func g = 7 then false
    else decide (arg g ≠ 0)
  let gs := List.finRange 24
  let same (g h : Fin 24) : Bool := decide (func g = 2) && decide (func h = 2) && decide (arg g % 16 = arg h % 16)
  (gs.flatMap fun g => failIf (decide (func g = 7)) 0x12 (a g) ++ failIf (badArg g) 0x14 (a g)) ++
  ((secondsOf same gs).map fun g => (0x16, a g))

/-- Lane loads (R182). -/
def State.loadChecks (s : State) : List Fail :=
  (List.range 4).flatMap fun k => failIf (decide (320000 < s.laneLoad k)) 0x19 0xFFFF

/-- Every check of the configuration in use, RUNNING and LOCKED apart (R98, R111). -/
def State.configChecks (s : State) : List Fail :=
  reservedBits s.par.inUse ++ allLoops.flatMap s.loopChecks ++ s.kennelChecks ++ s.pairChecks ++ allPhases.flatMap s.phaseChecks ++
  (List.finRange 4).flatMap s.demandChecks ++ (List.range 4).flatMap s.iscChecks ++ s.clkChecks ++ s.surveyChecks ++ s.devChecks ++
  s.prtChecks ++ (List.range 8).flatMap s.acpChecks ++ s.lshChecks ++ s.swpChecks ++ s.gspChecks ++ s.fchChecks ++ s.crbChecks ++
  s.lyrChecks ++ s.chwChecks ++ s.pinChecks ++ s.loadChecks

/-- The checks that name class-L word `i` of LPn: VSET, C_OUT_EST, I_CEIL, I_FLOOR and LYR_GAIN. -/
def State.loopWordChecks (s : State) (n : Fin 16) (i : Nat) : List Fail :=
  if i = 0x00 then (if n.val = 15 then s.kennelVset else []) ++ s.vsetConflict n
  else if i = 0x19 then s.dampConflict n
  else if i = 0x1A ∨ i = 0x1B then s.limitRanges n ++ s.limitConflicts n
  else if i = 0x30 then s.leadConflict n
  else []

/-- The checks that can concern one class-L word (R90, R98): those whose condition names it. -/
def State.wordChecks (s : State) (a : Nat) : List Fail :=
  let p := a / 256
  if 0x10 ≤ p ∧ p < 0x20 then s.loopWordChecks ⟨(p - 0x10) % 16, by omega⟩ (a % 256)
  else if p = 0 then (if a = pgA 0 0x25 then s.devChecks else [])
  else if a = pgA 0x38 0x30 then (List.range 4).flatMap s.armConflict
  else []

/-! ### Stopped units and unlock cover -/

/-- The loop that a PH_MAP word's phase is mapped to, if any. -/
def State.mapStopped (s : State) (m : Fin 64) : Bool :=
  match s.loopOf m with
  | some n => decide (s.st n = .off)
  | none => true

/-- The phase of a phase-group address. -/
def phaseOfAddr (a : Nat) : Fin 64 := ⟨(16 * (a / 256 - 0x20) + a % 256 / 6) % 64, by omega⟩

/-- The loop or unit that uses the class-S word at `a` is stopped (R88); `new` is the configuration to be judged. -/
def State.wordStopped (s new : State) (a : Nat) : Bool :=
  let p := a / 256
  let i := a % 256
  if 0x10 ≤ p ∧ p < 0x20 then decide (s.st ⟨(p - 0x10) % 16, by omega⟩ = .off)
  else if p = 4 then decide (s.st ⟨i % 16, by omega⟩ = .off)
  else if 0x20 ≤ p ∧ p < 0x24 then s.mapStopped (phaseOfAddr a) && new.mapStopped (phaseOfAddr a)
  else if p = 0 then !s.selfBias && decide (s.st 15 = .off)
  else if p = 0x28 then
    let q : Fin 8 := ⟨i / 12 % 8, by omega⟩
    !s.acpOn q || (s.acpLoops q).all fun n => decide (s.st n = .off)
  else if p = 0x32 then decide (s.swp.st ≠ .armed) && decide (s.swp.st ≠ .running)
  else if p = 0x38 then !bitAt (s.baseUse (pgA 0x38 0x30)) (i / 12)
  else true

/-- The unlock ranges captured with the commit cover `a` (R516). -/
def State.covers (s : State) (a : Nat) : Bool := s.idn.covered.any fun r => decide (r.1 ≤ a) && decide (a ≤ r.2)

/-- The RUNNING and LOCKED checks of a commit set (R98). -/
def State.setChecks (s new : State) (set : List (Nat × W16)) : List Fail :=
  set.flatMap fun x =>
    match classOf x.1 with
    | .S => failIf (!s.wordStopped new x.1) 0x17 x.1
    | .K => failIf (!s.covers x.1) 0x18 x.1
    | _ => []

/-- The judgement of a commit set (R94, R98). -/
def State.judge (s : State) (set : List (Nat × W16)) : Option Fail :=
  let new := s.withUse (overlay set s.par.inUse)
  firstFail (new.configChecks ++ s.setChecks new set)

/-- The judgement of one class-L word against the values in use (R90, R91). -/
def State.judgeWord (s : State) (a : Nat) (v : W16) : Option Fail := firstFail ((s.setUse a v).wordChecks a)

/-- The judgement of an image's configuration (R111). -/
def State.judgeImage (s : State) (use : List (Nat × W16)) : Option Fail := firstFail (s.withUse use).configChecks

end Sys2Proof.Machine
end

