-- ==== Sys2Proof/Machine/Fetch.lean ====
section
/-! DEFINITION. The two-wire controller (17_fetch.md): polls, their results, recovery and DEAD, and Chew's simulated line. -/

namespace Sys2Proof.Machine

open Sys2Proof

def State.updFch (s : State) (f : Fch → Fch) : State := { s with fch := f s.fch }
/-- Word `i` of the FCH page in use. -/
def State.fchW (s : State) (i : Nat) : W16 := s.pg 0x34 i
def State.fchEn (s : State) : Bool := bitAt (s.fchW 0x60) 0
def Fch.entry (x : Fch) (e : Fin 32) : FchEntry := x.entries[e]
def State.updEntry (s : State) (e : Fin 32) (f : FchEntry → FchEntry) : State :=
  s.updFch fun x => { x with entries := x.entries.set e (f (x.entry e)) }
def State.forEntries (s : State) (f : Fin 32 → FchEntry → FchEntry) : State :=
  s.updFch fun x => { x with entries := Vector.ofFn fun e => f e (x.entry e) }

/-- CTLe.EN in use. -/
def State.entryEn (s : State) (e : Fin 32) : Bool := bitAt (s.fchW (3 * e.val + 1)) 0

/-- Set a bit of FCH.EVT; an enabled one that was 0 sets W_IRQ.FETCH (R473). -/
def fchEvt (b : Nat) (s : State) : State :=
  if bitAt s.fch.evt b then s
  else
    let s := s.updFch fun x => { x with evt := setBit x.evt b }
    if bitAt (s.fchW 0x64) b then s.irq 7 else s

/-! ### Polls (R461 to R468) -/

/-- The time at which an enabled entry is due (R465). -/
def State.entryDue (s : State) (e : Fin 32) : Nat :=
  match (s.fch.entry e).lastStart with
  | some a => a + Config.ms (fchPeriodMs (fld (s.fchW (3 * e.val + 1)) 10 8))
  | none => s.fch.upAt

/-- The lowest-numbered due entry. -/
def State.dueEntry (s : State) : Option (Fin 32) :=
  (List.finRange 32).find? fun e => s.entryEn e && decide (s.entryDue e ≤ s.now)

/-- t_BUF of R460. -/
def State.busFree (s : State) : Nat :=
  match fld (s.fchW 0x60) 2 1 with | 0 => Config.ns 4700 | 1 => Config.ns 1300 | _ => Config.ns 500

/-- The poll of entry e starts, with Chew's action on it (R465, R532). -/
def pollStart (e : Fin 32) (s : State) : State :=
  let r := chewFetch e s
  let s := r.2
  let begin (nack : Bool) (s : State) : State :=
    (s.updFch fun x => { x with
      cur := some e
      curAt := s.now
      curCfg := s.fchW (3 * e.val)
      curCtl := s.fchW (3 * e.val + 1)
      curLim := s.fchW (if bitAt (s.fchW (3 * e.val + 1)) 14 then 0x6E else 0x6D)
      curNack := nack
      sda := true
      scl := true }).updEntry e fun x => { x with lastStart := some s.now }
  chewSettle (match r.1 with
    | none => begin false s
    | some 0 => begin true s
    | some k => s.updFch fun x => { x with simLine := some (decide (k = 2), s.now) })

/-- POLL_START (R465). -/
def execPollStart (t : Nat) (s : State) : Ans :=
  gated t (fun s => s.up && s.fchEn && decide (s.fch.port = .up) && s.fch.cur.isNone && s.fch.simLine.isNone &&
      decide (s.fch.idleAt + s.busFree ≤ s.now) && s.dueEntry.isSome)
    (fun s => match s.dueEntry with | some e => pollStart e s | none => s) s

/-- A failed poll of entry e (R467, R473). -/
def pollFail (e : Fin 32) (s : State) : State :=
  let x := s.fch.entry e
  let fails := x.fails + 1
  let s := s.updFch fun f => { f with polls := (f.polls + 1) % 256 }
  let sub := decide (3 ≤ fails) && (decide (x.st = .good) || decide (x.st = .none))
  let s := s.updEntry e fun x => { x with fails := fails, st := if sub then .subst else x.st }
  if sub && decide (x.st = .good) then fchEvt 2 s else s

/-- The value of a poll's data bytes (R466). -/
def pollValue (ctl : W16) (b0 b1 : Byte) : W16 :=
  let signed := bitAt ctl 3
  let r : W16 := if bitAt ctl 1 then (if bitAt ctl 2 then wordOf b1 b0 else wordOf b0 b1)
    else if signed then b0.signExtend 16 else b0.setWidth 16
  if signed then r.sshiftRight (fld ctl 6 4) else r >>> fld ctl 6 4

/-- The PEC of a poll (R461, R462). -/
def pollPec (cfg ctl : W16) (b0 b1 : Byte) : Byte :=
  let a := fld cfg 6 0
  w8 (crc8 0x07 0 ([w8 (2 * a), w8 (fld cfg 15 8), w8 (2 * a + 1), b0] ++ if bitAt ctl 1 then [b1] else []))

/-- The alarm condition of a result against a limit (R468). -/
def alarmOf (ctl lim v : W16) : Bool :=
  let x : Int := if bitAt ctl 3 then v.toInt else v.toNat
  let l : Int := if bitAt ctl 3 then lim.toInt else lim.toNat
  bitAt ctl 13 && (if bitAt ctl 15 then decide (x ≤ l) else decide (l ≤ x))

/-- A successful poll of entry e (R467, R468). -/
def pollGood (e : Fin 32) (v : W16) (s : State) : State :=
  let x := s.fch.entry e
  let on := decide (x.st ≠ .off)
  let alarm := on && alarmOf s.fch.curCtl s.fch.curLim v
  let s := s.updEntry e fun x => { x with last := some v, fails := 0, st := if on then .good else x.st, alarm := alarm }
  let s := if x.st = .subst then fchEvt 3 s else s
  if alarm && !x.alarm then fchEvt 4 s else s

/-- The transaction in progress ends. -/
def pollEnd (s : State) : State := s.updFch fun x => { x with cur := none, curNack := false, idleAt := s.now }

/-- POLL_COMPLETE (R461, R466, R467): `nack` when an address byte or CMD was not acknowledged; otherwise the data bytes
and the PEC byte received. Without VDDIO_L both lines read inactive, that is high (R25; DEDUCED, notes/assumptions/76.md): nothing
acknowledges. -/
def execPollComplete (t : Nat) (nack : Bool) (b0 b1 pec : Byte) (s : State) : Ans :=
  gated t (fun s => s.up && s.fch.cur.isSome)
    (fun s =>
      match s.fch.cur with
      | some e =>
        let c := s.fch.curCtl
        let ok := s.power.vddioL && !s.fch.curNack && !nack && (!bitAt c 7 || decide (pollPec s.fch.curCfg c b0 b1 = pec))
        otNoteAll (pollEnd (if ok then pollGood e (pollValue c b0 b1) s else pollFail e s))
      | none => s) s

/-! ### Recovery (R463, R464, R469 to R471) -/

/-- An error aborts the poll in progress, and recovery begins (R463, R464, R469). -/
def pollAbort (s : State) : State :=
  match s.fch.cur with
  | some e => otNoteAll ((pollEnd (pollFail e s)).updFch fun x => { x with port := .recover, fails := 0, attemptAt := none })
  | none => s

/-- STRETCH_TIMEOUT (R463): SCL has been held low for at least 25 ms. -/
def execStretchTimeout (t : Nat) (s : State) : Ans :=
  gated t (fun s => s.up && s.power.vddioL && s.fch.cur.isSome && decide (s.fch.curAt + Config.ms 25 ≤ s.now))
    (fun s => (pollAbort s).updFch fun x => { x with scl := false }) s

/-- ARBITRATION_LOSS (R464). -/
def execArbitrationLoss (t : Nat) (s : State) : Ans :=
  gated t (fun s => s.up && s.power.vddioL && s.fch.cur.isSome) (fun s => (pollAbort s).updFch fun x => { x with sda := false }) s

/-- The port becomes DEAD (R471). -/
def portDead (cause : Nat) (s : State) : State :=
  let was := (List.finRange 32).any fun e => s.entryEn e && decide ((s.fch.entry e).st = .good)
  let s := s.updFch fun x => { x with port := .dead, cause := cause, deads := inc8 x.deads }
  let s := s.forEntries fun e x => if s.entryEn e then { x with st := .subst } else x
  let s := if was then fchEvt 2 s else s
  otNoteAll (fchEvt 0 (s.event 0x10 none (w16 cause) 0))

/-- An attempt fails with a cause: 1 SDA, 2 SCL. -/
def attemptFail (cause : Nat) (s : State) : State :=
  let s := s.updFch fun x => { x with sda := decide (cause ≠ 1), scl := decide (cause ≠ 2) }
  if s.fch.port = .dead then s
  else
    let s := s.updFch fun x => { x with port := .recover, fails := x.fails + 1 }
    if 3 ≤ s.fch.fails then portDead cause s else s

/-- The port becomes UP (R465, R467, R470). -/
def portUp (s : State) : State :=
  (s.updFch fun x => { x with port := .up, upAt := s.now, fails := 0, attemptAt := none, sda := true, scl := true }).forEntries
    fun _ x => { x with fails := 0 }

/-- An attempt succeeds (R470, R471, R473). -/
def attemptGood (s : State) : State :=
  let dead := decide (s.fch.port = .dead)
  let s := portUp (s.updFch fun x => { x with idleAt := s.now })
  fchEvt (if dead then 1 else 5) s

/-- An attempt may begin at `at_` (R469, R471). -/
def State.attemptDue (s : State) (at_ : Nat) : Bool :=
  let x := s.fch
  match x.port with
  | .up => x.cur.isNone && s.dueEntry.isSome &&
      (match x.simLine with | some (_, a) => decide (a + Config.ms 1 ≤ at_) | none => true)
  | .recover => (match x.attemptAt with | some a => decide (a + Config.ms 10 ≤ at_) | none => true)
  | .dead => decide (x.attemptEnd + twDur (s.fchW 0x61) ≤ at_)
  | .off => false

/-- RECOVERY_ATTEMPT (R469 to R471): an attempt that has taken `took` ends, with success or with SDA or SCL low. A simulated
line decides in place of the pins, and without VDDIO_L both lines read high (R25). -/
def execRecoveryAttempt (t : Nat) (took : Nat) (ok scl : Bool) (s : State) : Ans :=
  gated t (fun s => s.up && s.fchEn && decide (took ≤ Config.us 1100) && s.attemptDue (s.now - took))
    (fun s =>
      let start := s.now - took
      let fresh := decide (s.fch.port = .up)
      let s := s.updFch fun x => { x with
        attemptAt := some start
        attemptEnd := s.now
        fails := if fresh then 0 else x.fails }
      match s.fch.simLine with
      | some (c, _) => attemptFail (if c then 2 else 1) s
      | none => if ok || !s.power.vddioL then attemptGood s else attemptFail (if scl then 2 else 1) s) s

/-- CHEW_STUCK_END (R532). -/
def execChewStuckEnd (t : Nat) (s : State) : Ans :=
  gated t (fun s => decide (twCount (s.chwW 0x0C) ≠ 0) &&
      (match s.fch.simLine with | some (_, a) => decide (a + twDur (s.chwW 0x0C) ≤ s.now) | none => false))
    (fun s => s.updFch fun x => { x with simLine := none }) s

/-! ### Reporting, commits and BOOT (R473, R474) -/

/-- A write to FCH.EVT. -/
def fchEvtWrite (w : W16) (s : State) : State :=
  s.updFch fun x => { x with
    evt := x.evt &&& ~~~(w.setWidth 6)
    polls := if bitAt w 15 then 0 else x.polls }

/-- FCH_EVT_CLEAR (R473). -/
def execFchEvtClear (t : Nat) (w : W16) (s : State) : Ans := strobed t (fun _ => true) (fchEvtWrite w) s

/-- The entries follow their EN in use (R467, R468). -/
def fchEntries (s : State) : State :=
  s.forEntries fun e x =>
    if !s.entryEn e then { x with st := .off, alarm := false }
    else if x.st = .off then { x with st := .none, fails := 0 } else x

/-- The port follows CTL.EN in use (R474). -/
def fchPort (s : State) : State :=
  if s.up && s.fchEn then (if s.fch.port = .off then portUp s else s)
  else s.updFch fun x => { x with port := .off }

/-- The controller after a commit of its words, and at the end of BOOT. -/
def fchCommit (s : State) : State := otNoteAll (fchPort (fchEntries s))

/-- The controller at an entry to BOOT (R467, R474). -/
def fchBoot (s : State) : State := s.updFch fun _ => {}

/-- FCH.RESe (R467). -/
def State.fchResult (s : State) (e : Fin 32) : W16 :=
  let x := s.fch.entry e
  if x.st = .good then x.last.getD 0
  else match fld (s.fchW (3 * e.val + 1)) 12 11 with
    | 0 => x.last.getD 0
    | 1 => s.fchW 0x6B
    | _ => s.fchW 0x6C

/-- A flag of sixteen entries as a word: GOOD, SUBST and ALRM. -/
def State.fchFlags (s : State) (hi : Bool) (f : FchEntry → Bool) : W16 :=
  w16 ((List.finRange 16).foldl (fun a i => a + bitVal (f (s.fch.entry ⟨i.val + (if hi then 16 else 0), by split <;> omega⟩)) i.val) 0)

/-- FCH.STAT. -/
def State.fchStat (s : State) : W16 :=
  let x := s.fch
  let sda := x.sda && !(match x.simLine with | some (c, _) => !c | none => false)
  let scl := x.scl && !(match x.simLine with | some (c, _) => c | none => false)
  w16 ((match x.port with | .off => 0 | .up => 1 | .recover => 2 | .dead => 3) + 4 * x.cause + bitVal (!sda) 4 + bitVal (!scl) 5 +
    256 * ((x.cur.map Fin.val).getD 0) + bitVal x.cur.isSome 15)

/-- FCH.ERRCNT. -/
def State.fchErrCnt (s : State) : W16 := w16 (s.fch.polls + 256 * s.fch.deads)

end Sys2Proof.Machine
end

