-- ==== Sys2Proof/Machine/Crumb.lean ====
section
/-! DEFINITION. The Crumb recorder (18_crumb_recorder.md): the readout port, the event log, templates and triggers, the
capture of samples and the compression and signing of records. -/

namespace Sys2Proof.Machine

open Sys2Proof

def State.updCrb (s : State) (f : Crb → Crb) : State := { s with crb := f s.crb }
def State.tpl (s : State) (k : Fin 4) : CrbTpl := s.crb.tpls[k]
def State.updTpl (s : State) (k : Fin 4) (f : CrbTpl → CrbTpl) : State :=
  s.updCrb fun c => { c with tpls := c.tpls.set k (f c.tpls[k]) }
def State.slot (s : State) (i : Fin 16) : CrbSlot := s.crb.slots[i]
def State.updCrbSlot (s : State) (i : Fin 16) (f : CrbSlot → CrbSlot) : State :=
  s.updCrb fun c => { c with slots := c.slots.set i (f c.slots[i]) }
/-- Word `i` of template k in use. -/
def State.tplW (s : State) (k : Fin 4) (i : Nat) : W16 := s.pg 0x38 (12 * k.val + i)

/-- STATE of a slot (R493). -/
def SlotSt.code : SlotSt → Nat
  | .free => 0 | .armed => 1 | .post => 2 | .seal => 3 | .done => 4 | .locked => 5 | .aborted => 6

/-! ### Readout (R476, R477) -/

/-- A byte of record slot i: STATE shows the slot's state; bytes that the unfinished record has not placed are free. -/
def readSlotByte (i : Fin 16) (o : Nat) (s : State) : Byte × State :=
  let x := s.slot i
  if o = 3 then (w8 x.st.code, s)
  else if (o < 128 ∧ x.hdr = false) ∨ (128 ≤ o ∧ x.whole = false) then
    (Config.freeByte s.freeCount, { s with freeCount := s.freeCount + 1 })
  else (s.ram (0x1E000 * i.val + o), s)

/-- A byte of the readout space. -/
def readCrumbByte (a : Nat) (s : State) : Byte × State :=
  if a < 0x1E0000 then readSlotByte ⟨a / 0x1E000 % 16, by omega⟩ (a % 0x1E000) s
  else if a < 0x200000 then (s.ram a, s)
  else if h : (a - 0x200000) / 512 < 4 then
    let x := s.gsp.slots[(a - 0x200000) / 512]
    (if a % 512 = 3 ∧ x.valid = false then 0 else x.bytes.getD (a % 512) 0, s)
  else (0, s)

/-- A completed read of W_CRUMB_DATA (R477). -/
def crumbRead (s : State) : W16 × State :=
  let a := s.crb.addr
  let lo := readCrumbByte a s
  let hi := readCrumbByte (a + 1) lo.2
  (wordOf lo.1 hi.1, hi.2.updCrb fun c => { c with addr := (a + 2) % 2 ^ 24 })

/-- CRUMB_DATA_READ. -/
def execCrumbDataRead (t : Nat) (s : State) : Ans :=
  slotRead t (fun s => let r := crumbRead s; { r.2 with win := { r.2.win with adOut := r.1 } }) s

/-! ### Slots of a template (R488) -/

/-- The slots of template k's pool, ascending. -/
def poolOf (first count : Nat) : List (Fin 16) := (List.finRange 16).filter fun i => decide (first ≤ i.val) && decide (i.val < first + count)
def State.pool (s : State) (k : Fin 4) : List (Fin 16) := let w := s.tplW k 10; poolOf (fld w 11 8) (fld w 7 3)

/-- The slot of a list that completed first. -/
def State.oldestDone (s : State) : List (Fin 16) → Option (Fin 16)
  | [] => none
  | i :: r =>
    match s.oldestDone r with
    | some j => if (s.slot i).st = .done ∧ (s.slot i).doneSeq < (s.slot j).doneSeq then some i else some j
    | none => if (s.slot i).st = .done then some i else none

/-- The slot that an armed template takes. -/
def State.takeable (s : State) (l : List (Fin 16)) : Option (Fin 16) :=
  match l.find? fun i => decide ((s.slot i).st = .free) || decide ((s.slot i).st = .aborted) with
  | some i => some i
  | none => s.oldestDone l

/-- An armed template without a slot takes one. -/
def tplTake (k : Fin 4) (s : State) : State :=
  let x := s.tpl k
  if !x.armed || x.slot.isSome then s
  else match s.takeable (s.pool k) with
  | none => s
  | some i =>
    let s := s.updCrbSlot i fun _ => { st := .armed, hdr := false, whole := false }
    s.updTpl k fun x => { x with
      slot := some i
      hist := []
      post := false
      trigPend := none
      extra := []
      extraPend := 0
      flags := 0 }

/-- Every STARVED template retries. -/
def tplsTake (s : State) : State := (List.finRange 4).foldl (fun s k => tplTake k s) s

/-- The templates follow CRB.ARM in use: when a bit falls, an ARMED slot becomes FREE, and a slot in POST completes. -/
def tplArm (k : Fin 4) (s : State) : State :=
  let on := bitAt (s.pg 0x38 0x30) k.val
  let x := s.tpl k
  if on = x.armed then s
  else if on then s.updTpl k fun x => { x with armed := true, prev := if x.post then x.prev else [] }
  else
    let s := s.updTpl k fun x => { x with armed := false, slot := if x.post then x.slot else none, trigPend := none }
    match x.slot with
    | some i => if x.post then s else s.updCrbSlot i fun y => { y with st := .free }
    | none => s

/-- The recorder after a change of CRB.ARM in use. -/
def crbArm (s : State) : State := tplsTake ((List.finRange 4).foldl (fun s k => tplArm k s) s)

/-! ### Channels and sampling (R486, R487) -/

/-- Slot j holds results of the temperature kind. -/
def State.slotSigned (s : State) (j : Nat) : Bool :=
  match (List.range (fld s.svrCtl 13 8 + 1)).find? fun e => decide ((s.svcEntry e).slot = j) with
  | some e => decide ((s.chanCoefs (fld (s.pg 7 (2 * e)) 5 0)).1 = 2)
  | none => false

/-- The loop of a channel code below 0x60. -/
def chanLoop (c : Nat) : Fin 16 := ⟨c % 16, by omega⟩

/-- The latest value of a channel, and whether it is signed. -/
def State.chanValue (s : State) (c : Nat) : W16 × Bool :=
  let l := s.loop (chanLoop c)
  if c < 0x10 then (l.sense.vout, false)
  else if c < 0x20 then (l.mod.iout, true)
  else if c < 0x30 then (l.eng.icmd, true)
  else if c < 0x40 then (s.vrefNow (chanLoop c), false)
  else if c < 0x50 then (l.sense.dac, false)
  else if c < 0x60 then (w16 (fld (s.nphAct (chanLoop c)) 6 0), false)
  else if c < 0x62 then
    let f := s.pg 2 9
    let i : Fin 2 := if c = 0x60 then 0 else 1
    (s.prot.fastShow[i], decide ((s.chanCoefs (if c = 0x60 then fld f 5 0 else fld f 13 8)).1 = 2))
  else if c = 0x62 then (s.svc.vhv, false)
  else if c = 0x63 then (s.svc.vaux, false)
  else if 0x80 ≤ c ∧ c < 0xC0 then (s.phCurrent ⟨(c - 0x80) % 64, by omega⟩, true)
  else if h : c - 0xC0 < 32 then (s.svc.slots[c - 0xC0].value, s.slotSigned (c - 0xC0))
  else (0, false)

/-- The channel codes of template k in use. -/
def State.tplChans (s : State) (k : Fin 4) : List Nat :=
  ((List.range 8).map fun c => fld (s.tplW k (1 + c / 2)) (8 * (c % 2) + 7) (8 * (c % 2))).takeWhile fun c => decide (c ≠ 0xFF)

/-- The sample period in microseconds (R487). -/
def ratePeriod (rate : Nat) : Nat := [1, 2, 5, 10, 50, 100, 1000, 10000].getD rate 1
def State.tplPeriod (s : State) (k : Fin 4) : Nat := ratePeriod (fld (s.tplW k 0) 8 6)

/-- LEN, and PRE × LEN. -/
def State.tplLen (s : State) (k : Fin 4) : Nat := (s.tplW k 5).toNat
def State.tplPre (s : State) (k : Fin 4) : Nat := s.tplLen k * fld (s.tplW k 0) 10 9 / 4

/-! ### The record header (R493) -/

/-- The first 128 bytes of a record, STATE and what is known only at its completion left 0. -/
def State.recHeader (s : State) (k : Fin 4) (i : Fin 16) : List Byte :=
  let x := s.tpl k
  let w := s.tplW k 0
  let p := s.tplPeriod k
  let chs := s.tplChans k
  let signed := ((x.hist.getLast?).getD []).map Prod.snd
  let div (c : Nat) : W16 := if c < 0x10 ∨ (0x30 ≤ c ∧ c < 0x50) then s.pgL (chanLoop c) 4 (0x10 + c % 16) else 0
  let chan (c : Nat) : List Byte :=
    if h : c < chs.length then
      let code := chs[c]
      [w8 code, w8 (bitVal (signed.getD c false) 0)] ++ wordBytes (div code)
    else List.replicate 4 0
  let t0 := (x.trigTime + 2 ^ 32 - x.preAct * p % 2 ^ 32) % 2 ^ 32
  leBytes 2 0x5243 ++ [1, 0] ++ leBytes 4 s.power.bootCnt.toNat ++ leBytes 4 t0 ++ leBytes 4 x.trigTime ++
    leBytes 2 x.preAct ++ leBytes 2 (s.tplLen k - s.tplPre k) ++ [w8 k.val, w8 i.val, w8 x.cause, x.code, w8 x.loopByte] ++
    [w8 (fld w 1 0), w8 (fld w 5 2), w8 (fld w 8 6)] ++ leBytes 4 0 ++ [w8 chs.length, w8 s.pos] ++ leBytes 2 0 ++ [0, 0] ++
    List.replicate 14 0 ++ (List.range 8).flatMap chan ++ List.replicate 44 0

/-! ### Triggers (R489, R490) -/

/-- The samples held at or after a device time `at_`, among those held: the newest ones. -/
def State.heldSince (s : State) (k : Fin 4) (at_ : Nat) : Nat :=
  let x := s.tpl k
  match x.sampleAt with
  | some last =>
    let d := (last + 2 ^ 32 - at_ % 2 ^ 32) % 2 ^ 32
    if 2 ^ 31 ≤ d then 0 else min x.hist.length (d / s.tplPeriod k + 1)
  | none => 0

/-- The slot becomes POST at its trigger sample, the `j`-th newest sample held. -/
def enterPost (k : Fin 4) (i : Fin 16) (j : Nat) (c : Nat × Byte × Nat) (s : State) : State :=
  let x := s.tpl k
  let pre := min (s.tplPre k) (x.hist.length - j)
  let s := s.updTpl k fun x => { x with
    hist := x.hist.take (pre + j)
    post := true
    trigPend := none
    preAct := pre
    trigTime := (x.sampleAt.getD 0 + 2 ^ 32 - (j - 1) * s.tplPeriod k % 2 ^ 32) % 2 ^ 32
    cause := c.1
    code := c.2.1
    loopByte := c.2.2 }
  let s := ramPut (0x1E000 * i.val) (s.recHeader k i) s
  (s.updCrbSlot i fun y => { y with st := .post, hdr := true }).irq 6

/-- One more event sample of a record in POST (R490). -/
def addExtra (k : Fin 4) (idx : Nat) (s : State) : State :=
  s.updTpl k fun x => if x.extra.length < 7 then { x with extra := x.extra ++ [idx] } else { x with flags := 2 }

/-- A trigger of template k at device time `at_`: with its cause, code and loop byte. -/
def trigger (k : Fin 4) (at_ : Nat) (c : Nat × Byte × Nat) (s : State) : State :=
  let x := s.tpl k
  if s.crb.hold then s
  else match x.slot with
  | none => if x.armed then s.updCrb fun c => { c with missed := inc16 c.missed } else s
  | some i =>
    let j := s.heldSince k at_
    if x.post then (if j = 0 then s.updTpl k fun x => { x with extraPend := x.extraPend + 1 } else addExtra k (x.hist.length - j) s)
    else if x.trigPend.isSome then s
    else if j = 0 then s.updTpl k fun x => { x with trigPend := some c }
    else enterPost k i j c s

/-- The codes of template k have bit CODE − 1 set (R489). -/
def State.codeSelected (s : State) (k : Fin 4) (code : Nat) : Bool :=
  if code = 0 then false else if code ≤ 16 then bitAt (s.tplW k 7) (code - 1) else bitAt (s.tplW k 8) (code - 17)

/-- An appended entry triggers template k. -/
def State.eventSelects (s : State) (k : Fin 4) (e : LogEntry) : Bool :=
  let ctl := s.tplW k 0
  !bitAt e.w0 15 && !bitAt e.w0 14 && s.codeSelected k (fld e.w0 7 0) && (!bitAt e.w0 13 || bitAt ctl 12) &&
  (if bitAt e.w0 12 then bitAt ctl 13 else bitAt (s.tplW k 6) (fld e.w0 11 8))

/-- The device time of an absolute time. -/
def State.devTimeAt (s : State) (at_ : Nat) : Nat := ((at_ - s.power.bootTime + (Config.us 1 - 1)) / Config.us 1) % 2 ^ 32

/-- The triggers of one appended entry. -/
def eventTriggers (e : LogEntry) (raised : Nat) (s : State) : State :=
  (List.finRange 4).foldl (fun (s : State) k =>
    if s.eventSelects k e then trigger k (s.devTimeAt raised) (0, w8 (fld e.w0 7 0), fld e.w0 13 8 % 64) s else s) s

/-! ### GPIO event pulses (21 R547) -/

def State.updPins (s : State) (f : Pins → Pins) : State := { s with pins := f s.pins }

/-- A pulse of GPIO g starts, or waits for the end of the gap. -/
def pulseStart (g : Fin 24) (s : State) : State :=
  if s.pins.pulseAt[g].isNone then s.updPins fun p => { p with
    pulseOn := p.pulseOn.set g true
    pulseAt := p.pulseAt.set g (some s.now) }
  else s.updPins fun p => { p with pulsePend := p.pulsePend.set g true }

/-- An entry whose event counted into W_FLT_CODE (R347, R371). -/
def countedEntry (e : LogEntry) : Bool :=
  let c := fld e.w0 7 0
  !bitAt e.w0 13 && (decide (1 ≤ c) && decide (c ≤ 0x0E) || decide (c = 0x16)) && (decide (c ≠ 0x0C) || decide (e.w1 = 0))

/-- The pulses that an appended entry starts. -/
def eventPulses (e : LogEntry) (s : State) : State :=
  if !s.up || bitAt e.w0 15 || bitAt e.w0 14 then s
  else (List.finRange 24).foldl (fun (s : State) g =>
    let w := s.gcfg g
    let arg := fld w 15 8
    if fld w 2 0 = 4 ∧ (if arg = 0 then countedEntry e else decide (fld e.w0 7 0 = arg)) = true then pulseStart g s else s) s

/-- GPIO_PULSE_END (R547): the pulse or its gap has lasted 1 µs. -/
def execGpioPulseEnd (t : Nat) (g : Fin 24) (s : State) : Ans :=
  gated t (fun s => match s.pins.pulseAt[g] with | some a => decide (a + Config.us 1 ≤ s.now) | none => false)
    (fun s =>
      if s.pins.pulseOn[g] then s.updPins fun p => { p with
        pulseOn := p.pulseOn.set g false
        pulseAt := p.pulseAt.set g (some s.now) }
      else
        let again := s.pins.pulsePend[g]
        let s := s.updPins fun p => { p with pulseAt := p.pulseAt.set g none, pulsePend := p.pulsePend.set g false }
        if again then pulseStart g s else s) s

/-! ### The event log (R480 to R485, 02 R78, R79) -/

def logAddr (i : Nat) : Nat := 0x1F0000 + 8 * (i % 8192)

/-- Entry i of the log. -/
def State.logEntry (s : State) (i : Nat) : LogEntry :=
  match wordsOf (s.ramBytes (logAddr i) 8) with
  | [a, b, c, d] => { w0 := a, w1 := b, w2 := c, w3 := d }
  | _ => {}

def LogEntry.bytes (e : LogEntry) : List Byte := wordBytes e.w0 ++ wordBytes e.w1 ++ wordBytes e.w2 ++ wordBytes e.w3

/-- A continuation entry. -/
def LogEntry.cont (e : LogEntry) : Bool := !bitAt e.w0 15 && bitAt e.w0 14

/-- Append an entry (R480), with the overwriting of R484 and R79. -/
def logAppend (e : LogEntry) (s : State) : State :=
  let l := s.log
  let wr := l.wr
  let wr' := (wr + 1) % 8192
  let full := decide (l.count = 8192)
  let s := ramPut (logAddr wr) e.bytes s
  let rd := if full then wr' else l.rd
  let cnt := if full then 8192 else l.count + 1
  let pair := decide (cnt = 8192) && decide (rd = wr') && (s.logEntry wr').cont
  let s := { s with log := { l with
    wr := wr'
    rd := if pair then (wr' + 1) % 8192 else rd
    count := if pair then 8191 else cnt
    lost := l.lost || full || pair
    popAt := if l.popAt = some wr ∨ (pair = true ∧ l.popAt = some wr') then none else l.popAt } }
  s.irq 1

/-- The head of the queue is appended, with the triggers and pulses that it starts. -/
def appendHead (s : State) : State :=
  match s.log.queue with
  | [] => s
  | (e, raised) :: r =>
    let s := logAppend e { s with log := { s.log with queue := r } }
    eventPulses e (eventTriggers e raised s)

/-- EVENT_APPEND (R480, R499). -/
def execEventAppend (t : Nat) (s : State) : Ans := gated t (fun s => s.up || decide (s.power.g = .boot)) appendHead s

/-- A session entry (R482). -/
def State.session (s : State) (typ : Nat) (w3 : W16) : LogEntry where
  w0 := w16 (0x8000 + 4096 * typ)
  w1 := w16 s.power.bootCnt.toNat
  w2 := w16 (s.power.bootCnt.toNat / 65536)
  w3 := w3

/-- DEVICE_TIME_WRAP (R68, R482). -/
def execDeviceTimeWrap (t : Nat) (s : State) : Ans :=
  gated t (fun s => s.up && decide (s.power.bootTime + Config.us ((s.log.wraps + 1) * 2 ^ 32) ≤ s.now))
    (fun s =>
      let s := { s with log := { s.log with wraps := s.log.wraps + 1 } }
      s.offer (s.session 1 (w16 s.log.wraps))) s

/-! ### Commands of W_CRUMB_CTL (R478, R479) -/

/-- TRIGGER: a manual trigger of template ARG[1:0]. -/
def crumbTrigger (k : Fin 4) (s : State) : State := trigger k (s.devTimeAt s.now) (2, 0, 0) s

/-- LOCK: DONE becomes LOCKED. -/
def slotLock (i : Fin 16) (s : State) : State :=
  if (s.slot i).st = .done ∧ s.readOnly = false then s.updCrbSlot i fun x => { x with st := .locked } else s

/-- UNLOCK: LOCKED becomes DONE. -/
def slotUnlock (i : Fin 16) (s : State) : State :=
  if (s.slot i).st = .locked ∧ s.readOnly = false then tplsTake (s.updCrbSlot i fun x => { x with st := .done }) else s

/-- RELEASE: DONE, LOCKED or ABORTED becomes FREE. -/
def slotRelease (i : Fin 16) (s : State) : State :=
  let st := (s.slot i).st
  if (st = .done ∨ st = .locked ∨ st = .aborted) ∧ s.readOnly = false then
    tplsTake (s.updCrbSlot i fun x => { x with st := .free })
  else s

/-- HOLD and RESUME. -/
def crumbHold (h : Bool) (s : State) : State := s.updCrb fun c => { c with hold := h }

/-- TRIGGER (R478). -/
def execTrigger (t : Nat) (k : Fin 4) (s : State) : Ans := strobed t State.up (crumbTrigger k) s
/-- LOCK (R478). -/
def execLock (t : Nat) (i : Fin 16) (s : State) : Ans := strobed t State.up (slotLock i) s
/-- UNLOCK (R478). -/
def execUnlock (t : Nat) (i : Fin 16) (s : State) : Ans := strobed t State.up (slotUnlock i) s
/-- SLOT_RELEASE (R478). -/
def execSlotRelease (t : Nat) (i : Fin 16) (s : State) : Ans := strobed t State.up (slotRelease i) s
/-- HOLD (R478). -/
def execHold (t : Nat) (s : State) : Ans := strobed t State.up (crumbHold true) s
/-- RESUME (R478). -/
def execResume (t : Nat) (s : State) : Ans := strobed t State.up (crumbHold false) s

/-- A write to W_CRUMB_CTL. -/
def crumbCtlWrite (w : W16) (s : State) : State :=
  let i : Fin 16 := ⟨fld w 3 0 % 16, by omega⟩
  match fld w 15 12 with
  | 1 => crumbTrigger ⟨fld w 1 0 % 4, by omega⟩ s
  | 2 => slotLock i s
  | 3 => slotUnlock i s
  | 4 => slotRelease i s
  | 5 => crumbHold true s
  | 6 => crumbHold false s
  | _ => s

/-- A read of W_CRUMB_CTL. -/
def State.crumbCtlWord (s : State) : W16 :=
  let c := s.crb
  let busy := (List.finRange 16).any fun i => decide (c.slots[i].st = .post) || decide (c.slots[i].st = .seal)
  let starved := (List.finRange 4).any fun k => c.tpls[k].armed && c.tpls[k].slot.isNone
  w16 ((c.lastDone.map Fin.val).getD 0 + bitVal c.lastDone.isSome 4 + bitVal c.hold 5 + bitVal busy 6 + bitVal starved 7 +
    256 * min 255 c.missed)

/-! ### Sampling (R487 to R491) -/

/-- A value of a channel as a number. -/
def sampleInt (x : W16 × Bool) : Int := if x.2 then x.1.toInt else x.1.toNat

/-- Channel THR_CH crosses THR_LEVEL between the last sample of template k and a new one. -/
def State.crosses (s : State) (k : Fin 4) (new : List (W16 × Bool)) : Bool :=
  let w := s.tplW k 0
  let c := fld (s.tplW k 10) 2 0
  let lv := s.tplW k 9
  match new[c]?, (s.tpl k).prev[c]? with
  | some x, some y =>
    let l : Int := if x.2 then lv.toInt else lv.toNat
    let x := sampleInt x
    let y := sampleInt y
    bitAt w 14 && (if bitAt w 15 then decide (l < y) && decide (x ≤ l) else decide (y < l) && decide (l ≤ x))
  | _, _ => false

/-- After its last sample a slot becomes SEAL, and the template arms in another slot (R491). -/
def sealRecord (k : Fin 4) (i : Fin 16) (s : State) : State :=
  let x := s.tpl k
  let w := s.tplW k 0
  let p := s.tplW k 10
  let cap : CrbCap :=
    { tpl := k
      mode := fld w 1 0
      q := if fld w 1 0 = 1 then fld w 5 2 else 0
      lock := bitAt w 11
      first := fld p 11 8
      count := fld p 7 3
      preAct := x.preAct
      extra := x.extra
      samples := (x.hist.drop (x.hist.length - (x.preAct + (s.tplLen k - s.tplPre k)))).reverse }
  let s := ramPut (0x1E000 * i.val + 36) ([w8 x.extra.length, w8 x.flags] ++
    (x.extra.take 7 ++ List.replicate (7 - x.extra.length) 0).flatMap (leBytes 2)) s
  let s := s.updCrbSlot i fun y => { y with st := .seal, comp := false, cap := some cap }
  tplsTake (s.updTpl k fun x => { x with slot := none, post := false, hist := [], extra := [], extraPend := 0, flags := 0 })

/-- One sample of template k. -/
def captureSample (k : Fin 4) (s : State) : State :=
  let v := (s.tplChans k).map s.chanValue
  let keep := if (s.tpl k).post then s.tplLen k else if (s.tpl k).slot.isSome then s.tplPre k + 16 else 1
  let hit := s.crosses k v
  let s := s.updTpl k fun x => { x with hist := v :: x.hist.take keep, prev := v, sampleAt := some s.devTime }
  let x := s.tpl k
  match x.slot with
  | none => if hit then trigger k s.devTime (1, 0, 0) s else s
  | some i =>
    let s :=
      if x.post then
        (let idx := x.hist.length - 1
         let s := ((List.range x.extraPend).foldl (fun s _ => addExtra k idx s) s).updTpl k fun x => { x with extraPend := 0 }
         if hit then trigger k s.devTime (1, 0, 0) s else s)
      else match x.trigPend with
        | some c => enterPost k i 1 c s
        | none => if hit then trigger k s.devTime (1, 0, 0) s else s
    let x := s.tpl k
    if x.post && decide (x.preAct + (s.tplLen k - s.tplPre k) ≤ x.hist.length) then sealRecord k i s else s

/-- CAPTURE_SAMPLE (R487): at a device time that is a whole multiple of the template's period. -/
def execCaptureSample (t : Nat) (k : Fin 4) (s : State) : Ans :=
  gated t (fun s => s.up && ((s.tpl k).armed || (s.tpl k).post) &&
      decide ((s.now - s.power.bootTime) % Config.us 1 = 0) && decide (s.devTime % s.tplPeriod k = 0) && decide ((s.tpl k).sampleAt ≠ some s.devTime))
    (captureSample k) s

/-! ### Compression and signing (R491 to R495) -/

/-- The `w` low bits of a number in two's complement, most significant first. -/
def bitsOfInt (w : Nat) (v : Int) : List Bool := (List.range w).map fun i => decide (v / 2 ^ (w - 1 - i) % 2 ≠ 0)

/-- Bits, most significant first, padded with 0 to whole bytes. -/
def packBits : Nat → List Bool → List Byte
  | 0, _ => []
  | _, [] => []
  | k + 1, l => w8 ((List.range 8).foldl (fun a i => 2 * a + bitVal (l.getD i false) 0) 0) :: packBits k (l.drop 8)

/-- The residuals of a block (R495): `i` is the index of the next sample, `y` the reconstruction before it. -/
def residuals (q : Nat) (mn mx : Int) (imin imax : Nat) (ev : List Nat) : Nat → Int → List Int → List Int
  | _, _, [] => []
  | i, y, x :: xs =>
    let h : Int := if q = 0 then 0 else 2 ^ (q - 1)
    let d := (x - y + h) / 2 ^ q
    let y' := min (max (y + d * 2 ^ q) mn) mx
    let y' := if i = imin then mn else y'
    let y' := if i = imax then mx else y'
    let y' := if ev.contains i then x else y'
    d :: residuals q mn mx imin imax ev (i + 1) y' xs

/-- The smallest width that holds every residual, 0 when every one is 0. -/
def residualWidth (ds : List Int) : Nat :=
  if ds.all fun d => decide (d = 0) then 0
  else ((List.range 18).find? fun w => decide (0 < w) && ds.all fun d => decide (-(2 ^ (w - 1)) ≤ d) && decide (d < 2 ^ (w - 1))).getD 17

/-- The bytes of one block (R494): the samples as numbers, and the indices of its kept event samples. -/
def blockBytes (mode q : Nat) (ev : List Nat) (xs : List Int) : List Byte :=
  let x0 := xs.headD 0
  let mn := xs.foldl min x0
  let mx := xs.foldl max x0
  let imin := xs.findIdx fun x => decide (x = mn)
  let imax := xs.findIdx fun x => decide (x = mx)
  let ds := residuals q mn mx imin imax ev 1 x0 (xs.drop 1)
  let w := residualWidth ds
  let bits := bitsOfInt 16 x0 ++ bitsOfInt 6 imin ++ bitsOfInt 16 mn ++ bitsOfInt 6 imax ++ bitsOfInt 16 mx ++
    bitsOfInt 2 ev.length ++ (ev.flatMap fun (i : Nat) => bitsOfInt 6 (i : Int) ++ bitsOfInt 16 (xs.getD i 0)) ++
    (if mode = 2 then [] else bitsOfInt 5 w ++ ds.flatMap (bitsOfInt w))
  packBits bits.length bits

/-- Insert into a rising list, without repeats. -/
def insertUp (x : Nat) : List Nat → List Nat
  | [] => [x]
  | y :: r => if x < y then x :: y :: r else if x = y then y :: r else y :: insertUp x r

/-- The event samples of block b, as indices within it: the first three, and whether there are more (R490). -/
def blockEvents (c : CrbCap) (b : Nat) : List Nat × Bool :=
  let all := (((c.preAct :: c.extra).foldl (fun l i => insertUp i l) []).filter fun i => decide (i / 64 = b)).map fun i => i % 64
  (all.take 3, decide (3 < all.length))

/-- The body of a record (R494), and whether a block has more than three event samples. -/
def recordBody (c : CrbCap) : List Byte × Bool :=
  let total := c.samples.length
  let signed := (c.samples.headD []).map Prod.snd
  let bs := (List.range ((total + 63) / 64)).map fun b =>
    let part := (c.samples.drop (64 * b)).take 64
    let ev := blockEvents c b
    let chans := (List.range signed.length).flatMap fun ch =>
      blockBytes c.mode c.q ev.1 (part.map fun v => sampleInt ((v.getD ch (0, false)).1, signed.getD ch false))
    (chans, ev.2)
  (bs.flatMap Prod.fst, bs.any Prod.snd)

/-- The record of slot i is compressed: its body, BODY and flag [0] are placed. -/
def compressSlot (i : Fin 16) (c : CrbCap) (s : State) : State :=
  let r := recordBody c
  let a := 0x1E000 * i.val
  let flags := s.ram (a + 37)
  let s := ramPut (a + 28) (leBytes 4 r.1.length) s
  let s := ramPut (a + 37) [w8 (flags.toNat / 2 * 2 + bitVal r.2 0)] s
  let s := ramPut (a + 128) r.1 s
  s.updCrbSlot i fun x => { x with comp := true, compAt := s.now, whole := true, body := r.1.length }

/-- COMPRESSION_DONE (R491). -/
def execCompressionDone (t : Nat) (i : Fin 16) (s : State) : Ans :=
  gated t (fun s => s.up && decide ((s.slot i).st = .seal) && !(s.slot i).comp)
    (fun s => match (s.slot i).cap with | some c => compressSlot i c s | none => s) s

/-- The record of slot i is signed and completes (R491, R492). -/
def signSlot (i : Fin 16) (c : CrbCap) (s : State) : State :=
  let a := 0x1E000 * i.val
  let n := (s.slot i).body
  let seq := (s.crb.seq + 1) % 65536
  let s := ramPut (a + 34) (leBytes 2 seq) s
  let sig := deviceSign s.idnOk Config.deviceKey (signedPart (s.ramBytes a (128 + n)))
  let s := ramPut (a + 128 + n) sig s
  let free := (poolOf c.first c.count).any fun j => decide (j ≠ i) &&
    (decide ((s.slot j).st = .free) || decide ((s.slot j).st = .aborted) || decide ((s.slot j).st = .done))
  let s := s.updCrbSlot i fun x => { x with
    st := if c.lock && free then .locked else .done
    doneSeq := s.crb.order
    comp := false
    cap := none }
  let s := s.updTpl c.tpl fun x => { x with recs := (x.recs + 1) % 256 }
  tplsTake ((s.updCrb fun b => { b with seq := seq, lastDone := some i, order := b.order + 1 }).irq 6)

/-- The record of slot i is signed, or completes with zeros in place of the signature (R506). -/
def recordSigned (i : Fin 16) (s : State) : State :=
  match (s.slot i).cap with | some c => signSlot i c s | none => s

/-- RECORD_SIGNED (R491, R503). -/
def execRecordSigned (t : Nat) (i : Fin 16) (s : State) : Ans :=
  gated t (fun s => s.up && decide ((s.slot i).st = .seal) && (s.slot i).comp && (!s.idnOk || s.signReady (.record i)))
    (fun s => if s.idnOk then signDone (.record i) (recordSigned i) s else recordSigned i s) s

/-! ### BOOT and views (R485, R498) -/

/-- A slot at a BOOT: after a loss of VAUX FREE; otherwise an unfinished one ABORTED. -/
def slotBoot (lost : Bool) (x : CrbSlot) : CrbSlot :=
  if lost then { hdr := true, whole := true }
  else if x.st = .armed ∨ x.st = .post ∨ x.st = .seal then { x with st := .aborted, comp := false, cap := none } else x

/-- The recorder and the log at an entry to BOOT. -/
def crbBoot (lost : Bool) (s : State) : State :=
  let s := s.updCrb fun c => { c with
    addr := 0
    hold := false
    missed := 0
    seq := 0
    lastDone := none
    tpls := Vector.replicate 4 {}
    slots := Vector.ofFn fun i => slotBoot lost c.slots[i] }
  { s with log := { s.log with
    wr := if lost then 0 else s.log.wr
    rd := if lost then 0 else s.log.wr
    count := 0
    lost := false
    drop := 0
    wraps := 0
    popIdx := 0
    popBuf := {}
    popMid := false
    popAt := none } }

/-- CRB.TSTATk. -/
def State.tplStat (s : State) (k : Fin 4) : W16 :=
  let x := s.tpl k
  w16 ((if x.post then 2 else if !x.armed then 0 else if x.slot.isNone then 3 else 1) + 16 * ((x.slot.map Fin.val).getD 0) +
    256 * (x.recs % 256))

/-- CRB.SLOTSTj. -/
def State.slotStats (s : State) (j : Nat) : W16 :=
  w16 ((List.range 4).foldl (fun a i => if h : 4 * j + i < 16 then a + 16 ^ i * (s.slot ⟨4 * j + i, h⟩).st.code else a) 0)

/-- CRB.LOCKED. -/
def State.slotsLocked (s : State) : W16 :=
  w16 ((List.finRange 16).foldl (fun a i => a + bitVal (decide ((s.slot i).st = .locked)) i.val) 0)

end Sys2Proof.Machine
end

