-- ==== Sys2Proof/Machine/Commit.lean ====
section
/-! DEFINITION. Proof copies and commits (03_proof_and_commit.md R85 to R100): the crossing of class-L words, REVERT, and a
commit from its request to its end. -/

namespace Sys2Proof.Machine

open Sys2Proof

def State.updPar (s : State) (f : Params → Params) : State := { s with par := f s.par }

/-- W_COMMIT_STAT.BUSY. -/
def State.busy (s : State) : Bool := decide (s.par.phase ≠ .idle)

/-- W_COMMIT_STAT. -/
def State.commitStat (s : State) : W16 :=
  w16 (s.par.code.toNat + bitVal s.par.refused 14 + bitVal s.busy 15)

/-! ### Dirty words (R86) -/

/-- Insert into a rising list without repeats. -/
def insertNat (a : Nat) : List Nat → List Nat
  | [] => [a]
  | b :: r => if a < b then a :: b :: r else if a = b then b :: r else b :: insertNat a r

/-- The dirty words of every class, ascending. -/
def State.dirtyWords (s : State) : List Nat :=
  ((s.par.proof.map Prod.fst ++ s.par.inUse.map Prod.fst).foldl (fun l a => insertNat a l) []).filter fun a =>
    isRw a && decide (s.proof a ≠ s.baseUse a)

/-- PRF.DIRTY. -/
def State.dirtyCount (s : State) : W16 := w16 s.dirtyWords.length

/-- The commit set of R92. -/
def State.commitSet (s : State) : List (Nat × W16) :=
  (s.dirtyWords.filter fun a => decide (classOf a ≠ .L)).map fun a => (a, s.proof a)

/-! ### REVERT (R87) -/

/-- The proof copies of the words that `p` selects take the values in use. -/
def revertWords (p : Nat → Bool) (s : State) : State :=
  let s := (s.dirtyWords.filter p).foldl (fun s a => s.setProof a (s.baseUse a)) s
  s.updPar fun x => { x with
    waitL := x.waitL.filter fun w => !p w.1
    lateL := x.lateL.filter fun a => !p a }

/-- A write to PRF.REVERT. -/
def revertWrite (w : W16) (s : State) : State :=
  if s.busy then s
  else if w = 0x00FF then revertWords (fun _ => true) s
  else if w.toNat ≤ 0x3F then revertWords (fun a => decide (a / 256 = w.toNat)) s
  else s

/-- REVERT (R87). -/
def execRevert (t : Nat) (w : W16) (s : State) : Ans := strobed t (fun _ => true) (revertWrite w) s

/-! ### Class-L words (R89 to R91) -/

/-- A write of a class-L word to proof: it waits to cross (R89). -/
def writeL (a : Nat) (s : State) : State :=
  s.updPar fun p => { p with
    waitL := (p.waitL.filter fun w => decide (w.1 ≠ a)) ++ [(a, s.now)]
    lateL := if s.busy then insertNat a p.lateL else p.lateL.filter fun b => decide (b ≠ a) }

/-- Report a refusal (R95). -/
def reportRefusal (code : Byte) (addr : W16) (s : State) : State :=
  (s.updPar fun p => { p with code := code, refused := true, refuseAddr := addr }).irq 2

/-- The report of a refused class-L write, held while a commit is BUSY (R90, R91). -/
def refuseL (f : Fail) (s : State) : State :=
  if s.busy then s.updPar fun p => { p with heldL := some (w8 f.1, w16 f.2) } else reportRefusal (w8 f.1) (w16 f.2) s

/-- What hangs on a class-L word that has crossed: a committed load line (R313), Layer gain (R339) and ARM (18 R488). -/
def crossedL (a : Nat) (s : State) : State :=
  let p := a / 256
  if h : p - 0x10 < 16 then
    if p < 0x10 then s
    else
      let n : Fin 16 := ⟨p - 0x10, h⟩
      if a % 256 = 0x17 then s.updAcp n fun x => { x with ll := none }
      else if a % 256 = 0x30 then
        layerCommit n (s.lyrCtl n) (s.lyrCtl n) (s.lp n 0x2F) (s.lp n 0x2F) false true s
      else s
  else if a = pgA 0x38 0x30 then crbArm s
  else s

/-- The refusal of a class-L crossing by GASP, by the handler rules, or by a check (R90, R97, 15 R428). -/
def State.refusalL (s : State) (a : Nat) : Option Fail :=
  if s.power.g = .gasp then some (0x10, 0xFFFF)
  else if s.readOnly then some (0x11, 0xFFFF)
  else s.judgeWord a (s.proof a)

/-- The word crosses into use, or is refused. -/
def crossL (a : Nat) (s : State) : State :=
  let r := s.refusalL a
  let s := s.updPar fun p => { p with
    waitL := p.waitL.filter fun w => decide (w.1 ≠ a)
    lateL := p.lateL.filter fun b => decide (b ≠ a) }
  match r with
  | some f => refuseL f s
  | none => crossedL a (s.setUse a (s.proof a))

/-- The boundary at which the word at `a`, written at `w`, may cross (R88, R89). -/
def State.mayCross (s : State) (a w : Nat) : Bool :=
  let p := a / 256
  if h : p - 0x10 < 16 then
    if p < 0x10 then true
    else
      let n : Fin 16 := ⟨p - 0x10, h⟩
      decide (s.st n = .off) || (s.unsampled n && decide (w < s.now))
  else true

/-- CLASS_L_CROSSING (R89 to R91). -/
def execClassLCrossing (t : Nat) (a : W16) (s : State) : Ans :=
  gated t (fun s => s.up && !(s.busy && s.par.lateL.contains a.toNat) &&
      (match s.par.waitL.lookup a.toNat with | some w => s.mayCross a.toNat w | none => false))
    (crossL a.toNat) s

/-! ### The takers of a word (R94) -/

/-- The loops that PHm is mapped to before and after. -/
def phaseLoops (s new : State) (m : Fin 64) : List (Fin 16) := ((s.loopOf m).toList ++ (new.loopOf m).toList).eraseDups

/-- The loops with a phase on ISCk before or after. -/
def iscLoops (s new : State) (k : Nat) : List (Fin 16) :=
  allLoops.filter fun n => allPhases.any fun m => decide (m.val / 16 = k) && (s.mapped n m || new.mapped n m)

/-- The pages that are taken together: those of the survey converter. -/
def unitPages (p : Nat) : List Nat := if p = 6 ∨ p = 7 ∨ p = 8 then [6, 7, 8] else [p]

/-- The takers of the word at `a`. -/
def takersOf (s new : State) (a : Nat) : List Taker :=
  let p := a / 256
  let i := a % 256
  let loopsOr (l : List (Fin 16)) : List Taker := if l = [] then [.page p] else l.map Taker.loop
  if h : p - 0x10 < 16 then
    if p < 0x10 then
      (if p = 4 then [.loop ⟨i % 16, by omega⟩]
       else if p = 5 then loopsOr (iscLoops s new (i % 4))
       else (unitPages p).map Taker.page)
    else [.loop ⟨p - 0x10, h⟩]
  else if p < 0x24 then loopsOr (phaseLoops s new (phaseOfAddr a))
  else if p = 0x39 then loopsOr (allLoops.filter fun n => s.lyrOn n)
  else [.page p]

/-- The value in use that W_PVIEW returns (02 R71, R94): a word that goes to one loop or unit changes with it, a word that goes
to several loops when BUSY clears. -/
def State.viewUse (s : State) (a : Nat) : W16 :=
  let old := s.withUse s.par.inUse
  match takersOf old (s.withUse (overlay s.par.set s.par.inUse)) a with
  | .loop _ :: .loop _ :: _ => s.baseUse a
  | tk :: _ => s.useBy tk a
  | [] => s.baseUse a

/-- The takers of a commit set. -/
def setTakers (s new : State) (set : List (Nat × W16)) : List Taker := (set.flatMap fun x => takersOf s new x.1).eraseDups

/-- The loops of a list of takers. -/
def loopsOf (l : List Taker) : List (Fin 16) := l.filterMap fun k => match k with | .loop n => some n | .page _ => none

/-! ### From the request to the judgement (R92 to R98) -/

/-- The unlock ranges that a capture is judged against (19 R516). -/
def State.unlockRanges (s : State) : List (Nat × Nat) :=
  match s.idn.unlock with
  | some u => if twCount u.life = 0 ∨ s.now < u.from_ + twDur u.life then u.ranges else []
  | none => []

/-- The loops whose FSW is captured while their SHED_UP.AFS in use is 1 (09 R255). -/
def State.pinLoops (s : State) : List (Fin 16) :=
  allLoops.filter fun n => s.afs n && s.commitSet.any fun x => decide (x.1 = lpA n 0x1D)

/-- Pin the frequency of LPn at its captured FSW (09 R255): FLO of the proof PH_MIN and FHI of the proof PH_MAX become 0. -/
def pinFreq (n : Fin 16) (s : State) : State :=
  let low (a : Nat) (s : State) : State := s.setProof a (s.proof a &&& 0x00FF)
  low (lpA n 0x20) (low (lpA n 0x1F) s)

/-- The captured commit set: the dirty words of R92, with both words of every loop that R255 pins, ascending. -/
def State.captureSet (s : State) (pinned : List (Fin 16)) : List (Nat × W16) :=
  let words := pinned.flatMap fun n => [lpA n 0x1F, lpA n 0x20]
  (words.foldl (fun l a => insertNat a l) (s.commitSet.map Prod.fst)).map fun a => (a, s.proof a)

/-- A write of 0xC0A1 to W_COMMIT (R92, R96, R97, 09 R255). -/
def commitRequest (s : State) : State :=
  if s.busy then s
  else
    let pinned := s.pinLoops
    let s := forLoops pinFreq pinned s
    let set := s.captureSet pinned
    let new := s.withUse (overlay set s.par.inUse)
    let held := loopsOf (setTakers s new (set.filter fun x => decide (classOf x.1 = .S)))
    let code : Byte := if s.power.g = .gasp then 0x10 else if s.readOnly then 0x11 else 0
    let s := { s with idn := { s.idn with covered := s.unlockRanges } }
    s.updPar fun p => { p with
      phase := .capture
      phaseAt := s.now
      set := set
      held := held
      pendCode := code
      pendAddr := 0xFFFF }

/-- COMMIT_REQUEST. -/
def execCommitRequest (t : Nat) (s : State) : Ans := strobed t (fun _ => true) commitRequest s

/-- A write to W_COMMIT: other values are ignored (02 R64). -/
def commitWrite (w : W16) (s : State) : State := if w = 0xC0A1 then commitRequest s else s

/-- BUSY clears: a report held for a class-L word replaces the commit's (R91), and an unlock accepted meanwhile becomes
active (19 R516). -/
def busyEnd (s : State) : State :=
  let held := s.par.heldL
  let s := s.updPar fun p => { p with
    phase := .idle
    set := []
    takers := []
    held := []
    heldL := none
    lateL := [] }
  let s := match s.idn.unlockPend with
    | some u => { s with idn := { s.idn with unlock := some u, unlockPend := none } }
    | none => s
  match held with
  | some (c, a) => reportRefusal c a s
  | none => s

/-- The commit completes with a code that is no refusal (R95). -/
def commitDone (code : Byte) (s : State) : State :=
  busyEnd ((s.updPar fun p => { p with code := code, refused := false }).irq 2)

/-- One use of the active unlock is spent by a commit that holds a word it covers (19 R515). -/
def spendUnlock (set : List (Nat × W16)) (s : State) : State :=
  match s.idn.unlock with
  | some u =>
    if set.any fun x => decide (classOf x.1 = .K) && u.ranges.any fun r => decide (r.1 ≤ x.1) && decide (x.1 ≤ r.2) then
      { s with idn := { s.idn with unlock := if u.uses ≤ 1 then none else some { u with uses := u.uses - 1 } } }
    else s
  | none => s

/-- Every taker has its words: the commit is applied (R94, R95). -/
def commitApplied (s : State) : State :=
  let set := s.par.set
  let s := spendUnlock set (s.updPar fun p => { p with inUse := overlay set p.inUse })
  commitDone 0 s

/-- The judgement of the captured set (R94, R98). -/
def judgeCapture (s : State) : State :=
  let refuse (c : Byte) (a : W16) : State :=
    s.updPar fun p => { p with phase := .refused, phaseAt := s.now, pendCode := c, pendAddr := a }
  if s.par.pendCode ≠ 0 then refuse s.par.pendCode s.par.pendAddr
  else if s.par.set = [] then commitDone 1 s
  else match s.judge s.par.set with
    | some f => refuse (w8 f.1) (w16 f.2)
    | none =>
      let new := s.withUse (overlay s.par.set s.par.inUse)
      s.updPar fun p => { p with phase := .apply, phaseAt := s.now, takers := setTakers s new p.set }

/-- CAPTURE_END (R93, R94). -/
def execCaptureEnd (t : Nat) (s : State) : Ans :=
  gated t (fun s => s.up && decide (s.par.phase = .capture)) judgeCapture s

/-- COMMIT_REFUSED (R95, R99): 2 µs after the refusal. -/
def execCommitRefused (t : Nat) (s : State) : Ans :=
  gated t (fun s => s.up && decide (s.par.phase = .refused) && decide (s.par.phaseAt + Config.us 2 ≤ s.now))
    (fun s => busyEnd (reportRefusal s.par.pendCode s.par.pendAddr s)) s

/-! ### A taker takes its words (R94, R187, R205, R231, R339) -/

/-- The set names a word of a list. -/
def State.names (s : State) (l : List Nat) : Bool := s.par.set.any fun x => l.contains x.1

/-- A section that leaves or enters bypass has its states cleared (07). -/
def clearSections (old new : W16) (g : LoopEng) : LoopEng :=
  let g := if bitAt old 0 = bitAt new 0 then g else { g with s1 := 0, s2 := 0 }
  if bitAt old 1 = bitAt new 1 then g else { g with s3 := 0, s4 := 0 }

/-- What follows from the new words of LPn; `old` is the state before it took them. -/
def loopTook (n : Fin 16) (old s : State) : State :=
  let w (i : Nat) : W16 := s.lp n i
  let was (i : Nat) : W16 := old.lp n i
  let s := if was 0x16 = w 0x16 then s else s.updEng n (rescale (was 0x16) (w 0x16))
  let s := s.updEng n (clearSections (was 0x0C) (w 0x0C))
  let other := s.names [lpA n 0x2E, lpA n 0x2F, pgA 0x39 0x0D]
  let auto := s.names [pgA 0x39 0x0E]
  let s := if other || auto then layerCommit n (was 0x2E) (w 0x2E) (was 0x2F) (w 0x2F) auto other s else s
  let s := if s.names [lpA n 0x1D] || (old.afs n && !s.afs n) then s.updMod n fun m => { m with fcNext := some (w 0x1D).toNat } else s
  let s := if s.names [lpA n 0x1F, lpA n 0x20, lpA n 0x21] && (s.st n).running then refitHint n s else s
  vinNote n (enableNote n s)

/-- A target of Chew restarts its selector after a commit of its words (20 R528). -/
def chewTook (s : State) : State :=
  let seed := s.chwW 4
  let re (b : Nat) (ws : List Nat) : Bool :=
    s.names (ws.map (pgA 0x3B)) || (s.names [pgA 0x3B 0] && decide (bitAt (s.baseUse (pgA 0x3B 0)) b ≠ bitAt (s.chwW 0) b))
  s.updChw fun c => { c with
    acp := if re 0 [5, 6] then selRestart seed c.acp else c.acp
    lsh := if re 1 [7, 8] then selRestart seed c.lsh else c.lsh
    fch := if re 2 [9, 0x0A, 0x0B, 0x0C] then selRestart seed c.fch else c.fch }

/-- The survey converter at its update point (05 R154, R165). -/
def surveyTook (old s : State) : State :=
  let re := s.par.set.any fun x =>
    let p := x.1 / 256
    decide (p = 7) || (decide (p = 6) && decide (x.1 % 256 < 0x20)) ||
      (decide (p = 8) && (decide (x.1 % 256 = 0) || decide (4 ≤ x.1 % 256 ∧ x.1 % 256 < 0x0C)))
  let s := svrChange old.svrCtl s
  if re then svcRestart old s else s

/-- Protection's own words: FAULT_N is driven for a newly selected condition, and a change of FAULT_IGNORE is logged
(13 R368, R371). -/
def protTook (old s : State) : State :=
  let s := vinNoteAll (driveFault s)
  let w := s.pg 2 1
  if w = old.pg 2 1 then s else s.event 0x0C none (w16 (0x8000 + w.toNat)) 0

/-- A GPIO that no longer pulses ends its pulse (21 R546, R547). -/
def pulsesTook (s : State) : State :=
  (List.finRange 24).foldl (fun (s : State) g =>
    if fld (s.gcfg g) 2 0 = 4 then s
    else s.updPins fun p => { p with
      pulseOn := p.pulseOn.set g false
      pulseAt := p.pulseAt.set g none
      pulsePend := p.pulsePend.set g false }) s

/-- The STB takes its words (R228, R247, R249): the source is chosen anew, a committed angle acts from each loop's next carrier
cycle, and a new mode of SYNC_OUT ends the pulse of the old one. -/
def stbTook (old s : State) : State :=
  let s := forLoops carrierAngle allLoops (reselect s)
  if s.pg 3 5 = old.pg 3 5 then s else { s with stb := { s.stb with outUntil := none } }

/-- What follows from the new words of the unit of page p. -/
def pageTook (p : Nat) (old s : State) : State :=
  if p = 2 then protTook old s
  else if p = 3 then stbTook old s
  else if p = 6 ∨ p = 7 ∨ p = 8 then surveyTook old s
  else if p = 0x28 then acpCommit s
  else if p = 0x30 then withStat leashEnable s
  else if p = 0x34 then fchCommit s
  else if p = 0x3B then chewTook s
  else if p = 0x3C then forLoops enableNote allLoops (pulsesTook s)
  else s

/-- The taker named by COMMIT_APPLY. -/
def takerOf (isLoop : Bool) (i : Fin 256) : Taker :=
  if isLoop then .loop ⟨i.val % 16, by omega⟩ else .page i.val

/-- The taker may take its words now: an OFF loop at any time, another at its first boundary after capture ends, a unit at
its update point (R94), which for the Leash is a frame start (R404). -/
def State.mayTake (s : State) : Taker → Bool
  | .loop n => decide (s.st n = .off) || (s.unsampled n && decide (s.par.phaseAt < s.now))
  | .page p => decide (p ≠ 0x30) || !s.synced || s.frameStarted s.par.phaseAt

/-- A taker takes its words; the last one completes the commit. -/
def commitApply (tk : Taker) (s : State) : State :=
  let gone : List Taker := match tk with
    | .loop n => [.loop n]
    | .page p => (unitPages p).map Taker.page
  let old := s
  let s := s.updPar fun p => { p with takers := p.takers.filter fun k => !gone.contains k }
  let s := match tk with
    | .loop n => loopTook n old s
    | .page p => pageTook p old s
  if s.par.takers = [] then commitApplied s else s

/-- COMMIT_APPLY (R94, R95). -/
def execCommitApply (t : Nat) (isLoop : Bool) (i : Fin 256) (s : State) : Ans :=
  gated t (fun s => s.up && decide (s.par.phase = .apply) && s.par.takers.contains (takerOf isLoop i) && s.mayTake (takerOf isLoop i))
    (commitApply (takerOf isLoop i)) s

end Sys2Proof.Machine
end

