-- ==== Sys2Proof/Machine/Identity.lean ====
section
/-! DEFINITION. Identity, tokens and attestation (19_identity.md R501 to R525): the host ports, the token commands, and the
identity unit at BOOT. -/

namespace Sys2Proof.Machine

open Sys2Proof

def State.updIdn (s : State) (f : Idn → Idn) : State := { s with idn := f s.idn }

/-! ### Words of the device that a report carries (02 R65) -/

/-- DEV.STATE. -/
def GState.code : GState → Nat
  | .unpowered => 0 | .kennel => 0 | .reset => 2 | .boot => 2 | .ready => 3 | .run => 4 | .gasp => 5 | .killed => 6

/-- FAULT_N sampled low: others hold it low, or this device drives it. -/
def State.faultLow (s : State) : Bool := s.prot.fltLow || s.prot.fltDrive.isSome

/-- W_STAT (R65). -/
def State.wStat (s : State) : W16 :=
  if s.window then
    w16 (s.power.g.code + bitVal s.power.img 3 + bitVal s.selfBias 4 + bitVal s.leaseHeld 5 + bitVal (bitAt s.win.wdogCfg 3) 6 +
      bitVal s.win.wdogExp 7 + bitVal s.win.short 8 + bitVal s.log.lost 9 + bitVal s.faultLow 10 + bitVal (!s.power.killN) 11)
  else w16 (2 + bitVal s.selfBias 4)

/-- W_FLT_CODE and W_FLT_LOOP (R64). -/
def State.fltCodeWord (s : State) : W16 := w16 (s.win.fltCode.toNat + 256 * s.win.fltCount.toNat)
def State.fltLoopWord (s : State) : W16 := w16 (s.win.fltLoop.toNat + bitVal s.win.fltValid 15)

/-- The active unlock, if its LIFE has not passed (R515). -/
def State.activeUnlock (s : State) : Option Unlock :=
  s.idn.unlock.filter fun u => decide (twCount u.life = 0) || decide (s.now < u.from_ + twDur u.life)

/-- IDN.STAT. -/
def State.idnStat (s : State) : W16 :=
  let i := s.idn
  w16 (bitVal i.devKey 0 + bitVal i.cert 1 + bitVal Config.caKey.isSome 2 + bitVal i.rng 3 + bitVal (decide (i.opk ≠ [])) 4 +
    32 * ((i.opk.length - 1) % 4) + bitVal s.activeUnlock.isSome 7)

/-- The fingerprint of the operator key in use, zeros without one (R505). -/
def State.opkPrint (s : State) : List Byte := match s.opKey with | some q => keyFingerprint q | none => List.replicate 8 0

/-! ### Tokens (R512 to R517) -/

/-- The address ranges of an UNLOCK token. -/
def tokenRanges (b : List Byte) : Nat → List (Nat × Nat)
  | 0 => []
  | k + 1 => tokenRanges b k ++ [(img16 b (24 + 4 * k), img16 b (26 + 4 * k))]

/-- LENGTH of a well-formed token of the type that its bytes name; none for another type (R512). -/
def tokenLength (b : List Byte) : Option Nat :=
  let typ := (b.getD 5 0).toNat
  let uses := (b.getD 22 0).toNat
  let nr := (b.getD 23 0).toNat
  if typ = 1 then
    (if 1 ≤ uses ∧ 1 ≤ nr ∧ nr ≤ 8 ∧ ((tokenRanges b nr).all fun r => decide (r.1 ≤ r.2)) = true then some (88 + 4 * nr) else none)
  else if typ = 2 then (if img16 b 20 = 0 ∧ uses = 0 ∧ nr = 0 then some 152 else none)
  else none

/-- The format check (R513 check 1). -/
def tokenFormat (excess : Bool) (b : List Byte) : Bool :=
  !excess && decide (b.take 5 = [(0x46 : Byte), 0x59, 0x52, 0x54, 1]) && decide (tokenLength b = some b.length) &&
  decide (img16 b 6 = b.length)

/-- COUNTER of a token. -/
def tokenCount (b : List Byte) : Nat := img32 b 16

/-- A key of 64 bytes, X then Y. -/
def keyOf (b : List Byte) : Nat × Nat := (beNat (b.take 32), beNat ((b.drop 32).take 32))

/-- The result of the checks of R513, 0 when all pass. -/
def State.tokenCheck (s : State) (excess : Bool) (b : List Byte) : Nat :=
  if tokenFormat excess b = false then 1
  else match s.opKey with
    | none => 5
    | some q =>
      if (b.drop 8).take 8 ≠ ownPrint then 2
      else if tokenCount b ≤ s.idn.tokCnt then 3
      else if verifyBytes q (b.take (b.length - 64)) (b.drop (b.length - 64)) = false then 4
      else if b.getD 5 0 = 2 ∧ 4 ≤ s.idn.opk.length then 6
      else 0

/-- The unlock of a token accepted now (R515). -/
def tokenUnlock (now_ : Nat) (b : List Byte) : Unlock where
  ranges := tokenRanges b (b.getD 23 0).toNat
  uses := (b.getD 22 0).toNat
  from_ := now_
  life := w16 (img16 b 20)

/-- The active unlock ends, and with it one that waits for BUSY to clear (R515). -/
def endUnlock (s : State) : State := s.updIdn fun i => { i with unlock := none, unlockPend := none }

/-- An accepted token: the counter rises, then the token takes effect (R513 to R517). -/
def tokenAccept (b : List Byte) (s : State) : State :=
  let s := s.updIdn fun i => { i with tokCnt := tokenCount b }
  if b.getD 5 0 = 1 then
    let u := tokenUnlock s.now b
    if s.busy then s.updIdn fun i => { i with unlockPend := some u } else s.updIdn fun i => { i with unlock := some u }
  else endUnlock (s.updIdn fun i => { i with opk := i.opk ++ [keyOf ((b.drop 24).take 64)] })

/-! ### Attestation (R519, R520) -/

/-- The SHA-256 over every RW value in use (R519, offset 120). -/
def State.useDigest (s : State) : List Byte := sha256 (allRw.flatMap fun a => wordBytes (s.baseUse a))

/-- The first 192 bytes of the report over a host nonce (R519). -/
def State.report (s : State) (nonce : List Byte) : List Byte :=
  [(0x46 : Byte), 0x59, 0x52, 0x41, 1, w8 s.power.pos.toNat] ++ leBytes 2 256 ++ nonce ++ ownPrint ++ leBytes 8 Config.serial ++
  leBytes 4 s.power.bootCnt.toNat ++ leBytes 4 s.devTime ++ leBytes 4 s.idn.tokCnt ++ s.opkPrint ++
  [if s.idn.opk = [] then 0xFF else w8 (s.idn.opk.length - 1), w8 s.power.g.code] ++
  wordBytes s.wStat ++ wordBytes s.imgStat ++ wordBytes s.slotStat ++
  leBytes 4 (if s.power.img then s.nvm.imgSeq else 0) ++ (if s.power.img then s.nvm.imgDigest else List.replicate 32 0) ++
  s.useDigest ++ (sha256 s.wplBytes).take 8 ++ wordBytes s.loopAct ++ wordBytes s.fltCodeWord ++ wordBytes s.fltLoopWord ++
  leBytes 2 s.power.resetCause.toNat ++ wordBytes s.power.kennelStat ++ leBytes 2 s.rosterWord ++ wordBytes s.idnStat ++
  List.replicate 18 0

/-! ### Token commands (R509 to R511) -/

/-- A command fills the output buffer: its length is set and the read pointer returns to 0 (R509). -/
def fillOut (b : List Byte) (s : State) : State := s.updIdn fun i => { i with outBuf := b, outPtr := 0 }

/-- A command ends with a result and sets W_IRQ.TOKEN (R509). -/
def tokenResult (r : Nat) (s : State) : State :=
  (s.updIdn fun i => { i with busy := none, early := 0, work := [], result := r }).irq 8

/-- The effect and result of the command in progress. -/
def tokenOutcome (c : IdnCmd) (s : State) : State :=
  let b := s.idn.work
  let excess := decide (256 < b.length)
  match c with
  | .submit =>
    let r := s.tokenCheck excess b
    if r = 0 then tokenResult 0 (tokenAccept b s) else tokenResult r s
  | .attest =>
    if excess || decide (b.length < 32) then tokenResult 1 s
    else if s.idnOk then
      let r := s.report (b.take 32)
      tokenResult 0 (fillOut (r ++ deviceSign true Config.deviceKey r) s)
    else tokenResult 7 s
  | .readCert => tokenResult 0 (fillOut Config.deviceCert s)
  | .install =>
    if excess || decide (b.length < 64) then tokenResult 1 s
    else if s.idn.opk ≠ [] then tokenResult 6 s
    else if onCurve (keyOf b) then tokenResult 0 (s.updIdn fun i => { i with opk := [keyOf b] })
    else tokenResult 7 s
  | .readOpk =>
    match s.opKey with
    | some q => tokenResult 0 (fillOut (beBytes 32 q.1 ++ beBytes 32 q.2) s)
    | none => tokenResult 5 s

/-- The command in progress completes. -/
def tokenDone (s : State) : State :=
  match s.idn.busy with
  | some c => if s.idn.early ≠ 0 then tokenResult s.idn.early s else tokenOutcome c s
  | none => s

/-- The command in progress needs nothing more of the engine: SUBMIT and ATTEST alone do, unless refused at the strobe. -/
def State.tokenServed (s : State) : Bool :=
  !(s.signWork.any fun w => decide (w.work = .token))

/-- TOKEN_COMMAND_DONE (R503, R509, R520): an ATTEST waits for a commit that is BUSY. -/
def execTokenCommandDone (t : Nat) (s : State) : Ans :=
  gated t (fun s => s.up && s.idn.busy.isSome && !(decide (s.idn.busy = some .attest) && s.busy) &&
      (s.tokenServed || s.signReady .token))
    (fun s => if s.tokenServed then tokenDone s else signDone .token tokenDone s) s

/-- The number of a command in W_TOKEN_CTL. -/
def IdnCmd.code : IdnCmd → Nat
  | .submit => 2 | .attest => 3 | .readCert => 4 | .install => 5 | .readOpk => 7

/-- The result that is decided at the strobe (R511). -/
def State.tokenEarly (s : State) (c : IdnCmd) : Nat :=
  match c with
  | .submit | .install => if s.readOnly then 9 else if s.power.g = .gasp then 8 else 0
  | .attest => 0
  | .readCert => 0
  | .readOpk => 0

/-- A command that sets BUSY (R509): its input is taken at the strobe; one byte more stands for an overflow. -/
def tokenStart (c : IdnCmd) (s : State) : State :=
  let e := s.tokenEarly c
  s.updIdn fun i => { i with
    busy := some c
    lastCmd := c.code
    early := e
    busyAt := s.now
    served := false
    work := if i.excess then i.inBuf ++ [0] else i.inBuf }

/-- CLEAR_IN. -/
def tokenClearIn (s : State) : State := s.updIdn fun i => { i with inBuf := [], excess := false, lastCmd := 1, result := 0 }

/-- DROP: refused to a read-only peer. -/
def tokenDrop (s : State) : State :=
  let s := s.updIdn fun i => { i with lastCmd := 6 }
  if s.readOnly then tokenResult 9 s else tokenResult 0 (endUnlock s)

/-- REWIND. -/
def tokenRewind (s : State) : State := s.updIdn fun i => { i with outPtr := 0, lastCmd := 8, result := 0 }

/-- W_TOKEN_CTL takes a command (R509). -/
def State.tokenIdle (s : State) : Bool := s.idn.busy.isNone

/-- CLEAR_IN (R509). -/
def execClearIn (t : Nat) (s : State) : Ans := strobed t State.tokenIdle tokenClearIn s
/-- SUBMIT (R509). -/
def execSubmit (t : Nat) (s : State) : Ans := strobed t State.tokenIdle (tokenStart .submit) s
/-- ATTEST (R509). -/
def execAttest (t : Nat) (s : State) : Ans := strobed t State.tokenIdle (tokenStart .attest) s
/-- READ_CERT (R509). -/
def execReadCert (t : Nat) (s : State) : Ans := strobed t State.tokenIdle (tokenStart .readCert) s
/-- INSTALL (R509). -/
def execInstall (t : Nat) (s : State) : Ans := strobed t State.tokenIdle (tokenStart .install) s
/-- DROP (R509). -/
def execDrop (t : Nat) (s : State) : Ans := strobed t State.tokenIdle tokenDrop s
/-- READ_OPK (R509). -/
def execReadOpk (t : Nat) (s : State) : Ans := strobed t State.tokenIdle (tokenStart .readOpk) s
/-- REWIND (R509). -/
def execRewind (t : Nat) (s : State) : Ans := strobed t State.tokenIdle tokenRewind s

/-- A write of W_TOKEN_CTL (R509). -/
def tokenCtlWrite (w : W16) (s : State) : State :=
  if s.tokenIdle = false then s
  else match fld w 3 0 with
    | 1 => tokenClearIn s
    | 2 => tokenStart .submit s
    | 3 => tokenStart .attest s
    | 4 => tokenStart .readCert s
    | 5 => tokenStart .install s
    | 6 => tokenDrop s
    | 7 => tokenStart .readOpk s
    | 8 => tokenRewind s
    | _ => s

/-- W_TOKEN_CTL on reads (R510). -/
def State.tokenCtlWord (s : State) : W16 :=
  w16 (s.idn.lastCmd + 256 * (s.idn.result % 16) + bitVal (decide (s.idn.result ≠ 0)) 14 + bitVal s.idn.busy.isSome 15)

/-! ### W_TOKEN_PORT (R508) -/

/-- A write appends two bytes to the input buffer of 256. -/
def portWrite (w : W16) (s : State) : State :=
  s.updIdn fun i =>
    let b := i.inBuf ++ wordBytes w
    { i with inBuf := b.take 256, excess := i.excess || decide (256 < b.length) }

/-- TOKEN_PORT_WRITE (R508). -/
def execTokenPortWrite (t : Nat) (w : W16) (s : State) : Ans := strobed t (fun _ => true) (portWrite w) s

/-- The next two bytes of the output buffer, 0 beyond its length. -/
def State.portWord (s : State) : W16 :=
  wordOf (s.idn.outBuf.getD s.idn.outPtr 0) (s.idn.outBuf.getD (s.idn.outPtr + 1) 0)

/-- A read returns them and steps the read pointer. -/
def portRead (s : State) : State :=
  let v := s.portWord
  let s := { s with win := { s.win with adOut := v } }
  s.updIdn fun i => { i with outPtr := i.outPtr + 2 }

/-- TOKEN_PORT_READ (R508). -/
def execTokenPortRead (t : Nat) (s : State) : Ans := slotRead t portRead s

/-! ### Unlocks and random numbers (R515, R524) -/

/-- UNLOCK_EXPIRE (R515): LIFE has passed since the acceptance. -/
def execUnlockExpire (t : Nat) (s : State) : Ans :=
  gated t (fun s => s.idn.unlock.isSome && s.activeUnlock.isNone) (fun s => s.updIdn fun i => { i with unlock := none }) s

/-- RNG_TEST_FAIL (R524): the DRBG stops until the next BOOT. -/
def execRngTestFail (t : Nat) (s : State) : Ans :=
  gated t (fun s => s.up || decide (s.power.g = .boot)) (fun s => s.updIdn fun i => { i with rng := false }) s

/-- DRBG_RESEED (R524). -/
def execDrbgReseed (t : Nat) (s : State) : Ans :=
  gated t (fun s => s.idn.rng && decide (65536 ≤ s.idn.reqs)) (fun s => s.updIdn fun i => { i with reqs := 0 }) s

/-! ### Entry to BOOT (R506, R508, R515, R524) -/

/-- The device certificate is accepted under R504. -/
def certOk : Bool := (certKey Config.caKey Config.deviceCert Config.deviceCert).isSome

/-- Its public key matches the private key. -/
def keyOk : Bool :=
  match certRead Config.deviceCert with
  | some v => decide (ecPublic Config.deviceKey = some v.key)
  | none => false

/-- The identity unit at an entry to BOOT. -/
def idnBoot (s : State) : State :=
  s.updIdn fun i => { i with
    devKey := keyOk
    cert := certOk
    rng := true
    reqs := 0
    inBuf := []
    excess := false
    outBuf := []
    outPtr := 0
    busy := none
    lastCmd := 0
    result := 0
    unlock := none
    unlockPend := none
    covered := []
    work := []
    early := 0
    served := false
    engAt := s.now }

/-! ### IDN views -/

/-- Word `k` of a fingerprint. -/
def printWord (f : List Byte) (k : Nat) : W16 := wordOf (f.getD (2 * k) 0) (f.getD (2 * k + 1) 0)

/-- The IDN page. -/
def State.idnView (s : State) (i : Nat) : W16 :=
  if i = 0 then s.idnStat
  else if i < 5 then printWord ownPrint (i - 1)
  else if i < 9 then printWord s.opkPrint (i - 5)
  else if i = 9 then w16 (Config.deviceCert.length % 2048)
  else if i = 0x0A then w16 s.idn.tokCnt
  else if i = 0x0B then w16 (s.idn.tokCnt / 65536)
  else if i = 0x0C then (match s.activeUnlock with | some u => w16 u.uses | none => 0)
  else if i = 0x0D then
    (match s.activeUnlock with
     | some u => if twCount u.life = 0 then 0xFFFF else w16 (min 65535 ((u.from_ + twDur u.life - s.now) / Config.ms 1))
     | none => 0)
  else if i = 0x0E then w16 (s.idn.outBuf.length % 2048)
  else if i = 0x0F then w16 (s.idn.inBuf.length + bitVal s.idn.excess 15)
  else if i < 0x14 then w16 (Config.serial / 2 ^ (16 * (i - 0x10)))
  else 0

end Sys2Proof.Machine
end

