-- ==== Sys2Proof/Machine/Boot.lean ====
section
/-! DEFINITION. The configuration load of BOOT (03_proof_and_commit.md R109 to R115, 21_parameter_map.md R544, R545). -/

namespace Sys2Proof.Machine

open Sys2Proof

/-- The values of step 1 of R545: the numeric reset values, and the stored wiring plan where MTP holds one. -/
def planUse : Option (List W16) → List (Nat × W16)
  | some w => sparseSetList paramReset [] 0x3100 w
  | none => []

/-- The words that an image's records name. -/
def imgWords (b : List Byte) : List (Nat × W16) :=
  ((imgRecs b).getD []).flatMap fun r => (List.range r.2.length).map fun i => (r.1 + i, r.2.getD i 0)

/-- A valid image over the values of step 1 (R110, R111, R545): the values in use that it gives and whether class-K words
that it names were not loaded; none when R111 rejects it. -/
def State.imageTry (s : State) (base : List (Nat × W16)) (b : List Byte) : Option (List (Nat × W16) × Bool) :=
  let ws := imgWords b
  if (s.judgeImage (overlay ws base)).isSome then none
  else if imgSigned b && s.opKey.isSome then some (overlay ws base, false)
  else some (overlay (ws.filter fun x => decide (classOf x.1 ≠ .K)) base, ws.any fun x => decide (classOf x.1 = .K))

/-- Why a slot is no candidate (R112, R113): an IMG_STAT reason; none for a candidate. -/
def State.slotReason (s : State) (x : ImgSlot) : Option Nat :=
  match x.st with
  | .erased => some 2
  | .invalid => some 11
  | .trial => if 3 ≤ x.trials then some 9 else imgReason s.opKey x.bytes
  | .confirmed => imgReason s.opKey x.bytes

/-- Record the IMG_STAT reason of a slot. -/
def setReason (b : Bool) (r : Nat) (s : State) : State :=
  s.updNvm fun x => if b then { x with reasonB := BitVec.ofNat 4 r } else { x with reasonA := BitVec.ofNat 4 r }

/-- The source `code` has loaded its image (W_STAT.IMG, PRF.IMG_STAT, 19 R519); the words it names are noted until the end of
the BOOT (05 R154). -/
def bootTake (code : Nat) (bytes : List Byte) (u : List (Nat × W16) × Bool) (s : State) : State :=
  let s := s.updNvm fun x => { x with
    loaded := BitVec.ofNat 3 code
    kSkip := u.2
    imgSeq := imgSeq bytes
    imgDigest := (bytes.drop (digestAt bytes)).take 32 }
  let s := s.updPar fun p => { p with inUse := u.1, set := imgWords bytes }
  { s with power := { s.power with img := true } }

/-- A TRIAL slot's count rises before it is tried, once in a BOOT (R113). -/
def countTrial (b : Bool) (s : State) : State :=
  if (s.nvm.slot b).st = .trial ∧ s.nvm.counted.contains b = false then
    (s.updSlot b fun x => { x with trials := x.trials + 1 }).updNvm fun x => { x with counted := b :: x.counted }
  else s

/-- The trials of the candidates that will be tried: up to the first that R111 accepts. -/
def countTrials (base : List (Nat × W16)) : List Bool → State → State
  | [], s => s
  | b :: r, s =>
    let s := countTrial b s
    if (s.imageTry base (s.nvm.slot b).bytes).isSome then s else countTrials base r s

/-- The MTP candidates in their order (R112, R113): a TRIAL slot's count has risen before it is tried. -/
def tryMtp (base : List (Nat × W16)) : List Bool → State → State
  | [], s => s
  | b :: r, s =>
    let trial := decide ((s.nvm.slot b).st = .trial)
    let s := countTrial b s
    let bytes := (s.nvm.slot b).bytes
    match s.imageTry base bytes with
    | some u => (bootTake (if b then 2 else 1) bytes u (setReason b 1 s)).updNvm fun x => { x with loadedTrial := trial }
    | none => tryMtp base r (setReason b 8 s)

/-- The candidates at the entry to BOOT, the higher SEQUENCE first, a tie to slot A (R112); where MTP is the first source
(R114), the trials start here. -/
def findCands (s : State) : State :=
  let order : List Bool := if imgSeq s.nvm.slotA.bytes < imgSeq s.nvm.slotB.bytes then [true, false] else [false, true]
  let s := s.updNvm fun x => { x with
    cands := order.filter fun b => (s.slotReason (s.nvm.slot b)).isNone
    counted := [] }
  if s.power.bootSel.toNat = 0 then countTrials (planUse s.peers.plan) s.nvm.cands s else s

/-- A slot that is no candidate shows its reason. -/
def noCandidate (b : Bool) (s : State) : State :=
  if s.nvm.cands.contains b then s
  else match s.slotReason (s.nvm.slot b) with | some r => setReason b r s | none => s

/-- The candidates are tried. -/
def loadMtp (base : List (Nat × W16)) (s : State) : State :=
  let s := noCandidate true (noCandidate false s)
  tryMtp base s.nvm.cands s

/-- The EEPROM source (R115): the bytes read, none for a read failure. -/
def loadEeprom (base : List (Nat × W16)) (data : Option (List Byte)) (s : State) : State :=
  let reason (r : Nat) : State := s.updNvm fun x => { x with reasonE := BitVec.ofNat 4 r }
  match data with
  | none => reason 10
  | some d =>
    let n := img32 d 8
    let bytes := if lengthOk n then d.take n else d
    match imgReason s.opKey bytes with
    | some r => reason r
    | none =>
      match s.imageTry base bytes with
      | some u => bootTake 3 bytes u (reason 1)
      | none => reason 8

/-- The sources in the order of BOOT[1:0] (R114); proof copies follow after a loss of VAUX (R52). -/
def bootLoad (eeprom : Option (List Byte)) (s : State) : State :=
  let base := planUse s.peers.plan
  let s := s.updNvm fun x => { x with
    loaded := 0
    kSkip := false
    reasonA := 0
    reasonB := 0
    reasonE := 0
    loadedTrial := false
    opened := false
    imgSeq := 0
    imgDigest := [] }
  let s := s.updPar fun p => { p with inUse := base }
  let s : State := { s with power := { s.power with img := false } }
  let sel := s.power.bootSel.toNat
  let s := if sel = 1 ∨ sel = 3 then loadEeprom base eeprom s else s
  let s := if (sel = 0 ∨ sel = 1) ∧ s.power.img = false then loadMtp base s else s
  if s.power.vauxLost then s.updPar fun p => { p with proof := p.inUse } else s

end Sys2Proof.Machine
end

