-- ==== Sys2Proof/Machine/Power.lean ====
section
/-! DEFINITION. Power entry, the kennel set, resets, BOOT and KILL_N (01_power_entry_and_kennel.md R17 to R53,
13_protection.md R365 to R367). -/

namespace Sys2Proof.Machine

open Sys2Proof

def State.updPower (s : State) (f : Power → Power) : State := { s with power := f s.power }

/-! ### LP15 under the kennel law (R27, R37, R46) -/

/-- The kennel target of the KV straps (R34), in 100 µV. -/
def State.kennelTarget (s : State) : W16 := if s.power.kv = some 1 then 34500 else 33000

/-- The kennel law takes LP15: along its 2 ms ramp from a pre-bias level, or at its target (R27, R46). A pre-bias level at or
above the target leaves no ramp below it: the reference then stands at the target from the start (DESIGN CHOICE,
notes/assumptions/61.md). -/
def kennelTake (ramp : Option W16) (s : State) : State :=
  let g := s.kennelTarget
  let from_ := match ramp with | some v => if v.toNat < g.toNat then v else g | none => g
  let sp : LoopSp := {
    st := if ramp.isSome then .rampUp else .regulate
    since := s.now
    from_ := from_
    to_ := g
    ref := ⟨from_.toNat, 1⟩
    refAt := s.now
    startAt := s.now
    dur := Config.ms 2 }
  let car := s.now * Config.carUnit
  let s := s.updLoop 15 fun l =>
    let lyr : LoopLyr := { l.lyr with st := .idle }
    let eng : LoopEng := { sampleAt := s.now - Config.us 10, exps := l.eng.exps }
    let mod : LoopMod := { sw := [63], fc := 200, carAt := car, refDue := car, refAt := car }
    { sense := l.sense, eng := eng, mod := mod, sp := sp, acp := l.acp, lyr := lyr, prt := { fltFirst := l.prt.fltFirst } }
  let s := s.updPhase 63 fun p => { pwm := if ramp.isSome then .mid else .low, ofs := p.ofs, refAt := p.refAt }
  s.updPower fun p => { p with law15 := .kennel, law15Pend := false, lane3Cclk := p.lane3Cclk && p.pll }

/-- LP15 stops: PWM63 at mid-level, PS_EN15 low (R29, R30, R37). A crowbar latch that is set keeps it: only the end of VAUX
releases the latch (R351, R352). -/
def lp15Stop (s : State) : State :=
  if (s.loop 15).prt.latch then s else
  let s := enterOff 15 s
  let s := s.updPhase 63 (phaseMid s)
  s.updPower fun p => { p with law15 := .stopped, law15Pend := false }

/-- The configured law takes LP15 from the kennel law (R39, R219): the integrator carries over through the preload, the
section states start at 0, and the output moves from its present reference. -/
def lp15Configured (s : State) : State :=
  let cmd := (s.loop 15).eng.icmd.toInt
  let r := s.refNow 15
  let s := s.updPower fun p => { p with law15 := .configured, law15Pend := false }
  let s := s.updEng 15 fun g => { clearAcc g with preload := some cmd, exps := s.lp 15 0x16, sampled := false }
  let s := enterRegulate 15 r s
  let s := s.updMod 15 fun m => { m with fc := (s.lp 15 0x1D).toNat, fcNext := none, nt := s.nHi 15, ntAt := s.now }
  setTarget 15 (s.nHi 15) (carrierFrom 15 s)

/-- What LP15 does at an entry to READY under self-bias (R39, R40). -/
def lp15Ready (s : State) : State :=
  if s.selfBias = false ∨ s.power.vhvOn = false then s
  else
    let own := bitAt (s.pg 0 4) 0 && s.power.img
    match s.power.law15 with
    | .kennel => if own then s.updPower fun p => { p with law15Pend := true } else s
    | .configured => s
    | .stopped =>
      if s.power.endCause ≠ 6 then s
      else if own then enterDelayOn 15 (leaveOff 15 (s.updPower fun p => { p with law15 := .configured }))
      else kennelTake (some (s.loop 15).sense.vout) s

/-! ### Kennel attempts (R28 to R31) -/

/-- 10 ms after KILL_N returns high (R29, R37). -/
def State.killWait (s : State) : KennelWait :=
  if s.power.killN then .retry (s.power.killRise.getD s.now + Config.ms 10) else .killRelease

/-- An attempt fails (R29). -/
def failAttempt (cause : BitVec 3) (s : State) : State :=
  (lp15Stop s).updPower fun p => { p with
    attempt := none
    endCause := cause
    wait := if cause = 5 then s.killWait else .retry (s.now + Config.ms 1000) }

/-- A due attempt starts, or waits for what keeps it from starting (R28, R29); `pre` is the level at LP15's output. -/
def tryAttempt (pre : W16) (s : State) : State :=
  if s.power.vaux then
    let s := s.updPower fun p => { p with wait := .none, endCause := 6 }
    if s.power.g = .ready ∨ s.power.g = .run then lp15Ready s else s
  else if s.power.killN = false then s.updPower fun p => { p with wait := .killRelease }
  else if s.power.vhvOvlo then s.updPower fun p => { p with wait := .ovloRelease }
  else
    kennelTake (some pre) (s.updPower fun p => { p with
      wait := .none
      attempt := some s.now
      attempts := inc8 p.attempts
      kennelUsed := true })

/-- KENNEL_ATTEMPT_START (R28, R29). -/
def execKennelAttemptStart (t : Nat) (pre : W16) (s : State) : Ans :=
  gated t (fun s => match s.power.wait with | .due a => decide (a ≤ s.now) | _ => false) (tryAttempt pre) s

/-- KENNEL_ATTEMPT_TIMEOUT (R29): 50 ms without handover. -/
def execKennelAttemptTimeout (t : Nat) (s : State) : Ans :=
  gated t (fun s => match s.power.attempt with | some a => decide (a + Config.ms 50 ≤ s.now) | none => false) (failAttempt 1) s

/-- KENNEL_LP15_OV (R27, R29, R37): the comparator at 115 % of the kennel target. -/
def execKennelLp15Ov (t : Nat) (s : State) : Ans :=
  gated t (fun s => s.kennel15 15) (fun s => if s.power.attempt.isSome then failAttempt 2 s else lp15Stop s) s

/-- KENNEL_RETRY_DUE (R29, R37): the next attempt falls due; `above` tells whether VHV is above VHV_ON. -/
def execKennelRetryDue (t : Nat) (above : Bool) (s : State) : Ans :=
  gated t (fun s => match s.power.wait with | .retry a => decide (a ≤ s.now) | _ => false)
    (fun s => s.updPower fun p => { p with wait := if above then .due s.now else .vhvRise }) s

/-! ### VHV (R18, R30, R33, R41) -/

/-- The KV straps are read when the kennel rail appears (R33). -/
def readKv (kv : BitVec 2) (s : State) : State := s.updPower fun p => { p with kv := some (p.kv.getD kv) }

/-- VHV rises above VHV_ON. -/
def vhvRise (kv : BitVec 2) (s : State) : State :=
  let first := !s.power.vhvOn
  let s := s.updPower fun p => { p with vhvOn := true }
  let s := readKv kv s
  if s.power.kv = some 3 then (if s.power.vaux then s else s.updPower fun p => { p with kv := none })
  else
    let s := s.updPower fun p => { p with attempts := 0 }
    if s.selfBias then
      let s := s.updPhase 63 fun p => if p.pwm = .highZ then { p with pwm := .mid } else p
      s.updPower fun p => { p with
        wait := if first || decide (p.wait = .vhvRise) then .due (s.now + Config.us 500) else p.wait
        preReg := if p.vaux then .standby else .active
        g := if p.g = .unpowered ∧ p.vaux = false then .kennel else p.g }
    else s

/-- VHV_RISE_ON (R28, R31, R33, R41); `kv` are the levels of the KV straps. -/
def execVhvRiseOn (t : Nat) (kv : BitVec 2) (s : State) : Ans := always t (vhvRise kv) s

/-- The PWM pins of a choice that the device no longer drives become high-impedance (R49, R50). -/
def pinsOff (which : Fin 64 → Bool) (s : State) : State :=
  updPhases (phaseStop .highZ s.now) (allPhases.filter which) s

/-- VHV falls below VHV_OFF: an attempt fails, LP15 under any law of its own bias stops, the kennel-domain register is
lost, and without VAUX nothing runs. -/
def vhvFall (s : State) : State :=
  let s := s.updPower fun p => { p with vhvOn := false, vhvOvlo := false }
  if s.power.kv = some 3 then s
  else
    let s := if s.power.attempt.isSome then failAttempt 3 s
      else if s.selfBias && decide (s.power.law15 ≠ .stopped) then lp15Stop s else s
    let s := s.updPower fun p => { p with
      attempts := 0
      endCause := 0
      kennelUsed := false
      wait := .none
      preReg := .off }
    if s.power.vaux then s
    else pinsOff (fun m => !s.power.vauxHold || (s.selfBias && decide (m = 63)))
      (s.updPower fun p => { p with kv := none, g := .unpowered, unpowered := true })

/-- VHV_FALL_OFF (R29 to R31, R33, R37, R41). -/
def execVhvFallOff (t : Nat) (s : State) : Ans := gated t (fun s => s.power.vhvOn) vhvFall s

/-- VHV rises above VHV_OVLO: an attempt fails, and LP15 under the kennel law stops. -/
def vhvOvlo (s : State) : State :=
  let s := s.updPower fun p => { p with vhvOvlo := true }
  if s.power.kv = some 3 then s
  else if s.power.attempt.isSome then failAttempt 3 s
  else if s.kennel15 15 then lp15Stop s
  else s

/-- VHV_RISE_OVLO (R18, R29, R30); `mv` is VHV in mV. Beyond the 100 V of R17 and R560 no behaviour is guaranteed. -/
def execVhvRiseOvlo (t : Nat) (mv : Nat) (s : State) : Ans :=
  if 100000 < mv then .fault .ratingsExceeded
  else gated t (fun s => s.power.vhvOn) vhvOvlo s

/-- VHV_OVLO_RELEASE (R18, R29): an attempt that fell due meanwhile starts. -/
def execVhvOvloRelease (t : Nat) (pre : W16) (s : State) : Ans :=
  gated t (fun s => s.power.vhvOvlo)
    (fun s =>
      let s := s.updPower fun p => { p with vhvOvlo := false }
      if s.power.wait = .ovloRelease then tryAttempt pre s else s) s

/-! ### What a reset or a loss of VAUX leaves of the units (R46, R49, R51) -/

/-- What a reset leaves of one loop's Layer: the memories of R51; its registers take the reset values of R544. -/
def layerReset (y : LoopLyr) : LoopLyr where
  table := y.table
  valid := y.valid
  ckpt := y.ckpt
  ckptValid := y.ckptValid
  ckptSet := y.ckptSet
  built := y.built

/-- The loops OFF with their accumulators cleared and every PWM pin at mid-level. Where the kennel set runs LP15 or is about
to, its sense channel, its law, its modulation and its reference go on, and PH63 with them; the rest of LP15 is reset as
every loop is. -/
def resetLoops (keep15 : Bool) (s : State) : State :=
  { s with
    loops := Vector.ofFn fun n =>
      let l := s.loops[n]
      let off : LoopState := { lyr := layerReset l.lyr }
      if keep15 && decide (n.val = 15) then { off with sense := l.sense, eng := l.eng, mod := l.mod, sp := l.sp } else off
    phases := Vector.ofFn fun m => if keep15 && decide (m.val = 63) then s.phases[m] else { pwm := .mid } }

/-- Every unit of the full set as it stands after a reset; memories, the MTP controller and pin levels are kept. -/
def resetUnits (s : State) : State :=
  { s with
    win := { addr := s.win.addr, adOut := s.win.adOut, scratch := s.win.scratch }
    par := { proof := s.par.proof, inUse := s.par.inUse }
    vsc := Vector.replicate 4 {}
    isc := Vector.replicate 4 {}
    lanes := Vector.replicate 4 {}
    svc := {}
    snap := { frame := s.snap.frame }
    stb := {}
    prot := { fltLow := s.prot.fltLow }
    acp := Vector.replicate 8 {}
    peers := { plan := s.peers.plan, planBusy := s.peers.planBusy, planNew := s.peers.planNew }
    lsh := {}
    swp := {}
    damp := {}
    gsp := { slots := s.gsp.slots, pend := s.gsp.pend, pendAt := s.gsp.pendAt, pendSigned := s.gsp.pendSigned, latest := s.gsp.latest }
    fch := {}
    chw := { cause := if s.chw.armed then 7 else 0 }
    pins := { gpio := s.pins.gpio, tapHold := s.pins.tapHold, tapIr := s.pins.tapIr, cells := s.pins.cells } }

/-- Queued entries at a reset that does not wait for them: each is appended whole or lost (18 R480). -/
def keepQueue : List (LogEntry × Nat) → State → State
  | [], s => s
  | (e, _) :: r, s =>
    let b := s.freeBool
    keepQueue r (if b.1 then logAppend e b.2 else b.2)

/-- The boot counter rises; it saturates (R47). -/
def countBoot (s : State) : State :=
  s.updPower fun p => { p with bootCnt := if p.bootCnt = 0xFFFFFFFF then p.bootCnt else p.bootCnt + 1, cntPend := false }

/-- LP15 runs under self-bias: a reset passes it back to the kennel law (R46). -/
def State.lp15Runs (s : State) : Bool :=
  s.selfBias && !(s.loop 15).prt.latch && (match s.power.law15 with
    | .kennel => true
    | .configured => decide (s.st 15 ≠ .off) && decide (s.st 15 ≠ .hiccupWait) && decide (s.st 15 ≠ .latched) && decide (s.st 15 ≠ .crowbar)
    | .stopped => false)

/-- The full set is reset, with its cause bits (R44 to R46, R48, R51, 03 R121). -/
def fullReset (cause : BitVec 6) (s : State) : State :=
  let s := keepQueue s.log.queue s
  let s : State := { s with log := { s.log with queue := [] } }
  let s := if s.power.cntPend then countBoot s else s
  let keep := s.lp15Runs
  let s := resetLoops keep (resetUnits (nvmReset s))
  s.updPower fun p => { p with
    g := .reset
    resetCause := p.resetCause ||| cause ||| p.warmPend.getD 0
    warmPend := none
    bootPend := false
    law15 := if keep then p.law15 else .stopped
    law15Pend := keep && decide (p.law15 = .configured) }

/-- BOOT is entered when the reset has ended and the PLL is locked (R38). -/
def bootReady (s : State) : State :=
  s.updPower fun p => { p with
    bootPend := decide (p.g = .reset) && p.vaux && p.resetN && p.pll && !p.coreUv }

/-! ### VAUX (R21, R22, R41, R50, R51) -/

/-- VAUX becomes valid: handover ends an attempt, and the full set wakes. -/
def vauxValid (kv : BitVec 2) (s : State) : State :=
  let s := readKv kv s
  let s := s.updPower fun p => { p with
    vaux := true
    vauxHold := false
    resetCause := if p.unpowered then 1 else p.resetCause ||| 2
    unpowered := false
    endCause := if p.attempt.isSome then 0 else p.endCause
    attempt := none
    preReg := if p.preReg = .active then .standby else p.preReg
    g := .reset
    pll := false
    coreUv := false }
  updPhases (phaseStop .mid s.now) (allPhases.filter fun m => !(s.kennel15 15 && decide (m = 63))) s

/-- VAUX_VALID (R22, R29, R33, R41); `kv` are the levels of the KV straps. -/
def execVauxValid (t : Nat) (kv : BitVec 2) (s : State) : Ans := gated t (fun s => !s.power.vaux) (vauxValid kv) s

/-- A token whose counter write is cut by the loss leaves the old or the new count (19 R513). -/
def tokenCut (s : State) : State :=
  if s.idn.busy = some .submit ∧ s.idn.early = 0 ∧ s.tokenCheck (decide (256 < s.idn.work.length)) s.idn.work = 0 then
    let b := s.freeBool
    if b.1 then b.2.updIdn fun i => { i with tokCnt := tokenCount s.idn.work } else b.2
  else s

/-- An increment of the boot counter that the loss cuts leaves the old or the new value (R47). -/
def bootCut (s : State) : State :=
  if s.power.cntPend then
    let b := s.freeBool
    if b.1 then countBoot b.2 else b.2
  else s

/-- VAUX stops being valid: memories are undefined, every pin that the device controls is driven to its safe level, and the
handover ends as a failed attempt (R37, R41, R50, R51). -/
def vauxLoss (above : Bool) (s : State) : State :=
  let s := nvmLoss (bootCut (tokenCut s))
  let s := ramLose s
  let f := freeWords 16 s
  let w := f.2.freeWord
  let s := resetLoops false (resetUnits w.2)
  let s : State := { s with
    win := { s.win with scratch := w.1 }
    snap := { frame := f.1 }
    log := {}
    gsp := { s.gsp with pend := none }
    idn := { s.idn with busy := none, unlock := none, unlockPend := none, inBuf := [], outBuf := [] }
    par := {}
    pins := { gpio := s.pins.gpio } }
  let self := s.selfBias && s.power.vhvOn
  let s := s.updPower fun p => { p with
    vaux := false
    vauxHold := true
    vauxLost := true
    pll := false
    lane3Cclk := false
    coreUv := false
    resetCause := p.resetCause ||| p.warmPend.getD 0
    warmPend := none
    bootPend := false
    cntPend := false
    img := false
    law15 := .stopped
    law15Pend := false
    endCause := if self then (if p.killStop then 5 else 4) else p.endCause
    wait := if self then (if p.killStop then s.killWait else .retry (s.now + Config.ms 1000)) else .none
    killStop := false
    preReg := if self then .active else .off
    g := if self && above then .kennel else .unpowered
    unpowered := p.unpowered || !(self && above) }
  if s.kennelRail then s else s.updPower fun p => { p with kv := none }

/-- VAUX_LOSS; `above` tells whether VHV is above VHV_ON. -/
def execVauxLoss (t : Nat) (above : Bool) (s : State) : Ans := gated t (fun s => s.power.vaux) (vauxLoss above) s

/-- VAUX_DRIVE_RELEASE (R50): VAUX has fallen below 2.0 V. -/
def execVauxDriveRelease (t : Nat) (s : State) : Ans :=
  gated t (fun s => s.power.vauxHold && !s.power.vaux)
    (fun s => (pinsOff (fun m => !(s.selfBias && s.power.vhvOn && decide (m = 63))) s).updPower fun p =>
      { p with vauxHold := false }) s

/-! ### Resets (R38, R44 to R48) -/

/-- PLL_LOCK (R38). -/
def execPllLock (t : Nat) (s : State) : Ans :=
  gated t (fun s => s.power.vaux && !s.power.pll && !s.power.coreUv) (fun s => bootReady (s.updPower fun p => { p with pll := true })) s

/-- RESET_N held low resets the full set (R44). -/
def resetLow (s : State) : State :=
  let s := s.updPower fun p => { p with resetN := false }
  if s.power.vaux then fullReset 4 s else s

/-- RESET_N_LOW (R44): the pin has been low for 1 µs; without VAUX nothing listens to it. -/
def execResetNLow (t : Nat) (s : State) : Ans := always t resetLow s

/-- RESET_N_RELEASE (R38, R44). -/
def execResetNRelease (t : Nat) (s : State) : Ans :=
  always t (fun s => bootReady (s.updPower fun p => { p with resetN := true })) s

/-- A warm reset is asked for (R45): it waits for the entries raised before it. One asked for meanwhile adds its cause, and
both take effect together. -/
def warmRequest (cause : BitVec 6) (s : State) : State :=
  s.updPower fun p => { p with
    warmPend := some (p.warmPend.getD 0 ||| cause)
    warmAt := if p.warmPend.isSome then p.warmAt else s.now }

/-- A write of DEV.RESET (R45, 15 R428). -/
def resetWrite (w : W16) (s : State) : State := if w = 0xA5C3 ∧ s.readOnly = false then warmRequest 8 s else s

/-- The warm reset takes effect once every entry raised before it has been appended (R45, 18 R480). -/
def warmTry (s : State) : State :=
  match s.power.warmPend with
  | some c => if s.log.queue.all fun x => decide (s.power.warmAt < x.2) then bootReady (fullReset c s) else s
  | none => s

/-- WARM_RESET (R45): the write, and its effect as soon as nothing holds it; given again, the effect of an earlier one. -/
def execWarmReset (t : Nat) (s : State) : Ans :=
  gated t (fun s => s.power.vaux)
    (fun s => warmTry (if s.window && s.power.warmPend.isNone then
      resetWrite 0xA5C3 { s with win := { s.win with kicked := false } } else s)) s

/-- CORE_UV_RESET (R48): the PLL stops, and lane 3 runs the kennel law on OSC. -/
def execCoreUvReset (t : Nat) (s : State) : Ans :=
  gated t (fun s => s.power.vaux && !s.power.coreUv)
    (fun s => (fullReset 32 s).updPower fun p => { p with coreUv := true, pll := false, lane3Cclk := false }) s

/-- CORE_UV_RELEASE (R48): BOOT follows once the PLL has locked. -/
def execCoreUvRelease (t : Nat) (s : State) : Ans :=
  gated t (fun s => s.power.coreUv) (fun s => s.updPower fun p => { p with coreUv := false }) s

/-- LP15_KENNEL_RESUME (R46): at LP15's next sample boundary after a reset. -/
def execLp15KennelResume (t : Nat) (s : State) : Ans :=
  gated t (fun s => s.power.law15Pend && decide (s.power.law15 = .configured) && s.isBoundary 15)
    (fun s => kennelTake (if (s.st 15).running then none else some (s.loop 15).sense.vout) s) s

/-- LP15_HANDOFF (R39): at LP15's first sample boundary after the entry to READY. -/
def execLp15Handoff (t : Nat) (s : State) : Ans :=
  gated t (fun s => s.power.law15Pend && s.kennel15 15 && s.up && s.isBoundary 15) lp15Configured s

/-! ### BOOT (R38, R41, R47, R52, R53, R67, 21 R545) -/

/-- DEV.STRAP. -/
def strapWord (pos : BitVec 3) (boot kv : BitVec 2) : W16 := w16 (pos.toNat + 16 * boot.toNat + 256 * kv.toNat + 0x8000)

/-- DEV.KENNEL_STAT as the kennel-domain register stands (R31). -/
def State.kennelWord (s : State) : W16 :=
  w16 (s.power.attempts + 256 * s.power.endCause.toNat + bitVal s.power.kennelUsed 15)

/-- The entry to BOOT: device time and the grid start, the kennel record is copied, the straps are read, the candidate
images are found, the units start with their reset values, the references of the estimator start anew (R266), and the first
fault of an LP15 that runs is cleared as every loop's is (R348). -/
def bootStart (pos : BitVec 3) (boot : BitVec 2) (s : State) : State :=
  let s := s.updPower fun p => { p with
    g := .boot
    bootPend := false
    bootTime := s.now
    cntPend := true
    pos := pos
    bootSel := boot
    strap := strapWord pos boot (p.kv.getD 3)
    kennelStat := s.kennelWord }
  let s := s.updPar fun p => { p with inUse := planUse s.peers.plan }
  let s : State := { s with
    grid := s.now
    stb := { due := s.now + Config.us 10, at_ := s.now, alignAt := s.now }
    vsc := seedConv 0 s.now
    isc := seedConv 4 s.now }
  let s := updPhases (fun p => { p with ofs := 0, refAt := s.now }) allPhases s
  let s := s.updPrt 15 fun p => { p with fltFirst := 0 }
  idnBoot (fchBoot (svcBoot (crbBoot s.power.vauxLost (findCands s))))

/-- BOOT_START (R38, R41); `pos` and `boot` are the levels of the straps. -/
def execBootStart (t : Nat) (pos : BitVec 3) (boot : BitVec 2) (s : State) : Ans :=
  gated t (fun s => s.power.bootPend) (bootStart pos boot) s

/-- The counter of this BOOT is written; the BOOT session entry and a BIAS_FAIL follow (R47, R53, 18 R485). -/
def bootCounted (s : State) : State :=
  let s := countBoot s
  let s := s.offer (s.session 0 (w16 s.power.resetCause.toNat))
  let k := s.power.kennelStat
  if 1 < fld k 7 0 ∨ fld k 10 8 = 4 then s.event 0x15 none k 0 else s

/-- BOOT_COUNTER_INCREMENT (R47, 03 R121): once the MTP controller is idle. -/
def execBootCounterIncrement (t : Nat) (s : State) : Ans :=
  gated t (fun s => decide (s.power.g = .boot) && s.power.cntPend && s.mtpIdle) bootCounted s

/-- A word that W_WDOG_CFG accepts while EN is 0 (R80, R84). -/
def wdogOk (w : W16) : Bool := decide (fld w 2 0 < 4) && !(bitAt w 3 && decide (fld w 15 8 = 0))

/-- The copies of R67 into the window. -/
def bootCopies (s : State) : State :=
  let on := s.pg 0 8
  let wd := s.pg 0 9 &&& 0xFF0F
  { s with win := { s.win with
    loopOn := if s.selfBias then setBit on 15 else on
    wdogCfg := if wdogOk wd then wd else 0
    wdogAlt := false
    wdogFrom := s.now } }

/-- LPn at the end of a BOOT, under the loaded configuration: its carrier runs at FSW (R228). -/
def bootLoop (lost : Bool) (n : Fin 16) (s : State) : State :=
  let s := layerBoot n lost s
  let s := s.updEng n fun g => { g with exps := s.lp n 0x16 }
  let s := s.updAcp n fun a => { a with target := s.lp n 0x2D }
  let s := s.updSp n fun p => { p with enPin := s.enInput n, enPend := [] }
  if s.kennel15 n then s
  else carrierFrom n (s.updMod n fun m => { m with fc := (s.lp n 0x1D).toNat, fcNext := none })

/-- RESULT of an MTP operation that a reset ended or completed (03 R121). -/
def bootNvm (s : State) : State :=
  match s.nvm.resetRes with
  | some r => (s.updNvm fun x => { x with result := r, resetRes := none }).irq 10
  | none => s

/-- The entry to READY that ends BOOT, before KILL_N is looked at. -/
def bootUnits (s : State) : State :=
  let s := forLoops (bootLoop s.power.vauxLost) allLoops s
  let s := s.updPower fun p => { p with g := .ready, vauxLost := false }
  let s := bootNvm (bootCopies s)
  let old : State := { s with par := { s.par with inUse := [] } }
  let s := (surveyTook old s).updPar fun p => { p with set := [] }
  let s := withStat leashEnable (crbArm (fchCommit (reselect s)))
  if s.prot.fltLow then finOnset s else s

/-- The end of BOOT (R39 to R41, R67, 13 R366, R369). -/
def bootComplete (eeprom : Option (List Byte)) (s : State) : State :=
  let s := bootUnits (bootLoad (if s.power.vddioL then eeprom else none) s)
  if s.power.killN = false ∨ s.win.killEdges ≠ 0 ∨ s.pins.tapHold then
    raiseKill (enterKilled s)
  else lp15Ready (s.updPeers fun x => { x with readyAt := some s.now })

/-- BOOT_COMPLETE; `eeprom` are the bytes that a read of the EEPROM gives, none for a failed read (03 R115). Without VDDIO_L
no read succeeds (R23, R25). -/
def execBootComplete (t : Nat) (eeprom : Option (List Byte)) (s : State) : Ans :=
  gated t (fun s => decide (s.power.g = .boot) && !s.power.cntPend) (bootComplete eeprom) s

/-! ### KILL_N (R29, R37, R42, R365 to R367) -/

/-- W_KILL_STAT and W_IRQ.KILL at a falling edge (02 R64, R76). -/
def killSeenNow (s : State) : State :=
  State.irq { s with win := { s.win with killSeen := true, killEdges := w8 (inc8 s.win.killEdges.toNat) } } 11

/-- KILL_N falls. -/
def killFall (s : State) : State :=
  let rail := s.kennelRail
  let s := s.updPower fun p => { p with killN := false, killRise := none }
  if rail = false then s
  else
    let s := killPins s
    let s := if s.up || decide (s.power.g = .boot) then killSeenNow s else s
    let stop := s.selfBias && s.power.vaux && decide (s.power.law15 ≠ .stopped)
    let s := if s.power.attempt.isSome then failAttempt 5 s
      else if stop then (lp15Stop s).updPower fun p => { p with killStop := true } else s
    if s.up then
      let s := raiseKill (withStat (chewDisarm 5) s)
      if s.power.g = .killed then s else enterKilled s
    else s

/-- KILL_N_FALL. -/
def execKillNFall (t : Nat) (s : State) : Ans := gated t (fun s => s.power.killN) killFall s

/-- KILL_N returns high: the gate releases, and the 10 ms counts start. -/
def killRises (s : State) : State :=
  s.updPower fun p => { p with
    killN := true
    killRise := some s.now
    wait := if p.wait = .killRelease then .retry (s.now + Config.ms 10) else p.wait }

/-- KILL_N_RISE. -/
def execKillNRise (t : Nat) (s : State) : Ans := gated t (fun s => !s.power.killN) killRises s

/-- KILLED_EXIT (R367, R570): KILL_N has been high for 10 ms and no boundary-scan instruction holds the device. -/
def execKilledExit (t : Nat) (s : State) : Ans :=
  gated t (fun s => decide (s.power.g = .killed) && s.power.killN && !s.pins.tapHold &&
      (match s.power.killRise with | some a => decide (a + Config.ms 10 ≤ s.now) | none => true))
    (fun s =>
      let s := (leaveKilled s).updPower fun p => { p with killStop := false }
      if s.power.g = .ready then lp15Ready s else s) s

end Sys2Proof.Machine
end

