-- ==== Sys2Proof/Machine/Pins.lean ====
section
/-! DEFINITION. Pins, supplies of the I/O banks and boundary scan (01 R23 to R25, R49; 21 R546, R548;
22_balls_package_electrical.md R553 to R556, R569, R570): what the device drives at each digital pin, and the commands of
the TAP. -/

namespace Sys2Proof.Machine

open Sys2Proof

/-! ### The boundary register (R554 to R556, R569) -/

/-- The digital signal pins that the boundary register covers. -/
inductive ScanPin where
  | pwm (m : Nat)
  | psEn (n : Nat)
  | syncOut | rdy | irqN | faultN | fchScl | fchSda
  | alertN (p : Nat)
  | dio (p : Nat)
  | gpio (g : Nat)
  | ad (i : Nat)
  | input (k : Nat)                   -- KILL_N, RESET_N, SYNC_IN, ACPp_CLK, ALE, CS_N, RD_N, WR_N and the straps
  deriving DecidableEq, Repr

/-- The cells of a pin: one for an input, two for an output, three for a bidirectional pin. -/
def ScanPin.cells : ScanPin → Nat
  | .pwm _ => 2 | .psEn _ => 2 | .syncOut => 2 | .rdy => 2 | .irqN => 2 | .alertN _ => 2
  | .faultN => 3 | .fchScl => 3 | .fchSda => 3 | .dio _ => 3 | .gpio _ => 3 | .ad _ => 3
  | .input _ => 1

/-- The scanned pin at row index `r`, column `c`. -/
def ballPin (r c : Nat) : Option ScanPin :=
  if 25 ≤ c ∧ r ≤ 22 then
    (if r % 2 = 1 ∧ c % 2 = 1 then some (.pwm (2 * ((r - 1) / 2) + (c - 25) / 2)) else none)
  else if 23 ≤ r then
    (if r % 2 = 1 ∧ c % 2 = 1 then some (.pwm (22 + 14 * ((r - 23) / 2) + (13 - (c - 1) / 2))) else none)
  else if c = 1 ∧ 7 ≤ r then some (.psEn (r - 7))
  else if r = 6 ∧ (c = 3 ∨ c = 4) then some (.input (32 * r + c))
  else if c = 5 ∧ 6 ≤ r then
    (if r = 13 then some .faultN else if r = 15 then some .syncOut else if r ≤ 14 then some (.input (32 * r + c)) else none)
  else if r = 3 ∧ 6 ≤ c then
    (if c = 22 then some .fchScl else if c = 23 then some .fchSda
     else if c ≤ 21 then (if c % 2 = 0 then some (.input (32 * r + c)) else some (.dio ((c - 7) / 2))) else none)
  else if r = 4 ∧ 6 ≤ c ∧ c ≤ 13 then some (.alertN (c - 6))
  else if r = 4 ∧ 19 ≤ c ∧ c ≤ 24 then some (.gpio (c - 19))
  else if r = 5 ∧ 6 ≤ c ∧ c ≤ 23 then some (.gpio c)
  else if c = 23 ∧ 6 ≤ r ∧ r ≤ 8 then some (.input (32 * r + c))
  else if c = 23 ∧ r = 9 then some .rdy
  else if c = 23 ∧ r = 10 then some .irqN
  else if c = 24 ∧ 6 ≤ r ∧ r ≤ 21 then some (.ad (r - 6))
  else if c = 24 ∧ r = 22 then some (.input (32 * r + c))
  else none

/-- The scanned pins in ascending ball order. -/
def scanPins : List ScanPin :=
  (List.range 28).flatMap fun r => (List.range 28).filterMap fun c => ballPin (r + 1) (c + 1)

/-- The first cell of a pin, counted from TDI. -/
def cellBase (x : ScanPin) : List ScanPin → Nat
  | [] => 0
  | y :: r => if x = y then 0 else y.cells + cellBase x r

/-- EXTEST and CLAMP drive the pins from the boundary register; HIGHZ disables every output (R569). -/
def State.scanDrive (s : State) (x : ScanPin) : Pwm :=
  let off : Pwm := match x with | .pwm _ => .mid | _ => .highZ
  if s.pins.tapIr = 4 then off
  else
    let b := cellBase x scanPins + (if x.cells = 3 then 1 else 0)
    if s.pins.cells.getLsbD (b + 1) then (if s.pins.cells.getLsbD b then .high else .low) else off

/-- The level of a pin: the boundary register's while an instruction holds it, the device's own otherwise. -/
def State.scanned (s : State) (x : ScanPin) (own : Pwm) : Pwm := if s.pins.tapHold then s.scanDrive x else own

/-! ### What the device drives (R25, R49, R50, R365) -/

/-- High or low. -/
def level (b : Bool) : Pwm := if b then .high else .low

/-- An open-drain output. -/
def openDrain (low : Bool) : Pwm := if low then .low else .highZ

/-- The crowbar latch of the loop of PHm, which a phase out of service does not follow (R226, R351). -/
def State.crowbarOf (s : State) (m : Fin 64) : Bool :=
  match s.loopOf m with | some n => (s.loop n).prt.latch && !s.outOfService n m | none => false

/-- The supply of the PWM pin or PS_EN pin of a phase or loop: the kennel rail for PH63 and LP15, VDDIO_P for the others
(R23, R24). After a loss of VAUX what is driven stays so until VAUX is below 2.0 V (R50). -/
def State.driveRail (s : State) (kennel : Bool) : Bool :=
  if kennel then s.kennelRail || s.power.vauxHold else s.power.vddioP

/-- PWMm at the pin: over the boundary register prevail the gate of KILL_N and every crowbar latch (R570). -/
def State.pwmPin (s : State) (m : Fin 64) : Pwm :=
  let own := (s.phase m).pwm
  if s.driveRail (decide (m.val = 63)) = false then .highZ
  else if own = .highZ then .highZ
  else if s.crowbarOf m then .low
  else if s.power.killN = false then .mid
  else s.scanned (.pwm m.val) own

/-- PS_ENn at the pin; high-impedance leaves it to its pull-down. -/
def State.psEnPin (s : State) (n : Fin 16) : Pwm :=
  let lp15 := decide (n.val = 15)
  let driven := s.power.vaux || (s.power.vauxHold && (!lp15 || decide ((s.phase 63).pwm ≠ .highZ))) ||
    (lp15 && s.selfBias && s.power.vhvOn)
  if s.driveRail lp15 = false ∨ driven = false then .highZ
  else if s.power.vaux = false ∧ s.kennel15 n = false then .low
  else if s.power.killN = false ∧ (s.loop n).prt.latch = false then .low
  else if (s.loop n).prt.latch then level (s.psEnHigh n)
  else s.scanned (.psEn n.val) (level (s.psEnHigh n))

/-- IRQ_N (02 R57). -/
def State.irqPin (s : State) : Pwm :=
  if s.window = false then .highZ
  else s.scanned .irqN (if s.win.irq &&& s.win.irqEn ≠ 0 then .low else if bitAt (s.pg 0 0x0A) 0 then .high else .highZ)

/-- FAULT_N (R368). -/
def State.faultPin (s : State) : Pwm :=
  if s.up then s.scanned .faultN (openDrain s.prot.fltDrive.isSome) else .highZ

/-- SYNC_OUT (R249). -/
def State.syncPin (s : State) : Pwm :=
  if s.up then s.scanned .syncOut (level (decide (fld (s.pg 3 5) 1 0 ≠ 0) &&
    match s.stb.outUntil with | some a => decide (s.now < a) | none => false)) else .highZ

/-- AD[i] (R43, R49, R55): driven only in the data phase of a read, with the word that the read gives. -/
def State.adPin (s : State) (read : Option W16) (i : Fin 16) : Pwm :=
  match read with
  | some w => if s.busAnswers then s.scanned (.ad i.val) (level (bitAt w i.val)) else s.scanned (.ad i.val) .highZ
  | none => s.scanned (.ad i.val) .highZ

/-- RDY (R49, R56): driven while CS_N is low; `ready` is low while the device lengthens a strobe. -/
def State.rdyPin (s : State) (csLow ready : Bool) : Pwm :=
  s.scanned .rdy (if s.busAnswers && csLow then level ready else .highZ)

/-- ACPp_DIO (R296, R298): from edge 34 to edge 66 of a transaction the device drives its response, one bit after each edge; the edges
between edge 32 and edge 66 are taken as evenly spaced (DESIGN CHOICE, notes/assumptions/75.md). -/
def State.dioPin (s : State) (p : Fin 8) : Pwm :=
  let x := s.port p
  if (s.up && s.power.vddioL) = false then .highZ
  else
    let e := 32 + (s.now - x.reqAt) * 34 / max 1 (x.doneAt - x.reqAt)
    s.scanned (.dio p.val) (match x.dio with
      | some f => if s.acpOn p && decide (34 ≤ e) && decide (e < 66) then level (f.getLsbD (65 - e)) else .highZ
      | none => .highZ)

/-- FCH_SCL or FCH_SDA (R459): open-drain, `low` where the transaction or attempt in progress pulls the line (R460 to R470). -/
def State.fchPin (s : State) (scl low : Bool) : Pwm :=
  let busy := s.up && s.power.vddioL && s.fchEn && (s.fch.cur.isSome || decide (s.fch.port = .recover) || decide (s.fch.port = .dead))
  s.scanned (if scl then .fchScl else .fchSda) (openDrain (busy && low))

/-- LSH_P, or LSH_N (R49, R373, R379): high-impedance outside the windows of the driver. -/
def State.lshPin (s : State) (neg : Bool) : Pwm :=
  match s.leashDrive with | some b => level (b ^^ neg) | none => .highZ

/-- TDO (R49): driven only in Shift-IR and Shift-DR, with the bit `shift` that leaves the register, while VAUX and VDDIO_L are valid. -/
def State.tdoPin (s : State) (shift : Option Bool) : Pwm :=
  match shift with | some b => if s.power.vaux && s.power.vddioL then level b else .highZ | none => .highZ

/-- ACPp_ALERT_N (R319). -/
def State.alertPin (s : State) (p : Fin 8) : Pwm :=
  if s.up && s.power.vddioL then s.scanned (.alertN p.val) (openDrain (s.acpAlert p)) else .highZ

/-- PIN.OUT_LO and OUT_HI bit g. -/
def State.outBit (s : State) (g : Fin 24) : Bool :=
  if g.val < 16 then bitAt (s.pg 0x3C 0x1A) g.val else bitAt (s.pg 0x3C 0x1B) (g.val - 16)

/-- The output of GPIO g is active; none where its function drives nothing (R546). -/
def State.gpioActive (s : State) (g : Fin 24) : Option Bool :=
  let w := s.gcfg g
  match fld w 2 0 with
  | 1 => some (s.powerGood ⟨fld w 11 8 % 16, by omega⟩)
  | 4 => some s.pins.pulseOn[g]
  | 5 => some (s.outBit g)
  | _ => none

/-- GPIO g at the pin (R546). -/
def State.gpioPin (s : State) (g : Fin 24) : Pwm :=
  if (s.up && s.power.vddioL) = false then .highZ
  else
    let w := s.gcfg g
    s.scanned (.gpio g.val) (match s.gpioActive g with
      | some a => let high := a ^^ bitAt w 3; if high && bitAt w 4 then .highZ else level high
      | none => .highZ)

/-- The sampled level of GPIO g (R548): what the device drives, else what stands at the pin. -/
def State.gpioLevel (s : State) (g : Fin 24) : Bool :=
  s.power.vddioL && (match s.gpioPin g with | .high => true | .low => false | _ => s.pins.gpio[g])

/-- PIN.IN_LO and IN_HI. -/
def State.gpioWord (s : State) (base : Nat) : W16 :=
  w16 (((List.finRange 24).filter fun g => decide (base ≤ g.val) && decide (g.val < base + 16) && s.gpioLevel g).foldl
    (fun a g => a + 2 ^ (g.val - base)) 0)

/-! ### TST words (R550, R569) -/

/-- The IDCODE. -/
def idcode : Nat := (Config.siliconRev.toNat % 16) * 2 ^ 28 + 0x6416 * 2 ^ 12 + 0x1C9 * 2 + 1

/-- The TST page. -/
def tstView (i : Nat) : W16 :=
  if i = 0 then w16 idcode
  else if i = 1 then w16 (idcode / 65536)
  else if i = 2 then wordOf Config.siliconRev Config.otpRev
  else 0

/-! ### Commands -/

/-- EXTEST, CLAMP and HIGHZ hold the device KILLED (R570). -/
def tapHolds (ir : BitVec 4) : Bool := decide (ir = 0) || decide (ir = 3) || decide (ir = 4)

/-- An instruction is loaded, with the boundary register's contents (R569, R570). -/
def tapLoad (ir : BitVec 4) (cells : BitVec 357) (s : State) : State :=
  let was := s.pins.tapHold
  let hold := tapHolds ir
  let s : State := { s with pins := { s.pins with tapIr := ir, cells := cells, tapHold := hold } }
  if hold && !was && s.up && decide (s.power.g ≠ .killed) then raiseKill (enterKilled s)
  else if was && !hold && s.power.killN then s.updPower fun p => { p with killRise := some s.now }
  else s

/-- TAP_INSTRUCTION_UPDATE (R569, R570): the TAP works while VAUX and VDDIO_L are present. Given again for the instruction
in force, it stands for an update of the boundary register. -/
def execTapInstructionUpdate (t : Nat) (ir : BitVec 4) (cells : BitVec 357) (s : State) : Ans :=
  gated t (fun s => s.power.vaux && s.power.vddioL) (tapLoad ir cells) s

/-- TRST_N_LOW (R49, R569): Test-Logic-Reset with IDCODE. -/
def execTrstNLow (t : Nat) (s : State) : Ans :=
  gated t (fun s => s.power.vaux && s.power.vddioL) (fun s => tapLoad 2 s.pins.cells s) s

/-- VDDIO_SUPPLY_CHANGE (R23, R25): bank 0 is VDDIO_H, 1 VDDIO_L, 2 VDDIO_P. -/
def execVddioSupplyChange (t : Nat) (bank : Fin 3) (on : Bool) (s : State) : Ans :=
  always t (fun s =>
    let s := s.updPower fun p =>
      if bank = 0 then { p with vddioH := on } else if bank = 1 then { p with vddioL := on } else { p with vddioP := on }
    if s.up then forLoops enableNote allLoops s else s) s

end Sys2Proof.Machine
end

