-- ==== Sys2Proof/Machine/Window.lean ====
section
/-! DEFINITION. The host window (02_host_window.md R54 to R84, 21_parameter_map.md R540 to R543): what every slot and every
parameter word reads as, what a write of each does, the event pop port, and the watchdog. -/

namespace Sys2Proof.Machine

open Sys2Proof

def State.updWin (s : State) (f : Win → Win) : State := { s with win := f s.win }

/-- The value that a completed read returned (R62). -/
def State.answer (s : State) (v : W16) : State := s.updWin fun w => { w with adOut := v }

/-- A word from an unsigned count that saturates. -/
def satWord (n : Nat) : W16 := w16 (min 65535 n)

/-! ### Live views by page (R541, R544) -/

/-- DEV page. -/
def State.devView (s : State) (i : Nat) : W16 :=
  if i = 0x00 then w16 s.power.g.code
  else if i = 0x01 then s.power.strap
  else if i = 0x02 then w16 s.power.resetCause.toNat
  else if i = 0x03 then s.power.kennelStat
  else if i = 0x06 then s.svc.vhv
  else if i = 0x07 then s.svc.vaux
  else if i = 0x0D then s.engStat
  else if i < 0x14 then s.laneLoadWord (i - 0x10)
  else if h : i - 0x14 < 16 then
    let g := (s.loop ⟨i - 0x14, h⟩).eng
    w16 (g.satCnt + 256 * g.skipCnt)
  else 0

/-- PRF page. -/
def State.prfView (s : State) (i : Nat) : W16 :=
  if i = 0x03 then s.dirtyCount
  else if i = 0x04 then s.par.refuseAddr
  else if i = 0x05 then s.imgStat
  else if i = 0x06 then w16 (imgSeq s.nvm.slotA.bytes)
  else if i = 0x07 then w16 (imgSeq s.nvm.slotA.bytes / 65536)
  else if i = 0x08 then w16 (imgSeq s.nvm.slotB.bytes)
  else if i = 0x09 then w16 (imgSeq s.nvm.slotB.bytes / 65536)
  else if i = 0x0A then s.slotStat
  else if i = 0x0B then s.mtpWear
  else 0

/-- PRT page. -/
def State.prtView (s : State) (i : Nat) : W16 :=
  if i = 0x03 then s.finStat
  else if i = 0x0B then s.prot.fastShow[0]
  else if i = 0x0C then s.prot.fastShow[1]
  else if i = 0x0D then s.otStat
  else s.phRemoved (i - 0x2C)

/-- CLK page. -/
def State.clkView (s : State) (i : Nat) : W16 :=
  if i = 0x01 then s.clkSrc else if i = 0x03 then w16 s.stb.siMeas else s.stbDev

/-- CAL_STAT of a converter (04). -/
def State.calStat (s : State) (c : ConvState) (freeze : Bool) : W16 :=
  w16 (bitVal (c.converged && !freeze) 0 + bitVal freeze 1 + bitVal c.noTrim 2 + 256 * min 255 (s.msSince c.trimAt))

/-- FREEZE of VSCk and ISCk in use (04 R137). -/
def State.vscFrozen (s : State) (k : Nat) : Bool := bitAt (s.pg 4 (0x20 + k)) 0
def State.iscFrozen (s : State) (k : Nat) : Bool := bitAt (s.pg 5 (0x10 + k)) 0

/-- VSC.MODE_NOWn (04). -/
def State.modeNow (s : State) (n : Fin 16) : W16 :=
  let c := (s.loop n).sense
  w16 (bitVal c.full 0 + bitVal c.clip 1 + bitVal c.chk 2 +
    bitVal (s.vsc[n.val / 4].converged && !s.vscFrozen (n.val / 4)) 3 +
    256 * min 255 (c.arb.foldl (fun a x => max a x.1) 0))

/-- VSC page. -/
def State.vscView (s : State) (i : Nat) : W16 :=
  if h : i - 0x24 < 4 then s.calStat s.vsc[i - 0x24] (s.vscFrozen (i - 0x24))
  else if h : i - 0x28 < 16 then s.modeNow ⟨i - 0x28, h⟩
  else w16 ((s.vscDemand (i - 0x38) + 51199) / 51200)

/-- ISC page. -/
def State.iscView (s : State) (i : Nat) : W16 :=
  if h : i - 0x14 < 4 then s.calStat s.isc[i - 0x14] (s.iscFrozen (i - 0x14))
  else if i < 0x1C then w16 ((s.iscDemand (i - 0x18) + 799) / 800)
  else s.iscTemp (s.pg 5 (8 + (i - 0x1C)))

/-- SVR page. -/
def State.svrView (s : State) (i : Nat) : W16 :=
  if i = 0x03 then s.svrStat
  else if i < 0x10 then s.svrMarks (i - 0x0C)
  else if h : i - 0x10 < 32 then s.svc.slots[i - 0x10].value
  else 0

/-- The live words of LPn. -/
def State.lpView (s : State) (n : Fin 16) (i : Nat) : W16 :=
  let l := s.loop n
  if i = 0x32 then s.stateWord n
  else if i = 0x33 then l.sense.vout
  else if i = 0x34 then l.mod.iout
  else if i = 0x35 then l.eng.icmd
  else if i = 0x36 then s.vrefNow n
  else if i = 0x37 then s.nphAct n
  else if i = 0x38 then s.fswAct n
  else if i = 0x39 then l.prt.fltFirst
  else if i = 0x3A then s.tugWord n
  else if i = 0x3B then s.ovrWord n
  else if i = 0x3C then satAccWord l.eng.satAcc (s.lp n 0x1C)
  else if i = 0x3D then w16 (s.estAge n)
  else if i = 0x3E then expNow l.eng
  else if i = 0x3F then s.reqActDiff n
  else 0

/-- The live words of PHm: word `k`. -/
def State.phView (s : State) (m : Fin 64) (k : Nat) : W16 := if k = 4 then s.phStat m else s.phCurrent m

/-- ACP page, port p, word `k`. -/
def State.acpView (s : State) (p : Fin 8) (k : Nat) : W16 :=
  let x := s.port p
  if k = 7 then s.acpStat p else if k = 8 then w16 x.evt else if k = 10 then w16 x.crcCnt else w16 x.reqCnt

/-- LSH page, bus words. -/
def State.lshView (s : State) (i : Nat) : W16 :=
  let l := s.lsh
  if i = 0x03 then s.leashStat
  else if i = 0x04 then w16 (l.tx + 256 * l.rx)
  else if i = 0x05 then w16 (s.heardMask.toNat + 256 * s.edgeMask.toNat)
  else if i = 0x06 then w16 l.fcount
  else if i = 0x07 then w16 (l.tk % 8 + 256 * l.tkChanges)
  else if i = 0x08 then w16 l.syncLoss
  else if i = 0x09 then w16 l.edgeCnt
  else if i = 0x0A then w16 l.crcCnt
  else if i = 0x0B then w16 l.dropCnt
  else if i = 0x0C then w16 l.jabCnt
  else if i = 0x0D then (if l.link = .lead ∨ l.periods ≠ [] then satWord ((s.framePeriod + 128) / 256) else 0)
  else 0

/-- LSH page, service words. -/
def State.srvView (s : State) (i : Nat) : W16 :=
  let p := s.peers
  if i = 0x25 then w16 ((if s.leaseLive then p.tok.holder else 0) + 256 * p.tok.gen)
  else if i = 0x26 then w16 s.leaseLeft
  else if h : i - 0x28 < 8 then (if i < 0x28 then 0 else w16 (s.peer ⟨i - 0x28, h⟩).heardBy.toNat)
  else if h : i - 0x30 < 8 then s.peerPg ⟨i - 0x30, h⟩
  else if i = 0x38 then s.wireStat
  else if i = 0x39 then s.wireCauses 0
  else if i = 0x3A then s.wireCauses 4
  else if i = 0x3C then s.planStat
  else if i = 0x3D then w16 (bitVal s.aligned 0)
  else if i = 0x3E then w16 p.unk
  else w16 (p.passes % 256 + 256 * (p.failures % 256))

/-- SWP page. -/
def State.swpView (s : State) (i : Nat) : W16 :=
  let w := s.swp
  if i = 0x07 then s.swpStat
  else if i = 0x08 then (match w.step with | some k => w16 k | none => 0xFFFF)
  else if i = 0x09 then w.resF
  else if i = 0x0A then w.resZ
  else if i = 0x0B then w.cSweep
  else s.dmpStat

/-- GSP page. -/
def State.gspView (s : State) (i : Nat) : W16 :=
  if i = 0x0F then satWord (scaled s.gsp.eRem 1000).toNat
  else if i = 0x10 then w16 (power10 s.gsp.pTot)
  else if i = 0x11 then s.tLeftWord
  else if i = 0x12 then s.gsp.cHold
  else s.sumStat

/-- FCH page. -/
def State.fchView (s : State) (i : Nat) : W16 :=
  if i < 0x60 then s.fchResult ⟨i / 3 % 32, by omega⟩
  else if i = 0x62 then s.fchStat
  else if i = 0x63 then w16 s.fch.evt.toNat
  else if i = 0x65 then s.fchFlags false fun x => decide (x.st = .good)
  else if i = 0x66 then s.fchFlags true fun x => decide (x.st = .good)
  else if i = 0x67 then s.fchFlags false fun x => decide (x.st ≠ .good)
  else if i = 0x68 then s.fchFlags true fun x => decide (x.st ≠ .good)
  else if i = 0x69 then s.fchFlags false fun x => x.alarm
  else if i = 0x6A then s.fchFlags true fun x => x.alarm
  else s.fchErrCnt

/-- CRB page. -/
def State.crbView (s : State) (i : Nat) : W16 :=
  if i < 0x30 then s.tplStat ⟨i / 12 % 4, by omega⟩
  else if i = 0x31 then w16 s.log.wr
  else if i = 0x32 then w16 s.log.rd
  else if i = 0x33 then w16 s.log.drop
  else if i < 0x38 then s.slotStats (i - 0x34)
  else if i = 0x38 then s.slotsLocked
  else if i = 0x39 then w16 s.crb.missed
  else w16 s.crb.seq

/-- LYR page: indices 0x05 to 0x0C show the loop that SEL names (12). -/
def State.lyrView (s : State) (i : Nat) : W16 :=
  let n : Fin 16 := ⟨fld (s.pg 0x39 4) 3 0 % 16, by omega⟩
  let l := (s.loop n).lyr
  if i = 0x02 then s.lyrLocks 0
  else if i = 0x03 then s.lyrLocks 8
  else if i = 0x05 then w16 l.measP
  else if i = 0x06 then w16 (l.accepted + 256 * l.rejected)
  else if i = 0x07 then w16 (l.misses + 256 * l.diverged)
  else if i = 0x08 then s.lyrMax n
  else if i = 0x09 then satWord l.erms
  else if i = 0x0A then satWord l.eref
  else if i = 0x0B then w16 l.upd
  else if i = 0x0C then w16 l.tsat
  else w16 (allLoops.foldl (fun a k => a + bitVal (s.loop k).lyr.divflag k.val) 0)

/-- CHW page. -/
def State.chwView (s : State) (i : Nat) : W16 :=
  let c := s.chw
  if i = 0x0D then s.chwStat
  else if i = 0x0E then satWord c.count
  else if i = 0x0F then w16 c.left
  else if i = 0x10 then satWord c.acp.injected
  else if i = 0x11 then satWord c.lsh.injected
  else satWord c.fch.injected

/-- The value of an RO or W1C word. -/
def State.liveView (s : State) (p i : Nat) : W16 :=
  if p = 0x00 then s.devView i
  else if p = 0x01 then s.prfView i
  else if p = 0x02 then s.prtView i
  else if p = 0x03 then s.clkView i
  else if p = 0x04 then s.vscView i
  else if p = 0x05 then s.iscView i
  else if p = 0x08 then s.svrView i
  else if p < 0x10 then 0
  else if h : p - 0x10 < 16 then s.lpView ⟨p - 0x10, h⟩ i
  else if p < 0x24 then s.phView (phaseOfAddr (256 * p + i)) (i % 6)
  else if p = 0x28 then s.acpView ⟨i / 12 % 8, by omega⟩ (i % 12)
  else if p = 0x30 then (if i < 0x20 then s.lshView i else s.srvView i)
  else if p = 0x32 then s.swpView i
  else if p = 0x33 then s.gspView i
  else if p = 0x34 then s.fchView i
  else if p = 0x38 then s.crbView i
  else if p = 0x39 then s.lyrView i
  else if p = 0x3A then s.idnView i
  else if p = 0x3B then s.chwView i
  else if p = 0x3C then s.gpioWord (if i = 0x18 then 0 else 16)
  else if p = 0x3F then tstView i
  else 0

/-! ### Parameter access (R70 to R74, 21 R540 to R542) -/

/-- A parameter as W_PDATA reads it (`view` false) or as W_PVIEW does (`view` true). -/
def State.readParam (s : State) (view : Bool) (a : Nat) : W16 :=
  match paramInfo a with
  | none => 0
  | some p =>
    match p.access with
    | .rw => if view then s.viewUse a else s.proof a
    | .wo => 0
    | .ro => s.liveView (a / 256) (a % 256)
    | .w1c => s.liveView (a / 256) (a % 256)

/-- A write of 1 to flags of DEV.RESET_CAUSE clears them (R541). -/
def causeClear (w : W16) (s : State) : State :=
  s.updPower fun p => { p with resetCause := p.resetCause &&& ~~~(w.setWidth 6) }

/-- A write to a WO or W1C word acts at once (R541). -/
def wordWrite (a : Nat) (w : W16) (s : State) : State :=
  if a = 0x0002 then causeClear w s
  else if a = 0x0005 then resetWrite w s
  else if a = 0x000B then engClr w s
  else if a = 0x000C then engRestore w s
  else if a = 0x0102 then revertWrite w s
  else if a = 0x0208 then fltClr w s
  else if 0x022C ≤ a ∧ a < 0x0230 then removedClear (a - 0x022C) w s
  else if a = 0x0801 then calWrite w s
  else if 0x2800 ≤ a ∧ a < 0x2860 then acpEvtWrite ⟨(a - 0x2800) / 12 % 8, by omega⟩ w s
  else if a = 0x300E then lshClear w s
  else if a = 0x303B then planWrite w s
  else if a = 0x3206 then swpWrite w s
  else if a = 0x3463 then fchEvtWrite w s
  else if a = 0x3900 then lyrClear w s
  else if a = 0x3B01 then chwWrite w s
  else s

/-- A write of a parameter (R70): reserved bits are stored as 0 (21 R542). -/
def writeParam (a : Nat) (w : W16) (s : State) : State :=
  match paramInfo a with
  | none => s
  | some p =>
    match p.access with
    | .ro => s
    | .rw =>
      let s := s.setProof a (w &&& w16 p.mask)
      if p.cls = .L then writeL a s else s
    | .wo => wordWrite a w s
    | .w1c => wordWrite a w s

/-- PDATA_WRITE (R70, R74, 03 R93). -/
def execPdataWrite (t : Nat) (w : W16) (s : State) : Ans :=
  strobed t (fun _ => true) (fun s => writeParam s.win.paddr.toNat w s) s

/-- The index of W_PADDR steps modulo 256; the page stays (R72). -/
def stepPaddr (s : State) : State :=
  s.updWin fun w => { w with paddr := w16 (fld w.paddr 15 8 * 256 + (fld w.paddr 7 0 + 1) % 256) }

/-- A completed read of W_PDATA_INC. -/
def pdataIncRead (s : State) : State := stepPaddr (s.answer (s.readParam false s.win.paddr.toNat))

/-- A write of W_PDATA_INC. -/
def pdataIncWrite (w : W16) (s : State) : State := stepPaddr (writeParam s.win.paddr.toNat w s)

/-- PDATA_INC_ACCESS (R72): a read, or a write of `w`. -/
def execPdataIncAccess (t : Nat) (read : Bool) (w : W16) (s : State) : Ans :=
  if read then slotRead t pdataIncRead s else strobed t (fun _ => true) (pdataIncWrite w) s

/-! ### Interrupts and flags (R64, R75 to R77) -/

/-- A write of 1 to bits of W_IRQ clears them. -/
def irqClear (v : W16) (s : State) : State := s.updWin fun w => { w with irq := w.irq &&& ~~~v }

/-- IRQ_CLEAR (R75). -/
def execIrqClear (t : Nat) (w : W16) (s : State) : Ans := strobed t (fun _ => true) (irqClear w) s

/-- A write of W_IRQ_EN; [15:12] are reserved. -/
def irqEnable (v : W16) (s : State) : State := s.updWin fun w => { w with irqEn := v &&& 0x0FFF }

/-- IRQ_ENABLE_WRITE (R77). -/
def execIrqEnableWrite (t : Nat) (w : W16) (s : State) : Ans := strobed t (fun _ => true) (irqEnable w) s

/-- A write of W_FLT_LOOP: 1 to [15] clears it and W_FLT_CODE. -/
def fltLoopWrite (v : W16) (s : State) : State :=
  if bitAt v 15 then s.updWin fun w => { w with fltCode := 0, fltCount := 0, fltLoop := 0, fltValid := false } else s

/-- FLT_LOOP_CLEAR (R64). -/
def execFltLoopClear (t : Nat) (w : W16) (s : State) : Ans := strobed t (fun _ => true) (fltLoopWrite w) s

/-- A write of W_KILL_STAT: 1 to [1] clears the KILL-seen flag. -/
def killStatWrite (v : W16) (s : State) : State :=
  if bitAt v 1 then s.updWin fun w => { w with killSeen := false } else s

/-- KILL_STAT_CLEAR (R64). -/
def execKillStatClear (t : Nat) (w : W16) (s : State) : Ans := strobed t (fun _ => true) (killStatWrite w) s

/-! ### Requested enables (R66, R36, 11 R322, 15 R428) -/

/-- W_LOOP_ON takes a value: bit 15 stays 1 under self-bias, and a LINKLOSS hold with RESTART 0 ends at a cleared bit. -/
def loopOnSet (v : W16) (s : State) : State :=
  let v := if s.selfBias then setBit v 15 else v
  let s := s.updWin fun w => { w with loopOn := v }
  let s := forLoops (fun n s => s.updAcp n fun a => { a with lossOff := a.lossOff && (bitAt v n.val || bitAt (s.lp n 0x2C) 2) }) allLoops s
  forLoops pairsNote allLoops s

/-- A write of W_LOOP_ON: a read-only peer ignores it (15 R428). -/
def loopOnWrite (v : W16) (s : State) : State := if s.readOnly then s else loopOnSet v s

/-- LOOP_ON_WRITE (R66). -/
def execLoopOnWrite (t : Nat) (w : W16) (s : State) : Ans := strobed t (fun _ => true) (loopOnWrite w) s

/-! ### The event pop port (R78, R79) -/

def State.updLog (s : State) (f : EvtLog → EvtLog) : State := { s with log := f s.log }

/-- Word `k` of an entry. -/
def LogEntry.word (e : LogEntry) (k : Nat) : W16 := if k = 0 then e.w0 else if k = 1 then e.w1 else if k = 2 then e.w2 else e.w3

/-- The entry that the next read concerns: at word index 0 the oldest unpopped one, or a rewound one that the log has
overwritten, and the buffered one after that. -/
def State.popEntry (s : State) : LogEntry :=
  if s.log.popIdx = 0 ∧ ¬(s.log.popMid = true ∧ s.log.popAt = none) then s.logEntry s.log.rd else s.log.popBuf

/-- What a read of W_EVT_POP returns. -/
def State.popWord (s : State) : W16 := if s.log.count = 0 then 0 else s.popEntry.word s.log.popIdx

/-- A completed read of W_EVT_POP. -/
def evtPopRead (s : State) : State :=
  let v := s.popWord
  let e := s.popEntry
  let s := s.answer v
  if s.log.count = 0 then s
  else if s.log.popIdx = 0 then
    s.updLog fun l => { l with
      popIdx := 1
      popBuf := e
      popMid := true
      popAt := if l.popMid then l.popAt else some l.rd }
  else if s.log.popIdx < 3 then s.updLog fun l => { l with popIdx := l.popIdx + 1 }
  else s.updLog fun l => { l with
    popIdx := 0
    popMid := false
    popAt := none
    rd := if l.popAt.isSome then (l.rd + 1) % 8192 else l.rd
    count := if l.popAt.isSome then l.count - 1 else l.count }

/-- EVT_POP_READ (R78). -/
def execEvtPopRead (t : Nat) (s : State) : Ans := slotRead t evtPopRead s

/-- A write of any value to W_EVT_POP. -/
def evtPopRewind (s : State) : State := s.updLog fun l => { l with popIdx := 0 }

/-- EVT_POP_REWIND (R78). -/
def execEvtPopRewind (t : Nat) (s : State) : Ans := strobed t (fun _ => true) evtPopRewind s

/-- A write of W_EVT_COUNT: 1 to [15] clears LOST. -/
def evtCountWrite (v : W16) (s : State) : State := if bitAt v 15 then s.updLog fun l => { l with lost := false } else s

/-- EVT_LOST_CLEAR (R79). -/
def execEvtLostClear (t : Nat) (w : W16) (s : State) : Ans := strobed t (fun _ => true) (evtCountWrite w) s

/-! ### The watchdog (R80 to R83) -/

/-- W_WDOG: the next expected kick word (R81). -/
def State.kickWord (s : State) : W16 := if s.win.wdogAlt then 0xA53C else 0x5AC3

/-- W_WDOG_CFG.EN. -/
def State.wdogEn (s : State) : Bool := bitAt s.win.wdogCfg 3

/-- The timeout starts again; in GASP the suspended count does (R82). -/
def wdogRestart (s : State) : State :=
  s.updWin fun w => { w with wdogFrom := s.now, wdogLeft := w.wdogLeft.map fun _ => 0 }

/-- The configured action (R80). -/
def wdogAction (s : State) : State :=
  match fld s.win.wdogCfg 2 0 with
  | 1 => if s.leaseHeld then releaseLease s else s
  | 2 => loopOnWrite 0 s
  | 3 => warmRequest 16 s
  | _ => s

/-- The watchdog expires (R83): flags, event, action; Chew disarms (20 R527). -/
def wdogExpire (s : State) : State :=
  if s.win.wdogExp then s
  else
    let s := (s.updWin fun w => { w with wdogExp := true }).irq 9
    let s := s.event 0x1C none s.win.wdogCfg 0
    wdogAction (withStat (chewDisarm 6) s)

/-- WDOG_EXPIRE (R82): not before 0.985 T. -/
def execWdogExpire (t : Nat) (s : State) : Ans :=
  gated t (fun s => s.up && decide (s.power.g ≠ .gasp) && s.wdogEn && !s.win.wdogExp &&
      decide (985 * Config.ms (10 * fld s.win.wdogCfg 15 8) ≤ 1000 * (s.now - s.win.wdogFrom)))
    wdogExpire s

/-- A write of W_WDOG_CFG (R80); `kicked` says that it is the first window write after a valid kick. -/
def wdogCfgWrite (kicked : Bool) (v : W16) (s : State) : State :=
  let v := v &&& 0xFF0F
  if wdogOk v = false ∨ (s.wdogEn = true ∧ kicked = false) then s
  else
    let alt := s.win.wdogAlt && (s.wdogEn || !bitAt v 3)
    let s := s.updWin fun w => { w with wdogCfg := v, wdogAlt := alt }
    if bitAt v 3 then wdogRestart s else s

/-- A write of W_WDOG (R81). -/
def wdogWrite (v : W16) (s : State) : State :=
  if s.wdogEn = false then s
  else if v = s.kickWord then
    (wdogRestart s).updWin fun w => { w with wdogExp := false, wdogAlt := !w.wdogAlt, kicked := true }
  else wdogExpire s

/-- A completed write strobe: `f` gets whether it is the first after a valid kick (R80). -/
def writeStrobe (t : Nat) (f : Bool → State → State) (s : State) : Ans :=
  let s := s.atTime t
  .next (if s.window then f s.win.kicked (s.updWin fun w => { w with kicked := false }) else s)

/-- WDOG_CFG_WRITE. -/
def execWdogCfgWrite (t : Nat) (w : W16) (s : State) : Ans := writeStrobe t (fun k => wdogCfgWrite k w) s

/-- WDOG_KICK. -/
def execWdogKick (t : Nat) (w : W16) (s : State) : Ans := strobed t (fun _ => true) (wdogWrite w) s

/-! ### The bus and the slots (R55, R60 to R65, R69) -/

/-- The address selects no slot (R63, R64). -/
def unassigned (ad : Nat) : Bool := decide (0x54 ≤ ad) || decide (ad % 2 = 1)

/-- ADDRESS_LATCH (R55): a falling edge of ALE with `ad` on AD. -/
def execAddressLatch (t : Nat) (ad : W16) (s : State) : Ans :=
  gated t (fun s => s.power.vaux && s.power.vddioH) (fun s => s.updWin fun w => { w with addr := ad }) s

/-- SHORT_STROBE (R60). -/
def execShortStrobe (t : Nat) (s : State) : Ans :=
  gated t State.busAnswers (fun s => s.updWin fun w => { w with short := true }) s

/-- W_STAT_READ (R65). -/
def execWStatRead (t : Nat) (s : State) : Ans :=
  gated t State.busAnswers (fun s => (s.answer s.wStat).updWin fun w => { w with short := false }) s

/-- A completed read of W_TIME_L, or of W_BOOTCNT_L, with its 32-bit latch (R69). -/
def timeLowRead (boot : Bool) (s : State) : State :=
  if boot then
    let c := s.power.bootCnt.toNat
    (s.answer (w16 c)).updWin fun w => { w with bootHold := w16 (c / 65536) }
  else
    let c := s.devTime
    (s.answer (w16 c)).updWin fun w => { w with timeHold := w16 (c / 65536) }

/-- TIME_LOW_READ (R69). -/
def execTimeLowRead (t : Nat) (boot : Bool) (s : State) : Ans := slotRead t (timeLowRead boot) s

/-- W_KILL_STAT. -/
def State.killStatWord (s : State) : W16 :=
  w16 (bitVal (!s.power.killN) 0 + bitVal s.win.killSeen 1 + 256 * s.win.killEdges.toNat)

/-- W_LOOP_PG. -/
def State.loopPg (s : State) : W16 := w16 (allLoops.foldl (fun a n => a + bitVal (s.powerGood n) n.val) 0)

/-- The low half of the window as reads see it. -/
def State.readSlotLow (s : State) (ad : Nat) : W16 :=
  if ad = 0x04 then s.win.irq
  else if ad = 0x06 then s.win.irqEn
  else if ad = 0x08 then s.win.paddr
  else if ad = 0x0A then s.readParam false s.win.paddr.toNat
  else if ad = 0x0C then s.readParam false s.win.paddr.toNat
  else if ad = 0x0E then s.readParam true s.win.paddr.toNat
  else if ad = 0x12 then s.commitStat
  else if ad = 0x14 then s.win.loopOn
  else if ad = 0x16 then s.loopAct
  else if ad = 0x18 then s.loopPg
  else if ad = 0x1A then s.loopFlt
  else if ad = 0x1C then s.fltCodeWord
  else if ad = 0x1E then s.fltLoopWord
  else if ad = 0x20 then s.killStatWord
  else if ad = 0x22 then w16 s.crb.addr
  else if ad = 0x24 then w16 (s.crb.addr / 65536)
  else if ad = 0x26 then (crumbRead s).1
  else if ad = 0x28 then s.crumbCtlWord
  else 0

/-- The high half. -/
def State.readSlotHigh (s : State) (ad : Nat) : W16 :=
  if ad = 0x2A then s.urgentWord
  else if ad = 0x2C then s.svc.urgData
  else if ad = 0x2E then s.leashStat
  else if ad = 0x30 then w16 s.rosterWord
  else if ad = 0x32 then s.handlerWord
  else if ad = 0x34 then s.portWord
  else if ad = 0x36 then s.tokenCtlWord
  else if ad = 0x38 then s.nvmCtl
  else if ad = 0x3A then s.nvmStat
  else if ad = 0x3C then s.gaspWord
  else if ad = 0x3E then s.snapWord
  else if ad = 0x40 then s.snap.frame.getD s.snap.index 0
  else if ad = 0x42 then s.popWord
  else if ad = 0x44 then w16 (s.log.count + bitVal s.log.lost 15)
  else if ad = 0x46 then s.kickWord
  else if ad = 0x48 then s.win.wdogCfg
  else if ad = 0x4A then w16 s.devTime
  else if ad = 0x4C then s.win.timeHold
  else if ad = 0x4E then s.win.scratch
  else if ad = 0x50 then w16 s.power.bootCnt.toNat
  else if ad = 0x52 then s.win.bootHold
  else 0

/-- The value that a read of the slot at byte address `ad` returns (R64); in BOOT only W_ID and W_STAT answer (R43). -/
def State.readSlot (s : State) (ad : Nat) : W16 :=
  if unassigned ad then 0
  else if ad = 0x00 then 0x6416
  else if ad = 0x02 then s.wStat
  else if s.window = false then 0
  else if ad < 0x2A then s.readSlotLow ad
  else s.readSlotHigh ad

/-- A completed write of a slot; `kicked` as in `writeStrobe`. RO and unassigned slots ignore it (R64). -/
def writeSlot (kicked : Bool) (ad : Nat) (w : W16) (s : State) : State :=
  if unassigned ad then s
  else if ad = 0x04 then irqClear w s
  else if ad = 0x06 then irqEnable w s
  else if ad = 0x08 then s.updWin fun x => { x with paddr := w }
  else if ad = 0x0A then writeParam s.win.paddr.toNat w s
  else if ad = 0x0C then pdataIncWrite w s
  else if ad = 0x10 then commitWrite w s
  else if ad = 0x14 then loopOnWrite w s
  else if ad = 0x1E then fltLoopWrite w s
  else if ad = 0x20 then killStatWrite w s
  else if ad = 0x22 then s.updCrb fun c => { c with addr := c.addr / 65536 * 65536 + w.toNat / 2 * 2 }
  else if ad = 0x24 then s.updCrb fun c => { c with addr := c.addr % 65536 + 65536 * fld w 7 0 }
  else if ad = 0x28 then crumbCtlWrite w s
  else if ad = 0x2A then urgentWrite w s
  else if ad = 0x32 then handlerWrite w s
  else if ad = 0x34 then portWrite w s
  else if ad = 0x36 then tokenCtlWrite w s
  else if ad = 0x38 then nvmWrite w s
  else if ad = 0x3C then gaspWrite w s
  else if ad = 0x3E then snapWrite w s
  else if ad = 0x42 then evtPopRewind s
  else if ad = 0x44 then evtCountWrite w s
  else if ad = 0x46 then wdogWrite w s
  else if ad = 0x48 then wdogCfgWrite kicked w s
  else if ad = 0x4E then s.updWin fun x => { x with scratch := w }
  else s

/-- REGISTER_WRITE (R62): a completed write strobe at the latched address. -/
def execRegisterWrite (t : Nat) (w : W16) (s : State) : Ans :=
  writeStrobe t (fun k s => writeSlot k s.win.addr.toNat w s) s

end Sys2Proof.Machine
end

