-- ==== Sys2Proof/Machine/Dispatch.lean ====
section
/-! DEFINITION. The dispatch: one arm for each constructor of `Instr`, each one direct call of its meaning. -/

namespace Sys2Proof.Machine

open Sys2Proof

/-- The effect of a command on everything but the queue. -/
def exec (i : Instr) (s : State) : Host.Outcome State Fault Refusal :=
  match i with
  | .vhvRiseOn t kv => Sys2Proof.Machine.execVhvRiseOn t kv s
  | .kennelAttemptStart t pre => Sys2Proof.Machine.execKennelAttemptStart t pre s
  | .kennelAttemptTimeout t => Sys2Proof.Machine.execKennelAttemptTimeout t s
  | .kennelLp15Ov t => Sys2Proof.Machine.execKennelLp15Ov t s
  | .vhvFallOff t => Sys2Proof.Machine.execVhvFallOff t s
  | .vhvRiseOvlo t mv => Sys2Proof.Machine.execVhvRiseOvlo t mv s
  | .vhvOvloRelease t pre => Sys2Proof.Machine.execVhvOvloRelease t pre s
  | .kennelRetryDue t above => Sys2Proof.Machine.execKennelRetryDue t above s
  | .vauxValid t kv => Sys2Proof.Machine.execVauxValid t kv s
  | .vauxLoss t above => Sys2Proof.Machine.execVauxLoss t above s
  | .vauxDriveRelease t => Sys2Proof.Machine.execVauxDriveRelease t s
  | .pllLock t => Sys2Proof.Machine.execPllLock t s
  | .resetNLow t => Sys2Proof.Machine.execResetNLow t s
  | .resetNRelease t => Sys2Proof.Machine.execResetNRelease t s
  | .warmReset t => Sys2Proof.Machine.execWarmReset t s
  | .coreUvReset t => Sys2Proof.Machine.execCoreUvReset t s
  | .coreUvRelease t => Sys2Proof.Machine.execCoreUvRelease t s
  | .lp15KennelResume t => Sys2Proof.Machine.execLp15KennelResume t s
  | .bootStart t pos boot => Sys2Proof.Machine.execBootStart t pos boot s
  | .bootCounterIncrement t => Sys2Proof.Machine.execBootCounterIncrement t s
  | .bootComplete t eeprom => Sys2Proof.Machine.execBootComplete t eeprom s
  | .lp15Handoff t => Sys2Proof.Machine.execLp15Handoff t s
  | .addressLatch t ad => Sys2Proof.Machine.execAddressLatch t ad s
  | .shortStrobe t => Sys2Proof.Machine.execShortStrobe t s
  | .registerWrite t w => Sys2Proof.Machine.execRegisterWrite t w s
  | .wStatRead t => Sys2Proof.Machine.execWStatRead t s
  | .timeLowRead t boot => Sys2Proof.Machine.execTimeLowRead t boot s
  | .pdataWrite t w => Sys2Proof.Machine.execPdataWrite t w s
  | .pdataIncAccess t read w => Sys2Proof.Machine.execPdataIncAccess t read w s
  | .irqClear t w => Sys2Proof.Machine.execIrqClear t w s
  | .irqEnableWrite t w => Sys2Proof.Machine.execIrqEnableWrite t w s
  | .fltLoopClear t w => Sys2Proof.Machine.execFltLoopClear t w s
  | .killStatClear t w => Sys2Proof.Machine.execKillStatClear t w s
  | .loopOnWrite t w => Sys2Proof.Machine.execLoopOnWrite t w s
  | .evtPopRead t => Sys2Proof.Machine.execEvtPopRead t s
  | .evtPopRewind t => Sys2Proof.Machine.execEvtPopRewind t s
  | .evtLostClear t w => Sys2Proof.Machine.execEvtLostClear t w s
  | .wdogCfgWrite t w => Sys2Proof.Machine.execWdogCfgWrite t w s
  | .wdogKick t w => Sys2Proof.Machine.execWdogKick t w s
  | .wdogExpire t => Sys2Proof.Machine.execWdogExpire t s
  | .deviceTimeWrap t => Sys2Proof.Machine.execDeviceTimeWrap t s
  | .revert t w => Sys2Proof.Machine.execRevert t w s
  | .classLCrossing t a => Sys2Proof.Machine.execClassLCrossing t a s
  | .commitRequest t => Sys2Proof.Machine.execCommitRequest t s
  | .captureEnd t => Sys2Proof.Machine.execCaptureEnd t s
  | .commitApply t isLoop unit => Sys2Proof.Machine.execCommitApply t isLoop unit s
  | .commitRefused t => Sys2Proof.Machine.execCommitRefused t s
  | .disagree t n k => Sys2Proof.Machine.execDisagree t n k s
  | .save t => Sys2Proof.Machine.execSave t s
  | .openA t => Sys2Proof.Machine.execOpenA t s
  | .openB t => Sys2Proof.Machine.execOpenB t s
  | .confirm t => Sys2Proof.Machine.execConfirm t s
  | .invalidateA t => Sys2Proof.Machine.execInvalidateA t s
  | .invalidateB t => Sys2Proof.Machine.execInvalidateB t s
  | .nvmDataWord t w => Sys2Proof.Machine.execNvmDataWord t w s
  | .nvmPageProgrammed t => Sys2Proof.Machine.execNvmPageProgrammed t s
  | .nvmTransferTimeout t => Sys2Proof.Machine.execNvmTransferTimeout t s
  | .nvmImageChecked t ok => Sys2Proof.Machine.execNvmImageChecked t ok s
  | .nvmOpComplete t ok => Sys2Proof.Machine.execNvmOpComplete t ok s
  | .sampleBoundary t n => Sys2Proof.Machine.execSampleBoundary t n s
  | .acquisitionEnd t n codes sup => Sys2Proof.Machine.execAcquisitionEnd t n codes sup s
  | .trimUpdate t isc k x => Sys2Proof.Machine.execTrimUpdate t isc k x s
  | .iscSample t m code => Sys2Proof.Machine.execIscSample t m code s
  | .zeroReference t m c0 c1 c2 c3 => Sys2Proof.Machine.execZeroReference t m c0 c1 c2 c3 s
  | .svcVisitEnd t rs clip => Sys2Proof.Machine.execSvcVisitEnd t rs clip s
  | .svcDelayEnd t => Sys2Proof.Machine.execSvcDelayEnd t s
  | .urgentRequest t w => Sys2Proof.Machine.execUrgentRequest t w s
  | .urgentGrant t => Sys2Proof.Machine.execUrgentGrant t s
  | .urgentDone t r clip => Sys2Proof.Machine.execUrgentDone t r clip s
  | .refWarm t => Sys2Proof.Machine.execRefWarm t s
  | .calZero t n => Sys2Proof.Machine.execCalZero t n s
  | .calFull t n => Sys2Proof.Machine.execCalFull t n s
  | .calApply t => Sys2Proof.Machine.execCalApply t s
  | .calAbort t => Sys2Proof.Machine.execCalAbort t s
  | .calMeasureEnd t => Sys2Proof.Machine.execCalMeasureEnd t s
  | .snapRequest t w => Sys2Proof.Machine.execSnapRequest t w s
  | .snapshotCapture t => Sys2Proof.Machine.execSnapshotCapture t s
  | .snapDataRead t => Sys2Proof.Machine.execSnapDataRead t s
  | .engClr t w => Sys2Proof.Machine.execEngClr t w s
  | .engRestore t w => Sys2Proof.Machine.execEngRestore t w s
  | .rateRestore t n => Sys2Proof.Machine.execRateRestore t n s
  | .stbEpoch t => Sys2Proof.Machine.execStbEpoch t s
  | .alignmentInstant t => Sys2Proof.Machine.execAlignmentInstant t s
  | .referenceInstant t n => Sys2Proof.Machine.execReferenceInstant t n s
  | .phaseTurnOn t m => Sys2Proof.Machine.execPhaseTurnOn t m s
  | .comparatorTrip t m => Sys2Proof.Machine.execComparatorTrip t m s
  | .pulseMaxEnd t m => Sys2Proof.Machine.execPulseMaxEnd t m s
  | .zeroCross t m => Sys2Proof.Machine.execZeroCross t m s
  | .syncInEdge t falling => Sys2Proof.Machine.execSyncInEdge t falling s
  | .syncInValid t => Sys2Proof.Machine.execSyncInValid t s
  | .syncInLost t => Sys2Proof.Machine.execSyncInLost t s
  | .glideEnd t => Sys2Proof.Machine.execGlideEnd t s
  | .whiskTurn t n => Sys2Proof.Machine.execWhiskTurn t n s
  | .whiskBlankEnd t n c0 c1 c2 c3 => Sys2Proof.Machine.execWhiskBlankEnd t n c0 c1 c2 c3 s
  | .estStale t n => Sys2Proof.Machine.execEstStale t n s
  | .enableInputChange t g high => Sys2Proof.Machine.execEnableInputChange t g high s
  | .delayOnEntry t n => Sys2Proof.Machine.execDelayOnEntry t n s
  | .delayOnEnd t n => Sys2Proof.Machine.execDelayOnEnd t n s
  | .rampUpEnd t n => Sys2Proof.Machine.execRampUpEnd t n s
  | .transitionEnd t n => Sys2Proof.Machine.execTransitionEnd t n s
  | .turnOffDelayEnd t n => Sys2Proof.Machine.execTurnOffDelayEnd t n s
  | .rampDownEnd t n => Sys2Proof.Machine.execRampDownEnd t n s
  | .delayOffEnd t n => Sys2Proof.Machine.execDelayOffEnd t n s
  | .setptUpdate t k pulse xs => Sys2Proof.Machine.execSetptUpdate t k pulse xs s
  | .spLost t x => Sys2Proof.Machine.execSpLost t x s
  | .heelLoss t n => Sys2Proof.Machine.execHeelLoss t n s
  | .acpPing t p req => Sys2Proof.Machine.execAcpPing t p req s
  | .acpSetv t p req => Sys2Proof.Machine.execAcpSetv t p req s
  | .acpSetslew t p req => Sys2Proof.Machine.execAcpSetslew t p req s
  | .acpSetll t p req => Sys2Proof.Machine.execAcpSetll t p req s
  | .acpHint t p req => Sys2Proof.Machine.execAcpHint t p req s
  | .acpFrame t p req => Sys2Proof.Machine.execAcpFrame t p req s
  | .acpGetv t p req => Sys2Proof.Machine.execAcpGetv t p req s
  | .acpGeti t p req => Sys2Proof.Machine.execAcpGeti t p req s
  | .acpGetstat t p req => Sys2Proof.Machine.execAcpGetstat t p req s
  | .acpGettemp t p req => Sys2Proof.Machine.execAcpGettemp t p req s
  | .acpGetref t p req => Sys2Proof.Machine.execAcpGetref t p req s
  | .acpGetflt t p req => Sys2Proof.Machine.execAcpGetflt t p req s
  | .acpReservedOp t p req => Sys2Proof.Machine.execAcpReservedOp t p req s
  | .getstatResponseEnd t p => Sys2Proof.Machine.execGetstatResponseEnd t p s
  | .acpAbort t p => Sys2Proof.Machine.execAcpAbort t p s
  | .dioLowClear t p => Sys2Proof.Machine.execDioLowClear t p s
  | .acpTargetApply t n => Sys2Proof.Machine.execAcpTargetApply t n s
  | .acpLlApply t n => Sys2Proof.Machine.execAcpLlApply t n s
  | .arrival t n => Sys2Proof.Machine.execArrival t n s
  | .acpLoss t p => Sys2Proof.Machine.execAcpLoss t p s
  | .linklossAction t n => Sys2Proof.Machine.execLinklossAction t n s
  | .acpEvtClear t p w => Sys2Proof.Machine.execAcpEvtClear t p w s
  | .layerStrobeEdge t pin falling => Sys2Proof.Machine.execLayerStrobeEdge t pin falling s
  | .layerMiss t n => Sys2Proof.Machine.execLayerMiss t n s
  | .layerAutoWindowEnd t n => Sys2Proof.Machine.execLayerAutoWindowEnd t n s
  | .layerChunkUpdate t n => Sys2Proof.Machine.execLayerChunkUpdate t n s
  | .layerPeriodEnd t n => Sys2Proof.Machine.execLayerPeriodEnd t n s
  | .lyrClr t w => Sys2Proof.Machine.execLyrClr t w s
  | .ovTrip t n => Sys2Proof.Machine.execOvTrip t n s
  | .faultAction t n => Sys2Proof.Machine.execFaultAction t n s
  | .uv t n => Sys2Proof.Machine.execUv t n s
  | .ocpTrip t m => Sys2Proof.Machine.execOcpTrip t m s
  | .negTrip t m => Sys2Proof.Machine.execNegTrip t m s
  | .ocTotal t n => Sys2Proof.Machine.execOcTotal t n s
  | .phaseReturn t k w => Sys2Proof.Machine.execPhaseReturn t k w s
  | .otOnset t k => Sys2Proof.Machine.execOtOnset t k s
  | .otEnd t k => Sys2Proof.Machine.execOtEnd t k s
  | .vinUv t n => Sys2Proof.Machine.execVinUv t n s
  | .vinOv t n => Sys2Proof.Machine.execVinOv t n s
  | .fastChannelRequest t => Sys2Proof.Machine.execFastChannelRequest t s
  | .hiccupRetry t n => Sys2Proof.Machine.execHiccupRetry t n s
  | .hiccupCountClear t n => Sys2Proof.Machine.execHiccupCountClear t n s
  | .fltClr t w => Sys2Proof.Machine.execFltClr t w s
  | .killNFall t => Sys2Proof.Machine.execKillNFall t s
  | .killedExit t => Sys2Proof.Machine.execKilledExit t s
  | .faultNRelease t => Sys2Proof.Machine.execFaultNRelease t s
  | .faultIn t => Sys2Proof.Machine.execFaultIn t s
  | .faultInHoldEnd t => Sys2Proof.Machine.execFaultInHoldEnd t s
  | .syncFieldReceived t p count => Sys2Proof.Machine.execSyncFieldReceived t p count s
  | .syncLoss t => Sys2Proof.Machine.execSyncLoss t s
  | .holdoffExpire t => Sys2Proof.Machine.execHoldoffExpire t s
  | .slotTransmit t => Sys2Proof.Machine.execSlotTransmit t s
  | .leashFrameEnd t syncGood echo ownEdge acc fail edge rep => Sys2Proof.Machine.execLeashFrameEnd t syncGood echo ownEdge acc fail edge rep s
  | .jabberCut t => Sys2Proof.Machine.execJabberCut t s
  | .idle t p d => Sys2Proof.Machine.execIdle t p d s
  | .claim t p d => Sys2Proof.Machine.execClaim t p d s
  | .handover t heard => Sys2Proof.Machine.execHandover t heard s
  | .nap t p d => Sys2Proof.Machine.execNap t p d s
  | .napBurst t => Sys2Proof.Machine.execNapBurst t s
  | .wake t p d => Sys2Proof.Machine.execWake t p d s
  | .napWindowMiss t => Sys2Proof.Machine.execNapWindowMiss t s
  | .napOrphan t => Sys2Proof.Machine.execNapOrphan t s
  | .lshClr t w => Sys2Proof.Machine.execLshClr t w s
  | .howlFault t p d => Sys2Proof.Machine.execHowlFault t p d s
  | .howlGasp t p d => Sys2Proof.Machine.execHowlGasp t p d s
  | .tokenAcq t p d => Sys2Proof.Machine.execTokenAcq t p d s
  | .tokenHold t p d => Sys2Proof.Machine.execTokenHold t p d s
  | .tokenRel t p d => Sys2Proof.Machine.execTokenRel t p d s
  | .vref t p d => Sys2Proof.Machine.execVref t p d s
  | .peerValueTimeout t p n => Sys2Proof.Machine.execPeerValueTimeout t p n s
  | .cert t p d => Sys2Proof.Machine.execCert t p d s
  | .chal t p d => Sys2Proof.Machine.execChal t p d s
  | .resp t p d => Sys2Proof.Machine.execResp t p d s
  | .digest t p d => Sys2Proof.Machine.execDigest t p d s
  | .challengeStart t p => Sys2Proof.Machine.execChallengeStart t p s
  | .responseSigned t => Sys2Proof.Machine.execResponseSigned t s
  | .challengeVerified t p => Sys2Proof.Machine.execChallengeVerified t p s
  | .challengeTimeout t p => Sys2Proof.Machine.execChallengeTimeout t p s
  | .wiring t p => Sys2Proof.Machine.execWiring t p s
  | .digestSend t => Sys2Proof.Machine.execDigestSend t s
  | .planSave t => Sys2Proof.Machine.execPlanSave t s
  | .planSaveDone t ok => Sys2Proof.Machine.execPlanSaveDone t ok s
  | .handlerStore t id => Sys2Proof.Machine.execHandlerStore t id s
  | .acquire t id => Sys2Proof.Machine.execAcquire t id s
  | .renew t id => Sys2Proof.Machine.execRenew t id s
  | .release t id => Sys2Proof.Machine.execRelease t id s
  | .acquireDecide t => Sys2Proof.Machine.execAcquireDecide t s
  | .tokenHoldSend t => Sys2Proof.Machine.execTokenHoldSend t s
  | .leaseExpire t => Sys2Proof.Machine.execLeaseExpire t s
  | .sweepStart t => Sys2Proof.Machine.execSweepStart t s
  | .sweepAbort t => Sys2Proof.Machine.execSweepAbort t s
  | .swpStart t p d => Sys2Proof.Machine.execSwpStart t p d s
  | .swpCheck t p d => Sys2Proof.Machine.execSwpCheck t p d s
  | .swpJoin t p d => Sys2Proof.Machine.execSwpJoin t p d s
  | .swpSet t p d => Sys2Proof.Machine.execSwpSet t p d s
  | .swpSetSend t => Sys2Proof.Machine.execSwpSetSend t s
  | .sweepRunStart t => Sys2Proof.Machine.execSweepRunStart t s
  | .sweepStepStart t => Sys2Proof.Machine.execSweepStepStart t s
  | .sweepWindowEnd t => Sys2Proof.Machine.execSweepWindowEnd t s
  | .swpIre t p d => Sys2Proof.Machine.execSwpIre t p d s
  | .swpIim t p d => Sys2Proof.Machine.execSwpIim t p d s
  | .sweepEntryWrite t => Sys2Proof.Machine.execSweepEntryWrite t s
  | .sweepResults t => Sys2Proof.Machine.execSweepResults t s
  | .sweepLeaderLost t => Sys2Proof.Machine.execSweepLeaderLost t s
  | .gaspEntry t => Sys2Proof.Machine.execGaspEntry t s
  | .gaspEvaluation t => Sys2Proof.Machine.execGaspEvaluation t s
  | .summaryWritten t => Sys2Proof.Machine.execSummaryWritten t s
  | .gaspExit t => Sys2Proof.Machine.execGaspExit t s
  | .rehearsalStart t => Sys2Proof.Machine.execRehearsalStart t s
  | .rehearsalEnd t => Sys2Proof.Machine.execRehearsalEnd t s
  | .pollStart t => Sys2Proof.Machine.execPollStart t s
  | .pollComplete t nack b0 b1 pec => Sys2Proof.Machine.execPollComplete t nack b0 b1 pec s
  | .stretchTimeout t => Sys2Proof.Machine.execStretchTimeout t s
  | .arbitrationLoss t => Sys2Proof.Machine.execArbitrationLoss t s
  | .recoveryAttempt t took ok scl => Sys2Proof.Machine.execRecoveryAttempt t took ok scl s
  | .fchEvtClear t w => Sys2Proof.Machine.execFchEvtClear t w s
  | .eventAppend t => Sys2Proof.Machine.execEventAppend t s
  | .crumbDataRead t => Sys2Proof.Machine.execCrumbDataRead t s
  | .trigger t k => Sys2Proof.Machine.execTrigger t k s
  | .lock t slot => Sys2Proof.Machine.execLock t slot s
  | .unlock t slot => Sys2Proof.Machine.execUnlock t slot s
  | .slotRelease t slot => Sys2Proof.Machine.execSlotRelease t slot s
  | .hold t => Sys2Proof.Machine.execHold t s
  | .resume t => Sys2Proof.Machine.execResume t s
  | .captureSample t k => Sys2Proof.Machine.execCaptureSample t k s
  | .compressionDone t slot => Sys2Proof.Machine.execCompressionDone t slot s
  | .recordSigned t slot => Sys2Proof.Machine.execRecordSigned t slot s
  | .clearIn t => Sys2Proof.Machine.execClearIn t s
  | .submit t => Sys2Proof.Machine.execSubmit t s
  | .attest t => Sys2Proof.Machine.execAttest t s
  | .readCert t => Sys2Proof.Machine.execReadCert t s
  | .install t => Sys2Proof.Machine.execInstall t s
  | .drop t => Sys2Proof.Machine.execDrop t s
  | .readOpk t => Sys2Proof.Machine.execReadOpk t s
  | .rewind t => Sys2Proof.Machine.execRewind t s
  | .tokenCommandDone t => Sys2Proof.Machine.execTokenCommandDone t s
  | .tokenPortWrite t w => Sys2Proof.Machine.execTokenPortWrite t w s
  | .tokenPortRead t => Sys2Proof.Machine.execTokenPortRead t s
  | .unlockExpire t => Sys2Proof.Machine.execUnlockExpire t s
  | .rngTestFail t => Sys2Proof.Machine.execRngTestFail t s
  | .drbgReseed t => Sys2Proof.Machine.execDrbgReseed t s
  | .arm t => Sys2Proof.Machine.execArm t s
  | .stop t => Sys2Proof.Machine.execStop t s
  | .chewLifeExpire t => Sys2Proof.Machine.execChewLifeExpire t s
  | .chewStuckEnd t => Sys2Proof.Machine.execChewStuckEnd t s
  | .gpioPulseEnd t g => Sys2Proof.Machine.execGpioPulseEnd t g s
  | .tapInstructionUpdate t ir cells => Sys2Proof.Machine.execTapInstructionUpdate t ir cells s
  | .trstNLow t => Sys2Proof.Machine.execTrstNLow t s
  | .killNRise t => Sys2Proof.Machine.execKillNRise t s
  | .vddioSupplyChange t bank on => Sys2Proof.Machine.execVddioSupplyChange t bank on s
  | .leashValid t => Sys2Proof.Machine.execLeashValid t s
  | .reservedTypeMessage t p cls typ d => Sys2Proof.Machine.execReservedTypeMessage t p cls typ d s

end Sys2Proof.Machine
end

