-- ==== Sys2Proof/Machine/Step.lean ====
section
/-! DEFINITION. One step: take the command at the front of the queue and run it on the state with the queue's
rest; an empty queue leaves the block idle (notes/assumptions/1.md). -/

namespace Sys2Proof.Machine

open Sys2Proof

/-- One step of the block. -/
def step (s : State) : Host.Outcome State Fault Refusal :=
  match s.pending with
  | [] => .next s
  | c :: rest => exec c { s with pending := rest }

/-- `s` with the command that the word spells at the front of its queue; no row of the table gives bits, so no
word spells one and `s` is unchanged. -/
def State.withFetchWord (s : State) (nbits w : Nat) : State :=
  match decodeTableWord nbits w with
  | some c => { s with pending := c :: s.pending }
  | none => s

end Sys2Proof.Machine
end

