-- ==== Sys2Proof/Safety.lean ====
section
/-! DEFINITION. What counts as a safe run: the stored contents are in their canonical form, a step neither faults nor
refuses, and a command changes only the parts of the state that are its own. -/

namespace Sys2Proof.Machine

open Sys2Proof

/-- The Crumb SRAM and both parameter stores are in canonical form. -/
def State.canonical (s : State) : Bool :=
  Memory.wf s.crb.gen s.crb.sram && sparseWf paramReset s.par.proof && sparseWf paramReset s.par.inUse

/-- The state in which a strobe acts: at its time, and no longer the first strobe after a kick (R80). -/
def State.atStrobe (t : Nat) (s : State) : State :=
  { s.atTime t with win := { s.win with kicked := false } }

/-- The next step answers a next state. -/
def State.safeStep (s : State) : Bool :=
  match step s with
  | .next _ => true
  | .fault _ => false
  | .refused _ => false

/-- The parts of the state, the time of the last command and the queue of waiting commands apart. -/
inductive Part where
  /-- the free values drawn -/
  | free
  /-- the global state (R41) -/
  | g
  /-- the boot counter (R47) -/
  | bootCnt
  /-- supplies, straps, kennel and reset state (01) -/
  | power
  /-- W_IRQ (R75) -/
  | irq
  /-- the other window registers and the watchdog (02) -/
  | win
  /-- the event queue and its log (18) -/
  | log
  /-- the proof copies (03) -/
  | proof
  /-- the values in use (03) -/
  | inUse
  /-- commits and pairs under way (03) -/
  | par
  /-- MTP slots and commands (03) -/
  | nvm
  /-- the loops (04 to 13) -/
  | loops
  /-- the phases and PWM pins (08, 09) -/
  | phases
  /-- converter trims (04) -/
  | conv
  /-- engine lanes (06) -/
  | lanes
  /-- the sample grid (06) -/
  | grid
  /-- the survey converter (05) -/
  | svc
  /-- the snapshot (06) -/
  | snap
  /-- the switching timebase (08) -/
  | stb
  /-- temperatures, fast channels and FAULT_N (13) -/
  | prot
  /-- the ACP ports (11) -/
  | acp
  /-- peers, plan, tokens and challenges (15) -/
  | peers
  /-- the Leash (14) -/
  | lsh
  /-- the sweep (16) -/
  | swp
  /-- the tug (16) -/
  | damp
  /-- GASP and its summaries (16) -/
  | gsp
  /-- the Fetch port (17) -/
  | fch
  /-- the Crumb SRAM (18) -/
  | sram
  /-- templates and slots of the recorder (18) -/
  | crb
  /-- the token counter (R514) -/
  | tokCnt
  /-- the operator keys (R507) -/
  | opk
  /-- the other identity state (19) -/
  | idn
  /-- Chew (20) -/
  | chw
  /-- GPIO, TAP and pin state (22) -/
  | pins
  deriving DecidableEq, Repr

/-- The power group with the parts of a mask put to their reset values. -/
def Power.mask (m : Part → Bool) (x : Power) : Power :=
  if m .power then
    { ({} : Power) with
      g := if m .g then .unpowered else x.g
      bootCnt := if m .bootCnt then 0 else x.bootCnt }
  else
    { x with
      g := if m .g then .unpowered else x.g
      bootCnt := if m .bootCnt then 0 else x.bootCnt }

/-- The window registers with the parts of a mask put to their reset values. -/
def Win.mask (m : Part → Bool) (x : Win) : Win :=
  if m .win then
    { ({} : Win) with
      irq := if m .irq then 0 else x.irq }
  else
    { x with
      irq := if m .irq then 0 else x.irq }

/-- The parameter stores with the parts of a mask put to their reset values. -/
def Params.mask (m : Part → Bool) (x : Params) : Params :=
  if m .par then
    { ({} : Params) with
      proof := if m .proof then [] else x.proof
      inUse := if m .inUse then [] else x.inUse }
  else
    { x with
      proof := if m .proof then [] else x.proof
      inUse := if m .inUse then [] else x.inUse }

/-- The recorder with the parts of a mask put to their reset values. -/
def Crb.mask (m : Part → Bool) (x : Crb) : Crb :=
  if m .crb then
    { ({} : Crb) with
      sram := if m .sram then [] else x.sram
      gen := if m .sram then 0 else x.gen }
  else
    { x with
      sram := if m .sram then [] else x.sram
      gen := if m .sram then 0 else x.gen }

/-- The identity unit with the parts of a mask put to their reset values. -/
def Idn.mask (m : Part → Bool) (x : Idn) : Idn :=
  if m .idn then
    { ({} : Idn) with
      tokCnt := if m .tokCnt then 0 else x.tokCnt
      opk := if m .opk then [] else x.opk }
  else
    { x with
      tokCnt := if m .tokCnt then 0 else x.tokCnt
      opk := if m .opk then [] else x.opk }

/-- The state with the parts of a mask put to their reset values. -/
def State.mask (m : Part → Bool) (s : State) : State where
  now := s.now
  pending := s.pending
  freeCount := if m .free then 0 else s.freeCount
  power := s.power.mask m
  win := s.win.mask m
  log := if m .log then State.reset.log else s.log
  par := s.par.mask m
  nvm := if m .nvm then State.reset.nvm else s.nvm
  loops := if m .loops then State.reset.loops else s.loops
  phases := if m .phases then State.reset.phases else s.phases
  vsc := if m .conv then State.reset.vsc else s.vsc
  isc := if m .conv then State.reset.isc else s.isc
  lanes := if m .lanes then State.reset.lanes else s.lanes
  grid := if m .grid then 0 else s.grid
  svc := if m .svc then State.reset.svc else s.svc
  snap := if m .snap then State.reset.snap else s.snap
  stb := if m .stb then State.reset.stb else s.stb
  prot := if m .prot then State.reset.prot else s.prot
  acp := if m .acp then State.reset.acp else s.acp
  peers := if m .peers then State.reset.peers else s.peers
  lsh := if m .lsh then State.reset.lsh else s.lsh
  swp := if m .swp then State.reset.swp else s.swp
  damp := if m .damp then State.reset.damp else s.damp
  gsp := if m .gsp then State.reset.gsp else s.gsp
  fch := if m .fch then State.reset.fch else s.fch
  crb := s.crb.mask m
  idn := s.idn.mask m
  chw := if m .chw then State.reset.chw else s.chw
  pins := if m .pins then State.reset.pins else s.pins

/-- The parts that a command may change: its frame leaves every other part as it was. -/
def partsOf : Instr → List Part
  | .vhvRiseOn _ _ => [.g, .power, .phases]
  | .kennelRetryDue _ _ => [.g, .power, .phases]
  | .vauxValid _ _ => [.g, .power, .phases]
  | .kennelAttemptStart _ _ => [.g, .power, .loops, .phases, .acp, .damp]
  | .vhvOvloRelease _ _ => [.g, .power, .loops, .phases, .acp, .damp]
  | .kennelAttemptTimeout _ => [.g, .power, .loops, .phases]
  | .kennelLp15Ov _ => [.g, .power, .loops, .phases]
  | .vhvFallOff _ => [.g, .power, .loops, .phases]
  | .vhvRiseOvlo _ _ => [.g, .power, .loops, .phases]
  | .vauxLoss _ _ => [.free, .g, .bootCnt, .power, .irq, .win, .log, .proof, .inUse, .par, .nvm, .loops, .phases, .conv, .lanes, .svc, .snap, .stb, .prot, .acp, .peers, .lsh, .swp, .damp, .gsp, .fch, .sram, .tokCnt, .idn, .chw, .pins]
  | .vauxDriveRelease _ => [.power, .phases]
  | .pllLock _ => [.power]
  | .resetNRelease _ => [.power]
  | .coreUvRelease _ => [.power]
  | .killNRise _ => [.power]
  | .resetNLow _ => [.free, .g, .bootCnt, .power, .irq, .win, .log, .par, .nvm, .loops, .phases, .conv, .lanes, .svc, .snap, .stb, .prot, .acp, .peers, .lsh, .swp, .damp, .gsp, .fch, .sram, .chw, .pins]
  | .warmReset _ => [.free, .g, .bootCnt, .power, .irq, .win, .log, .par, .nvm, .loops, .phases, .conv, .lanes, .svc, .snap, .stb, .prot, .acp, .peers, .lsh, .swp, .damp, .gsp, .fch, .sram, .chw, .pins]
  | .coreUvReset _ => [.free, .g, .bootCnt, .power, .irq, .win, .log, .par, .nvm, .loops, .phases, .conv, .lanes, .svc, .snap, .stb, .prot, .acp, .peers, .lsh, .swp, .damp, .gsp, .fch, .sram, .chw, .pins]
  | .lp15KennelResume _ => [.power, .loops, .phases, .acp]
  | .bootStart _ _ _ => [.g, .power, .log, .inUse, .nvm, .loops, .phases, .conv, .grid, .svc, .stb, .fch, .crb, .idn]
  | .bootCounterIncrement _ => [.bootCnt, .power, .log]
  | .bootComplete _ _ => [.g, .power, .irq, .win, .log, .proof, .inUse, .par, .nvm, .loops, .phases, .svc, .stb, .prot, .acp, .peers, .lsh, .damp, .gsp, .fch, .crb]
  | .lp15Handoff _ => [.power, .loops, .phases]
  | .addressLatch _ _ => [.win]
  | .shortStrobe _ => [.win]
  | .wStatRead _ => [.win]
  | .timeLowRead _ _ => [.win]
  | .irqEnableWrite _ _ => [.win]
  | .fltLoopClear _ _ => [.win]
  | .killStatClear _ _ => [.win]
  | .wdogCfgWrite _ _ => [.win]
  | .registerWrite _ _ => [.g, .power, .irq, .win, .log, .proof, .par, .nvm, .loops, .phases, .lanes, .svc, .snap, .acp, .peers, .lsh, .swp, .gsp, .fch, .sram, .crb, .idn, .chw]
  | .pdataWrite _ _ => [.g, .power, .irq, .win, .log, .proof, .par, .nvm, .loops, .phases, .svc, .acp, .peers, .lsh, .swp, .gsp, .fch, .sram, .chw]
  | .pdataIncAccess _ _ _ => [.g, .power, .irq, .win, .log, .proof, .par, .nvm, .loops, .phases, .svc, .acp, .peers, .lsh, .swp, .gsp, .fch, .sram, .chw]
  | .irqClear _ _ => [.irq, .win]
  | .loopOnWrite _ _ => [.win, .par, .loops]
  | .evtPopRead _ => [.win, .log]
  | .evtPopRewind _ => [.win, .log]
  | .evtLostClear _ _ => [.win, .log]
  | .wdogKick _ _ => [.g, .power, .irq, .win, .log, .par, .nvm, .loops, .peers, .lsh, .swp, .gsp, .fch, .sram, .chw]
  | .wdogExpire _ => [.g, .power, .irq, .win, .log, .par, .nvm, .loops, .peers, .lsh, .swp, .gsp, .fch, .sram, .chw]
  | .deviceTimeWrap _ => [.log]
  | .revert _ _ => [.win, .proof, .par]
  | .classLCrossing _ _ => [.irq, .inUse, .par, .loops, .crb]
  | .commitRequest _ => [.win, .proof, .par, .loops, .lanes, .snap, .idn]
  | .captureEnd _ => [.irq, .par, .loops, .lanes, .snap, .idn]
  | .commitApply _ _ _ => [.irq, .log, .inUse, .par, .loops, .phases, .svc, .stb, .prot, .acp, .peers, .lsh, .fch, .idn, .chw, .pins]
  | .commitRefused _ => [.irq, .par, .idn]
  | .disagree _ _ _ => [.log, .par]
  | .save _ => [.irq, .win, .nvm]
  | .openA _ => [.irq, .win, .nvm]
  | .openB _ => [.irq, .win, .nvm]
  | .confirm _ => [.irq, .win, .nvm]
  | .invalidateA _ => [.irq, .win, .nvm]
  | .invalidateB _ => [.irq, .win, .nvm]
  | .nvmDataWord _ _ => [.irq, .win, .nvm]
  | .nvmPageProgrammed _ => [.nvm]
  | .nvmTransferTimeout _ => [.irq, .nvm]
  | .nvmImageChecked _ _ => [.irq, .nvm]
  | .nvmOpComplete _ _ => [.irq, .nvm]
  | .sampleBoundary _ _ => [.free, .g, .power, .log, .par, .loops, .phases, .swp]
  | .acquisitionEnd _ _ _ _ => [.free, .log, .loops, .phases, .lanes, .swp, .damp]
  | .trimUpdate _ _ _ _ => [.conv]
  | .iscSample _ _ _ => [.phases, .conv]
  | .zeroReference _ _ _ _ _ _ => [.loops, .phases]
  | .phaseTurnOn _ _ => [.loops, .phases]
  | .whiskBlankEnd _ _ _ _ _ _ => [.loops, .phases]
  | .delayOnEnd _ _ => [.loops, .phases]
  | .turnOffDelayEnd _ _ => [.loops, .phases]
  | .rampDownEnd _ _ => [.loops, .phases]
  | .ovTrip _ _ => [.loops, .phases]
  | .ocpTrip _ _ => [.loops, .phases]
  | .negTrip _ _ => [.loops, .phases]
  | .svcVisitEnd _ _ _ => [.log, .loops, .svc, .prot]
  | .svcDelayEnd _ => [.svc]
  | .refWarm _ => [.svc]
  | .calMeasureEnd _ => [.svc]
  | .urgentRequest _ _ => [.win, .svc]
  | .calZero _ _ => [.win, .svc]
  | .calFull _ _ => [.win, .svc]
  | .calAbort _ => [.win, .svc]
  | .urgentGrant _ => [.svc, .swp]
  | .urgentDone _ _ _ => [.log, .loops, .svc, .prot, .swp, .damp, .gsp]
  | .calApply _ => [.win, .proof, .svc]
  | .snapRequest _ _ => [.win, .snap]
  | .snapDataRead _ => [.win, .snap]
  | .snapshotCapture _ => [.loops, .lanes, .snap]
  | .engClr _ _ => [.win, .loops]
  | .engRestore _ _ => [.win, .loops]
  | .lyrClr _ _ => [.win, .loops]
  | .fltClr _ _ => [.win, .loops]
  | .rateRestore _ _ => [.loops]
  | .whiskTurn _ _ => [.loops]
  | .rampUpEnd _ _ => [.loops]
  | .transitionEnd _ _ => [.loops]
  | .spLost _ _ => [.loops]
  | .acpTargetApply _ _ => [.loops]
  | .acpLlApply _ _ => [.loops]
  | .linklossAction _ _ => [.loops]
  | .layerMiss _ _ => [.loops]
  | .layerAutoWindowEnd _ _ => [.loops]
  | .layerChunkUpdate _ _ => [.loops]
  | .uv _ _ => [.loops]
  | .ocTotal _ _ => [.loops]
  | .vinUv _ _ => [.loops]
  | .vinOv _ _ => [.loops]
  | .hiccupCountClear _ _ => [.loops]
  | .stbEpoch _ => [.irq, .stb, .peers, .lsh]
  | .syncFieldReceived _ _ _ => [.irq, .stb, .peers, .lsh]
  | .syncLoss _ => [.irq, .stb, .peers, .lsh]
  | .holdoffExpire _ => [.irq, .stb, .peers, .lsh]
  | .handover _ _ => [.irq, .stb, .peers, .lsh]
  | .napOrphan _ => [.irq, .stb, .peers, .lsh]
  | .alignmentInstant _ => [.log, .loops, .stb]
  | .referenceInstant _ _ => [.loops, .phases, .stb]
  | .comparatorTrip _ _ => [.phases]
  | .pulseMaxEnd _ _ => [.phases]
  | .zeroCross _ _ => [.phases]
  | .syncInEdge _ _ => [.stb]
  | .syncInValid _ => [.stb]
  | .syncInLost _ => [.stb]
  | .glideEnd _ => [.stb]
  | .leashValid _ => [.stb]
  | .estStale _ _ => [.log, .loops]
  | .enableInputChange _ _ _ => [.loops, .pins]
  | .setptUpdate _ _ _ _ => [.loops, .pins]
  | .layerStrobeEdge _ _ _ => [.loops, .pins]
  | .delayOnEntry _ _ => [.g, .loops, .damp]
  | .hiccupRetry _ _ => [.g, .loops, .damp]
  | .delayOffEnd _ _ => [.g, .loops, .phases]
  | .heelLoss _ _ => [.free, .loops, .phases]
  | .acpPing _ _ _ => [.g, .irq, .win, .log, .nvm, .loops, .acp, .peers, .lsh, .swp, .gsp, .fch, .sram, .chw]
  | .acpSetv _ _ _ => [.g, .irq, .win, .log, .nvm, .loops, .acp, .peers, .lsh, .swp, .gsp, .fch, .sram, .chw]
  | .acpSetslew _ _ _ => [.g, .irq, .win, .log, .nvm, .loops, .acp, .peers, .lsh, .swp, .gsp, .fch, .sram, .chw]
  | .acpSetll _ _ _ => [.g, .irq, .win, .log, .nvm, .loops, .acp, .peers, .lsh, .swp, .gsp, .fch, .sram, .chw]
  | .acpHint _ _ _ => [.g, .irq, .win, .log, .nvm, .loops, .acp, .peers, .lsh, .swp, .gsp, .fch, .sram, .chw]
  | .acpFrame _ _ _ => [.g, .irq, .win, .log, .nvm, .loops, .acp, .peers, .lsh, .swp, .gsp, .fch, .sram, .chw]
  | .acpGetv _ _ _ => [.g, .irq, .win, .log, .nvm, .loops, .acp, .peers, .lsh, .swp, .gsp, .fch, .sram, .chw]
  | .acpGeti _ _ _ => [.g, .irq, .win, .log, .nvm, .loops, .acp, .peers, .lsh, .swp, .gsp, .fch, .sram, .chw]
  | .acpGetstat _ _ _ => [.g, .irq, .win, .log, .nvm, .loops, .acp, .peers, .lsh, .swp, .gsp, .fch, .sram, .chw]
  | .acpGettemp _ _ _ => [.g, .irq, .win, .log, .nvm, .loops, .acp, .peers, .lsh, .swp, .gsp, .fch, .sram, .chw]
  | .acpGetref _ _ _ => [.g, .irq, .win, .log, .nvm, .loops, .acp, .peers, .lsh, .swp, .gsp, .fch, .sram, .chw]
  | .acpGetflt _ _ _ => [.g, .irq, .win, .log, .nvm, .loops, .acp, .peers, .lsh, .swp, .gsp, .fch, .sram, .chw]
  | .acpReservedOp _ _ _ => [.g, .irq, .win, .log, .nvm, .loops, .acp, .peers, .lsh, .swp, .gsp, .fch, .sram, .chw]
  | .getstatResponseEnd _ _ => [.loops, .acp]
  | .acpAbort _ _ => [.acp]
  | .dioLowClear _ _ => [.acp]
  | .arrival _ _ => [.irq, .loops, .acp]
  | .acpLoss _ _ => [.free, .irq, .loops, .acp]
  | .acpEvtClear _ _ _ => [.win, .acp]
  | .layerPeriodEnd _ _ => [.free, .loops]
  | .faultAction _ _ => [.irq, .win, .log, .loops, .phases, .prot, .lsh]
  | .phaseReturn _ _ _ => [.win, .phases]
  | .otOnset _ _ => [.loops, .prot]
  | .otEnd _ _ => [.phases, .prot]
  | .fastChannelRequest _ => [.svc, .prot]
  | .killNFall _ => [.g, .power, .irq, .win, .log, .nvm, .loops, .phases, .prot, .peers, .lsh, .swp, .gsp, .fch, .sram, .chw]
  | .killedExit _ => [.g, .power, .loops, .phases, .acp, .peers, .damp]
  | .faultNRelease _ => [.prot]
  | .faultIn _ => [.g, .irq, .win, .log, .loops, .phases, .prot]
  | .faultInHoldEnd _ => [.g, .irq, .win, .log, .loops, .phases, .prot]
  | .slotTransmit _ => [.peers, .lsh, .swp]
  | .leashFrameEnd _ _ _ _ _ _ _ _ => [.g, .irq, .win, .log, .nvm, .loops, .stb, .peers, .lsh, .swp, .gsp, .fch, .sram, .chw]
  | .jabberCut _ => [.irq, .log, .stb, .peers, .lsh]
  | .idle _ _ _ => [.g, .irq, .win, .log, .nvm, .loops, .peers, .lsh, .swp, .gsp, .fch, .sram, .chw]
  | .claim _ _ _ => [.g, .irq, .win, .log, .nvm, .loops, .peers, .lsh, .swp, .gsp, .fch, .sram, .chw]
  | .nap _ _ _ => [.g, .irq, .win, .log, .nvm, .loops, .peers, .lsh, .swp, .gsp, .fch, .sram, .chw]
  | .wake _ _ _ => [.g, .irq, .win, .log, .nvm, .loops, .peers, .lsh, .swp, .gsp, .fch, .sram, .chw]
  | .howlFault _ _ _ => [.g, .irq, .win, .log, .nvm, .loops, .peers, .lsh, .swp, .gsp, .fch, .sram, .chw]
  | .howlGasp _ _ _ => [.g, .irq, .win, .log, .nvm, .loops, .peers, .lsh, .swp, .gsp, .fch, .sram, .chw]
  | .tokenAcq _ _ _ => [.g, .irq, .win, .log, .nvm, .loops, .peers, .lsh, .swp, .gsp, .fch, .sram, .chw]
  | .tokenHold _ _ _ => [.g, .irq, .win, .log, .nvm, .loops, .peers, .lsh, .swp, .gsp, .fch, .sram, .chw]
  | .tokenRel _ _ _ => [.g, .irq, .win, .log, .nvm, .loops, .peers, .lsh, .swp, .gsp, .fch, .sram, .chw]
  | .vref _ _ _ => [.g, .irq, .win, .log, .nvm, .loops, .peers, .lsh, .swp, .gsp, .fch, .sram, .chw]
  | .cert _ _ _ => [.g, .irq, .win, .log, .nvm, .loops, .peers, .lsh, .swp, .gsp, .fch, .sram, .chw]
  | .chal _ _ _ => [.g, .irq, .win, .log, .nvm, .loops, .peers, .lsh, .swp, .gsp, .fch, .sram, .chw]
  | .resp _ _ _ => [.g, .irq, .win, .log, .nvm, .loops, .peers, .lsh, .swp, .gsp, .fch, .sram, .chw]
  | .digest _ _ _ => [.g, .irq, .win, .log, .nvm, .loops, .peers, .lsh, .swp, .gsp, .fch, .sram, .chw]
  | .swpStart _ _ _ => [.g, .irq, .win, .log, .nvm, .loops, .peers, .lsh, .swp, .gsp, .fch, .sram, .chw]
  | .swpCheck _ _ _ => [.g, .irq, .win, .log, .nvm, .loops, .peers, .lsh, .swp, .gsp, .fch, .sram, .chw]
  | .swpJoin _ _ _ => [.g, .irq, .win, .log, .nvm, .loops, .peers, .lsh, .swp, .gsp, .fch, .sram, .chw]
  | .swpSet _ _ _ => [.g, .irq, .win, .log, .nvm, .loops, .peers, .lsh, .swp, .gsp, .fch, .sram, .chw]
  | .swpIre _ _ _ => [.g, .irq, .win, .log, .nvm, .loops, .peers, .lsh, .swp, .gsp, .fch, .sram, .chw]
  | .swpIim _ _ _ => [.g, .irq, .win, .log, .nvm, .loops, .peers, .lsh, .swp, .gsp, .fch, .sram, .chw]
  | .gaspEntry _ => [.g, .irq, .win, .log, .nvm, .loops, .peers, .lsh, .swp, .gsp, .fch, .sram, .chw]
  | .pollStart _ => [.g, .irq, .win, .log, .nvm, .loops, .peers, .lsh, .swp, .gsp, .fch, .sram, .chw]
  | .stop _ => [.g, .irq, .win, .log, .nvm, .loops, .peers, .lsh, .swp, .gsp, .fch, .sram, .chw]
  | .chewLifeExpire _ => [.g, .irq, .win, .log, .nvm, .loops, .peers, .lsh, .swp, .gsp, .fch, .sram, .chw]
  | .reservedTypeMessage _ _ _ _ _ => [.g, .irq, .win, .log, .nvm, .loops, .peers, .lsh, .swp, .gsp, .fch, .sram, .chw]
  | .napBurst _ => [.irq, .peers, .lsh]
  | .napWindowMiss _ => [.irq, .peers, .lsh]
  | .lshClr _ _ => [.win, .lsh]
  | .peerValueTimeout _ _ _ => [.peers]
  | .leaseExpire _ => [.peers]
  | .challengeStart _ _ => [.peers, .lsh, .idn]
  | .responseSigned _ => [.peers, .gsp, .idn]
  | .challengeVerified _ _ => [.irq, .peers, .gsp, .idn]
  | .challengeTimeout _ _ => [.irq, .peers]
  | .planSaveDone _ _ => [.irq, .peers]
  | .wiring _ _ => [.log, .peers]
  | .digestSend _ => [.peers, .lsh]
  | .acquireDecide _ => [.peers, .lsh]
  | .tokenHoldSend _ => [.peers, .lsh]
  | .planSave _ => [.win, .peers]
  | .handlerStore _ _ => [.win, .peers]
  | .acquire _ _ => [.win, .peers, .lsh]
  | .renew _ _ => [.win, .peers, .lsh]
  | .release _ _ => [.win, .peers, .lsh]
  | .sweepStart _ => [.win, .lsh, .swp]
  | .sweepAbort _ => [.win, .lsh, .swp, .sram]
  | .swpSetSend _ => [.lsh, .swp, .sram]
  | .sweepRunStart _ => [.swp, .sram]
  | .sweepLeaderLost _ => [.swp, .sram]
  | .sweepStepStart _ => [.swp]
  | .sweepWindowEnd _ => [.lsh, .swp]
  | .sweepEntryWrite _ => [.free, .swp, .sram]
  | .sweepResults _ => [.free, .swp, .sram]
  | .gaspEvaluation _ => [.loops, .gsp]
  | .summaryWritten _ => [.irq, .gsp, .idn]
  | .gaspExit _ => [.g, .win, .loops, .lsh, .gsp]
  | .rehearsalStart _ => [.win, .lsh, .gsp]
  | .rehearsalEnd _ => [.lsh, .gsp]
  | .pollComplete _ _ _ _ _ => [.irq, .prot, .fch]
  | .stretchTimeout _ => [.irq, .prot, .fch]
  | .arbitrationLoss _ => [.irq, .prot, .fch]
  | .recoveryAttempt _ _ _ _ => [.irq, .log, .prot, .fch]
  | .fchEvtClear _ _ => [.win, .fch]
  | .eventAppend _ => [.irq, .log, .sram, .crb, .pins]
  | .crumbDataRead _ => [.free, .win, .crb]
  | .trigger _ _ => [.irq, .win, .sram, .crb]
  | .lock _ _ => [.win, .crb]
  | .unlock _ _ => [.win, .crb]
  | .slotRelease _ _ => [.win, .crb]
  | .hold _ => [.win, .crb]
  | .resume _ => [.win, .crb]
  | .captureSample _ _ => [.irq, .sram, .crb]
  | .compressionDone _ _ => [.sram, .crb]
  | .recordSigned _ _ => [.irq, .gsp, .sram, .crb, .idn]
  | .clearIn _ => [.win, .idn]
  | .submit _ => [.win, .idn]
  | .attest _ => [.win, .idn]
  | .readCert _ => [.win, .idn]
  | .install _ => [.win, .idn]
  | .readOpk _ => [.win, .idn]
  | .rewind _ => [.win, .idn]
  | .tokenPortWrite _ _ => [.win, .idn]
  | .tokenPortRead _ => [.win, .idn]
  | .drop _ => [.irq, .win, .idn]
  | .tokenCommandDone _ => [.irq, .gsp, .tokCnt, .opk, .idn]
  | .unlockExpire _ => [.idn]
  | .rngTestFail _ => [.idn]
  | .drbgReseed _ => [.idn]
  | .arm _ => [.win, .log, .acp, .lsh, .fch, .chw]
  | .chewStuckEnd _ => [.fch]
  | .gpioPulseEnd _ _ => [.pins]
  | .tapInstructionUpdate _ _ _ => [.g, .power, .irq, .win, .log, .loops, .phases, .prot, .lsh, .gsp, .pins]
  | .trstNLow _ => [.g, .power, .irq, .win, .log, .loops, .phases, .prot, .lsh, .gsp, .pins]
  | .vddioSupplyChange _ _ _ => [.power, .loops]

/-- The mask of the parts that a command may change. -/
def mayChange (i : Instr) (p : Part) : Bool := (partsOf i).contains p

/-- The loop that a command of one loop names. -/
def loopOf : Instr → Option (Fin 16)
  | .disagree _ n _ => some n
  | .sampleBoundary _ n => some n
  | .acquisitionEnd _ n _ _ => some n
  | .rateRestore _ n => some n
  | .referenceInstant _ n => some n
  | .whiskTurn _ n => some n
  | .whiskBlankEnd _ n _ _ _ _ => some n
  | .estStale _ n => some n
  | .delayOnEntry _ n => some n
  | .delayOnEnd _ n => some n
  | .rampUpEnd _ n => some n
  | .transitionEnd _ n => some n
  | .turnOffDelayEnd _ n => some n
  | .rampDownEnd _ n => some n
  | .delayOffEnd _ n => some n
  | .heelLoss _ n => some n
  | .acpTargetApply _ n => some n
  | .acpLlApply _ n => some n
  | .arrival _ n => some n
  | .linklossAction _ n => some n
  | .layerMiss _ n => some n
  | .layerAutoWindowEnd _ n => some n
  | .layerChunkUpdate _ n => some n
  | .layerPeriodEnd _ n => some n
  | .ovTrip _ n => some n
  | .faultAction _ n => some n
  | .uv _ n => some n
  | .ocTotal _ n => some n
  | .vinUv _ n => some n
  | .vinOv _ n => some n
  | .hiccupRetry _ n => some n
  | .hiccupCountClear _ n => some n
  | _ => none

/-- The phase that a command of one phase names. -/
def phaseOf : Instr → Option (Fin 64)
  | .iscSample _ m _ => some m
  | .zeroReference _ m _ _ _ _ => some m
  | .phaseTurnOn _ m => some m
  | .comparatorTrip _ m => some m
  | .pulseMaxEnd _ m => some m
  | .zeroCross _ m => some m
  | .ocpTrip _ m => some m
  | .negTrip _ m => some m
  | _ => none

/-- The ACP port that a command of one port names. -/
def portOf : Instr → Option (Fin 8)
  | .acpPing _ p _ => some p
  | .acpSetv _ p _ => some p
  | .acpSetslew _ p _ => some p
  | .acpSetll _ p _ => some p
  | .acpHint _ p _ => some p
  | .acpFrame _ p _ => some p
  | .acpGetv _ p _ => some p
  | .acpGeti _ p _ => some p
  | .acpGetstat _ p _ => some p
  | .acpGettemp _ p _ => some p
  | .acpGetref _ p _ => some p
  | .acpGetflt _ p _ => some p
  | .acpReservedOp _ p _ => some p
  | .getstatResponseEnd _ p => some p
  | .acpAbort _ p => some p
  | .dioLowClear _ p => some p
  | .acpLoss _ p => some p
  | .acpEvtClear _ p _ => some p
  | _ => none

/-- A command of the recorder, of the log or of a sweep that places data in the Crumb SRAM; a strobe that may be a manual trigger; a
reset, at which waiting log entries may be appended (R480); the loss of VAUX. -/
def placesBytes : Instr → Bool
  | .vauxLoss _ _ => true
  | .resetNLow _ => true
  | .warmReset _ => true
  | .coreUvReset _ => true
  | .registerWrite _ _ => true
  | .eventAppend _ => true
  | .trigger _ _ => true
  | .captureSample _ _ => true
  | .recordSigned _ _ => true
  | .compressionDone _ _ => true
  | .sweepRunStart _ => true
  | .sweepResults _ => true
  | .sweepEntryWrite _ => true
  | _ => false

end Sys2Proof.Machine
end

