-- ==== Sys2Proof/WellFormed.lean ====
section
/-! DEFINITION. What a command's operands may be: the checks of a command before it is given to the block. A constructor that a
check does not name has no operand the check concerns; its operands are words, levels or positions of the right width. -/

namespace Sys2Proof

open Sys2Proof.Machine

/-- An acquisition of ACQ conversions gives 1, 2 or 4 codes (R124). -/
def Instr.codesOk : Instr → Bool
  | .acquisitionEnd _ _ codes _ => decide (codes.length = 1) || decide (codes.length = 2) || decide (codes.length = 4)
  | _ => true

/-- A survey reading is a 16-bit code, and a visit makes at least one (R146). -/
def Instr.readingsOk : Instr → Bool
  | .svcVisitEnd _ rs _ => decide (rs ≠ []) && rs.all fun r => decide (r < 65536)
  | .urgentDone _ r _ => decide (r < 65536)
  | _ => true

/-- A SETPT reading is sixteen 12-bit codes or sixteen periods of a pulse input (R281). -/
def Instr.setptOk : Instr → Bool
  | .setptUpdate _ _ pulse xs => Machine.setptOk pulse xs
  | _ => true

/-- A taker of a commit is one of 16 loops or of 64 pages (R94). -/
def Instr.unitOk : Instr → Bool
  | .commitApply _ isLoop unit => decide (unit.val < if isLoop then 16 else 64)
  | _ => true

/-- A recovery attempt of the Fetch port takes at most 1.1 ms (R470). -/
def Instr.attemptOk : Instr → Bool
  | .recoveryAttempt _ took _ _ => decide (took ≤ Config.us 1100)
  | _ => true

/-- VHV stays within the absolute maximum rating of 100 V (R17). -/
def Instr.vhvOk : Instr → Bool
  | .vhvRiseOvlo _ mv => decide (mv ≤ 100000)
  | _ => true

/-- The class and type of a RESERVED_TYPE_MESSAGE are reserved ones (R410). -/
def Instr.typeOk : Instr → Bool
  | .reservedTypeMessage _ _ cls typ _ => reservedType cls.val typ.val
  | _ => true

/-- A command whose operands pass every check. -/
def Instr.wellFormed (i : Instr) : Bool :=
  i.codesOk && i.readingsOk && i.setptOk && i.unitOk && i.attemptOk && i.vhvOk && i.typeOk

end Sys2Proof
end

