-- ==== Sys2Proof/Certificates/Slice0/Obligations.lean ====
section
/-! DEFINITION. The statements for the provers. In the statements of what a command does, `s.atTime t` is the state at the time of the
command and `u` the next state. -/

open Sys2Proof Sys2Proof.Machine

/-- For every command at the front of the queue and every rest of the queue, a step is the command's effect on the state whose queue is the rest. -/
def Obligations.StepRunsFrontCommand : Prop :=
  ∀ (c : Instr) (rest : List Instr) (s : State), step { s with pending := c :: rest } = exec c { s with pending := rest }

/-- On an empty queue a step answers the same state. This is the model's choice, log entry 1: the spec's steps are its commands. -/
def Obligations.EmptyQueueIdles : Prop :=
  ∀ s : State, s.pending = [] → step s = .next s

/-- State.reset has an empty queue and canonical contents, is UNPOWERED without VAUX, its token counter, boot counter and operator-key list are at their start, and every loop is OFF. The boot counter's 0 and the empty key list are the model's choice (log entry 2). -/
def Obligations.ResetState : Prop :=
  State.reset.pending = [] ∧ State.reset.canonical = true ∧ State.reset.power.g = .unpowered ∧ State.reset.power.vaux = false ∧
    State.reset.idn.tokCnt = 0 ∧ State.reset.power.bootCnt = 0 ∧ State.reset.idn.opk = [] ∧ ∀ n : Fin 16, State.reset.st n = .off

/-- A crossing of VHV_OVLO by a level above 100 V answers the fault ratingsExceeded, which is the model's choice (log entry 58), since the specification guarantees no behaviour beyond its absolute maximum; every well-formed command answers a next state. -/
def Obligations.RatingsStop : Prop :=
  (∀ (s : State) (t mv : Nat), 100000 < mv → exec (.vhvRiseOvlo t mv) s = .fault .ratingsExceeded) ∧
    ∀ (i : Instr) (s : State), i.wellFormed = true → ∃ u, exec i s = .next u

/-- From every state whose Crumb SRAM, proof store and in-use store are in canonical form, a step that answers a next state answers one of the same form. -/
def Obligations.CanonicalFormKept : Prop :=
  ∀ s u : State, s.canonical = true → step s = .next u → u.canonical = true

/-- For each of the 258 commands: the next state has the later of the two times and the queue it was given, and every part of the state outside the command's list partsOf is exactly as it was. -/
def Obligations.CommandFrame : Prop :=
  ∀ (i : Instr) (s u : State), exec i s = .next u → u.mask (mayChange i) = (s.atTime i.time).mask (mayChange i)

/-- A command that answers a next state moves the time to the later of the present time and its own, and leaves the waiting commands as they are. After any command the boot counter and the token counter are at least what they were, and the operator keys written before are still the first ones, in their order. -/
def Obligations.TimeAndCounters : Prop :=
  (∀ (i : Instr) (s u : State), exec i s = .next u → u.now = max s.now i.time ∧ u.pending = s.pending) ∧
  (∀ (i : Instr) (s u : State), exec i s = .next u →
    s.power.bootCnt ≤ u.power.bootCnt ∧ s.idn.tokCnt ≤ u.idn.tokCnt ∧ s.idn.opk <+: u.idn.opk)

/-- After a command whose parts do not hold the Crumb SRAM, every byte of it reads as before; likewise every proof copy, every value in use, every loop, every phase and every ACP port. -/
def Obligations.StoresFrame : Prop :=
  ∀ (i : Instr) (s u : State), exec i s = .next u →
    (.sram ∉ partsOf i → ∀ a, u.ram a = s.ram a) ∧ (.proof ∉ partsOf i → ∀ a, u.proof a = s.proof a) ∧
    (.inUse ∉ partsOf i → ∀ a, u.baseUse a = s.baseUse a) ∧ (.loops ∉ partsOf i → ∀ n, u.loop n = s.loop n) ∧
    (.phases ∉ partsOf i → ∀ m, u.phase m = (s.atTime i.time).phase m) ∧ (.acp ∉ partsOf i → u.acp = s.acp) ∧ (.log ∉ partsOf i → u.log = s.log)

/-- A command that changes a value in use is COMMIT_APPLY, CLASS_L_CROSSING, BOOT_START, BOOT_COMPLETE or VAUX_LOSS; the operator keys change only by TOKEN_COMMAND_DONE; the token counter only by it and by the loss of VAUX that cuts its write; the boot counter only by its increment and by what cuts one. -/
def Obligations.ValuesInUseCross : Prop :=
  ∀ (i : Instr) (s u : State), exec i s = .next u →
    (u.par.inUse ≠ s.par.inUse → (∃ t l n, i = .commitApply t l n) ∨ (∃ t a, i = .classLCrossing t a) ∨ (∃ t p b, i = .bootStart t p b) ∨
      (∃ t e, i = .bootComplete t e) ∨ ∃ t b, i = .vauxLoss t b) ∧
    (u.idn.opk ≠ s.idn.opk → ∃ t, i = .tokenCommandDone t) ∧
    (u.idn.tokCnt ≠ s.idn.tokCnt → (∃ t, i = .tokenCommandDone t) ∨ ∃ t b, i = .vauxLoss t b) ∧
    (u.power.bootCnt ≠ s.power.bootCnt → (∃ t, i = .bootCounterIncrement t) ∨ (∃ t b, i = .vauxLoss t b) ∨ (∃ t, i = .resetNLow t) ∨
      (∃ t, i = .warmReset t) ∨ ∃ t, i = .coreUvReset t)

/-- The token counter stays a 32-bit value and never falls, is shown by IDN.TOKCNT_L and TOKCNT_H, is 0 at the start, and once it is 0xFFFFFFFF the checks of SUBMIT accept no token. -/
def Obligations.TokenCounterLimit : Prop :=
  (∀ (i : Instr) (s u : State), exec i s = .next u → s.idn.tokCnt < 2 ^ 32 → s.idn.tokCnt ≤ u.idn.tokCnt ∧ u.idn.tokCnt < 2 ^ 32) ∧
    (∀ s : State, s.idn.tokCnt < 2 ^ 32 → (s.idnView 0x0A).toNat + 65536 * (s.idnView 0x0B).toNat = s.idn.tokCnt) ∧ State.reset.idn.tokCnt = 0 ∧
    ∀ (s : State) (excess : Bool) (b : List Byte), s.idn.tokCnt = 0xFFFFFFFF → s.tokenCheck excess b ≠ 0

/-- A W_IRQ bit that is set stays set under every command but IRQ_CLEAR and a register write at the address of W_IRQ, while VAUX stays valid and the command does not put the full set into its reset; IRQ_CLEAR clears exactly the bits written as 1. -/
def Obligations.InterruptFlagsStay : Prop :=
  (∀ (i : Instr) (s u : State) (k : Fin 16), exec i s = .next u → (∀ t w, i ≠ .irqClear t w) →
      (∀ t w, i = .registerWrite t w → s.win.addr ≠ 0x04) → u.power.vaux = true → u.power.g ≠ .reset →
      bitAt s.win.irq k.val = true → bitAt u.win.irq k.val = true) ∧
    ∀ (s : State) (t : Nat) (w : W16), s.window = true → ∃ u, exec (.irqClear t w) s = .next u ∧ u.win.irq = s.win.irq &&& ~~~w

/-- A device in KILLED is still in KILLED after every command, unless the command is KILLED_EXIT, starts a BOOT, puts the full set into its reset or ends VAUX. -/
def Obligations.KilledStays : Prop :=
  ∀ (i : Instr) (s u : State), s.power.g = .killed → exec i s = .next u →
    u.power.g = .killed ∨ u.power.g = .reset ∨ u.power.vaux = false ∨ (∃ t, i = .killedExit t) ∨ ∃ t p b, i = .bootStart t p b

/-- A command that names loop n, other than its sample boundary and the end of its acquisition, leaves every other loop exactly as it was. -/
def Obligations.LoopsApart : Prop :=
  ∀ (i : Instr) (s u : State) (n k : Fin 16), loopOf i = some n → (∀ t, i ≠ .sampleBoundary t n) → (∀ t c x, i ≠ .acquisitionEnd t n c x) →
    exec i s = .next u → k ≠ n → u.loop k = s.loop k

/-- The sample boundary of loop n leaves every other loop exactly as it was. The end of its acquisition does too, except that a loop k whose LPk.INPUT_SRC names the output of loop n may take its new input voltage and start or end its VIN_UV and VIN_OV timers and conditions. -/
def Obligations.SamplesApart : Prop :=
  (∀ (s u : State) (t : Nat) (n k : Fin 16), exec (.sampleBoundary t n) s = .next u → k ≠ n → u.loop k = s.loop k) ∧
    ∀ (s u : State) (t : Nat) (n k : Fin 16) (c : List Int) (x : Option Int), exec (.acquisitionEnd t n c x) s = .next u → k ≠ n →
      if bitAt (s.lp k 0x2A) 15 = true ∧ fld (s.lp k 0x2A) 6 5 = 1 ∧ fld (s.lp k 0x2A) 4 0 = n.val then
        ∃ p : LoopPrt, u.loop k = { s.loop k with prt := p } ∧
          p = { (s.loop k).prt with vin := p.vin, vinUvFrom := p.vinUvFrom, vinUv := p.vinUv, vinOvFrom := p.vinOvFrom, vinOv := p.vinOv }
      else u.loop k = s.loop k

/-- A command that names phase m leaves every other phase exactly as it was at the command's time. A request, an abort, a loss of the link or any other command of ACP port p leaves every other port exactly as it was. -/
def Obligations.PhasesAndPortsApart : Prop :=
  (∀ (i : Instr) (s u : State) (m k : Fin 64), phaseOf i = some m → exec i s = .next u → k ≠ m → u.phase k = (s.atTime i.time).phase k) ∧
  (∀ (i : Instr) (s u : State) (p q : Fin 8), portOf i = some p → exec i s = .next u → q ≠ p → u.acp[q] = s.acp[q])

/-- With the Crumb SRAM in canonical form, a command that is not one of those that place data, a register write (which may be a manual trigger) or a reset changes no byte of it outside the four bytes of the sweep record in use that hold its status and its lost step and the 128-byte headers of the slots that templates hold (the start of a gasp summary may trigger them). -/
def Obligations.SramFrame : Prop :=
  ∀ (i : Instr) (s u : State), s.canonical = true → placesBytes i = false → exec i s = .next u →
    ∀ a, (a < s.swpBase + 22 ∨ s.swpBase + 26 ≤ a) →
      (∀ (k : Fin 4) (j : Fin 16), (s.tpl k).slot = some j → a < 0x1E000 * j.val ∨ 0x1E000 * j.val + 128 ≤ a) → u.ram a = s.ram a

/-- With the Crumb SRAM in canonical form, appending the head of the event queue stores its eight bytes at the write index; every byte outside them and outside the 128-byte headers of the slots that templates hold reads as before. -/
def Obligations.LogBytes : Prop :=
  ∀ (s : State) (t : Nat) (e : LogEntry) (r0 : Nat) (q : List (LogEntry × Nat)), s.canonical = true → s.up = true → s.log.queue = (e, r0) :: q →
    ∃ u, exec (.eventAppend t) s = .next u ∧ u.ramBytes (logAddr s.log.wr) 8 = e.bytes ∧
      ∀ a, (a < logAddr s.log.wr ∨ logAddr s.log.wr + 8 ≤ a) →
        (∀ (k : Fin 4) (i : Fin 16), (s.tpl k).slot = some i → a < 0x1E000 * i.val ∨ 0x1E000 * i.val + 128 ≤ a) → u.ram a = s.ram a

/-- With the Crumb SRAM in canonical form, a trigger or a sample of a template changes no byte outside the 128-byte header of the slot it holds, and the compression of slot i changes only BODY, the flags byte and the body from byte 128 of the slot. -/
def Obligations.RecordBytes : Prop :=
  (∀ (s : State) (t : Nat) (k : Fin 4) (c : Bool), s.canonical = true →
      ∃ u, exec (if c then .trigger t k else .captureSample t k) s = .next u ∧
        ∀ a, (∀ i : Fin 16, (s.tpl k).slot = some i → a < 0x1E000 * i.val ∨ 0x1E000 * i.val + 128 ≤ a) → u.ram a = s.ram a) ∧
    ∀ (s : State) (t : Nat) (i : Fin 16) (c : CrbCap), s.canonical = true → s.up = true → (s.slot i).st = .seal → (s.slot i).comp = false →
      (s.slot i).cap = some c → ∃ u, exec (.compressionDone t i) s = .next u ∧ u.ramBytes (0x1E000 * i.val + 128) (recordBody c).1.length = (recordBody c).1 ∧
        ∀ a, (a < 0x1E000 * i.val + 28 ∨ 0x1E000 * i.val + 32 ≤ a) → a ≠ 0x1E000 * i.val + 37 →
          (a < 0x1E000 * i.val + 128 ∨ 0x1E000 * i.val + 128 + (recordBody c).1.length ≤ a) → u.ram a = s.ram a

/-- Each command of the kennel path, in the state that the rules give for it, answers a next state: VHV_RISE_ON reads KV and schedules an attempt 500 us later; an attempt that is due starts LP15 on the kennel law; 50 ms or an over-voltage end it with cause 1 or 2 and the next follows 1 s later; VHV below VHV_OFF leads back to UNPOWERED, or, with VAUX valid, only ends what waits; above OVLO an attempt ends with cause 3, and above OVLO or at an over-voltage LP15 on the kennel law stops outside an attempt too, unless its crowbar latch is set; the release starts an attempt that fell due meanwhile; the retry interval makes the next attempt due with VHV above VHV_ON, and else leaves it to the next rise. VAUX_VALID wakes the full set into its reset, ends an attempt and puts every PWM pin but a kennel-run PWM63 at mid-level; VAUX_LOSS ends the full set and its event queue and leaves W_SCRATCH a free value; VAUX_DRIVE_RELEASE releases the held pins; PLL_LOCK readies the BOOT. -/
def Obligations.PowerEntryCommands : Prop :=
  (∀ (s : State) (t : Nat) (kv : BitVec 2), s.power.vhvOn = false → s.power.kv = none → s.power.vaux = false → s.power.g = .unpowered → kv = 0 ∨ kv = 1 → 
    ∃ u, exec (.vhvRiseOn t kv) s = .next u ∧ u.power.vhvOn = true ∧ u.power.kv = some kv ∧ u.power.wait = .due (max s.now t + Config.us 500) ∧ u.power.preReg = .active ∧ u.power.g = .kennel ∧ u.power.attempts = 0) ∧
  (∀ (s : State) (t : Nat) (a : Nat) (pre : W16), s.power.wait = .due a → a ≤ max s.now t → s.power.vaux = false → s.power.killN = true → s.power.vhvOvlo = false → 
    ∃ u, exec (.kennelAttemptStart t pre) s = .next u ∧ u.power.attempt = some (max s.now t) ∧ u.power.attempts = inc8 s.power.attempts ∧ u.power.kennelUsed = true ∧ u.power.wait = .none ∧ u.power.law15 = .kennel ∧ u.st 15 = .rampUp) ∧
  (∀ (s : State) (t a : Nat), s.power.attempt = some a → a + Config.ms 50 ≤ max s.now t → 
    ∃ u, exec (.kennelAttemptTimeout t) s = .next u ∧ u.power.attempt = none ∧ u.power.endCause = 1 ∧ u.power.wait = .retry (max s.now t + Config.ms 1000) ∧ u.power.law15 = (if (s.loop 15).prt.latch then s.power.law15 else .stopped)) ∧
  (∀ (s : State) (t a : Nat), s.power.attempt = some a → s.power.law15 = .kennel → 
    ∃ u, exec (.kennelLp15Ov t) s = .next u ∧ u.power.attempt = none ∧ u.power.endCause = 2 ∧ u.power.wait = .retry (max s.now t + Config.ms 1000) ∧ u.power.law15 = (if (s.loop 15).prt.latch then s.power.law15 else .stopped)) ∧
  (∀ (s : State) (t : Nat), s.power.vhvOn = true → s.power.kv ≠ some 3 → s.power.vaux = false → 
    ∃ u, exec (.vhvFallOff t) s = .next u ∧ u.power.vhvOn = false ∧ u.power.g = .unpowered ∧ u.power.kv = none ∧ u.power.attempts = 0 ∧ u.power.preReg = .off) ∧
  (∀ (s : State) (t mv a : Nat), mv ≤ 100000 → s.power.vhvOn = true → s.power.kv ≠ some 3 → s.power.attempt = some a → 
    ∃ u, exec (.vhvRiseOvlo t mv) s = .next u ∧ u.power.vhvOvlo = true ∧ u.power.attempt = none ∧ u.power.endCause = 3 ∧ u.power.law15 = (if (s.loop 15).prt.latch then s.power.law15 else .stopped)) ∧
  (∀ (s : State) (t : Nat) (pre : W16), s.power.vhvOvlo = true → s.power.wait = .ovloRelease → s.power.vaux = false → s.power.killN = true → 
    ∃ u, exec (.vhvOvloRelease t pre) s = .next u ∧ u.power.vhvOvlo = false ∧ u.power.attempt = some (max s.now t) ∧ u.power.law15 = .kennel) ∧
  (∀ (s : State) (t a : Nat) (above : Bool), s.power.wait = .retry a → a ≤ max s.now t → 
    ∃ u, exec (.kennelRetryDue t above) s = .next u ∧ u.power.wait = (if above then .due (max s.now t) else .vhvRise)) ∧
  (∀ (s : State) (t : Nat), s.power.attempt = none → s.power.law15 = .kennel → (s.loop 15).prt.latch = false → 
    ∃ u, exec (.kennelLp15Ov t) s = .next u ∧ u.power.law15 = .stopped ∧ u.st 15 = .off ∧ u.power.wait = s.power.wait) ∧
  (∀ (s : State) (t mv : Nat), mv ≤ 100000 → s.power.vhvOn = true → s.power.kv ≠ some 3 → s.power.attempt = none → s.power.law15 = .kennel → (s.loop 15).prt.latch = false → 
    ∃ u, exec (.vhvRiseOvlo t mv) s = .next u ∧ u.power.vhvOvlo = true ∧ u.power.law15 = .stopped ∧ u.st 15 = .off) ∧
  (∀ (s : State) (t : Nat), s.power.vhvOn = true → s.power.kv ≠ some 3 → s.power.vaux = true → 
    ∃ u, exec (.vhvFallOff t) s = .next u ∧ u.power.vhvOn = false ∧ u.power.g = s.power.g ∧ u.power.kv = s.power.kv ∧ u.power.wait = .none ∧ u.power.preReg = .off) ∧
  (∀ (s : State) (t : Nat) (kv : BitVec 2), s.power.vaux = false → 
    ∃ u, exec (.vauxValid t kv) s = .next u ∧ u.power.vaux = true ∧ u.power.g = .reset ∧ u.power.attempt = none ∧ u.power.vauxHold = false ∧ u.power.pll = false ∧ (s.power.unpowered = true → u.power.resetCause = 1) ∧ (s.power.unpowered = false → u.power.resetCause = s.power.resetCause ||| 2) ∧ (∀ m : Fin 64, m.val ≠ 63 ∨ s.power.law15 ≠ .kennel → (u.phase m).pwm = .mid)) ∧
  (∀ (s : State) (t : Nat) (above : Bool), s.power.vaux = true → 
    ∃ u, exec (.vauxLoss t above) s = .next u ∧ u.power.vaux = false ∧ u.power.vauxHold = true ∧ u.power.vauxLost = true ∧ u.log.queue = [] ∧ u.par.proof = [] ∧ (∃ k, u.win.scratch = Config.freeWord k) ∧ u.crb.sram = []) ∧
  (∀ (s : State) (t : Nat), s.power.vauxHold = true → s.power.vaux = false → 
    ∃ u, exec (.vauxDriveRelease t) s = .next u ∧ u.power.vauxHold = false ∧ (∀ m : Fin 64, m.val < 63 → (u.phase m).pwm = .highZ)) ∧
  (∀ (s : State) (t : Nat), s.power.vaux = true → s.power.pll = false → s.power.coreUv = false → 
    ∃ u, exec (.pllLock t) s = .next u ∧ u.power.pll = true ∧ u.power.bootPend = (decide (s.power.g = .reset) && s.power.resetN))

/-- RESET_N low, a warm reset and a core under-voltage reset the full set and set their bits of DEV.RESET_CAUSE; the release of RESET_N readies the BOOT where VAUX, the PLL and the core rail allow it; the core release ends the under-voltage and leaves the PLL to lock anew; LP15 passes back to the kennel law, and to its configured law, at its sample boundary; BOOT_START enters BOOT, reads the straps and leaves the counter increment pending; the boot counter then counts once, stopping at its maximum; with KILL_N high throughout and no boundary-scan hold BOOT ends in READY. -/
def Obligations.ResetCommands : Prop :=
  (∀ (s : State) (t : Nat), s.power.vaux = true → 
    ∃ u, exec (.resetNLow t) s = .next u ∧ u.power.resetN = false ∧ u.power.g = .reset ∧ u.power.resetCause = s.power.resetCause ||| 4 ||| s.power.warmPend.getD 0 ∧ u.log.queue = []) ∧
  (∀ (s : State) (t : Nat), 
    ∃ u, exec (.resetNRelease t) s = .next u ∧ u.power.resetN = true ∧ u.power.bootPend = (decide (s.power.g = .reset) && s.power.vaux && s.power.pll && !s.power.coreUv)) ∧
  (∀ (s : State) (t : Nat), s.window = true → s.power.vaux = true → s.power.warmPend = none → (s.atTime t).readOnly = false → s.log.queue = [] → 
    ∃ u, exec (.warmReset t) s = .next u ∧ u.power.g = .reset ∧ u.power.resetCause = s.power.resetCause ||| 8 ∧ u.power.warmPend = none ∧ u.win.scratch = s.win.scratch) ∧
  (∀ (s : State) (t : Nat), s.power.vaux = true → s.power.coreUv = false → 
    ∃ u, exec (.coreUvReset t) s = .next u ∧ u.power.g = .reset ∧ u.power.resetCause = s.power.resetCause ||| 32 ||| s.power.warmPend.getD 0 ∧ u.power.coreUv = true ∧ u.power.pll = false ∧ u.power.lane3Cclk = false) ∧
  (∀ (s : State) (t : Nat), s.power.coreUv = true → 
    ∃ u, exec (.coreUvRelease t) s = .next u ∧ u.power.coreUv = false ∧ u.power.pll = s.power.pll) ∧
  (∀ (s : State) (t : Nat), s.power.law15Pend = true → s.power.law15 = .configured → (s.atTime t).isBoundary 15 = true → 
    ∃ u, exec (.lp15KennelResume t) s = .next u ∧ u.power.law15 = .kennel ∧ u.power.law15Pend = false ∧ (u.phase 63).pwm = (if (s.st 15).running then .low else .mid)) ∧
  (∀ (s : State) (t : Nat) (pos : BitVec 3) (boot : BitVec 2), s.power.bootPend = true → 
    ∃ u, exec (.bootStart t pos boot) s = .next u ∧ u.power.g = .boot ∧ u.power.bootPend = false ∧ u.power.bootTime = max s.now t ∧ u.power.cntPend = true ∧ u.power.pos = pos ∧ u.power.bootSel = boot ∧ u.power.strap = strapWord pos boot (s.power.kv.getD 3) ∧ u.grid = max s.now t) ∧
  (∀ (s : State) (t : Nat), s.power.g = .boot → s.power.cntPend = true → s.mtpIdle = true → 
    ∃ u, exec (.bootCounterIncrement t) s = .next u ∧ u.power.cntPend = false ∧ u.power.bootCnt = (if s.power.bootCnt = 0xFFFFFFFF then s.power.bootCnt else s.power.bootCnt + 1)) ∧
  (∀ (s : State) (t : Nat) (eeprom : Option (List Byte)), s.power.g = .boot → s.power.cntPend = false → s.power.killN = true → s.win.killEdges = 0 → s.pins.tapHold = false → s.power.kv = some 3 ∨ s.power.law15 ≠ .stopped ∨ s.anyOn = false → 
    ∃ u, exec (.bootComplete t eeprom) s = .next u ∧ u.power.g = .ready ∧ u.power.vauxLost = false ∧ u.peers.readyAt = some (max s.now t)) ∧
  (∀ (s : State) (t : Nat), s.power.law15Pend = true → s.power.law15 = .kennel → s.up = true → (s.atTime t).isBoundary 15 = true → 
    ∃ u, exec (.lp15Handoff t) s = .next u ∧ u.power.law15 = .configured ∧ u.power.law15Pend = false)

/-- A fall of KILL_N while the device is up records the level, sets KILL_SEEN and enters KILLED; the rise records its time and starts a kennel retry that waited for it; 10 ms after the rise KILLED ends in READY or RUN. -/
def Obligations.KillCommands : Prop :=
  (∀ (s : State) (t : Nat), s.power.killN = true → s.kennelRail = true → s.up = true → 
    ∃ u, exec (.killNFall t) s = .next u ∧ u.power.killN = false ∧ u.power.killRise = none ∧ u.power.g = .killed ∧ u.win.killSeen = true) ∧
  (∀ (s : State) (t : Nat), s.power.killN = false → 
    ∃ u, exec (.killNRise t) s = .next u ∧ u.power.killN = true ∧ u.power.killRise = some (max s.now t) ∧ (s.power.wait = .killRelease → u.power.wait = .retry (max s.now t + Config.ms 10))) ∧
  (∀ (s : State) (t : Nat) (a : Nat), s.power.g = .killed → s.power.killN = true → s.pins.tapHold = false → s.power.killRise = some a → a + Config.ms 10 ≤ max s.now t → 
    ∃ u, exec (.killedExit t) s = .next u ∧ u.power.g = (if s.anyOn then .run else .ready) ∧ u.power.killStop = false)

/-- ADDRESS_LATCH holds the address; a short strobe sets SHORT; a write of W_SCRATCH stores the word; a read of W_STAT answers it and clears SHORT; a read of W_TIME_L or W_BOOTCNT_L answers the low word and holds the high word; PDATA_WRITE of an rw word stores the masked proof copy, and a class-L word then waits to cross; of a read-only word or an address without a word it stores nothing; an access through W_PDATA_INC reads or writes as W_PDATA does and steps the index; in BOOT the reads of both answer 0 and change nothing; each wrap of the device time is counted and logged. -/
def Obligations.WindowPortCommands : Prop :=
  (∀ (s : State) (t : Nat) (ad : W16), s.power.vaux = true → s.power.vddioH = true → 
    ∃ u, exec (.addressLatch t ad) s = .next u ∧ u = { s.atTime t with win := { s.win with addr := ad } }) ∧
  (∀ (s : State) (t : Nat), s.busAnswers = true → 
    ∃ u, exec (.shortStrobe t) s = .next u ∧ u = { s.atTime t with win := { s.win with short := true } }) ∧
  (∀ (s : State) (t : Nat) (w : W16), s.window = true → s.win.addr = 0x4E → 
    ∃ u, exec (.registerWrite t w) s = .next u ∧ u = { s.atTime t with win := { s.win with scratch := w, kicked := false } }) ∧
  (∀ (s : State) (t : Nat), s.busAnswers = true → 
    ∃ u, exec (.wStatRead t) s = .next u ∧ u = { s.atTime t with win := { s.win with adOut := (s.atTime t).wStat, short := false } }) ∧
  (∀ (s : State) (t : Nat) (boot : Bool), s.window = true → 
    ∃ u, exec (.timeLowRead t boot) s = .next u ∧ u = { s.atTime t with win := { s.win with
      adOut := if boot then w16 s.power.bootCnt.toNat else w16 (s.atTime t).devTime
      bootHold := if boot then w16 (s.power.bootCnt.toNat / 65536) else s.win.bootHold
      timeHold := if boot then s.win.timeHold else w16 ((s.atTime t).devTime / 65536) } }) ∧
  (∀ (s : State) (t : Nat) (boot : Bool), s.power.g = .boot → s.power.vddioH = true → s.power.vaux = true → 
    ∃ u, exec (.timeLowRead t boot) s = .next u ∧ u = { s.atTime t with win := { s.win with adOut := 0 } }) ∧
  (∀ (s : State) (t : Nat) (w : W16) (p : ParamInfo), s.window = true → paramInfo s.win.paddr.toNat = some p → p.access = Access.rw → p.cls ≠ CommitClass.L → 
    ∃ u, exec (.pdataWrite t w) s = .next u ∧ u = { s.atTime t with
      win := { s.win with kicked := false }
      par := { s.par with proof := sparseSet paramReset s.par.proof s.win.paddr.toNat (w &&& w16 p.mask) } }) ∧
  (∀ (s : State) (t : Nat) (w : W16) (p : ParamInfo), s.window = true → paramInfo s.win.paddr.toNat = some p → p.access = Access.rw → p.cls = CommitClass.L → 
    ∃ u, exec (.pdataWrite t w) s = .next u ∧ u.par.proof = sparseSet paramReset s.par.proof s.win.paddr.toNat (w &&& w16 p.mask) ∧ u.par.inUse = s.par.inUse ∧ (u.par.waitL = (s.par.waitL.filter fun x => decide (x.1 ≠ s.win.paddr.toNat)) ++ [(s.win.paddr.toNat, max s.now t)])) ∧
  (∀ (s : State) (t : Nat) (w : W16), s.window = true → (match paramInfo s.win.paddr.toNat with | some p => decide (p.access = Access.ro) | none => true) = true → 
    ∃ u, exec (.pdataWrite t w) s = .next u ∧ u = { s.atTime t with win := { s.win with kicked := false } }) ∧
  (∀ (s : State) (t : Nat) (w : W16), s.window = true → 
    ∃ u, exec (.pdataIncAccess t false w) s = .next u ∧ u = stepPaddr (writeParam s.win.paddr.toNat w (s.atStrobe t))) ∧
  (∀ (s : State) (t : Nat) (w : W16), s.window = true → 
    ∃ u, exec (.pdataIncAccess t true w) s = .next u ∧ u = stepPaddr { s.atTime t with win := { s.win with adOut := (s.atTime t).readParam false s.win.paddr.toNat } }) ∧
  (∀ (s : State) (t : Nat) (w : W16), s.power.g = .boot → s.power.vddioH = true → s.power.vaux = true → 
    ∃ u, exec (.pdataIncAccess t true w) s = .next u ∧ u = { s.atTime t with win := { s.win with adOut := 0 } }) ∧
  (∀ (s : State) (t : Nat), s.up = true → s.power.bootTime + Config.us ((s.log.wraps + 1) * 2 ^ 32) ≤ max s.now t → s.log.queue.length < 64 → 
    ∃ u, exec (.deviceTimeWrap t) s = .next u ∧ u.log.wraps = s.log.wraps + 1 ∧ u.log.queue = s.log.queue ++ [((s.atTime t).session 1 (w16 (s.log.wraps + 1)), max s.now t)])

/-- A write of W_IRQ clears the bits written as 1; W_IRQ_EN stores its 12 bits; bit 15 of W_FLT_LOOP clears the fault words; bit 1 of W_KILL_STAT clears KILL_SEEN; W_LOOP_ON stores the word, with bit 15 read as 1 under self-bias, and for a read-only peer keeps what it holds; a read of W_EVT_POP on a non-empty ring answers the next word of the oldest entry and the fourth takes the entry, while on an empty ring or in BOOT a read answers 0 and takes none; a write rewinds it; bit 15 of W_EVT_COUNT clears LOG_LOST. -/
def Obligations.WindowFlagCommands : Prop :=
  (∀ (s : State) (t : Nat) (w : W16), s.window = true → 
    ∃ u, exec (.irqClear t w) s = .next u ∧ u = { s.atTime t with win := { s.win with irq := s.win.irq &&& ~~~w, kicked := false } }) ∧
  (∀ (s : State) (t : Nat) (w : W16), s.window = true → 
    ∃ u, exec (.irqEnableWrite t w) s = .next u ∧ u = { s.atTime t with win := { s.win with irqEn := w &&& 0x0FFF, kicked := false } }) ∧
  (∀ (s : State) (t : Nat) (w : W16), s.window = true → bitAt w 15 = true → 
    ∃ u, exec (.fltLoopClear t w) s = .next u ∧ u = { s.atTime t with win := { s.win with fltCode := 0, fltCount := 0, fltLoop := 0, fltValid := false, kicked := false } }) ∧
  (∀ (s : State) (t : Nat) (w : W16), s.window = true → bitAt w 1 = true → 
    ∃ u, exec (.killStatClear t w) s = .next u ∧ u = { s.atTime t with win := { s.win with killSeen := false, kicked := false } }) ∧
  (∀ (s : State) (t : Nat) (w : W16), s.window = true → (s.atTime t).readOnly = false → 
    ∃ u, exec (.loopOnWrite t w) s = .next u ∧ u.win.loopOn = (if s.selfBias then setBit w 15 else w)) ∧
  (∀ (s : State) (t : Nat) (w : W16), s.window = true → (s.atTime t).readOnly = true → 
    ∃ u, exec (.loopOnWrite t w) s = .next u ∧ u = { s.atTime t with win := { s.win with kicked := false } }) ∧
  (∀ (s : State) (t : Nat), s.window = true → 0 < s.log.count → 
    ∃ u, exec (.evtPopRead t) s = .next u ∧ u.win.adOut = s.popEntry.word s.log.popIdx ∧ (s.log.popIdx = 3 → s.log.popAt ≠ none → u.log.rd = (s.log.rd + 1) % 8192 ∧ u.log.count = s.log.count - 1 ∧ u.log.popIdx = 0) ∧ (s.log.popIdx < 3 → u.log.rd = s.log.rd ∧ u.log.count = s.log.count ∧ u.log.popIdx = s.log.popIdx + 1)) ∧
  (∀ (s : State) (t : Nat), s.window = true → s.log.count = 0 → 
    ∃ u, exec (.evtPopRead t) s = .next u ∧ u = { s.atTime t with win := { s.win with adOut := 0 } }) ∧
  (∀ (s : State) (t : Nat), s.power.g = .boot → s.power.vddioH = true → s.power.vaux = true → 
    ∃ u, exec (.evtPopRead t) s = .next u ∧ u = { s.atTime t with win := { s.win with adOut := 0 } }) ∧
  (∀ (s : State) (t : Nat), s.window = true → 
    ∃ u, exec (.evtPopRewind t) s = .next u ∧ u = { s.atTime t with win := { s.win with kicked := false }, log := { s.log with popIdx := 0 } }) ∧
  (∀ (s : State) (t : Nat) (w : W16), s.window = true → bitAt w 15 = true → 
    ∃ u, exec (.evtLostClear t w) s = .next u ∧ u = { s.atTime t with win := { s.win with kicked := false }, log := { s.log with lost := false } })

/-- A valid write of the watchdog configuration outside the closed time stores its defined bits and an enabled one restarts the count; the expected kick word restarts the count, clears WDOG_EXP and swaps the word; a wrong word, or 0.985 of the time without a kick, sets WDOG_EXP and W_IRQ.WDOG (stated with the action KEEP and Chew not armed); a write inside the closed time, or of a word whose fields are not allowed, changes nothing. -/
def Obligations.WatchdogCommands : Prop :=
  (∀ (s : State) (t : Nat) (w : W16), s.window = true → wdogOk (w &&& 0xFF0F) = true → s.wdogEn = false ∨ s.win.kicked = true → 
    ∃ u, exec (.wdogCfgWrite t w) s = .next u ∧ u.win.wdogCfg = w &&& 0xFF0F ∧ (bitAt w 3 = true → u.win.wdogFrom = max s.now t)) ∧
  (∀ (s : State) (t : Nat) (w : W16), s.window = true → wdogOk (w &&& 0xFF0F) = false ∨ (s.wdogEn = true ∧ s.win.kicked = false) → 
    ∃ u, exec (.wdogCfgWrite t w) s = .next u ∧ u = { s.atTime t with win := { s.win with kicked := false } }) ∧
  (∀ (s : State) (t : Nat) (w : W16), s.window = true → s.wdogEn = true → w ≠ s.kickWord → s.win.wdogExp = false → fld s.win.wdogCfg 2 0 = 0 → s.chw.armed = false → 
    ∃ u, exec (.wdogKick t w) s = .next u ∧ u.win.wdogExp = true ∧ bitAt u.win.irq 9 = true) ∧
  (∀ (s : State) (t : Nat) (w : W16), s.window = true → s.wdogEn = true → w = s.kickWord → 
    ∃ u, exec (.wdogKick t w) s = .next u ∧ (u = { s.atTime t with win := { s.win with
      wdogFrom := max s.now t, wdogLeft := s.win.wdogLeft.map fun _ => 0, wdogExp := false, wdogAlt := !s.win.wdogAlt, kicked := true } })) ∧
  (∀ (s : State) (t : Nat), s.up = true → s.power.g ≠ .gasp → s.wdogEn = true → s.win.wdogExp = false → 985 * Config.ms (10 * fld s.win.wdogCfg 15 8) ≤ 1000 * (max s.now t - s.win.wdogFrom) → fld s.win.wdogCfg 2 0 = 0 → s.chw.armed = false → 
    ∃ u, exec (.wdogExpire t) s = .next u ∧ u.win.wdogExp = true ∧ bitAt u.win.irq 9 = true)

/-- REVERT with 0x00FF restores the proof copies of every changed word, with a page those of that page, and with any other word, or during a commit, none; a commit request captures its set, in which a pinned frequency takes its fences along, and goes to CAPTURE; the end of the capture refuses a request made in GASP or by a read-only peer, completes an empty set with code 1, and else refuses a failing word or starts the application; a refused commit reports its code and word 2 us later, and after it a class-L refusal that waited; a taker that is not the last leaves the set to the others, the last one puts it in use and ends the commit; a class-L word that crosses puts its proof value in use; a pair that disagrees for its time logs one DISAGREE of two entries. -/
def Obligations.CommitCommands : Prop :=
  (∀ (s : State) (t : Nat) (w : W16), s.window = true → s.busy = false → w = 0x00FF → 
    ∃ u, exec (.revert t w) s = .next u ∧ (u.par.proof = ((s.dirtyWords.foldl (fun s a => s.setProof a (s.baseUse a)) s)).par.proof) ∧ u.par.waitL = [] ∧ u.par.inUse = s.par.inUse) ∧
  (∀ (s : State) (t : Nat) (w : W16), s.window = true → s.busy = false → w.toNat ≤ 0x3F → 
    ∃ u, exec (.revert t w) s = .next u ∧ (u.par.proof = (((s.dirtyWords.filter fun a => decide (a / 256 = w.toNat)).foldl (fun s a => s.setProof a (s.baseUse a)) s)).par.proof) ∧ (u.par.waitL = s.par.waitL.filter fun x => decide (x.1 / 256 ≠ w.toNat)) ∧ u.par.inUse = s.par.inUse) ∧
  (∀ (s : State) (t : Nat) (w : W16), s.window = true → s.busy = true ∨ (0x3F < w.toNat ∧ w ≠ 0x00FF) → 
    ∃ u, exec (.revert t w) s = .next u ∧ u = { s.atTime t with win := { s.win with kicked := false } }) ∧
  (∀ (s : State) (t : Nat) (a : W16) (w : Nat), s.up = true → s.busy = false → s.par.waitL.lookup a.toNat = some w → (s.atTime t).mayCross a.toNat w = true → (s.atTime t).refusalL a.toNat = none → 
    ∃ u, exec (.classLCrossing t a) s = .next u ∧ u.baseUse a.toNat = s.proof a.toNat ∧ (u.par.waitL = s.par.waitL.filter fun x => decide (x.1 ≠ a.toNat))) ∧
  (∀ (s : State) (t : Nat), s.window = true → s.busy = false → 
    ∃ u, exec (.commitRequest t) s = .next u ∧ u.par.phase = .capture ∧ u.par.phaseAt = max s.now t ∧ (u.par.set = ((s.pinLoops.flatMap fun n => [lpA n 0x1F, lpA n 0x20]).foldl (fun l a => insertNat a l) (s.commitSet.map Prod.fst)).map (fun a => (a, u.proof a))) ∧ (s.pinLoops = [] → u.par.set = s.commitSet) ∧ (∀ n : Fin 16, n ∈ s.pinLoops → u.proof (lpA n 0x1F) = s.proof (lpA n 0x1F) &&& 0x00FF ∧ u.proof (lpA n 0x20) = s.proof (lpA n 0x20) &&& 0x00FF) ∧ u.par.pendCode = (if s.power.g = .gasp then 0x10 else if (s.atTime t).readOnly then 0x11 else 0) ∧ u.par.inUse = s.par.inUse) ∧
  (∀ (s : State) (t : Nat) (f : Fail), s.up = true → s.par.phase = .capture → s.par.pendCode = 0 → s.par.set ≠ [] → (s.atTime t).judge s.par.set = some f → 
    ∃ u, exec (.captureEnd t) s = .next u ∧ u.par.phase = .refused ∧ u.par.pendCode = w8 f.1 ∧ u.par.pendAddr = w16 f.2 ∧ u.par.inUse = s.par.inUse) ∧
  (∀ (s : State) (t : Nat), s.up = true → s.par.phase = .capture → s.par.pendCode = 0 → s.par.set ≠ [] → (s.atTime t).judge s.par.set = none → 
    ∃ u, exec (.captureEnd t) s = .next u ∧ u.par.phase = .apply ∧ u.par.takers = setTakers (s.atTime t) ((s.atTime t).withUse (overlay s.par.set s.par.inUse)) s.par.set ∧ u.par.inUse = s.par.inUse) ∧
  (∀ (s : State) (t : Nat), s.up = true → s.par.phase = .capture → s.par.pendCode ≠ 0 → 
    ∃ u, exec (.captureEnd t) s = .next u ∧ u.par.phase = .refused ∧ u.par.phaseAt = max s.now t ∧ u.par.pendCode = s.par.pendCode ∧ u.par.pendAddr = s.par.pendAddr) ∧
  (∀ (s : State) (t : Nat), s.up = true → s.par.phase = .capture → s.par.pendCode = 0 → s.par.set = [] → s.par.heldL = none → 
    ∃ u, exec (.captureEnd t) s = .next u ∧ u.par.phase = .idle ∧ u.par.code = 1 ∧ u.par.refused = false ∧ u.par.inUse = s.par.inUse ∧ u.win.irq = setBit s.win.irq 2) ∧
  (∀ (s : State) (t : Nat) (c : Byte) (a : W16), s.up = true → s.par.phase = .refused → s.par.phaseAt + Config.us 2 ≤ max s.now t → s.par.heldL = some (c, a) → 
    ∃ u, exec (.commitRefused t) s = .next u ∧ u.par.phase = .idle ∧ u.par.refused = true ∧ u.par.code = c ∧ u.par.refuseAddr = a ∧ u.par.heldL = none) ∧
  (∀ (s : State) (t : Nat), s.up = true → s.par.phase = .refused → s.par.phaseAt + Config.us 2 ≤ max s.now t → s.par.heldL = none → 
    ∃ u, exec (.commitRefused t) s = .next u ∧ u.par.phase = .idle ∧ u.par.refused = true ∧ u.par.code = s.par.pendCode ∧ u.par.refuseAddr = s.par.pendAddr ∧ u.win.irq = setBit s.win.irq 2 ∧ u.par.set = []) ∧
  (∀ (s : State) (t : Nat) (unit : Fin 256) (n : Fin 16), s.up = true → s.par.phase = .apply → unit.val = n.val → s.par.takers = [.loop n] → (s.atTime t).mayTake (.loop n) = true → s.par.heldL = none → 
    ∃ u, exec (.commitApply t true unit) s = .next u ∧ u.par.phase = .idle ∧ u.par.inUse = overlay s.par.set s.par.inUse ∧ u.par.code = 0 ∧ u.par.refused = false ∧ bitAt u.win.irq 2 = true) ∧
  (∀ (s : State) (t : Nat) (unit : Fin 256) (n : Fin 16), s.up = true → s.par.phase = .apply → unit.val = n.val → s.par.takers.contains (Taker.loop n) = true → (s.par.takers.filter fun k => decide (k ≠ Taker.loop n)) ≠ [] → (s.atTime t).mayTake (.loop n) = true → 
    ∃ u, exec (.commitApply t true unit) s = .next u ∧ u.par.phase = .apply ∧ u.par.inUse = s.par.inUse ∧ (u.par.takers = s.par.takers.filter fun k => decide (k ≠ Taker.loop n))) ∧
  (∀ (s : State) (t : Nat) (unit : Fin 256), s.up = true → s.par.phase = .apply → s.par.takers = [Taker.page unit.val] → (s.atTime t).mayTake (.page unit.val) = true → s.par.heldL = none → 
    ∃ u, exec (.commitApply t false unit) s = .next u ∧ u.par.phase = .idle ∧ u.par.inUse = overlay s.par.set s.par.inUse ∧ u.par.code = 0 ∧ u.par.refused = false ∧ bitAt u.win.irq 2 = true) ∧
  (∀ (s : State) (t : Nat) (n : Fin 16) (k : Fin 4) (a : Nat), s.up = true → bitAt (s.pg 1 1) k.val = true → twCount (s.pg 1 0) ≠ 0 → s.par.fired.contains (n, k) = false → s.par.timers.lookup (n, k) = some a → a + twDur (s.pg 1 0) < max s.now t → 
    ∃ u, exec (.disagree t n k) s = .next u ∧ u.par.fired = s.par.fired ++ [(n, k)] ∧ (s.log.queue.length < 63 → u.log.queue = s.log.queue ++ [((s.atTime t).eventEntry 0x12 (some n) false false (s.pairValues n k).1 k.val, max s.now t), ((s.atTime t).eventEntry 0x12 (some n) false true (s.pairValues n k).2 k.val, max s.now t)]))

/-- SAVE, OPEN_A, OPEN_B, CONFIRM and the INVALIDATEs start their operation where the slots allow it; a command that its slots, the last SEQUENCE or a read-only peer forbid ends at once with RESULT 1; the completion of an operation ends it with RESULT 0 or 7 and W_IRQ.NVM, and with RESULT 0 marks the slots and opens the transfer that the command names; a word of an open transfer is taken; a programmed page ends BUSY; 100 ms without a word ends the transfer with RESULT 5; the checked image becomes a TRIAL slot, or, for a reason or a failed program verify, an INVALID one with the reason's RESULT. -/
def Obligations.NvmCommands : Prop :=
  (∀ (s : State) (t : Nat), s.window = true → s.nvmOpen = true → (s.atTime t).readOnly = false → s.topSeq < 0xFFFFFFFF → 
    ∃ u, exec (.save t) s = .next u ∧ u.nvm.op = some .save ∧ u.nvm.busy = true ∧ u.nvm.words = wordsOf ((s.atStrobe t).saveImage (s.topSeq + 1)) ∧ (u.nvm.slot s.nvm.saveSlot).cycles = (s.nvm.slot s.nvm.saveSlot).cycles + 1) ∧
  (∀ (s : State) (t : Nat), s.window = true → s.nvmOpen = true → (s.atTime t).readOnly = false → s.mayOpen false = true → 
    ∃ u, exec (.openA t) s = .next u ∧ u.nvm.op = some .openA ∧ u.nvm.busy = true ∧ u.nvm.slotA.st = .invalid ∧ u.nvm.slotA.cycles = s.nvm.slotA.cycles + 1 ∧ u.nvm.slotB = s.nvm.slotB) ∧
  (∀ (s : State) (t : Nat), s.window = true → s.nvmOpen = true → (s.atTime t).readOnly = false → s.mayOpen true = true → 
    ∃ u, exec (.openB t) s = .next u ∧ u.nvm.op = some .openB ∧ u.nvm.busy = true ∧ u.nvm.slotB.st = .invalid ∧ u.nvm.slotB.cycles = s.nvm.slotB.cycles + 1 ∧ u.nvm.slotA = s.nvm.slotA) ∧
  (∀ (s : State) (t : Nat), s.window = true → s.nvmOpen = true → (s.atTime t).readOnly = false → s.mayConfirm = true → 
    ∃ u, exec (.confirm t) s = .next u ∧ u = { s.atTime t with win := { s.win with kicked := false }, nvm := { s.nvm with op := some .confirm, busy := true } }) ∧
  (∀ (s : State) (t : Nat), s.window = true → s.nvmOpen = true → (s.atTime t).readOnly = false → 
    ∃ u, exec (.invalidateA t) s = .next u ∧ u = { s.atTime t with win := { s.win with kicked := false }, nvm := { s.nvm with op := some .invalidateA, busy := true } }) ∧
  (∀ (s : State) (t : Nat), s.window = true → s.nvmOpen = true → (s.atTime t).readOnly = false → 
    ∃ u, exec (.invalidateB t) s = .next u ∧ u = { s.atTime t with win := { s.win with kicked := false }, nvm := { s.nvm with op := some .invalidateB, busy := true } }) ∧
  (∀ (s : State) (t : Nat), s.window = true → s.nvmOpen = true → (s.atTime t).readOnly = true ∨ s.topSeq = 0xFFFFFFFF → 
    ∃ u, exec (.save t) s = .next u ∧ u.nvm.result = 1 ∧ u.nvm.slotA = s.nvm.slotA ∧ u.nvm.slotB = s.nvm.slotB ∧ u.nvm.op = none ∧ u.win.irq = setBit s.win.irq 10) ∧
  (∀ (s : State) (t : Nat), s.window = true → s.nvmOpen = true → (s.atTime t).readOnly = true ∨ s.mayOpen false = false → 
    ∃ u, exec (.openA t) s = .next u ∧ u.nvm.result = 1 ∧ u.nvm.slotA = s.nvm.slotA ∧ u.nvm.slotB = s.nvm.slotB ∧ u.nvm.op = none ∧ u.win.irq = setBit s.win.irq 10) ∧
  (∀ (s : State) (t : Nat), s.window = true → s.nvmOpen = true → (s.atTime t).readOnly = true ∨ s.mayOpen true = false → 
    ∃ u, exec (.openB t) s = .next u ∧ u.nvm.result = 1 ∧ u.nvm.slotA = s.nvm.slotA ∧ u.nvm.slotB = s.nvm.slotB ∧ u.nvm.op = none ∧ u.win.irq = setBit s.win.irq 10) ∧
  (∀ (s : State) (t : Nat), s.window = true → s.nvmOpen = true → (s.atTime t).readOnly = true ∨ s.mayConfirm = false → 
    ∃ u, exec (.confirm t) s = .next u ∧ u.nvm.result = 1 ∧ u.nvm.slotA = s.nvm.slotA ∧ u.nvm.slotB = s.nvm.slotB ∧ u.nvm.op = none ∧ u.win.irq = setBit s.win.irq 10) ∧
  (∀ (s : State) (t : Nat), s.window = true → s.nvmOpen = true → (s.atTime t).readOnly = true → 
    ∃ u, exec (.invalidateA t) s = .next u ∧ u.nvm.result = 1 ∧ u.nvm.slotA = s.nvm.slotA ∧ u.nvm.slotB = s.nvm.slotB ∧ u.nvm.op = none ∧ u.win.irq = setBit s.win.irq 10) ∧
  (∀ (s : State) (t : Nat), s.window = true → s.nvmOpen = true → (s.atTime t).readOnly = true → 
    ∃ u, exec (.invalidateB t) s = .next u ∧ u.nvm.result = 1 ∧ u.nvm.slotA = s.nvm.slotA ∧ u.nvm.slotB = s.nvm.slotB ∧ u.nvm.op = none ∧ u.win.irq = setBit s.win.irq 10) ∧
  (∀ (s : State) (t : Nat) (ok : Bool) (op : NvmOp), s.nvm.op = some op → s.nvm.busy = true → 
    ∃ u, exec (.nvmOpComplete t ok) s = .next u ∧ u.nvm.op = none ∧ u.nvm.busy = false ∧ u.nvm.result = (if ok then 0 else 7) ∧ u.win.irq = setBit s.win.irq 10 ∧ (op = .save → ok = true → (u.nvm.slot s.nvm.saveSlot).st = .confirmed ∧ (u.nvm.slot s.nvm.saveSlot).bytes = s.nvm.words.flatMap wordBytes) ∧ (op = .confirm → ok = true → (u.nvm.slot (s.nvm.isLoaded true)).st = .confirmed) ∧ (op = .invalidateA → ok = true → u.nvm.slotA.st = .invalid ∧ u.nvm.slotB = s.nvm.slotB) ∧ (op = .invalidateB → ok = true → u.nvm.slotB.st = .invalid ∧ u.nvm.slotA = s.nvm.slotA) ∧ (op = .openA → ok = true → u.nvm.xfer = some false ∧ u.nvm.gapFrom = max s.now t) ∧ (op = .openB → ok = true → u.nvm.xfer = some true ∧ u.nvm.gapFrom = max s.now t)) ∧
  (∀ (s : State) (t : Nat) (w : W16), s.window = true → s.nvm.xfer ≠ none → s.nvmBusy = false → s.nvm.words.length < 3 → 
    ∃ u, exec (.nvmDataWord t w) s = .next u ∧ u.nvm.words = s.nvm.words ++ [w] ∧ u.nvm.gapFrom = max s.now t) ∧
  (∀ (s : State) (t : Nat) (w : W16), s.window = true → s.nvm.xfer ≠ none → s.nvmBusy = true → 
    ∃ u, exec (.nvmDataWord t w) s = .next u ∧ u.nvm.xfer = none ∧ u.nvm.result = 6 ∧ u.win.irq = setBit s.win.irq 10) ∧
  (∀ (s : State) (t : Nat), s.nvm.xfer ≠ none → s.nvm.busy = true → s.nvm.checking = false → 
    ∃ u, exec (.nvmPageProgrammed t) s = .next u ∧ u = { s.atTime t with nvm := { s.nvm with busy := false } }) ∧
  (∀ (s : State) (t : Nat), s.nvm.xfer ≠ none → s.nvm.checking = false → s.nvm.gapFrom + Config.ms 100 < max s.now t → 
    ∃ u, exec (.nvmTransferTimeout t) s = .next u ∧ u.nvm.xfer = none ∧ u.nvm.result = 5 ∧ u.nvm.busy = false ∧ u.nvm.slotA = s.nvm.slotA ∧ u.nvm.slotB = s.nvm.slotB ∧ u.win.irq = setBit s.win.irq 10) ∧
  (∀ (s : State) (t : Nat) (b : Bool), s.nvm.xfer = some b → s.nvm.checking = true → imgReason s.opKey (s.nvm.words.flatMap wordBytes) = none → 
    ∃ u, exec (.nvmImageChecked t true) s = .next u ∧ (u.nvm.slot b).st = .trial ∧ (u.nvm.slot b).trials = 0 ∧ (u.nvm.slot b).bytes = s.nvm.words.flatMap wordBytes ∧ u.nvm.result = 0 ∧ u.nvm.xfer = none) ∧
  (∀ (s : State) (t : Nat) (b : Bool) (r : Nat), s.nvm.xfer = some b → s.nvm.checking = true → imgReason s.opKey (s.nvm.words.flatMap wordBytes) = some r → 
    ∃ u, exec (.nvmImageChecked t true) s = .next u ∧ (u.nvm.slot b).st = .invalid ∧ u.nvm.result = BitVec.ofNat 4 (reasonResult r) ∧ u.nvm.xfer = none) ∧
  (∀ (s : State) (t : Nat) (b : Bool), s.nvm.xfer = some b → s.nvm.checking = true → 
    ∃ u, exec (.nvmImageChecked t false) s = .next u ∧ (u.nvm.slot b).st = .invalid ∧ u.nvm.result = 7 ∧ u.nvm.xfer = none)

/-- A trim update of a converter that may take one moves the one trim by its amount, a skew trim within its limits, and records its time; the end of a sequence visit writes its result to the entry's slot and to no other and starts the entry's delay at the visit's end; the end of the delay starts the next entry (or stops the sequence when RUN is 0) when no urgent conversion is in its way; the reference is warm 400 us after its buffer; an urgent request outside the reserved channels joins the waiting requests; the grant runs the first of them; the end of a host conversion stores its raw or its corrected result and ends BUSY; a due first fast channel asks for its conversion. -/
def Obligations.SurveyCommands : Prop :=
  (∀ (s : State) (t : Nat) (k slice : Fin 4) (kind : Fin 3) (amount : Int) (slope : Nat) (conv : Bool), s.booted = true → bitAt (s.pg 5 (0x10 + k.val)) 0 = false → (s.atTime t).iscIdle k = true → kind ≠ 2 → trimStepOk kind amount slope = true → 
    ∃ u, exec (.trimUpdate t true k ⟨slice, kind, amount, slope, conv⟩) s = .next u ∧ u.isc[k].noTrim = false ∧ u.isc[k].trimAt = max s.now t ∧ u.isc[k].converged = (s.isc[k].converged || conv || decide (s.power.bootTime + Config.ms 20 ≤ max s.now t)) ∧ u.isc[k].offset = (if kind = 0 then s.isc[k].offset.set slice (s.isc[k].offset[slice] + amount) else s.isc[k].offset) ∧ u.isc[k].gain = (if kind = 1 then s.isc[k].gain.set slice (s.isc[k].gain[slice] + amount) else s.isc[k].gain) ∧ u.isc[k].skew = s.isc[k].skew ∧ u.vsc = s.vsc) ∧
  (∀ (s : State) (t : Nat) (k slice : Fin 4) (kind : Fin 3) (amount : Int) (slope : Nat) (conv : Bool), s.booted = true → bitAt (s.pg 4 (0x20 + k.val)) 0 = false → s.vscIdle k = true → (s.atTime t).vscFree k = true → (kind ≠ 2 ∨ 50 ≤ slope) → trimStepOk kind amount slope = true → 
    ∃ u, exec (.trimUpdate t false k ⟨slice, kind, amount, slope, conv⟩) s = .next u ∧ u.vsc[k].noTrim = false ∧ u.vsc[k].trimAt = max s.now t ∧ u.vsc[k].offset = (if kind = 0 then s.vsc[k].offset.set slice (s.vsc[k].offset[slice] + amount) else s.vsc[k].offset) ∧ u.vsc[k].gain = (if kind = 1 then s.vsc[k].gain.set slice (s.vsc[k].gain[slice] + amount) else s.vsc[k].gain) ∧ u.vsc[k].skew = (if kind = 2 then s.vsc[k].skew.set slice (clampI (-400) 400 (s.vsc[k].skew[slice] + amount)) else s.vsc[k].skew) ∧ u.isc = s.isc) ∧
  (∀ (s : State) (t : Nat) (rs : List Nat) (clip : Bool), s.svcRuns = true → s.svc.tail = none → s.svc.phase = .visit → (s.atTime t).visitOver (s.svcEntry s.svc.entry) rs = true → s.pg 7 (2 * s.svc.entry + 1) ≠ 0 → 
    ∃ u, exec (.svcVisitEnd t rs clip) s = .next u ∧ u.svc.phase = .delay ∧ u.svc.entry = s.svc.entry ∧ (∀ k : Fin 32, k.val = (s.svcEntry s.svc.entry).slot → u.svc.slots[k].at_ = max s.now t ∧ u.svc.slots[k].value = (svcResult (s.chanCoefs (fld (s.svcEntry s.svc.entry).entry 5 0)).1 (s.chanCoefs (fld (s.svcEntry s.svc.entry).entry 5 0)).2.1 (s.chanCoefs (fld (s.svcEntry s.svc.entry).entry 5 0)).2.2 (svcFilter (s.svcEntry s.svc.entry).prof (s.svcEntry s.svc.entry).notch (s.svcEntry s.svc.entry).lp rs)).1) ∧ (∀ k : Fin 32, k.val ≠ (s.svcEntry s.svc.entry).slot → u.svc.slots[k] = s.svc.slots[k]) ∧ u.svc.from_ = (s.svcEntry s.svc.entry).after) ∧
  (∀ (s : State) (t : Nat), s.svcRuns = true → s.svc.phase = .delay → s.svc.from_ + Config.us (s.pg 7 (2 * s.svc.entry + 1)).toNat ≤ max s.now t → s.svc.lastUrg = none → s.svc.later = none → 
    ∃ u, exec (.svcDelayEnd t) s = .next u ∧ u.svc.phase = (if s.svrRun then .visit else .stopped) ∧ u.svc.entry = (if fld s.svrCtl 13 8 ≤ s.svc.entry then 0 else s.svc.entry + 1) ∧ u.svc.from_ = s.svc.from_ + Config.us (s.pg 7 (2 * s.svc.entry + 1)).toNat) ∧
  (∀ (s : State) (t : Nat) (a : Nat), s.svcRuns = true → s.svc.warm = false → s.svc.bufFrom = some a → a + Config.us 400 ≤ max s.now t → 
    ∃ u, exec (.refWarm t) s = .next u ∧ u = { s.atTime t with svc := { s.svc with warm := true } }) ∧
  (∀ (s : State) (t : Nat) (w : W16), s.window = true → s.up = true → bitAt w 15 = true → s.urgentBusy = false → reservedCh (fld w 5 0) = false → 
    ∃ u, exec (.urgentRequest t w) s = .next u ∧ u.svc.urgBusy = true ∧ u.svc.urgCh = fld w 5 0 ∧ u.svc.urgRaw = bitAt w 8 ∧ u.svc.reqs = s.svc.reqs ++ [{ src := .host, ch := fld w 5 0, at_ := max s.now t }]) ∧
  (∀ (s : State) (t : Nat) (q : UrgReq), s.svcRuns = true → s.svc.run = none → s.svc.lastUrg = none → s.swp.st ≠ .running → firstReq s.svc.reqs = some q → 
    ∃ u, exec (.urgentGrant t) s = .next u ∧ u.svc.run = some ({ q with took := s.convTime, cold := s.coldAt (max s.now t) }, max s.now t) ∧ u.svc.reqs = s.svc.reqs.erase q ∧ u.svc.lastUrg = some (max s.now t)) ∧
  (∀ (s : State) (t : Nat) (r : Nat) (clip : Bool) (q : UrgReq) (a : Nat), s.svcRuns = true → s.svc.run = some (q, a) → a + q.took ≤ max s.now t → q.src = .host → q.cal = false → s.svc.urgRaw = true → s.svc.cal.st ≠ .measuring → 
    ∃ u, exec (.urgentDone t r clip) s = .next u ∧ u.svc.run = none ∧ u.svc.urgBusy = false ∧ u.svc.urgData = w16 (rawCode r)) ∧
  (∀ (s : State) (t : Nat) (r : Nat) (clip : Bool) (q : UrgReq) (a : Nat), s.svcRuns = true → s.svc.run = some (q, a) → a + q.took ≤ max s.now t → q.src = .host → q.cal = false → s.svc.urgRaw = false → s.svc.cal.st ≠ .measuring → 
    ∃ u, exec (.urgentDone t r clip) s = .next u ∧ u.svc.run = none ∧ u.svc.urgBusy = false ∧ u.svc.urgData = (svcResult (s.chanCoefs q.ch).1 (s.chanCoefs q.ch).2.1 (s.chanCoefs q.ch).2.2 ⟨rawCode r, 1⟩).1) ∧
  (∀ (s : State) (t : Nat), s.up = true → bitAt (s.pg 2 9) 6 = true → bitAt (s.pg 2 9) 14 = false → s.urgentOf .protection = false → s.prot.fastAt + twDur (s.pg 2 0x0A) ≤ max s.now t → 
    ∃ u, exec (.fastChannelRequest t) s = .next u ∧ u.prot.fastAt = max s.now t ∧ u.prot.fastNext = 1 ∧ u.svc.reqs = s.svc.reqs ++ [{ src := .protection, ch := fld (s.pg 2 9) 5 0, at_ := max s.now t, fast := 0 }])

/-- CAL_ZERO and, with that channel's zero held, CAL_FULL start an empty measurement of their channel; the end of a zero measurement of 256 conversions holds the zero; CAL_APPLY writes the found G and B into the proof copies and no copy in use; CAL_ABORT ends the calibration and takes its waiting requests out. -/
def Obligations.CalibrationCommands : Prop :=
  (∀ (s : State) (t : Nat) (n : Fin 32), s.window = true → s.up = true → s.svc.cal.st ≠ .measuring → (s.atTime t).calRefused = false → 
    ∃ u, exec (.calZero t n) s = .next u ∧ u.svc.cal.st = .measuring ∧ u.svc.cal.ch = n.val ∧ u.svc.cal.full = false ∧ u.svc.cal.cnt = 0 ∧ u.svc.cal.sum = 0 ∧ u.svc.cal.zero = none) ∧
  (∀ (s : State) (t : Nat) (n : Fin 32) (z : Int), s.window = true → s.up = true → s.svc.cal.st ≠ .measuring → (s.atTime t).calRefused = false → s.svc.cal.zero = some (n.val, z) → 
    ∃ u, exec (.calFull t n) s = .next u ∧ u.svc.cal.st = .measuring ∧ u.svc.cal.ch = n.val ∧ u.svc.cal.full = true ∧ u.svc.cal.zero = some (n.val, z)) ∧
  (∀ (s : State) (t : Nat), s.svc.cal.st = .measuring → s.svc.cal.cnt = 256 → s.svc.cal.full = false → 
    ∃ u, exec (.calMeasureEnd t) s = .next u ∧ u.svc.cal.st = .zeroHeld ∧ u.svc.cal.zero = some (s.svc.cal.ch, (s.svc.cal.sum : Int))) ∧
  (∀ (s : State) (t : Nat), s.window = true → s.up = true → s.svc.cal.st = .done → s.svc.cal.ch < 32 → 
    ∃ u, exec (.calApply t) s = .next u ∧ u.proof (pgA 6 (0x20 + s.svc.cal.ch)) = BitVec.ofInt 16 s.svc.cal.b ∧ u.proof (pgA 6 (0x40 + s.svc.cal.ch)) = w16 (fld (s.proof (pgA 6 (0x40 + s.svc.cal.ch))) 15 14 * 16384 + (s.svc.cal.g % 16384).toNat) ∧ u.svc.cal.st = .idle ∧ u.par.inUse = s.par.inUse) ∧
  (∀ (s : State) (t : Nat), s.window = true → s.up = true → 
    ∃ u, exec (.calAbort t) s = .next u ∧ u.svc.cal.st = .idle ∧ u.svc.cal.zero = none ∧ (u.svc.reqs = s.svc.reqs.filter fun q => !q.cal))

/-- A sample boundary opens the acquisition of a loop that runs, and the end of the acquisition closes it; a snapshot request names its loop, its capture fills the frame and counts, a read of W_SNAP_DATA answers the next word; W_ENG_CLR clears the counters and W_ENG_RESTORE asks halved loops to restore, done at the next instant of the configured rate; W_LYR_CLR asks for the layer; a change of a pin sets its level. -/
def Obligations.EngineCommands : Prop :=
  (∀ (s : State) (t : Nat) (n : Fin 16), s.laneOn n = true → (s.atTime t).isBoundary n = true → (s.atTime t).unsampled n = true → 
    ∃ u, exec (.sampleBoundary t n) s = .next u ∧ (u.loop n).eng.sampled = true ∧ (u.loop n).eng.sampleAt = max s.now t) ∧
  (∀ (s : State) (t : Nat) (n : Fin 16) (codes : List Int) (sup : Option Int), s.laneOn n = true → (s.loop n).eng.sampled = true → codes.length = s.acqCount n → (s.atTime t).acqEnds n = true → sup.isSome = s.checkNow n → 
    ∃ u, exec (.acquisitionEnd t n codes sup) s = .next u ∧ (u.loop n).eng.sampled = false) ∧
  (∀ (s : State) (t : Nat) (w : W16), s.window = true → s.snap.busy = false → 
    ∃ u, exec (.snapRequest t w) s = .next u ∧ u.snap.loop.val = fld w 3 0 % 16 ∧ u.snap.busy = bitAt w 15 ∧ u.snap.index = 0 ∧ u.snap.reqAt = max s.now t ∧ u.snap.frame = s.snap.frame) ∧
  (∀ (s : State) (t : Nat), s.up = true → s.snap.busy = true → s.stepping s.snap.loop = false → 
    ∃ u, exec (.snapshotCapture t) s = .next u ∧ u.snap.busy = false ∧ u.snap.captures = s.snap.captures + 1 ∧ u.snap.frame = s.snapFrame s.snap.loop (s.snap.captures + 1)) ∧
  (∀ (s : State) (t : Nat), s.window = true → 
    ∃ u, exec (.snapDataRead t) s = .next u ∧ u = { s.atTime t with
      win := { s.win with adOut := s.snap.frame.getD s.snap.index 0 }
      snap := { s.snap with index := (s.snap.index + 1) % 16 } }) ∧
  (∀ (s : State) (t : Nat) (w : W16), s.window = true → 
    ∃ u, exec (.engClr t w) s = .next u ∧ (∀ n : Fin 16, bitAt w n.val = true → (u.loop n).eng.ovrCnt = 0 ∧ (u.loop n).eng.satCnt = 0 ∧ (u.loop n).eng.skipCnt = 0) ∧ (∀ n : Fin 16, bitAt w n.val = false → u.loop n = s.loop n)) ∧
  (∀ (s : State) (t : Nat) (w : W16), s.window = true → 
    ∃ u, exec (.engRestore t w) s = .next u ∧ (∀ n : Fin 16, bitAt w n.val = true → (u.loop n).eng.restore = ((s.loop n).eng.restore || (s.loop n).eng.halved)) ∧ (∀ n : Fin 16, bitAt w n.val = false → u.loop n = s.loop n)) ∧
  (∀ (s : State) (t : Nat) (n : Fin 16), s.up = true → (s.loop n).eng.halved = true → (s.loop n).eng.restore = true → s.grid + seatOf n ≤ max s.now t → (max s.now t - s.grid - seatOf n) % (Config.gridCycle * 2 ^ fld (s.lp n 0x0D) 2 0) = 0 → 
    ∃ u, exec (.rateRestore t n) s = .next u ∧ (u.loop n).eng.halved = false ∧ (u.loop n).eng.restore = false ∧ (u.loop n).eng.holdRun = 0) ∧
  (∀ (s : State) (t : Nat) (w : W16), s.window = true → 
    ∃ u, exec (.lyrClr t w) s = .next u ∧ (∀ n : Fin 16, bitAt w n.val = true → (u.loop n).lyr.clr = true) ∧ (∀ n : Fin 16, bitAt w n.val = false → u.loop n = s.loop n)) ∧
  (∀ (s : State) (t : Nat) (g : Fin 24) (high : Bool), s.power.vaux = true → 
    ∃ u, exec (.enableInputChange t g high) s = .next u ∧ u.pins.gpio[g] = high ∧ (∀ k : Fin 24, k ≠ g → u.pins.gpio[k] = s.pins.gpio[k]))

/-- An edge of SYNC_IN with the selected sense is taken; SYNC_IN is found valid after 10 ms of edges and lost after two periods without one or four bad periods; the Leash is valid after 10 ms of following; each of these selects the source anew; a glide to the own oscillator ends at its target; a found alignment instant is used once, takes the waiting frequencies and aligns every carrier but a kennel law's. -/
def Obligations.TimebaseCommands : Prop :=
  (∀ (s : State) (t : Nat), s.booted = true → s.stb.align = true → 
    ∃ u, exec (.alignmentInstant t) s = .next u ∧ u.stb.align = false ∧ (∀ n : Fin 16, s.kennel15 n = false → (u.loop n).mod.fcNext = none ∧ (u.loop n).mod.carAt = s.stb.alignAt * Config.carUnit ∧ (u.loop n).mod.refDue = s.stb.alignAt * Config.carUnit + u.angle n)) ∧
  (∀ (s : State) (t : Nat) (falling : Bool), s.up = true → bitAt (s.pg 3 0) 2 = falling → 
    ∃ u, exec (.syncInEdge t falling) s = .next u ∧ u.stb.siEdge = some (max s.now t) ∧ (s.stb.siEdge = none → u.stb.siFrom = some (max s.now t) ∧ u.stb.siCnt = 0)) ∧
  (∀ (s : State) (t : Nat) (a b : Nat), s.up = true → s.stb.siValid = false → s.stb.siFrom = some a → s.stb.siEdge = some b → a + Config.ms 10 ≤ b → 
    ∃ u, exec (.syncInValid t) s = .next u ∧ u.stb.siValid = true ∧ u.stb.src = (if bitAt (s.pg 3 0) 0 then .syncIn else u.pickSource)) ∧
  (∀ (s : State) (t : Nat) (b : Nat), s.up = true → s.stb.siEdge = some b → b + 2 * s.syncPeriod ≤ max s.now t → 
    ∃ u, exec (.syncInLost t) s = .next u ∧ u.stb.siValid = false ∧ u.stb.siEdge = none ∧ u.stb.siFrom = none ∧ u.stb.src ≠ .syncIn) ∧
  (∀ (s : State) (t : Nat) (b : Nat), s.up = true → s.stb.siEdge = some b → s.stb.siValid = true → 4 ≤ s.stb.siBad → 
    ∃ u, exec (.syncInLost t) s = .next u ∧ u.stb.siValid = false ∧ u.stb.siEdge = none ∧ u.stb.siFrom = none ∧ u.stb.src ≠ .syncIn) ∧
  (∀ (s : State) (t : Nat) (a : Nat), s.up = true → s.stb.lshValid = false → s.lsh.link = .follow → s.stb.lshFrom = some a → a + Config.ms 10 ≤ max s.now t → 
    ∃ u, exec (.leashValid t) s = .next u ∧ u.stb.lshValid = true ∧ u.stb.src = u.pickSource) ∧
  (∀ (s : State) (t : Nat), s.up = true → s.stb.gliding = true → s.stb.dev = s.stb.target → s.stb.src = .osc → s.stb.pull = 0 → 
    ∃ u, exec (.glideEnd t) s = .next u ∧ u = { s.atTime t with stb := { s.stb with gliding := false } })

/-- A due turn-on of a phase in CCM puts its pin high and records the time; a trip after the blanking ends the pulse at once, one within the blanking at its end, and a pulse still high 40 ns before the next turn-on ends as maxOn; a zero crossing in DE puts the pin at mid-level. -/
def Obligations.PhaseCommands : Prop :=
  (∀ (s : State) (t : Nat) (m : Fin 64) (n : Fin 16), s.swLoop m = some n → (s.atTime t).mayTurnOn n m = true → (s.loop n).mod.de = false → ((s.phase m).newRank && (((s.atTime t).phase m).onAt.isSome || decide (max s.now t < ((s.atTime t).phase m).offUntil))) = false → 
    ∃ u, exec (.phaseTurnOn t m) s = .next u ∧ (u.phase m).pwm = .high ∧ (u.phase m).onAt = some (max s.now t) ∧ (u.phase m).lastOn = max s.now t ∧ (u.phase m).ramp = (s.phase m).rampNext ∧ (u.phase m).decCnt = (if (s.atTime t).decimation m ≤ (s.phase m).decCnt + 1 then 0 else (s.phase m).decCnt + 1) ∧ u.loops = s.loops) ∧
  (∀ (s : State) (t : Nat) (m : Fin 64) (n : Fin 16), s.swLoop m = some n → ((s.atTime t).phase m).onAt ≠ none → (s.phase m).lastOn + s.blankTime n m ≤ max s.now t → 
    ∃ u, exec (.comparatorTrip t m) s = .next u ∧ (u.phase m).pwm = .low ∧ (u.phase m).onAt = none ∧ (u.phase m).lastOff = max s.now t ∧ (u.phase m).maxOn = false) ∧
  (∀ (s : State) (t : Nat) (m : Fin 64) (n : Fin 16), s.swLoop m = some n → ((s.atTime t).phase m).onAt ≠ none → max s.now t < (s.phase m).lastOn + s.blankTime n m → 
    ∃ u, exec (.comparatorTrip t m) s = .next u ∧ (u.phase m).pwm = ((s.atTime t).phase m).pwm ∧ (u.phase m).endAt = some ((s.phase m).lastOn + s.blankTime n m)) ∧
  (∀ (s : State) (t : Nat) (m : Fin 64) (n : Fin 16), s.swLoop m = some n → ((s.atTime t).phase m).onAt ≠ none → s.kennel15 n = false → (s.phase m).lastOn + s.blankTime n m ≤ max s.now t → (s.atTime t).nextTurnOn n m ≤ max s.now t + Config.ns 40 → 
    ∃ u, exec (.pulseMaxEnd t m) s = .next u ∧ (u.phase m).pwm = .low ∧ (u.phase m).onAt = none ∧ (u.phase m).lastOff = max s.now t ∧ (u.phase m).maxOn = true) ∧
  (∀ (s : State) (t : Nat) (m : Fin 64), s.swLoop m ≠ none → (s.phase m).de = true → ((s.atTime t).phase m).pwm = .low → ((s.atTime t).phase m).onAt = none → ((s.atTime t).phase m).lastOff + Config.ns 20 ≤ max s.now t → 
    ∃ u, exec (.zeroCross t m) s = .next u ∧ u.phase m = ({ (s.atTime t).phase m with pwm := .mid } : PhaseState).settle (max s.now t) ∧ u.loops = s.loops)

/-- An ISC sample at its start slot stores the rounded estimate; a zero reference within the limit stores the offset and its time, one outside it leaves them; EST_STALE is raised when the estimate is too old; a Whisk turn records its time and, where no turn is permitted, plans nothing; a reference instant is that of the carrier cycle due and makes the next one due a period later; the end of a Whisk blank with no period left ends it. -/
def Obligations.SheddingCommands : Prop :=
  (∀ (s : State) (t : Nat) (m : Fin 64) (code : Int) (n : Fin 16), s.swLoop m = some n → (s.atTime t).iscStarts m = true → 
    ∃ u, exec (.iscSample t m code) s = .next u ∧ (u.phase m).phI = satS16 ((s.atTime t).estimate n m code (s.phase m).dueValley).roundEven ∧ (u.phase m).dueAt = none ∧ u.isc[iscOf m].startAt = some (max s.now t) ∧ u.loops = s.loops) ∧
  (∀ (s : State) (t : Nat) (n : Fin 16), s.up = true → (s.atTime t).estOld n = true → (s.loop n).mod.estStale = false → 
    ∃ u, exec (.estStale t n) s = .next u ∧ (u.loop n).mod.estStale = true) ∧
  (∀ (s : State) (t : Nat) (m : Fin 64) (c0 c1 c2 c3 : Int) (n : Fin 16), s.loopOf m = some n → (s.atTime t).zeroSource n m = true → let v := ((Frac.sum ([c0, c1, c2, c3].map (senseCode (s.monitor n m)))).mul ⟨1, 4⟩).sub (s.zeroLevel n m); (Frac.le ⟨-(if s.monitor n m then 30000 else 3000), 1⟩ v && v.le ⟨(if s.monitor n m then 30000 else 3000), 1⟩) = true → 
    ∃ u, exec (.zeroReference t m c0 c1 c2 c3) s = .next u ∧ (u.phase m).refAt = max s.now t ∧ (u.phase m).ofs = ((((Frac.sum ([c0, c1, c2, c3].map (senseCode (s.monitor n m)))).mul ⟨1, 4⟩).sub (s.zeroLevel n m)).mul ⟨8192, 1⟩).floor ∧ (u.phase m).pwm = ((s.atTime t).phase m).pwm) ∧
  (∀ (s : State) (t : Nat) (m : Fin 64) (c0 c1 c2 c3 : Int) (n : Fin 16), s.loopOf m = some n → (s.atTime t).zeroSource n m = true → let v := ((Frac.sum ([c0, c1, c2, c3].map (senseCode (s.monitor n m)))).mul ⟨1, 4⟩).sub (s.zeroLevel n m); (Frac.le ⟨-(if s.monitor n m then 30000 else 3000), 1⟩ v && v.le ⟨(if s.monitor n m then 30000 else 3000), 1⟩) = false → 
    ∃ u, exec (.zeroReference t m c0 c1 c2 c3) s = .next u ∧ (u.phase m).refAt = (s.phase m).refAt ∧ (u.phase m).ofs = (s.phase m).ofs ∧ u.loops = s.loops) ∧
  (∀ (s : State) (t : Nat) (n : Fin 16), s.st n = .regulate → (s.loop n).mod.turnAt + Config.ms (fld (s.lp n 0x23) 7 3) ≤ max s.now t → 
    ∃ u, exec (.whiskTurn t n) s = .next u ∧ (u.loop n).mod.turnAt = max s.now t ∧ (u.loop n).mod.sw = (s.loop n).mod.sw ∧ (s.turnPermitted n = false → (u.loop n).mod.swap = (s.loop n).mod.swap ∧ (u.loop n).mod.blank = (s.loop n).mod.blank)) ∧
  (∀ (s : State) (t : Nat) (n : Fin 16), s.up = true → s.kennel15 n = false → 0 < (s.loop n).mod.fc → carCeil (s.loop n).mod.refDue ≤ max s.now t → 
    ∃ u, exec (.referenceInstant t n) s = .next u ∧ (u.loop n).mod.refAt = (s.loop n).mod.refDue ∧ (u.loop n).mod.carAt = (s.loop n).mod.carAt + s.carPeriod n ∧ (u.loop n).mod.refDue = (s.loop n).mod.carAt + s.carPeriod n + s.angle n) ∧
  (∀ (s : State) (t : Nat) (n : Fin 16) (c0 c1 c2 c3 : Int) (m : Fin 64), (s.loop n).mod.blankOn = true → (s.loop n).mod.blankLeft = 0 → (s.st n).running = true → (s.loop n).mod.blank = some m → 
    ∃ u, exec (.whiskBlankEnd t n c0 c1 c2 c3) s = .next u ∧ (u.loop n).mod.blank = none ∧ (u.loop n).mod.blankOn = false)

/-- At a boundary, a loop that may start enters DELAY_ON; the end of its delay enters RAMP_UP; the end of the ramp and of a transition enter REGULATE; the end of the turn-off delay enters RAMP_DOWN with a fall time; the end of RAMP_DOWN enters DELAY_OFF and 10 us later OFF, its phases at mid-level. A SETPT reading places VMIN plus its part of VMAX less VMIN in the loops of its input and kind that are not lost, where it differs from the value held by 4 codes or more; a pulse train without an edge for 10 ms marks the loops that follow it as lost; the loss of a Heel master is noted and raises a fault. -/
def Obligations.LoopStateCommands : Prop :=
  (∀ (s : State) (t : Nat) (n : Fin 16), (s.atTime t).mayStart n = true → 
    ∃ u, exec (.delayOnEntry t n) s = .next u ∧ u.st n = .delayOn ∧ (u.loop n).sp.since = max s.now t) ∧
  (∀ (s : State) (t : Nat) (n : Fin 16), s.st n = .delayOn → (s.atTime t).isBoundary n = true → s.runEnabled n = true → s.kennel15 n = false → (s.loop n).sp.since + (s.loop n).sp.wait ≤ max s.now t → 
    ∃ u, exec (.delayOnEnd t n) s = .next u ∧ u.st n = .rampUp ∧ (u.loop n).sp.startAt = max s.now t ∧ (u.loop n).sp.dur = twDur (s.lp n 7)) ∧
  (∀ (s : State) (t : Nat) (n : Fin 16), s.st n = .rampUp → (s.atTime t).isBoundary n = true → s.runEnabled n = true → s.kennel15 n = false → s.isHeel n = false → (s.loop n).sp.startAt + (s.loop n).sp.dur ≤ max s.now t → 
    ∃ u, exec (.rampUpEnd t n) s = .next u ∧ u.st n = .regulate ∧ (u.loop n).sp.since = max s.now t ∧ (u.loop n).sp.to_ = vrefWord ((s.atTime t).refNow n)) ∧
  (∀ (s : State) (t : Nat) (n : Fin 16), s.st n = .transition → (s.atTime t).isBoundary n = true → (s.loop n).sp.offPending = none → (((s.atTime t).refNow n).le ⟨(s.loop n).sp.to_.toNat, 1⟩ && Frac.le ⟨(s.loop n).sp.to_.toNat, 1⟩ ((s.atTime t).refNow n)) = true → 
    ∃ u, exec (.transitionEnd t n) s = .next u ∧ u.st n = .regulate ∧ (u.loop n).sp.to_ = vrefWord ((s.atTime t).refNow n) ∧ (u.loop n).sp.since = max s.now t) ∧
  (∀ (s : State) (t : Nat) (n : Fin 16) (a : Nat), (s.st n = .regulate ∨ s.st n = .transition) → (s.atTime t).isBoundary n = true → s.runEnabled n = false → (s.loop n).sp.offPending = some a → a + (s.loop n).sp.wait ≤ max s.now t → twDur (s.lp n 9) ≠ 0 → 
    ∃ u, exec (.turnOffDelayEnd t n) s = .next u ∧ u.st n = .rampDown ∧ (u.loop n).sp.from_ = vrefWord ((s.atTime t).refNow n) ∧ (u.loop n).sp.dur = twDur (s.lp n 9) ∧ (u.loop n).sp.offPending = none) ∧
  (∀ (s : State) (t : Nat) (n : Fin 16), s.st n = .rampDown → (s.atTime t).isBoundary n = true → ((s.atTime t).refNow n).le ⟨0, 1⟩ = true → ((s.loop n).sp.down ≠ .heel ∨ (s.atTime t).heelDone n = true) → 
    ∃ u, exec (.rampDownEnd t n) s = .next u ∧ u.st n = .delayOff ∧ (u.loop n).mod.sw = [] ∧ (u.loop n).sp.since = max s.now t) ∧
  (∀ (s : State) (t : Nat) (n : Fin 16), s.st n = .delayOff → (s.atTime t).isBoundary n = true → (s.loop n).prt.latch = false → (s.loop n).sp.since + Config.us 10 ≤ max s.now t → 
    ∃ u, exec (.delayOffEnd t n) s = .next u ∧ u.st n = .off ∧ (u.loop n).mod.sw = [] ∧ (u.loop n).eng.halved = false ∧ (∀ m : Fin 64, s.mapped n m = true → (u.phase m).pwm = .mid)) ∧
  (∀ (s : State) (t : Nat) (k : Fin 4) (pulse : Bool) (xs : List (Nat × Nat)), s.up = true → setptOk pulse xs = true → 
    ∃ u, exec (.setptUpdate t k pulse xs) s = .next u ∧ (∀ n : Fin 16, fld (s.lp n 3) 2 0 = (if pulse then 3 else 2) → fld (s.lp n 3) 5 4 = k.val → (pulse = false ∨ (s.loop n).sp.spLost = false) → (u.loop n).sp.spLost = false ∧ (u.loop n).sp.spVal = some (if 4 ≤ (((⟨(s.lp n 2).toNat, 1⟩ : Frac).add (((⟨(s.lp n 1).toNat, 1⟩ : Frac).sub ⟨(s.lp n 2).toNat, 1⟩).mul (setptMean xs))).roundUp - ((s.loop n).sp.spVal.getD (s.lp n 2)).toNat).natAbs then satU16 ((⟨(s.lp n 2).toNat, 1⟩ : Frac).add (((⟨(s.lp n 1).toNat, 1⟩ : Frac).sub ⟨(s.lp n 2).toNat, 1⟩).mul (setptMean xs))).roundUp else (s.loop n).sp.spVal.getD (s.lp n 2))) ∧ (∀ n : Fin 16, (fld (s.lp n 3) 2 0 ≠ (if pulse then 3 else 2) ∨ fld (s.lp n 3) 5 4 ≠ k.val) → u.loop n = s.loop n) ∧ (pulse = true → u.pins.setEdge[k] = max s.now t)) ∧
  (∀ (s : State) (t : Nat) (k : Fin 4) (edge : Nat), s.up = true → s.pins.setEdge[k] ≤ edge → edge + Config.ms 10 ≤ max s.now t → 
    ∃ u, exec (.spLost t ⟨k, edge⟩) s = .next u ∧ (∀ n : Fin 16, fld (s.lp n 3) 2 0 = 3 → fld (s.lp n 3) 5 4 = k.val → (u.loop n).sp.spLost = true ∧ (u.loop n).sp.spLostAt = max s.now t) ∧ (∀ n : Fin 16, (fld (s.lp n 3) 2 0 ≠ 3 ∨ fld (s.lp n 3) 5 4 ≠ k.val) → u.loop n = s.loop n)) ∧
  (∀ (s : State) (t : Nat) (n : Fin 16), s.up = true → s.follows n = true → ((s.st n).running || decide (s.st n = .delayOn)) = true → (s.loop n).sp.heelLost = false → ((s.atTime t).master n).lost = true → (s.atTime t).isBoundary n = true → 
    ∃ u, exec (.heelLoss t n) s = .next u ∧ (u.loop n).sp.heelLost = true ∧ (u.loop n).prt.raised.length = (s.loop n).prt.raised.length + 1)

/-- A valid new request on a linked port is answered at once: PING with its payload, SETV of a new target with ACCEPTED and a pending target, SETSLEW, SETLL, HINT and FRAME with DONE and their effect, each GET with its value, a reserved opcode with status 7; the response is stored for a repeat. -/
def Obligations.AcpRequestCommands : Prop :=
  (∀ (s : State) (t : Nat) (p : Fin 8) (req : W32) (took : Nat), s.acpOn p = true → fld req 29 25 = 0 → acpValid req = true → s.chw.armed = false → (s.port p).link = .up → (s.port p).last = none → (s.port p).dioLow = false → req ≠ 0 → (s.port p).doneAt ≤ max s.now t → 
    ∃ u, exec (.acpPing t p ⟨req, took⟩) s = .next u ∧ (u.port p).dio = some (acpFrame 0 (bitAt req 24) (w16 (fld req 23 8))) ∧ (u.port p).last = some (fld req 31 8, acpFrame 0 (bitAt req 24) (w16 (fld req 23 8))) ∧ u.loops = s.loops) ∧
  (∀ (s : State) (t : Nat) (p : Fin 8) (req : W32) (took : Nat) (n : Fin 16), s.acpOn p = true → fld req 29 25 = 1 → acpValid req = true → s.chw.armed = false → (s.port p).link = .up → (s.port p).last = none → (s.port p).dioLow = false → req ≠ 0 → (s.port p).doneAt ≤ max s.now t → s.acpLoop p (fld req 31 30) = some n → s.acpNeeds n 1 = true → s.acpRange p n 1 (w16 (fld req 23 8)) = none → (s.loop n).acp.moving = false → w16 (fld req 23 8) ≠ s.acpTarget n → 
    ∃ u, exec (.acpSetv t p ⟨req, took⟩) s = .next u ∧ (u.port p).dio = some (acpFrame 1 (bitAt req 24) (w16 (fld req 23 8))) ∧ (u.port p).last = some (fld req 31 8, acpFrame 1 (bitAt req 24) (w16 (fld req 23 8))) ∧ (u.loop n).acp.tgtPend = some (w16 (fld req 23 8), max s.now t) ∧ (u.loop n).acp.moving = true) ∧
  (∀ (s : State) (t : Nat) (p : Fin 8) (req : W32) (took : Nat) (n : Fin 16), s.acpOn p = true → fld req 29 25 = 2 → acpValid req = true → s.chw.armed = false → (s.port p).link = .up → (s.port p).last = none → (s.port p).dioLow = false → req ≠ 0 → (s.port p).doneAt ≤ max s.now t → s.acpLoop p (fld req 31 30) = some n → bitAt (s.acpW p 0) 4 = true → s.acpNeeds n 2 = true → s.acpRange p n 2 (w16 (fld req 23 8)) = none → 
    ∃ u, exec (.acpSetslew t p ⟨req, took⟩) s = .next u ∧ (u.port p).dio = some (acpFrame 0 (bitAt req 24) (w16 (fld req 23 8))) ∧ (u.port p).last = some (fld req 31 8, acpFrame 0 (bitAt req 24) (w16 (fld req 23 8))) ∧ (u.loop n).acp.slew = some (w16 (fld req 23 8))) ∧
  (∀ (s : State) (t : Nat) (p : Fin 8) (req : W32) (took : Nat) (n : Fin 16), s.acpOn p = true → fld req 29 25 = 3 → acpValid req = true → s.chw.armed = false → (s.port p).link = .up → (s.port p).last = none → (s.port p).dioLow = false → req ≠ 0 → (s.port p).doneAt ≤ max s.now t → s.acpLoop p (fld req 31 30) = some n → bitAt (s.acpW p 0) 2 = true → s.acpNeeds n 3 = true → s.acpRange p n 3 (w16 (fld req 23 8)) = none → 
    ∃ u, exec (.acpSetll t p ⟨req, took⟩) s = .next u ∧ (u.port p).dio = some (acpFrame 0 (bitAt req 24) (w16 (fld req 23 8))) ∧ (u.port p).last = some (fld req 31 8, acpFrame 0 (bitAt req 24) (w16 (fld req 23 8))) ∧ (u.loop n).acp.llPend = some (w16 (fld req 23 8), max s.now t)) ∧
  (∀ (s : State) (t : Nat) (p : Fin 8) (req : W32) (took : Nat) (n : Fin 16), s.acpOn p = true → fld req 29 25 = 4 → acpValid req = true → s.chw.armed = false → (s.port p).link = .up → (s.port p).last = none → (s.port p).dioLow = false → req ≠ 0 → (s.port p).doneAt ≤ max s.now t → s.acpLoop p (fld req 31 30) = some n → bitAt (s.acpW p 0) 3 = true → s.acpNeeds n 4 = true → s.acpRange p n 4 (w16 (fld req 23 8)) = none → 
    ∃ u, exec (.acpHint t p ⟨req, took⟩) s = .next u ∧ (u.port p).dio = some (acpFrame 0 (bitAt req 24) (w16 (fld req 23 8))) ∧ (u.port p).last = some (fld req 31 8, acpFrame 0 (bitAt req 24) (w16 (fld req 23 8))) ∧ (u.loop n).acp.hintPend = some (fld req 23 8)) ∧
  (∀ (s : State) (t : Nat) (p : Fin 8) (req : W32) (took : Nat) (n : Fin 16), s.acpOn p = true → fld req 29 25 = 5 → acpValid req = true → s.chw.armed = false → (s.port p).link = .up → (s.port p).last = none → (s.port p).dioLow = false → req ≠ 0 → (s.port p).doneAt ≤ max s.now t → s.acpLoop p (fld req 31 30) = some n → s.lyrOn n = false → 
    ∃ u, exec (.acpFrame t p ⟨req, took⟩) s = .next u ∧ (u.port p).dio = some (acpFrame 0 (bitAt req 24) (w16 (fld req 23 8))) ∧ (u.port p).last = some (fld req 31 8, acpFrame 0 (bitAt req 24) (w16 (fld req 23 8))) ∧ u.loop n = { s.loop n with acp := { (s.loop n).acp with frameAt := some ((s.atTime t).frameTime (w16 (fld req 23 8))) } }) ∧
  (∀ (s : State) (t : Nat) (p : Fin 8) (req : W32) (took : Nat) (n : Fin 16), s.acpOn p = true → fld req 29 25 = 6 → acpValid req = true → s.chw.armed = false → (s.port p).link = .up → (s.port p).last = none → (s.port p).dioLow = false → req ≠ 0 → (s.port p).doneAt ≤ max s.now t → s.acpLoop p (fld req 31 30) = some n → 
    ∃ u, exec (.acpGetv t p ⟨req, took⟩) s = .next u ∧ (u.port p).dio = some (acpFrame 0 (bitAt req 24) ((s.loop n).sense.vout)) ∧ (u.port p).last = some (fld req 31 8, acpFrame 0 (bitAt req 24) ((s.loop n).sense.vout)) ∧ u.loops = s.loops) ∧
  (∀ (s : State) (t : Nat) (p : Fin 8) (req : W32) (took : Nat) (n : Fin 16), s.acpOn p = true → fld req 29 25 = 7 → acpValid req = true → s.chw.armed = false → (s.port p).link = .up → (s.port p).last = none → (s.port p).dioLow = false → req ≠ 0 → (s.port p).doneAt ≤ max s.now t → s.acpLoop p (fld req 31 30) = some n → 
    ∃ u, exec (.acpGeti t p ⟨req, took⟩) s = .next u ∧ (u.port p).dio = some (acpFrame 0 (bitAt req 24) ((s.loop n).mod.iout)) ∧ (u.port p).last = some (fld req 31 8, acpFrame 0 (bitAt req 24) ((s.loop n).mod.iout)) ∧ u.loops = s.loops) ∧
  (∀ (s : State) (t : Nat) (p : Fin 8) (req : W32) (took : Nat) (n : Fin 16), s.acpOn p = true → fld req 29 25 = 8 → acpValid req = true → s.chw.armed = false → (s.port p).link = .up → (s.port p).last = none → (s.port p).dioLow = false → req ≠ 0 → (s.port p).doneAt ≤ max s.now t → s.acpLoop p (fld req 31 30) = some n → 
    ∃ u, exec (.acpGetstat t p ⟨req, took⟩) s = .next u ∧ (u.port p).dio = some (acpFrame 0 (bitAt req 24) (s.acpStatWord n)) ∧ (u.port p).last = some (fld req 31 8, acpFrame 0 (bitAt req 24) (s.acpStatWord n)) ∧ (u.port p).report = some (n, (s.loop n).acp.arrived, (s.loop n).acp.faulted) ∧ u.loops = s.loops) ∧
  (∀ (s : State) (t : Nat) (p : Fin 8) (req : W32) (took : Nat) (n : Fin 16), s.acpOn p = true → fld req 29 25 = 9 → acpValid req = true → s.chw.armed = false → (s.port p).link = .up → (s.port p).last = none → (s.port p).dioLow = false → req ≠ 0 → (s.port p).doneAt ≤ max s.now t → s.acpLoop p (fld req 31 30) = some n → 
    ∃ u, exec (.acpGettemp t p ⟨req, took⟩) s = .next u ∧ (u.port p).dio = some (acpFrame 0 (bitAt req 24) (s.acpTemp p)) ∧ (u.port p).last = some (fld req 31 8, acpFrame 0 (bitAt req 24) (s.acpTemp p)) ∧ u.loops = s.loops) ∧
  (∀ (s : State) (t : Nat) (p : Fin 8) (req : W32) (took : Nat) (n : Fin 16), s.acpOn p = true → fld req 29 25 = 10 → acpValid req = true → s.chw.armed = false → (s.port p).link = .up → (s.port p).last = none → (s.port p).dioLow = false → req ≠ 0 → (s.port p).doneAt ≤ max s.now t → s.acpLoop p (fld req 31 30) = some n → 
    ∃ u, exec (.acpGetref t p ⟨req, took⟩) s = .next u ∧ (u.port p).dio = some (acpFrame 0 (bitAt req 24) (s.vrefNow n)) ∧ (u.port p).last = some (fld req 31 8, acpFrame 0 (bitAt req 24) (s.vrefNow n)) ∧ u.loops = s.loops) ∧
  (∀ (s : State) (t : Nat) (p : Fin 8) (req : W32) (took : Nat) (n : Fin 16), s.acpOn p = true → fld req 29 25 = 11 → acpValid req = true → s.chw.armed = false → (s.port p).link = .up → (s.port p).last = none → (s.port p).dioLow = false → req ≠ 0 → (s.port p).doneAt ≤ max s.now t → s.acpLoop p (fld req 31 30) = some n → 
    ∃ u, exec (.acpGetflt t p ⟨req, took⟩) s = .next u ∧ (u.port p).dio = some (acpFrame 0 (bitAt req 24) (w16 (fld (s.loop n).prt.fltFirst 7 0))) ∧ (u.port p).last = some (fld req 31 8, acpFrame 0 (bitAt req 24) (w16 (fld (s.loop n).prt.fltFirst 7 0))) ∧ u.loops = s.loops) ∧
  (∀ (s : State) (t : Nat) (p : Fin 8) (req : W32) (took : Nat), s.acpOn p = true → 12 ≤ fld req 29 25 → acpValid req = true → s.chw.armed = false → (s.port p).link = .up → (s.port p).last = none → (s.port p).dioLow = false → req ≠ 0 → (s.port p).doneAt ≤ max s.now t → 
    ∃ u, exec (.acpReservedOp t p ⟨req, took⟩) s = .next u ∧ (u.port p).dio = some (acpFrame 7 (bitAt req 24) (w16 (fld req 29 25))) ∧ (u.port p).last = some (fld req 31 8, acpFrame 7 (bitAt req 24) (w16 (fld req 29 25))) ∧ u.loops = s.loops ∧ (u.port p).evt = (s.port p).evt ||| 8)

/-- The end of a GETSTAT response clears the latches it reported; an abort drops the response; DIO_LOW clears with its run; a pending target or load line is taken at a boundary 500 ns later; arrival sets the latch; a loss of the clock marks the port LOST, and LINKLOSS action 2 turns a running loop off; a write of EVT clears its bits and, with bit 15, the counts. -/
def Obligations.AcpPortCommands : Prop :=
  (∀ (s : State) (t : Nat) (p : Fin 8) (n : Fin 16) (ra rf : Bool), s.acpOn p = true → (s.port p).report = some (n, ra, rf) → (s.port p).dio ≠ none → (s.port p).doneAt ≤ max s.now t → 
    ∃ u, exec (.getstatResponseEnd t p) s = .next u ∧ (u.port p).report = none ∧ (u.port p).dio = none ∧ (u.loop n).acp.arrived = ((s.loop n).acp.arrived && !ra) ∧ (u.loop n).acp.faulted = ((s.loop n).acp.faulted && !rf)) ∧
  (∀ (s : State) (t : Nat) (p : Fin 8), s.acpOn p = true → 
    ∃ u, exec (.acpAbort t p) s = .next u ∧ (u.port p).dio = none ∧ (u.port p).report = none ∧ u.loops = s.loops) ∧
  (∀ (s : State) (t : Nat) (p : Fin 8), s.acpOn p = true → (s.port p).dioLow = true → 
    ∃ u, exec (.dioLowClear t p) s = .next u ∧ u.port p = { s.port p with dioLow := false, lowRun := 0, clkAt := some (max s.now t) }) ∧
  (∀ (s : State) (t : Nat) (n : Fin 16) (v : W16) (a : Nat), s.up = true → (s.atTime t).isBoundary n = true → (s.loop n).acp.tgtPend = some (v, a) → a + Config.ns 500 ≤ max s.now t → 
    ∃ u, exec (.acpTargetApply t n) s = .next u ∧ u.loop n = { s.loop n with acp := { (s.loop n).acp with target := v, tgtPend := none, slewOwn := false } }) ∧
  (∀ (s : State) (t : Nat) (n : Fin 16) (v : W16) (a : Nat), s.up = true → (s.atTime t).isBoundary n = true → (s.loop n).acp.llPend = some (v, a) → a + Config.ns 500 ≤ max s.now t → 
    ∃ u, exec (.acpLlApply t n) s = .next u ∧ u.loop n = { s.loop n with acp := { (s.loop n).acp with ll := some v, llPend := none } }) ∧
  (∀ (s : State) (t : Nat) (n : Fin 16) (a : Nat), s.up = true → s.acpBound n = true → (s.loop n).acp.moving = true → s.atTarget n = true → (s.loop n).acp.holdFrom = some a → a + twDur (s.acpW (s.portOf n) 3) ≤ max s.now t → 
    ∃ u, exec (.arrival t n) s = .next u ∧ (u.loop n).acp.moving = false ∧ (u.loop n).acp.arrived = true ∧ (u.port (s.portOf n)).evt = (s.port (s.portOf n)).evt ||| 2 ^ 4) ∧
  (∀ (s : State) (t : Nat) (p : Fin 8), s.up = true → bitAt (s.acpW p 0) 0 = true → (s.port p).link = .up → (s.port p).linkAt + twDur (s.acpW p 1) ≤ max s.now t → 
    ∃ u, exec (.acpLoss t p) s = .next u ∧ (u.port p).link = .lost ∧ (u.port p).losses = inc8 (s.port p).losses ∧ (u.port p).last = none ∧ (u.port p).evt = (s.port p).evt ||| 2 ^ 0) ∧
  (∀ (s : State) (t : Nat) (n : Fin 16), s.up = true → (s.st n).running = true → (s.loop n).acp.lossPend = true → (s.loop n).acp.moving = false → fld (s.lp n 0x2C) 1 0 = 2 → 
    ∃ u, exec (.linklossAction t n) s = .next u ∧ (u.loop n).acp.lossOff = true ∧ (u.loop n).acp.lossPend = false) ∧
  (∀ (s : State) (t : Nat) (p : Fin 8) (w : W16), s.window = true → bitAt w 15 = true → 
    ∃ u, exec (.acpEvtClear t p w) s = .next u ∧ (u.port p).evt = fld (w16 (s.port p).evt &&& ~~~w) 5 0 ∧ (u.port p).crcCnt = 0 ∧ (u.port p).reqCnt = 0)

/-- A strobe edge sets its pin and leaves every loop without Layer alone; a missed mark counts and the second in a row leads back to SEEK; the end of an automatic window empties it; a due chunk is updated and becomes valid. -/
def Obligations.LayerCommands : Prop :=
  (∀ (s : State) (t : Nat) (pin : Fin 24) (falling : Bool), s.up = true → s.power.vddioL = true → 
    ∃ u, exec (.layerStrobeEdge t pin falling) s = .next u ∧ u.pins.gpio[pin] = !falling ∧ (∀ n : Fin 16, s.lyrOn n = false → u.loop n = s.loop n)) ∧
  (∀ (s : State) (t : Nat) (n : Fin 16), s.up = true → (s.loop n).lyr.st = .locked → (s.lyrSrc n = 1 ∨ s.lyrSrc n = 2) → (s.atTime t).isBoundary n = true → (s.atTime t).unsampled n = true → (s.loop n).lyr.zeroNext = false → (s.loop n).lyr.n = s.lyrP n + s.lyrWin n → 
    ∃ u, exec (.layerMiss t n) s = .next u ∧ (u.loop n).lyr.misses = ((s.loop n).lyr.misses + 1) % 256 ∧ ((s.loop n).lyr.missRun = 0 → (u.loop n).lyr.st = .locked ∧ (u.loop n).lyr.missRun = 1) ∧ (1 ≤ (s.loop n).lyr.missRun → (u.loop n).lyr.st = .seek)) ∧
  (∀ (s : State) (t : Nat) (n : Fin 16), (s.loop n).lyr.st = .seek → s.lyrSrc n = 3 → 8 * s.lyrNom n ≤ (s.loop n).lyr.window.length → 
    ∃ u, exec (.layerAutoWindowEnd t n) s = .next u ∧ (u.loop n).lyr.window = []) ∧
  (∀ (s : State) (t : Nat) (n : Fin 16), s.chunkDue n = true → 
    ∃ u, exec (.layerChunkUpdate t n) s = .next u ∧ (u.loop n).lyr.updChunk = (s.loop n).lyr.updChunk + 1 ∧ (u.loop n).lyr.valid = (s.loop n).lyr.valid ||| BitVec.ofNat 128 (2 ^ (s.loop n).lyr.updChunk) ∧ (u.loop n).sense = (s.loop n).sense)

/-- An OV trip of an enabled loop marks OV and raises 0x01 with VOUT; UV and OC_TOTAL, once their times have run, raise 0x02 and 0x04; an OC trip ends the pulse and a negative trip puts the pin at mid-level, and each counts, raising 0x03 or 0x05 at its count; VIN conditions of an armed loop raise 0x07 and 0x08; an over-temperature entry starts and ends. -/
def Obligations.FaultRaiseCommands : Prop :=
  (∀ (s : State) (t : Nat) (n : Fin 16), s.up = true → s.psEnHigh n = true → s.kennel15 n = false → (s.loop n).prt.ov = false → 
    ∃ u, exec (.ovTrip t n) s = .next u ∧ (u.loop n).prt.ov = true ∧ (u.loop n).prt.raised = (s.loop n).prt.raised ++ [{ code := 1, value := (s.loop n).sense.vout, ph := [], at_ := (s.atTime t).devTime }] ∧ u.st n = s.st n) ∧
  (∀ (s : State) (t : Nat) (n : Fin 16) (a : Nat), s.up = true → (s.st n = .regulate ∨ s.st n = .transition) → (s.loop n).prt.uvRaised = false → (s.loop n).prt.uvFrom = some a → a + twDur (s.pg 2 4) ≤ max s.now t → 
    ∃ u, exec (.uv t n) s = .next u ∧ (u.loop n).prt.uvRaised = true ∧ (u.loop n).prt.raised = (s.loop n).prt.raised ++ [{ code := 2, value := (s.loop n).sense.vout, ph := [], at_ := (s.atTime t).devTime }]) ∧
  (∀ (s : State) (t : Nat) (n : Fin 16) (a : Nat), s.up = true → (s.st n).running = true → (s.loop n).prt.octRaised = false → (s.loop n).prt.octFrom = some a → a + twDur (s.pg 2 5) ≤ max s.now t → 
    ∃ u, exec (.ocTotal t n) s = .next u ∧ (u.loop n).prt.octRaised = true ∧ (u.loop n).prt.raised = (s.loop n).prt.raised ++ [{ code := 4, value := (s.loop n).mod.iout, ph := [], at_ := (s.atTime t).devTime }]) ∧
  (∀ (s : State) (t : Nat) (m : Fin 64) (n : Fin 16), s.swLoop m = some n → s.kennel15 n = false → ((s.atTime t).phase m).onAt ≠ none → (s.phase m).lastOn + s.blankTime n m ≤ max s.now t → (s.phase m).ocpTrip = false → 
    ∃ u, exec (.ocpTrip t m) s = .next u ∧ (u.phase m).pwm = .low ∧ (u.phase m).onAt = none ∧ (u.phase m).ocpTrip = true ∧ (u.phase m).ocpRun = (s.phase m).ocpRun + 1 ∧ (u.loop n).prt.raised = (s.loop n).prt.raised ++ (if (s.phase m).ocpRun + 1 = 2 ^ fld (s.pg 2 7) 2 0 then [{ code := 3, value := w16 m.val, ph := [m], at_ := (s.atTime t).devTime }] else [])) ∧
  (∀ (s : State) (t : Nat) (m : Fin 64) (n : Fin 16), s.swLoop m = some n → (s.phase m).de = false → ((s.atTime t).phase m).pwm = .low → ((s.atTime t).phase m).onAt = none → (s.phase m).negTrip = false → s.kennel15 n = false → fld (s.ph n m 3) 15 10 ≠ 0 → ((s.atTime t).phase m).lastOff + Config.ns 20 ≤ max s.now t → 
    ∃ u, exec (.negTrip t m) s = .next u ∧ (u.phase m).pwm = .mid ∧ (u.phase m).negTrip = true ∧ (u.phase m).negRun = (s.phase m).negRun + 1 ∧ (u.loop n).prt.raised = (s.loop n).prt.raised ++ (if (s.phase m).negRun + 1 = 2 ^ fld (s.pg 2 7) 6 4 then [{ code := 5, value := w16 m.val, ph := [m], at_ := (s.atTime t).devTime }] else [])) ∧
  (∀ (s : State) (t : Nat) (n : Fin 16) (a : Nat), s.up = true → bitAt (s.lp n 0x2A) 15 = true → (s.loop n).prt.vinUv = false → (s.loop n).prt.vinUvFrom = some a → a + twDur (s.pg 2 6) ≤ max s.now t → s.vinArmed n = true → (s.atTime t).vinOf n ≠ none → 
    ∃ u, exec (.vinUv t n) s = .next u ∧ (u.loop n).prt.vinUv = true ∧ (u.loop n).prt.raised = (s.loop n).prt.raised ++ [{ code := 7, value := (s.loop n).prt.vin.getD 0, ph := [], at_ := (s.atTime t).devTime }]) ∧
  (∀ (s : State) (t : Nat) (n : Fin 16) (a : Nat), s.up = true → bitAt (s.lp n 0x2A) 15 = true → (s.loop n).prt.vinOv = false → (s.loop n).prt.vinOvFrom = some a → a + twDur (s.pg 2 6) ≤ max s.now t → s.vinArmed n = true → (s.atTime t).vinOf n ≠ none → 
    ∃ u, exec (.vinOv t n) s = .next u ∧ (u.loop n).prt.vinOv = true ∧ (u.loop n).prt.raised = (s.loop n).prt.raised ++ [{ code := 8, value := (s.loop n).prt.vin.getD 0, ph := [], at_ := (s.atTime t).devTime }]) ∧
  (∀ (s : State) (t : Nat) (k : Fin 6) (v : W16), s.up = true → s.prot.ot[k].cond = false → (s.atTime t).otTemp k = some v → s.otLimit k ≤ v.toInt → 
    ∃ u, exec (.otOnset t k) s = .next u ∧ u.prot.ot[k].cond = true ∧ u.phases = s.phases) ∧
  (∀ (s : State) (t : Nat) (k : Fin 6) (v : W16), s.up = true → s.prot.ot[k].cond = true → (s.atTime t).otTemp k = some v → v.toInt ≤ s.otLow k → 
    ∃ u, exec (.otEnd t k) s = .next u ∧ u.prot.ot[k].cond = false ∧ (∀ m : Fin 64, Removal.ot k ∉ (u.phase m).removed))

/-- At the boundary a raised fault is acted on and leaves the list, a running loop being latched where the strongest action is LATCH; an over-current phase given in a removed-phases write returns; a hiccup ends in a retry after its time, and the count clears after 100 ms of REGULATE; W_FLT_CLR clears the first fault and the retries of its loops; FAULT_N is released 20 us after the last selected condition; FAULT_IN is noted and released. -/
def Obligations.FaultActionCommands : Prop :=
  (∀ (s : State) (t : Nat) (n : Fin 16), s.up = true → (s.atTime t).isBoundary n = true → (s.loop n).prt.raised ≠ [] → (s.st n).running = true → (s.actions n (sortRaised (s.loop n).prt.raised)).foldl (fun (m : Nat) (a : Acted) => max m a.2) 0 = 4 → 
    ∃ u, exec (.faultAction t n) s = .next u ∧ (u.loop n).prt.raised = [] ∧ u.st n = .latched) ∧
  (∀ (s : State) (t : Nat) (k : Fin 4) (w : W16), s.window = true → 
    ∃ u, exec (.phaseReturn t k w) s = .next u ∧ (∀ m : Fin 64, m.val / 16 = k.val → bitAt w (m.val % 16) = true → Removal.oc ∉ (u.phase m).removed) ∧ (∀ m : Fin 64, m.val / 16 ≠ k.val → (u.phase m).removed = (s.phase m).removed)) ∧
  (∀ (s : State) (t : Nat) (n : Fin 16), s.up = true → s.st n = .hiccupWait → (s.atTime t).isBoundary n = true → s.enabled n = true → (s.atTime t).heldOff n = false → (s.loop n).sp.since + Config.ms (fld (s.lp n 0x29) 11 0) ≤ max s.now t → 
    ∃ u, exec (.hiccupRetry t n) s = .next u ∧ u.st n = .delayOn ∧ (u.loop n).prt.retries = (s.loop n).prt.retries) ∧
  (∀ (s : State) (t : Nat) (n : Fin 16), s.st n = .regulate → 0 < (s.loop n).prt.retries → (s.loop n).sp.since + Config.ms 100 ≤ max s.now t → 
    ∃ u, exec (.hiccupCountClear t n) s = .next u ∧ u.loop n = { s.loop n with prt := { (s.loop n).prt with retries := 0 } }) ∧
  (∀ (s : State) (t : Nat) (w : W16), s.window = true → 
    ∃ u, exec (.fltClr t w) s = .next u ∧ (∀ n : Fin 16, bitAt w n.val = true → (u.loop n).prt.fltFirst = 0 ∧ (u.loop n).prt.retries = 0) ∧ (∀ n : Fin 16, bitAt w n.val = false → u.loop n = s.loop n)) ∧
  (∀ (s : State) (t : Nat) (a : Nat), s.faultSelected = false → s.prot.fltDrive = some a → a + Config.us 20 ≤ max s.now t → 
    ∃ u, exec (.faultNRelease t) s = .next u ∧ u = { s.atTime t with prot := { s.prot with fltDrive := none } }) ∧
  (∀ (s : State) (t : Nat), s.power.vaux = true → s.prot.fltDrive = none → s.prot.finOnset = false → s.up = true → 
    ∃ u, exec (.faultIn t) s = .next u ∧ u.prot.fltLow = true ∧ u.prot.finOnset = true ∧ u.prot.finCount = inc8 s.prot.finCount ∧ u.power = s.power) ∧
  (∀ (s : State) (t : Nat), s.prot.fltDrive = none → s.prot.fltLow = true → 
    ∃ u, exec (.faultInHoldEnd t) s = .next u ∧ u.prot.fltLow = false ∧ u.prot.finOnset = false ∧ u.prot.finHold = false ∧ (∀ n : Fin 16, (u.loop n).prt.finHold = false))

/-- A sync field in LISTEN is taken, a second consecutive one leads to FOLLOW; four missed lead back to LISTEN and count; a hold-off that ends leads to LEAD where the device may keep time, and starts afresh elsewhere; an epoch of the timebase advances the count; a claim leads at its handover; a jabber cut isolates and counts; a Nap burst opens, a missed one waits, and the orphan hold-off starts; LSH.CLR clears the counters. -/
def Obligations.LeashLinkCommands : Prop :=
  (∀ (s : State) (t : Nat) (p : Fin 8) (count : W16), s.up = true → s.lsh.link = .listen → 
    ∃ u, exec (.syncFieldReceived t p count) s = .next u ∧ u.lsh.syncAt = some (max s.now t) ∧ u.lsh.fcount = count.toNat ∧ u.lsh.missed = 0 ∧ u.lsh.link = (if (s.atTime t).consecutive count.toNat then .follow else .listen)) ∧
  (∀ (s : State) (t : Nat), s.up = true → s.lsh.link = .follow → 4 ≤ s.lsh.missed → 
    ∃ u, exec (.syncLoss t) s = .next u ∧ u.lsh.link = .listen ∧ u.lsh.syncLoss = inc16 s.lsh.syncLoss ∧ u.lsh.holdFrom = max s.now t) ∧
  (∀ (s : State) (t : Nat), s.up = true → s.lsh.link = .listen → s.lsh.holdFrom + s.holdoff ≤ max s.now t → s.tkEn = true → (s.lsh.err = .active ∨ s.lsh.err = .wary) → s.lsh.orphan = false → 
    ∃ u, exec (.holdoffExpire t) s = .next u ∧ u.lsh.link = .lead ∧ u.lsh.tk = s.pos ∧ u.lsh.claim = none) ∧
  (∀ (s : State) (t : Nat), s.up = true → s.lsh.link = .listen → s.lsh.holdFrom + s.holdoff ≤ max s.now t → s.tkEn = false → 
    ∃ u, exec (.holdoffExpire t) s = .next u ∧ u.lsh.link = .listen ∧ u.lsh.holdFrom = max s.now t) ∧
  (∀ (s : State) (t : Nat), s.booted = true → s.stb.due ≤ max s.now t → s.stb.src = .osc → 
    ∃ u, exec (.stbEpoch t) s = .next u ∧ u.stb.count = (s.stb.count + 1) % 65536 ∧ u.stb.at_ = s.stb.due ∧ u.stb.align = (s.stb.align || decide ((s.stb.count + 1) % 65536 % 100 = 0))) ∧
  (∀ (s : State) (t : Nat) (heard : Bool), s.up = true → s.lsh.link = .follow → s.lsh.claim = some s.stb.count → 
    ∃ u, exec (.handover t heard) s = .next u ∧ u.lsh.link = .lead ∧ u.lsh.tk = s.pos ∧ u.lsh.claim = none ∧ u.lsh.fcount = s.stb.count) ∧
  (∀ (s : State) (t : Nat), s.up = true → s.lsh.link ≠ .off → s.lsh.jabCut = false → 
    ∃ u, exec (.jabberCut t) s = .next u ∧ u.lsh.jabCut = true ∧ u.lsh.jabCnt = inc8 s.lsh.jabCnt ∧ u.lsh.err = .isolated) ∧
  (∀ (s : State) (t : Nat) (a : Nat), s.up = true → s.lsh.nap = true → s.lsh.link = .follow → s.lsh.napFrame = 0 → s.lsh.napMiss = none → s.burstAt = some a → a ≤ max s.now t + twDur (s.pg 0x30 2) → 
    ∃ u, exec (.napBurst t) s = .next u ∧ u.lsh.napFrame = 1 ∧ u.lsh.syncNow = false ∧ u.lsh.frameAt = a ∧ u.lsh.link = .follow) ∧
  (∀ (s : State) (t : Nat) (a : Nat), s.up = true → s.lsh.nap = true → s.lsh.link = .follow → s.lsh.napFrame = 1 → s.lsh.syncNow = false → s.burstAt = some a → a + twDur (s.pg 0x30 2) ≤ max s.now t → 
    ∃ u, exec (.napWindowMiss t) s = .next u ∧ u.lsh.napFrame = 0 ∧ u.lsh.napMiss = some (max s.now t) ∧ u.lsh.napHeard = (0 :: 0 :: s.lsh.napHeard).take 4 ∧ (u.lsh.napAt = s.lsh.napAt.map fun f => (f + napFrames s.lsh.napInt) % 65536)) ∧
  (∀ (s : State) (t : Nat) (a : Nat), s.up = true → s.lsh.nap = true → s.lsh.napMiss = some a → a + napFrames s.lsh.napInt * s.framePeriod ≤ max s.now t → 
    ∃ u, exec (.napOrphan t) s = .next u ∧ u.lsh.link = .listen ∧ u.lsh.orphan = true ∧ u.lsh.nap = false ∧ u.lsh.holdFrom = max s.now t) ∧
  (∀ (s : State) (t : Nat) (w : W16), s.window = true → s.up = true → bitAt w 0 = true → 
    ∃ u, exec (.lshClr t w) s = .next u ∧ u = { s.atTime t with win := { s.win with kicked := false }, lsh := { s.lsh with syncLoss := 0, edgeCnt := 0, crcCnt := 0, dropCnt := 0 } })

/-- A device that is linked and takes a message of another position: IDLE notes NAP_OK and the positions that its sender hears; CLAIM to a timekeeper sets the handover; NAP of the timekeeper sets the next burst; WAKE ends Nap; CERT, CHAL and RESP store their bytes; DIGEST compares the plan. -/
def Obligations.LinkMessageCommands : Prop :=
  (∀ (s : State) (t : Nat) (p : Fin 8) (d : W32), s.linked = true → p ≠ s.own → s.chw.armed = false → s.chw.held = [] → 
    ∃ u, exec (.idle t p d) s = .next u ∧ u.lsh.napOk = (if bitAt d 7 then s.lsh.napOk.set p.val (some s.lsh.frames) else s.lsh.napOk) ∧ ((s.peer p).present = false ∨ (u.peer p).present = true → (u.peer p).heardBy = w8 (fld d 15 8))) ∧
  (∀ (s : State) (t : Nat) (p : Fin 8) (d : W32), s.linked = true → p ≠ s.own → s.chw.armed = false → s.chw.held = [] → s.lsh.link = .lead → s.lsh.handTo = none → 
    ∃ u, exec (.claim t p d) s = .next u ∧ u.lsh.handTo = some (p.val, fld d 15 0) ∧ u.lsh.link = .lead) ∧
  (∀ (s : State) (t : Nat) (p : Fin 8) (d : W32), s.linked = true → p ≠ s.own → s.chw.armed = false → s.chw.held = [] → s.lsh.link = .follow → p.val = s.lsh.tk → 
    ∃ u, exec (.nap t p d) s = .next u ∧ u.lsh.napAt = some (fld d 15 0) ∧ u.lsh.napInt = fld d 18 16) ∧
  (∀ (s : State) (t : Nat) (p : Fin 8) (d : W32), s.linked = true → p ≠ s.own → s.chw.armed = false → s.chw.held = [] → s.lsh.link = .lead → s.lsh.nap = true → 
    ∃ u, exec (.wake t p d) s = .next u ∧ u.lsh.napEnd = true) ∧
  (∀ (s : State) (t : Nat) (p : Fin 8) (d : W32) (c : Chal), s.linked = true → p ≠ s.own → s.chw.armed = false → s.chw.held = [] → (s.peer p).chal = some c → c.cert = true → fld d 25 16 = 0 → 
    ∃ u, exec (.cert t p d) s = .next u ∧ (u.peer p).chal = some { c with certIn := [w8 (fld d 15 8), w8 (fld d 7 0)] }) ∧
  (∀ (s : State) (t : Nat) (p : Fin 8) (d : W32), s.linked = true → p ≠ s.own → s.chw.armed = false → s.chw.held = [] → fld d 31 29 = s.pos → fld d 18 16 = 0 → 
    ∃ u, exec (.chal t p d) s = .next u ∧ (u.peer p).nonceIn = [w8 (fld d 15 8), w8 (fld d 7 0)]) ∧
  (∀ (s : State) (t : Nat) (p : Fin 8) (d : W32) (c : Chal), s.linked = true → p ≠ s.own → s.chw.armed = false → s.chw.held = [] → (s.peer p).chal = some c → fld d 31 29 = s.pos → fld d 28 24 < 31 → c.respIn.length = 2 * fld d 28 24 → 
    ∃ u, exec (.resp t p d) s = .next u ∧ (u.peer p).chal = some { c with respIn := c.respIn ++ [w8 (fld d 15 8), w8 (fld d 7 0)], verify := none }) ∧
  (∀ (s : State) (t : Nat) (p : Fin 8) (d : W32), s.linked = true → p ≠ s.own → s.chw.armed = false → s.chw.held = [] → 
    ∃ u, exec (.digest t p d) s = .next u ∧ (u.peer p).planBad = decide (d ≠ s.planDigest))

/-- With REQ_VERIFY 0: VREF stores the value, state and time of its loop; SWP_IRE and SWP_IIM fill the waiting step; TOKEN_ACQ of a newer generation defeats a request; TOKEN_HOLD of a newer generation becomes the lease; TOKEN_REL of the live lease ends it; SWP_START, CHECK, JOIN and SET do their part of a sweep's start; HOWL FAULT logs one event and counts nothing; HOWL GASP in GASP notes the peer; a reserved type is counted. -/
def Obligations.ServiceMessageCommands : Prop :=
  (∀ (s : State) (t : Nat) (p : Fin 8) (d : W32) (n : Fin 16), s.linked = true → p ≠ s.own → s.chw.armed = false → s.chw.held = [] → bitAt s.svcCfg 0 = false → n.val = fld d 31 28 → 
    ∃ u, exec (.vref t p d) s = .next u ∧ u.peers.vals[valIx p n] = { vref := w16 (fld d 15 0), st := fld d 27 24, pg := bitAt d 16, at_ := some (max s.now t) } ∧ u.loops = s.loops) ∧
  (∀ (s : State) (t : Nat) (p : Fin 8) (d : W32), s.linked = true → p ≠ s.own → s.chw.armed = false → s.chw.held = [] → bitAt s.svcCfg 0 = false → 
    ∃ u, exec (.swpIre t p d) s = .next u ∧ u.swp.waits = takeCurrent (fld d 31 23) p true (w16 (fld d 15 0)).toInt s.swp.waits) ∧
  (∀ (s : State) (t : Nat) (p : Fin 8) (d : W32), s.linked = true → p ≠ s.own → s.chw.armed = false → s.chw.held = [] → bitAt s.svcCfg 0 = false → 
    ∃ u, exec (.swpIim t p d) s = .next u ∧ u.swp.waits = takeCurrent (fld d 31 23) p false (w16 (fld d 15 0)).toInt s.swp.waits) ∧
  (∀ (s : State) (t : Nat) (p : Fin 8) (d : W32), s.linked = true → p ≠ s.own → s.chw.armed = false → s.chw.held = [] → bitAt s.svcCfg 0 = false → s.peers.tok.pend = true → newer (fld d 23 16) s.peers.tok.pendGen = true → 
    ∃ u, exec (.tokenAcq t p d) s = .next u ∧ u.peers.tok = { s.peers.tok with lost := true }) ∧
  (∀ (s : State) (t : Nat) (p : Fin 8) (d : W32), s.linked = true → p ≠ s.own → s.chw.armed = false → s.chw.held = [] → bitAt s.svcCfg 0 = false → s.peers.tok.pend = false → newer (fld d 23 16) s.peers.tok.gen = true → 
    ∃ u, exec (.tokenHold t p d) s = .next u ∧ u.peers.tok.holder = fld d 31 24 ∧ u.peers.tok.gen = fld d 23 16 ∧ u.peers.tok.expiry = max s.now t + Config.ms (fld d 15 0) ∧ u.peers.tok.source = p.val ∧ u.peers.tok.live = true) ∧
  (∀ (s : State) (t : Nat) (p : Fin 8) (d : W32), s.linked = true → p ≠ s.own → s.chw.armed = false → s.chw.held = [] → bitAt s.svcCfg 0 = false → fld d 31 24 = s.peers.tok.holder → fld d 23 16 = s.peers.tok.gen → 
    ∃ u, exec (.tokenRel t p d) s = .next u ∧ u.peers.tok = { s.peers.tok with live := false }) ∧
  (∀ (s : State) (t : Nat) (p : Fin 8) (d : W32), s.linked = true → p ≠ s.own → s.chw.armed = false → s.chw.held = [] → bitAt s.svcCfg 0 = false → s.swpEn = true → s.sweeping = false → 
    ∃ u, exec (.swpStart t p d) s = .next u ∧ u.swp.started = true ∧ u.swp.sid = fld d 31 24 ∧ u.swp.lastSid = fld d 31 24 ∧ u.swp.frameS = fld d 15 0 ∧ u.swp.leadPos = p.val ∧ u.swp.leading = false) ∧
  (∀ (s : State) (t : Nat) (p : Fin 8) (d : W32), s.linked = true → p ≠ s.own → s.chw.armed = false → s.chw.held = [] → bitAt s.svcCfg 0 = false → s.swp.started = true → s.swp.leadPos = p.val → d = s.swpDigest → 
    ∃ u, exec (.swpCheck t p d) s = .next u ∧ u.swp.st = .armed ∧ u.swp.started = false) ∧
  (∀ (s : State) (t : Nat) (p : Fin 8) (d : W32), s.linked = true → p ≠ s.own → s.chw.armed = false → s.chw.held = [] → bitAt s.svcCfg 0 = false → s.swp.leading = true → fld d 31 24 = s.swp.sid → bitAt d 23 = true → 
    ∃ u, exec (.swpJoin t p d) s = .next u ∧ u.swp.joins = setBit s.swp.joins p.val) ∧
  (∀ (s : State) (t : Nat) (p : Fin 8) (d : W32), s.linked = true → p ≠ s.own → s.chw.armed = false → s.chw.held = [] → bitAt s.svcCfg 0 = false → s.sweeping = true → p.val = s.swp.leadPos → fld d 31 24 = s.swp.sid → 
    ∃ u, exec (.swpSet t p d) s = .next u ∧ u.swp = (takeSet (w8 (fld d 23 16)) (heardSid (fld d 31 24) (s.atTime t))).swp) ∧
  (∀ (s : State) (t : Nat) (p : Fin 8) (d : W32), s.linked = true → p ≠ s.own → s.chw.armed = false → s.chw.held = [] → s.log.queue.length < 64 → 
    ∃ u, exec (.howlFault t p d) s = .next u ∧ u.log.queue.length = s.log.queue.length + 1 ∧ u.win.fltCode = s.win.fltCode ∧ u.win.fltCount = s.win.fltCount) ∧
  (∀ (s : State) (t : Nat) (p : Fin 8) (d : W32), s.linked = true → p ≠ s.own → s.chw.armed = false → s.chw.held = [] → bitAt d 11 = false → s.power.g = .gasp → fld d 10 8 ≠ 3 → 
    ∃ u, exec (.howlGasp t p d) s = .next u ∧ u.gsp.peerP = s.gsp.peerP.set p.val (fld d 31 16) ∧ u.gsp.peerRank = s.gsp.peerRank.set p.val (some (fld d 15 12)) ∧ u.gsp.heard = setBit s.gsp.heard p.val ∧ u.gsp.lastHowl = some (max s.now t)) ∧
  (∀ (s : State) (t : Nat) (p : Fin 8) (cls : Fin 4) (typ : Fin 8) (d : W32), s.linked = true → p ≠ s.own → s.chw.armed = false → s.chw.held = [] → bitAt s.svcCfg 0 = false → reservedType cls.val typ.val = true → 
    ∃ u, exec (.reservedTypeMessage t p cls typ d) s = .next u ∧ u.peers.unk = inc16 s.peers.unk)

/-- In its slot a device that may send puts one message on the bus; the end of a frame counts it and takes the sent message off; the loss of the input for its time enters GASP with cause 0. -/
def Obligations.FrameCommands : Prop :=
  (∀ (s : State) (t : Nat), s.linked = true → (s.atTime t).maySlot = true → (s.atTime t).slotPick.isSome = true → 
    ∃ u, exec (.slotTransmit t) s = .next u ∧ u.lsh.sent ≠ none ∧ u.lsh.link = s.lsh.link) ∧
  (∀ (s : State) (t : Nat) (syncGood : Bool) (echo : Fin 3) (ownEdge : Bool) (acc fail edge rep : Byte), s.linked = true → s.synced = true → s.lsh.nap = false → s.frameDue ≤ max s.now t + Config.ns 100 → s.chw.armed = false → 
    ∃ u, exec (.leashFrameEnd t syncGood echo ownEdge acc fail edge rep) s = .next u ∧ u.lsh.frames = s.lsh.frames + 1 ∧ u.lsh.sent = none) ∧
  (∀ (s : State) (t : Nat), (s.atTime t).ownLoss = true → s.chw.armed = false → 
    ∃ u, exec (.gaspEntry t) s = .next u ∧ u.power.g = .gasp ∧ u.gsp.cause = 0 ∧ u.gsp.entryTime = (s.atTime t).devTime ∧ bitAt u.win.irq 5 = true)

/-- A challenge that may start opens with a fresh nonce of 16 bytes; a signature that verifies ends it, VERIFIED where the peer is present, one that does not, and a timeout, fail it; the head answer is signed; a new wiring cause is noted and logged; a plan digest is queued; a peer's value is dropped after 200 us. -/
def Obligations.ChallengeCommands : Prop :=
  (∀ (s : State) (t : Nat) (p : Fin 8), s.linked = true → (s.atTime t).chalReady p = true → 
    ∃ u, exec (.challengeStart t p) s = .next u ∧ (u.peer p).chalAt = some (max s.now t) ∧ ((u.peer p).chal.map fun c => (c.nonce, c.cert)) = some ((List.range 16).map (fun i => Config.randomByte s.idn.drbg i), decide ((s.peer p).cert = [])) ∧ u.idn.drbg = s.idn.drbg + 1 ∧ (u.peer p).cert = (s.peer p).cert) ∧
  (∀ (s : State) (t : Nat) (p : Fin 8) (c : Chal), s.up = true → (s.peer p).chal = some c → c.verify ≠ none → s.signReady (.verify p) = true → 
    ∃ u, exec (.challengeVerified t p) s = .next u ∧ (u.peer p).chal = none ∧ ((match certKey Config.caKey Config.deviceCert (s.peer p).cert with | some k => (anyDevice (s.wpl p) || decide (fingerprint (s.peer p).cert = s.wpl p)) && verifyBytes k (respBytes s.pos p.val c.nonce (fingerprint (s.peer p).cert)) c.respIn | none => false) = true → u.peers.passes = inc8 s.peers.passes ∧ (u.peer p).fails = 0 ∧ (u.peer p).verified = (s.peer p).present) ∧ ((match certKey Config.caKey Config.deviceCert (s.peer p).cert with | some k => (anyDevice (s.wpl p) || decide (fingerprint (s.peer p).cert = s.wpl p)) && verifyBytes k (respBytes s.pos p.val c.nonce (fingerprint (s.peer p).cert)) c.respIn | none => false) = false → u.peers.failures = inc8 s.peers.failures ∧ (u.peer p).verified = false)) ∧
  (∀ (s : State) (t : Nat) (p : Fin 8) (c : Chal) (a : Nat), s.up = true → (s.peer p).chal = some c → c.sentAt = some a → a + Config.ms 500 ≤ max s.now t → 
    ∃ u, exec (.challengeTimeout t p) s = .next u ∧ (u.peer p).chal = none ∧ (u.peer p).fails = (s.peer p).fails + 1 ∧ u.peers.failures = inc8 s.peers.failures) ∧
  (∀ (s : State) (t : Nat) (a : Answer) (r : List Answer), s.up = true → s.idnOk = true → s.peers.answers = a :: r → a.signed = false → s.signReady .respond = true → 
    ∃ u, exec (.responseSigned t) s = .next u ∧ u.peers.answers.length = s.peers.answers.length ∧ u.peers.answers.tail = r ∧ (u.peers.answers.head?.map (fun x => x.signed) = some true)) ∧
  (∀ (s : State) (t : Nat) (p : Fin 8), s.up = true → (s.atTime t).wireCause p ≠ 0 → (s.atTime t).wireCause p ≠ (s.peer p).wiring → s.log.queue.length < 64 → 
    ∃ u, exec (.wiring t p) s = .next u ∧ (u.peer p).wiring = (s.atTime t).wireCause p ∧ u.log.queue.length = s.log.queue.length + 1) ∧
  (∀ (s : State) (t : Nat) (p : Fin 8), s.linked = true → p ≠ s.own → (s.peer p).present = true → s.peers.digestDue = true → 
    ∃ u, exec (.digestSend t) s = .next u ∧ u.peers.digestDue = false ∧ u.peers.digestAt = max s.now t ∧ u.lsh.mgmt.getLast? = some { cls := 0, typ := 7, data := s.planDigest, at_ := s.lsh.frames }) ∧
  (∀ (s : State) (t : Nat) (p : Fin 8) (n : Fin 16) (a : Nat), s.peers.vals[valIx p n].at_ = some a → a + Config.us 200 ≤ max s.now t → 
    ∃ u, exec (.peerValueTimeout t p n) s = .next u ∧ u.peers.vals[valIx p n] = { s.peers.vals[valIx p n] with pg := false, at_ := none } ∧ (∀ k : Fin 128, k ≠ valIx p n → u.peers.vals[k] = s.peers.vals[k]))

/-- W_HANDLER stores the host ID while no request is pending; ACQUIRE of a free lease becomes a pending request of the next generation; RENEW and RELEASE of the held lease renew and end it; the decision grants it to the device; an expired lease ends; TOKEN_HOLD is queued again after 100 frames; PLAN_SAVE captures the plan and its completion puts it in place. -/
def Obligations.HandlerCommands : Prop :=
  (∀ (s : State) (t : Nat) (id : Byte), s.window = true → s.peers.tok.pend = false → 
    ∃ u, exec (.handlerStore t id) s = .next u ∧ u.peers.tok = { s.peers.tok with hostId := id.toNat }) ∧
  (∀ (s : State) (t : Nat) (id : Byte), s.window = true → s.handlerOpen id = true → (s.atTime t).leaseLive = false → 
    ∃ u, exec (.acquire t id) s = .next u ∧ u.peers.tok.pend = true ∧ u.peers.tok.pendGen = (s.peers.tok.gen + 1) % 256 ∧ u.peers.tok.pendAt = max s.now t ∧ u.peers.tok.hostId = id.toNat) ∧
  (∀ (s : State) (t : Nat) (id : Byte), s.window = true → s.handlerOpen id = true → (s.atTime t).leaseLive = true → s.peers.tok.holder = id.toNat → 
    ∃ u, exec (.renew t id) s = .next u ∧ u.peers.tok.expiry = max s.now t + twDur (s.pg 0x30 0x24) ∧ u.peers.tok.holder = id.toNat ∧ u.peers.tok.gen = s.peers.tok.gen ∧ u.peers.tok.live = true ∧ u.peers.tok.source = s.pos) ∧
  (∀ (s : State) (t : Nat) (id : Byte), s.window = true → s.handlerOpen id = true → (s.atTime t).leaseLive = true → s.peers.tok.holder = id.toNat → 
    ∃ u, exec (.release t id) s = .next u ∧ u.peers.tok.live = false ∧ u.peers.tok.refused = false) ∧
  (∀ (s : State) (t : Nat), s.up = true → (s.atTime t).acquireDue = true → s.peers.tok.lost = false → 
    ∃ u, exec (.acquireDecide t) s = .next u ∧ u.peers.tok.holder = s.peers.tok.hostId ∧ u.peers.tok.gen = s.peers.tok.pendGen ∧ u.peers.tok.live = true ∧ u.peers.tok.pend = false ∧ u.peers.tok.expiry = max s.now t + twDur (s.pg 0x30 0x24)) ∧
  (∀ (s : State) (t : Nat), s.linked = true → (s.atTime t).leaseLive = true → s.peers.tok.source = s.pos → s.peers.tok.holdAt + 100 ≤ s.lsh.frames → 
    ∃ u, exec (.tokenHoldSend t) s = .next u ∧ u.peers.tok.holdAt = s.lsh.frames ∧ (u.lsh.cmd.getLast?.map fun m => (m.cls, m.typ, m.at_)) = some (2, 1, s.lsh.frames)) ∧
  (∀ (s : State) (t : Nat), s.peers.tok.live = true → s.peers.tok.expiry ≤ max s.now t → 
    ∃ u, exec (.leaseExpire t) s = .next u ∧ u.peers = { s.peers with tok := { s.peers.tok with live := false } }) ∧
  (∀ (s : State) (t : Nat), s.window = true → (s.atTime t).readOnly = false → s.peers.planBusy = none → 
    ∃ u, exec (.planSave t) s = .next u ∧ u.peers.planBusy = some (max s.now t) ∧ (u.peers.planNew = (List.range 32).map fun k => s.pg 0x31 k) ∧ u.peers.plan = s.peers.plan) ∧
  (∀ (s : State) (t : Nat), s.peers.planBusy ≠ none → 
    ∃ u, exec (.planSaveDone t true) s = .next u ∧ u.peers.plan = some s.peers.planNew ∧ u.peers.planBusy = none ∧ u.peers.planRes = 0 ∧ u.win.irq = setBit s.win.irq 10)

/-- SWEEP_START on a synchronised device leads a sweep of the next identifier; an abort ends one that is armed; SWP_SET is queued 98 to 100 frames before the start, and its mask taken; at the start an armed device with its mask runs; each step takes the next injector and frequency; the end of a window queues the step's entry; the entry is written and counted; after the last one the results end the sweep DONE; a leader that left ends it LOST; the end of a Layer period starts the next one's updates. -/
def Obligations.SweepCommands : Prop :=
  (∀ (s : State) (t : Nat), s.window = true → s.up = true → s.synced = true → s.sweeping = false → 
    ∃ u, exec (.sweepStart t) s = .next u ∧ u.swp.leading = true ∧ u.swp.leadPos = s.pos ∧ u.swp.sid = (s.swp.lastSid + 1) % 256 ∧ u.swp.st = (if s.swpEn then .armed else .idle) ∧ u.swp.sFixed = false) ∧
  (∀ (s : State) (t : Nat), s.window = true → s.up = true → s.swp.st = .armed → 
    ∃ u, exec (.sweepAbort t) s = .next u ∧ u.swp.st = .aborted ∧ u.swp.leading = false) ∧
  (∀ (s : State) (t : Nat), s.linked = true → s.swp.leading = true → s.swp.sFixed = true → s.swp.setAt ≠ some s.frameCount → s.lsh.sent = none → max s.now t < s.bitStart (s.slotBit + 1) → 98 ≤ countFrom s.frameCount s.swp.frameS → countFrom s.frameCount s.swp.frameS ≤ 100 → s.leadMask ≠ 0 → s.swp.st = .armed → 
    ∃ u, exec (.swpSetSend t) s = .next u ∧ u.swp.setAt = some s.frameCount ∧ (u.lsh.cmd.getLast?.map fun m => (m.cls, m.typ)) = some (2, 7) ∧ u.swp.mask = s.leadMask ∧ u.swp.maskSet = true) ∧
  (∀ (s : State) (t : Nat), s.up = true → s.swp.st = .armed → s.sweepDue = true → s.swp.maskSet = true → 
    ∃ u, exec (.sweepRunStart t) s = .next u ∧ u.swp.st = .running ∧ u.swp.leading = false ∧ u.swp.step = none ∧ u.swp.written = 0 ∧ u.swp.recNo = (if s.swp.recUsed then (s.swp.recNo + 1) % 4 else 0)) ∧
  (∀ (s : State) (t : Nat), s.up = true → s.swp.st = .running → s.swp.windowDone = true → s.nextStep < s.swpSteps → s.swp.nextFrame * Config.us 10 ≤ s.sweepTime (max s.now t) → 
    ∃ u, exec (.sweepStepStart t) s = .next u ∧ u.swp.step = some s.nextStep ∧ u.swp.windowDone = false ∧ u.swp.f = s.swpFreq (s.nextStep % max 1 s.swpNf) ∧ u.swp.inj = (maskPositions s.swp.mask).getD (s.nextStep / max 1 s.swpNf) 0 ∧ u.swp.stepFrame = s.swp.nextFrame) ∧
  (∀ (s : State) (t : Nat) (k : Nat), s.up = true → s.swp.st = .running → s.swp.step = some k → s.swp.windowDone = false → s.periods (s.swpSettle + s.swpNcyc) ≤ s.stepTime (max s.now t) → s.swpM ≤ s.swp.ys.length → 
    ∃ u, exec (.sweepWindowEnd t) s = .next u ∧ u.swp.windowDone = true ∧ u.swp.injOn = false ∧ u.swp.waits.length = s.swp.waits.length + 1 ∧ u.swp.ys = []) ∧
  (∀ (s : State) (t : Nat) (e : SwpWait) (r : List SwpWait), s.up = true → s.swp.st = .running → s.swp.waits = e :: r → e.ire ≠ none → e.iim ≠ none → 
    ∃ u, exec (.sweepEntryWrite t) s = .next u ∧ u.swp.waits = r ∧ u.swp.written = s.swp.written + 1 ∧ u.swp.lastAt = max s.now t) ∧
  (∀ (s : State) (t : Nat), s.up = true → s.swp.st = .running → s.swpSteps ≤ s.swp.written → 
    ∃ u, exec (.sweepResults t) s = .next u ∧ u.swp.st = .done ∧ u.swp.step = none ∧ u.swp.waits = []) ∧
  (∀ (s : State) (t : Nat), s.up = true → s.sweeping = true → s.swp.leader = false → (s.peer ⟨s.swp.leadPos % 8, Nat.mod_lt _ (by decide)⟩).present = false → 
    ∃ u, exec (.sweepLeaderLost t) s = .next u ∧ u.swp.st = .lost ∧ u.swp.segLost = s.swp.step ∧ u.swp.injOn = false) ∧
  (∀ (s : State) (t : Nat) (n : Fin 16), (s.loop n).lyr.st = .locked → (s.loop n).lyr.divflag = false → (s.loop n).lyr.updChunk = chunksOf (s.lyrP n) → s.pgL n 0x39 0x0D = 0 → 
    ∃ u, exec (.layerPeriodEnd t n) s = .next u ∧ (u.loop n).lyr.updTag = (s.loop n).lyr.updTag + 1 ∧ (u.loop n).lyr.updChunk = 0 ∧ (u.loop n).lyr.st = .locked)

/-- Each evaluation stores its time, the remaining energy and the total power; a rehearsal starts and ends without leaving the state; the return of the input ends GASP in READY or RUN; a written summary fills its slot and counts. -/
def Obligations.GaspCommands : Prop :=
  (∀ (s : State) (t : Nat), s.power.g = .gasp → s.gsp.evalAt + Config.us 100 ≤ max s.now t → 
    ∃ u, exec (.gaspEvaluation t) s = .next u ∧ u.gsp.evalAt = s.gsp.evalAt + Config.us 100 ∧ u.gsp.eRem = energyAbove s.gaspC s.vBus (s.pg 0x33 5) ∧ u.gsp.pTot = s.pTotal ∧ u.power.g = .gasp) ∧
  (∀ (s : State) (t : Nat), (s.atTime t).gaspOver = true → 
    ∃ u, exec (.gaspExit t) s = .next u ∧ u.power.g = (if s.anyOn then .run else .ready) ∧ u.gsp.lossFrom = none ∧ (∀ n : Fin 16, (u.loop n).prt.gaspHold = false)) ∧
  (∀ (s : State) (t : Nat), s.window = true → s.mayRehearse = true → 
    ∃ u, exec (.rehearsalStart t) s = .next u ∧ u.gsp.rehearse = some (max s.now t) ∧ u.gsp.simE = energyAbove s.gaspC (s.pg 0x33 1) (s.pg 0x33 5) ∧ u.gsp.started = false ∧ u.power = s.power) ∧
  (∀ (s : State) (t : Nat) (a : Nat), s.gsp.rehearse = some a → a + Config.ms 10000 ≤ max s.now t → 
    ∃ u, exec (.rehearsalEnd t) s = .next u ∧ u.gsp.rehearse = none ∧ u.gsp.peerRank = List.replicate 8 none ∧ u.power = s.power) ∧
  (∀ (s : State) (t : Nat) (b : List Byte) (k : Nat), s.gsp.pend = some (b, k) → k < 4 → s.gsp.startWait = none → (s.summarySigned || s.signReady .summary) = true → 
    ∃ u, exec (.summaryWritten t) s = .next u ∧ u.gsp.pend = none ∧ u.gsp.latest = some k ∧ u.gsp.count = inc8 s.gsp.count ∧ u.gsp.wrote = (s.gsp.wrote || decide (b.getD 17 0 ≠ 2)) ∧ bitAt u.win.irq 5 = true)

/-- A due poll starts and holds its entry's words; a good answer stores the value and marks the entry GOOD, a failed one counts; a stretch of 25 ms and an arbitration loss end the poll and start the recovery; a good attempt brings the port up and the third failed one makes it DEAD; a write of EVT clears its bits; Chew's simulated line ends after its time. -/
def Obligations.FetchCommands : Prop :=
  (∀ (s : State) (t : Nat) (e : Fin 32), s.up = true → s.fchEn = true → s.fch.port = .up → s.fch.cur = none → s.fch.simLine = none → s.fch.idleAt + s.busFree ≤ max s.now t → (s.atTime t).dueEntry = some e → s.chw.armed = false → 
    ∃ u, exec (.pollStart t) s = .next u ∧ u.fch.cur = some e ∧ u.fch.curAt = max s.now t ∧ u.fch.curCfg = s.fchW (3 * e.val) ∧ u.fch.curCtl = s.fchW (3 * e.val + 1) ∧ (u.fch.entry e).lastStart = some (max s.now t)) ∧
  (∀ (s : State) (t : Nat) (b0 b1 pec : Byte) (e : Fin 32), s.up = true → s.fch.cur = some e → s.fch.curNack = false → s.power.vddioL = true → bitAt s.fch.curCtl 7 = false → (s.fch.entry e).st ≠ .off → 
    ∃ u, exec (.pollComplete t false b0 b1 pec) s = .next u ∧ u.fch.cur = none ∧ (u.fch.entry e).last = some (pollValue s.fch.curCtl b0 b1) ∧ (u.fch.entry e).fails = 0 ∧ (u.fch.entry e).st = .good ∧ u.fch.idleAt = max s.now t) ∧
  (∀ (s : State) (t : Nat) (b0 b1 pec : Byte) (e : Fin 32), s.up = true → s.fch.cur = some e → 
    ∃ u, exec (.pollComplete t true b0 b1 pec) s = .next u ∧ u.fch.cur = none ∧ (u.fch.entry e).fails = (s.fch.entry e).fails + 1 ∧ u.fch.polls = (s.fch.polls + 1) % 256 ∧ (u.fch.entry e).last = (s.fch.entry e).last) ∧
  (∀ (s : State) (t : Nat) (e : Fin 32), s.up = true → s.power.vddioL = true → s.fch.cur = some e → s.fch.curAt + Config.ms 25 ≤ max s.now t → 
    ∃ u, exec (.stretchTimeout t) s = .next u ∧ u.fch.cur = none ∧ u.fch.port = .recover ∧ u.fch.scl = false ∧ (u.fch.entry e).fails = (s.fch.entry e).fails + 1) ∧
  (∀ (s : State) (t : Nat) (e : Fin 32), s.up = true → s.power.vddioL = true → s.fch.cur = some e → 
    ∃ u, exec (.arbitrationLoss t) s = .next u ∧ u.fch.cur = none ∧ u.fch.port = .recover ∧ u.fch.sda = false ∧ (u.fch.entry e).fails = (s.fch.entry e).fails + 1) ∧
  (∀ (s : State) (t : Nat) (took : Nat) (scl : Bool), s.up = true → s.fchEn = true → took ≤ Config.us 1100 → (s.atTime t).attemptDue (max s.now t - took) = true → s.fch.simLine = none → 
    ∃ u, exec (.recoveryAttempt t took true scl) s = .next u ∧ u.fch.port = .up ∧ u.fch.fails = 0 ∧ u.fch.upAt = max s.now t ∧ u.fch.attemptEnd = max s.now t) ∧
  (∀ (s : State) (t : Nat) (took : Nat) (scl : Bool), s.up = true → s.fchEn = true → took ≤ Config.us 1100 → (s.atTime t).attemptDue (max s.now t - took) = true → s.fch.simLine = none → s.power.vddioL = true → s.fch.port = .recover → 2 ≤ s.fch.fails → 
    ∃ u, exec (.recoveryAttempt t took false scl) s = .next u ∧ u.fch.port = .dead ∧ u.fch.cause = (if scl then 2 else 1) ∧ u.fch.deads = inc8 s.fch.deads) ∧
  (∀ (s : State) (t : Nat) (w : W16), s.window = true → bitAt w 15 = false → 
    ∃ u, exec (.fchEvtClear t w) s = .next u ∧ u.fch = { s.fch with evt := s.fch.evt &&& ~~~(w.setWidth 6) }) ∧
  (∀ (s : State) (t : Nat) (c : Bool) (a : Nat), s.fch.simLine = some (c, a) → twCount (s.chwW 0x0C) ≠ 0 → a + twDur (s.chwW 0x0C) ≤ max s.now t → 
    ∃ u, exec (.chewStuckEnd t) s = .next u ∧ u = { s.atTime t with fch := { s.fch with simLine := none } })

/-- The head of the event queue moves the write index on and counts, or, in a full log, marks an entry lost; a read of the data port answers the word at the address, in the event log the two bytes there, and steps the address by two; a trigger of a running capture waits for its sample; LOCK, UNLOCK and RELEASE move a slot between DONE, LOCKED and FREE, in any other state leaving it, and a slot they make available may be armed at once by a waiting template; HOLD and RESUME set and clear the hold; a due sample of an armed or recording template is taken, whatever HOLD is; a sealed record is compressed, then signed and DONE, or LOCKED; a pulse ends, and the gap after it ends with the pending pulse if there is one. -/
def Obligations.RecorderCommands : Prop :=
  (∀ (s : State) (t : Nat) (e : LogEntry) (a : Nat) (r : List (LogEntry × Nat)), s.up = true → s.log.queue = (e, a) :: r → s.log.count < 8191 → 
    ∃ u, exec (.eventAppend t) s = .next u ∧ u.log.queue = r ∧ u.log.wr = (s.log.wr + 1) % 8192 ∧ u.log.count = s.log.count + 1 ∧ bitAt u.win.irq 1 = true) ∧
  (∀ (s : State) (t : Nat) (e : LogEntry) (a : Nat) (r : List (LogEntry × Nat)), s.up = true → s.log.queue = (e, a) :: r → s.log.count = 8192 → 
    ∃ u, exec (.eventAppend t) s = .next u ∧ u.log.queue = r ∧ u.log.wr = (s.log.wr + 1) % 8192 ∧ u.log.lost = true ∧ (u.log.count = 8192 ∨ u.log.count = 8191)) ∧
  (∀ (s : State) (t : Nat), s.window = true → 
    ∃ u, exec (.crumbDataRead t) s = .next u ∧ u.crb.addr = (s.crb.addr + 2) % 2 ^ 24 ∧ (0x1E0000 ≤ s.crb.addr → s.crb.addr + 1 < 0x200000 → u.win.adOut = wordOf (s.ram s.crb.addr) (s.ram (s.crb.addr + 1)))) ∧
  (∀ (s : State) (t : Nat) (k : Fin 4) (n : Fin 16), s.window = true → s.up = true → s.crb.hold = false → (s.tpl k).slot = some n → (s.tpl k).post = false → (s.tpl k).trigPend = none → (s.atTime t).heldSince k (s.atTime t).devTime = 0 → 
    ∃ u, exec (.trigger t k) s = .next u ∧ u.tpl k = { s.tpl k with trigPend := some (2, 0, 0) }) ∧
  (∀ (s : State) (t : Nat) (slot : Fin 16), s.window = true → s.up = true → 
    ∃ u, exec (.lock t slot) s = .next u ∧ ((s.slot slot).st = .done → (s.atTime t).readOnly = false → u.slot slot = { s.slot slot with st := .locked }) ∧ ((s.slot slot).st ≠ .done ∨ (s.atTime t).readOnly = true → u.slot slot = s.slot slot) ∧ (∀ j : Fin 16, j ≠ slot → u.slot j = s.slot j)) ∧
  (∀ (s : State) (t : Nat) (slot : Fin 16), s.window = true → s.up = true → 
    ∃ u, exec (.unlock t slot) s = .next u ∧ ((s.slot slot).st = .locked → (s.atTime t).readOnly = false → (u.slot slot).st = .done ∨ (u.slot slot).st = .armed) ∧ ((s.slot slot).st = .locked → (s.atTime t).readOnly = false → (∀ k : Fin 4, (s.tpl k).armed = false) → u.slot slot = { s.slot slot with st := .done }) ∧ ((s.slot slot).st ≠ .locked ∨ (s.atTime t).readOnly = true → u.slot slot = s.slot slot)) ∧
  (∀ (s : State) (t : Nat) (slot : Fin 16), s.window = true → s.up = true → 
    ∃ u, exec (.slotRelease t slot) s = .next u ∧ ((s.slot slot).st = .done ∨ (s.slot slot).st = .locked ∨ (s.slot slot).st = .aborted → (s.atTime t).readOnly = false → (u.slot slot).st = .free ∨ (u.slot slot).st = .armed) ∧ ((s.slot slot).st = .done ∨ (s.slot slot).st = .locked ∨ (s.slot slot).st = .aborted → (s.atTime t).readOnly = false → (∀ k : Fin 4, (s.tpl k).armed = false) → u.slot slot = { s.slot slot with st := .free }) ∧ ((s.slot slot).st ≠ .done → (s.slot slot).st ≠ .locked → (s.slot slot).st ≠ .aborted → u.slot slot = s.slot slot)) ∧
  (∀ (s : State) (t : Nat), s.window = true → s.up = true → 
    ∃ u, exec (.hold t) s = .next u ∧ u = { s.atTime t with win := { s.win with kicked := false }, crb := { s.crb with hold := true } }) ∧
  (∀ (s : State) (t : Nat), s.window = true → s.up = true → 
    ∃ u, exec (.resume t) s = .next u ∧ u = { s.atTime t with win := { s.win with kicked := false }, crb := { s.crb with hold := false } }) ∧
  (∀ (s : State) (t : Nat) (k : Fin 4), s.up = true → ((s.tpl k).armed || (s.tpl k).post) = true → (max s.now t - s.power.bootTime) % Config.us 1 = 0 → (s.atTime t).devTime % s.tplPeriod k = 0 → (s.tpl k).sampleAt ≠ some (s.atTime t).devTime → 
    ∃ u, exec (.captureSample t k) s = .next u ∧ (u.tpl k).sampleAt = some (s.atTime t).devTime ∧ ((s.tpl k).slot = none → (u.tpl k).hist = (s.tplChans k).map (s.atTime t).chanValue :: (s.tpl k).hist.take (if (s.tpl k).post then s.tplLen k else 1)) ∧ (∀ i : Fin 16, (s.tpl k).slot = none → u.slot i = s.slot i)) ∧
  (∀ (s : State) (t : Nat) (slot : Fin 16) (c : CrbCap), s.up = true → (s.slot slot).st = .seal → (s.slot slot).comp = false → (s.slot slot).cap = some c → 
    ∃ u, exec (.compressionDone t slot) s = .next u ∧ (u.slot slot).comp = true ∧ (u.slot slot).whole = true ∧ (u.slot slot).body = (recordBody c).1.length ∧ u.crb.seq = s.crb.seq) ∧
  (∀ (s : State) (t : Nat) (slot : Fin 16) (c : CrbCap), s.up = true → (s.slot slot).st = .seal → (s.slot slot).comp = true → (s.slot slot).cap = some c → (s.idnOk = false ∨ s.signReady (.record slot) = true) → 
    ∃ u, exec (.recordSigned t slot) s = .next u ∧ u.crb.seq = (s.crb.seq + 1) % 65536 ∧ u.crb.lastDone = some slot ∧ bitAt u.win.irq 6 = true ∧ ((∀ k : Fin 4, (s.tpl k).armed = false) → (u.slot slot).st = .done ∨ (u.slot slot).st = .locked) ∧ (u.slot slot).st ≠ .seal) ∧
  (∀ (s : State) (t : Nat) (g : Fin 24) (a : Nat), s.pins.pulseAt[g] = some a → a + Config.us 1 ≤ max s.now t → 
    ∃ u, exec (.gpioPulseEnd t g) s = .next u ∧ (s.pins.pulseOn[g] = true → u.pins.pulseOn[g] = false ∧ u.pins.pulseAt[g] = some (max s.now t) ∧ u.pins.pulsePend = s.pins.pulsePend) ∧ (s.pins.pulseOn[g] = false → s.pins.pulsePend[g] = false → u.pins.pulseOn[g] = false ∧ u.pins.pulseAt[g] = none) ∧ (s.pins.pulseOn[g] = false → s.pins.pulsePend[g] = true → u.pins.pulseOn[g] = true ∧ u.pins.pulseAt[g] = some (max s.now t) ∧ u.pins.pulsePend[g] = false))

/-- CLEAR_IN empties the input; SUBMIT, ATTEST, READ_CERT, INSTALL and READ_OPK start and hold BUSY with the input bytes; a completion ends BUSY with a result and W_IRQ.TOKEN, a command found bad at its start answering that result, READ_CERT filling the output with the certificate, INSTALL of a point on the curve storing the first operator key and no second one; DROP ends the unlock; REWIND and the ports move the buffers; an unlock that ran out ends; a failed random-source test is latched; the generator reseeds. -/
def Obligations.TokenCommands : Prop :=
  (∀ (s : State) (t : Nat), s.window = true → s.idn.busy = none → 
    ∃ u, exec (.clearIn t) s = .next u ∧ u.idn = { s.idn with inBuf := [], excess := false, lastCmd := 1, result := 0 }) ∧
  (∀ (s : State) (t : Nat), s.window = true → s.idn.busy = none → s.idn.excess = false → 
    ∃ u, exec (.submit t) s = .next u ∧ u.idn.busy = some .submit ∧ u.idn.work = s.idn.inBuf ∧ u.idn.early = (s.atTime t).tokenEarly .submit ∧ u.idn.tokCnt = s.idn.tokCnt) ∧
  (∀ (s : State) (t : Nat), s.window = true → s.idn.busy = none → s.idn.excess = false → 
    ∃ u, exec (.attest t) s = .next u ∧ u.idn.busy = some .attest ∧ u.idn.work = s.idn.inBuf ∧ u.idn.early = 0) ∧
  (∀ (s : State) (t : Nat), s.window = true → s.idn.busy = none → 
    ∃ u, exec (.readCert t) s = .next u ∧ u.idn.busy = some .readCert ∧ u.idn.early = 0 ∧ u.idn.opk = s.idn.opk) ∧
  (∀ (s : State) (t : Nat), s.window = true → s.idn.busy = none → s.idn.excess = false → 
    ∃ u, exec (.install t) s = .next u ∧ u.idn.busy = some .install ∧ u.idn.work = s.idn.inBuf ∧ u.idn.early = (s.atTime t).tokenEarly .install ∧ u.idn.opk = s.idn.opk) ∧
  (∀ (s : State) (t : Nat), s.window = true → s.idn.busy = none → 
    ∃ u, exec (.readOpk t) s = .next u ∧ u.idn.busy = some .readOpk ∧ u.idn.early = 0 ∧ u.idn.opk = s.idn.opk) ∧
  (∀ (s : State) (t : Nat), s.up = true → s.idn.busy = some .install → s.idn.early = 0 → s.idn.work.length = 64 → s.idn.opk = [] → onCurve (keyOf s.idn.work) = true → 
    ∃ u, exec (.tokenCommandDone t) s = .next u ∧ u.idn.opk = [keyOf s.idn.work] ∧ u.idn.busy = none ∧ u.idn.result = 0 ∧ u.win.irq = setBit s.win.irq 8) ∧
  (∀ (s : State) (t : Nat), s.up = true → s.idn.busy = some .install → s.idn.early = 0 → s.idn.work.length = 64 → s.idn.opk ≠ [] → 
    ∃ u, exec (.tokenCommandDone t) s = .next u ∧ u.idn.opk = s.idn.opk ∧ u.idn.busy = none ∧ u.idn.result = 6) ∧
  (∀ (s : State) (t : Nat) (c : IdnCmd), s.up = true → s.idn.busy = some c → s.idn.early ≠ 0 → (c ≠ .attest ∨ s.busy = false) → (s.tokenServed || s.signReady .token) = true → 
    ∃ u, exec (.tokenCommandDone t) s = .next u ∧ u.idn.busy = none ∧ u.idn.result = s.idn.early ∧ bitAt u.win.irq 8 = true ∧ u.idn.opk = s.idn.opk) ∧
  (∀ (s : State) (t : Nat), s.up = true → s.idn.busy = some .readCert → s.idn.early = 0 → 
    ∃ u, exec (.tokenCommandDone t) s = .next u ∧ u.idn.busy = none ∧ u.idn.result = 0 ∧ bitAt u.win.irq 8 = true ∧ u.idn.outBuf = Config.deviceCert) ∧
  (∀ (s : State) (t : Nat), s.window = true → s.idn.busy = none → (s.atTime t).readOnly = false → 
    ∃ u, exec (.drop t) s = .next u ∧ u.idn.unlock = none ∧ u.idn.unlockPend = none ∧ u.idn.lastCmd = 6 ∧ u.idn.result = 0 ∧ u.win.irq = setBit s.win.irq 8) ∧
  (∀ (s : State) (t : Nat), s.window = true → s.idn.busy = none → 
    ∃ u, exec (.rewind t) s = .next u ∧ u.idn = { s.idn with outPtr := 0, lastCmd := 8, result := 0 }) ∧
  (∀ (s : State) (t : Nat) (w : W16), s.window = true → 
    ∃ u, exec (.tokenPortWrite t w) s = .next u ∧ u.idn.inBuf = (s.idn.inBuf ++ wordBytes w).take 256 ∧ u.idn.excess = (s.idn.excess || decide (256 < s.idn.inBuf.length + 2)) ∧ u.idn.outBuf = s.idn.outBuf) ∧
  (∀ (s : State) (t : Nat), s.window = true → 
    ∃ u, exec (.tokenPortRead t) s = .next u ∧ u = { s.atTime t with win := { s.win with adOut := s.portWord }, idn := { s.idn with outPtr := s.idn.outPtr + 2 } }) ∧
  (∀ (s : State) (t : Nat), s.idn.unlock ≠ none → (s.atTime t).activeUnlock = none → 
    ∃ u, exec (.unlockExpire t) s = .next u ∧ u = { s.atTime t with idn := { s.idn with unlock := none } }) ∧
  (∀ (s : State) (t : Nat), s.up = true → 
    ∃ u, exec (.rngTestFail t) s = .next u ∧ u = { s.atTime t with idn := { s.idn with rng := false } }) ∧
  (∀ (s : State) (t : Nat), s.idn.rng = true → 65536 ≤ s.idn.reqs → 
    ∃ u, exec (.drbgReseed t) s = .next u ∧ u = { s.atTime t with idn := { s.idn with reqs := 0 } })

/-- ARM under an unlock of the Chew page arms a run with its budget and life; elsewhere it is refused; STOP and the end of the life disarm it with causes 1 and 3. -/
def Obligations.ChewCommands : Prop :=
  (∀ (s : State) (t : Nat), s.window = true → (s.atTime t).mayArm = true → 
    ∃ u, exec (.arm t) s = .next u ∧ u.chw.armed = true ∧ u.chw.refused = false ∧ u.chw.arms = inc8 s.chw.arms ∧ u.chw.armAt = max s.now t ∧ u.chw.left = (s.chwW 2).toNat ∧ u.chw.count = 0) ∧
  (∀ (s : State) (t : Nat), s.window = true → (s.atTime t).mayArm = false → 
    ∃ u, exec (.arm t) s = .next u ∧ u = { s.atTime t with win := { s.win with kicked := false }, chw := { s.chw with refused := true } }) ∧
  (∀ (s : State) (t : Nat), s.window = true → s.chw.armed = true → s.chw.held = [] → 
    ∃ u, exec (.stop t) s = .next u ∧ u.chw.armed = false ∧ u.chw.cause = 1 ∧ u.fch.simLine = none) ∧
  (∀ (s : State) (t : Nat), s.chw.armed = true → s.chw.armAt + twDur (s.chwW 3) ≤ max s.now t → s.chw.held = [] → 
    ∃ u, exec (.chewLifeExpire t) s = .next u ∧ u.chw.armed = false ∧ u.chw.cause = 3 ∧ u.fch.simLine = none)

/-- A change of a VDDIO bank sets its level; an instruction of the boundary-scan port is held with its cells and takes or releases the pins; TRST_N low selects IDCODE. -/
def Obligations.PinCommands : Prop :=
  (∀ (s : State) (t : Nat) (bank : Fin 3) (level : Bool), 
    ∃ u, exec (.vddioSupplyChange t bank level) s = .next u ∧ u.power.vddioH = (if bank = 0 then level else s.power.vddioH) ∧ u.power.vddioL = (if bank = 1 then level else s.power.vddioL) ∧ u.power.vddioP = (if bank = 2 then level else s.power.vddioP)) ∧
  (∀ (s : State) (t : Nat) (ir : BitVec 4) (cells : BitVec 357), s.power.vaux = true → s.power.vddioL = true → 
    ∃ u, exec (.tapInstructionUpdate t ir cells) s = .next u ∧ u.pins.tapIr = ir ∧ u.pins.cells = cells ∧ u.pins.tapHold = tapHolds ir ∧ (tapHolds ir = true → s.pins.tapHold = false → s.up = true → u.power.g = .killed)) ∧
  (∀ (s : State) (t : Nat), s.power.vaux = true → s.power.vddioL = true → 
    ∃ u, exec (.trstNLow t) s = .next u ∧ u.pins.tapIr = 2 ∧ u.pins.cells = s.pins.cells ∧ u.pins.tapHold = false)

/-- When the commit that failed its validation ends, every proof copy and every value in use is what it was, so every word of the commit set stays dirty; the unlock token in force is what it was, with the same uses left. The same holds when the refusal is decided at the end of the capture. -/
def Obligations.RefusedCommitKeepsProof : Prop :=
  (∀ (s : State) (t : Nat) (a : Nat), s.up = true → s.par.phase = .refused → s.par.phaseAt + Config.us 2 ≤ max s.now t → s.idn.unlockPend = none → 
    ∃ u, exec (.commitRefused t) s = .next u ∧ u.par.proof = s.par.proof ∧ u.par.inUse = s.par.inUse ∧ u.proof a = s.proof a ∧ u.baseUse a = s.baseUse a ∧ u.dirtyWords = s.dirtyWords ∧ u.idn.unlock = s.idn.unlock ∧ u.par.refused = true) ∧
  (∀ (s : State) (t : Nat) (f : Fail), s.up = true → s.par.phase = .capture → s.par.pendCode = 0 → s.par.set ≠ [] → (s.atTime t).judge s.par.set = some f → 
    ∃ u, exec (.captureEnd t) s = .next u ∧ u.par.phase = .refused ∧ u.par.proof = s.par.proof ∧ u.par.inUse = s.par.inUse ∧ u.dirtyWords = s.dirtyWords ∧ u.idn.unlock = s.idn.unlock)

/-- A class-L word that fails its validation leaves the value in use and the proof copy as they are and is reported as a refused commit: at once while no commit is BUSY, else as the held report; a word that passes takes its proof value into use and changes neither W_COMMIT_STAT nor W_IRQ. -/
def Obligations.ClassLRefusal : Prop :=
  (∀ (s : State) (t : Nat) (a : W16) (w : Nat) (f : Fail), s.up = true → s.busy = false → s.par.waitL.lookup a.toNat = some w → (s.atTime t).mayCross a.toNat w = true → (s.atTime t).refusalL a.toNat = some f → 
    ∃ u, exec (.classLCrossing t a) s = .next u ∧ u.baseUse a.toNat = s.baseUse a.toNat ∧ u.proof a.toNat = s.proof a.toNat ∧ u.par.refused = true ∧ u.par.code = w8 f.1 ∧ u.par.refuseAddr = w16 f.2 ∧ bitAt u.win.irq 2 = true) ∧
  (∀ (s : State) (t : Nat) (a : W16) (w : Nat) (f : Fail), s.up = true → s.busy = true → s.par.lateL.contains a.toNat = false → s.par.waitL.lookup a.toNat = some w → (s.atTime t).mayCross a.toNat w = true → (s.atTime t).refusalL a.toNat = some f → 
    ∃ u, exec (.classLCrossing t a) s = .next u ∧ u.baseUse a.toNat = s.baseUse a.toNat ∧ u.proof a.toNat = s.proof a.toNat ∧ u.par.heldL = some (w8 f.1, w16 f.2)) ∧
  (∀ (s : State) (t : Nat) (a : W16) (w : Nat), s.up = true → s.busy = false → s.par.waitL.lookup a.toNat = some w → (s.atTime t).mayCross a.toNat w = true → (s.atTime t).refusalL a.toNat = none → 
    ∃ u, exec (.classLCrossing t a) s = .next u ∧ u.baseUse a.toNat = s.proof a.toNat ∧ u.proof a.toNat = s.proof a.toNat ∧ u.commitStat = s.commitStat ∧ u.win.irq = s.win.irq)

/-- With a PRF.DISAGREE_TIME count of 0, or with the pair's bit of PRF.DISAGREE_MASK at 0, the command that would raise DISAGREE only moves the time; LPn.REQ_ACT_DIFF shows a differing pair in bit k or in bit 4 + k whatever the mask holds. -/
def Obligations.DisagreeDisabled : Prop :=
  (∀ (s : State) (t : Nat) (n : Fin 16) (k : Fin 4), twCount (s.pg 1 0) = 0 ∨ bitAt (s.pg 1 1) k.val = false → 
    ∃ u, exec (.disagree t n k) s = .next u ∧ u = s.atTime t) ∧
  (∀ (s : State) (t : Nat) (n : Fin 16) (k : Fin 4), twCount (s.pg 1 0) = 0 ∨ bitAt (s.pg 1 1) k.val = false → 
    ∃ u, exec (.disagree t n k) s = .next u ∧ (bitAt (u.lpView n 0x3F) k.val || bitAt (u.lpView n 0x3F) (4 + k.val)) = u.pairDiffers n k)

/-- A completed read of W_SNAP_DATA answers the frame word at INDEX, INDEX steps by one modulo 16, and the frame is unchanged; RESET_N, a warm reset, a core under-voltage reset and KILL_N leave the frame as it was. -/
def Obligations.SnapshotReadPort : Prop :=
  (∀ (s : State) (t : Nat), s.window = true → 
    ∃ u, exec (.snapDataRead t) s = .next u ∧ u.win.adOut = s.snap.frame.getD s.snap.index 0 ∧ u.snap = { s.snap with index := (s.snap.index + 1) % 16 }) ∧
  (∀ (s : State) (t : Nat), s.power.vaux = true → 
    ∃ u, exec (.resetNLow t) s = .next u ∧ u.snap.frame = s.snap.frame) ∧
  (∀ (s : State) (t : Nat), 
    ∃ u, exec (.warmReset t) s = .next u ∧ u.snap.frame = s.snap.frame) ∧
  (∀ (s : State) (t : Nat), 
    ∃ u, exec (.coreUvReset t) s = .next u ∧ u.snap.frame = s.snap.frame) ∧
  (∀ (s : State) (t : Nat), 
    ∃ u, exec (.killNFall t) s = .next u ∧ u.snap.frame = s.snap.frame)

/-- At its sample boundary a LATCHED loop enters OFF when its effective enable, as taken at that boundary, is 0, and stays LATCHED when it is 1; a reset puts it OFF (LP15 of a self-biased device follows R46 and R37 instead, log entry 36); KILL_N, a FAULT_IN onset and the entry to GASP leave it LATCHED. -/
def Obligations.LatchedLoop : Prop :=
  (∀ (s : State) (t : Nat) (n : Fin 16), (s.atTime t).laneOn n = true → (s.atTime t).isBoundary n = true → (s.loop n).eng.sampled = false → s.kennel15 n = false → s.st n = .latched → (takeEnable n (s.atTime t)).enabled n = false → 
    ∃ u, exec (.sampleBoundary t n) s = .next u ∧ u.st n = .off) ∧
  (∀ (s : State) (t : Nat) (n : Fin 16), (s.atTime t).laneOn n = true → (s.atTime t).isBoundary n = true → (s.loop n).eng.sampled = false → s.kennel15 n = false → s.st n = .latched → (takeEnable n (s.atTime t)).enabled n = true → (s.loop n).prt.gaspHold = false → 
    ∃ u, exec (.sampleBoundary t n) s = .next u ∧ u.st n = .latched) ∧
  (∀ (s : State) (t : Nat) (n : Fin 16), s.power.vaux = true → s.st n = .latched → n ≠ 15 ∨ s.selfBias = false → 
    ∃ u, exec (.resetNLow t) s = .next u ∧ u.st n = .off) ∧
  (∀ (s : State) (t : Nat) (n : Fin 16), s.st n = .latched → n ≠ 15 ∨ s.selfBias = false → 
    ∃ u, exec (.killNFall t) s = .next u ∧ u.st n = .latched) ∧
  (∀ (s : State) (t : Nat) (n : Fin 16), s.st n = .latched → 
    ∃ u, exec (.faultIn t) s = .next u ∧ u.st n = .latched) ∧
  (∀ (s : State) (t : Nat) (n : Fin 16), s.st n = .latched → 
    ∃ u, exec (.gaspEntry t) s = .next u ∧ u.st n = .latched)

/-- A HOWL FAULT accepted from position p puts one entry into the event queue, with the carried code, the carried loop, the remote flag, the carried value and the sender's position; W_FLT_CODE counts nothing and no loop changes. -/
def Obligations.HowlFaultMessage : Prop :=
  (∀ (s : State) (t : Nat) (p : Fin 8) (d : W32), s.linked = true → p ≠ s.own → s.chw.armed = false → s.chw.held = [] → s.log.queue.length < 64 → 
    ∃ u, exec (.howlFault t p d) s = .next u ∧ u.log.queue = s.log.queue ++ [((s.atTime t).eventEntry (w8 (fld d 31 24)) (if bitAt d 19 then none else some (Fin.ofNat 16 (fld d 23 20))) true false (w16 (fld d 15 0)) p.val, max s.now t)] ∧ u.win.fltCode = s.win.fltCode ∧ u.win.fltCount = s.win.fltCount ∧ u.loops = s.loops)

/-- KILL_N falling in KENNEL leaves the device in KENNEL, puts PWM63 at mid-level and ends an attempt; while it is low an attempt that falls due, by its time, by its retry interval or by the OVLO release, does not start, and PWM63 keeps its level. -/
def Obligations.KillInKennel : Prop :=
  (∀ (s : State) (t : Nat), s.power.killN = true → s.power.g = .kennel → s.kennelRail = true → (s.phase 63).pwm ≠ .highZ → (s.loop 15).prt.latch = false → s.power.vaux = false → 
    ∃ u, exec (.killNFall t) s = .next u ∧ u.power.g = .kennel ∧ u.power.killN = false ∧ (u.phase 63).pwm = .mid ∧ u.power.attempt = none) ∧
  (∀ (s : State) (t : Nat) (pre : W16), s.power.killN = false → s.power.g = .kennel → s.power.vaux = false → 
    ∃ u, exec (.kennelAttemptStart t pre) s = .next u ∧ u.power.g = .kennel ∧ u.power.attempt = s.power.attempt ∧ u.phase 63 = s.phase 63) ∧
  (∀ (s : State) (t : Nat) (above : Bool), s.power.killN = false → s.power.g = .kennel → s.power.vaux = false → 
    ∃ u, exec (.kennelRetryDue t above) s = .next u ∧ u.power.g = .kennel ∧ u.power.attempt = s.power.attempt ∧ u.phase 63 = s.phase 63) ∧
  (∀ (s : State) (t : Nat) (pre : W16), s.power.killN = false → s.power.g = .kennel → s.power.vaux = false → 
    ∃ u, exec (.vhvOvloRelease t pre) s = .next u ∧ u.power.g = .kennel ∧ u.power.attempt = s.power.attempt ∧ u.phase 63 = s.phase 63)

/-- With VAUX valid and KV held at 0b11, a crossing of VHV_ON, VHV_OFF, VHV_OVLO (below the rating of 100 V) or the OVLO release moves only the comparator that saw it. -/
def Obligations.VhvIgnored : Prop :=
  (∀ (s : State) (t : Nat) (kv : BitVec 2), s.power.kv = some 3 → s.power.vaux = true → 
    ∃ u, exec (.vhvRiseOn t kv) s = .next u ∧ u = { s.atTime t with power := { s.power with vhvOn := true } }) ∧
  (∀ (s : State) (t : Nat), s.power.kv = some 3 → s.power.vaux = true → s.power.vhvOn = true → 
    ∃ u, exec (.vhvFallOff t) s = .next u ∧ u = { s.atTime t with power := { s.power with vhvOn := false, vhvOvlo := false } }) ∧
  (∀ (s : State) (t : Nat) (mv : Nat), s.power.kv = some 3 → s.power.vaux = true → s.power.vhvOn = true → mv ≤ 100000 → 
    ∃ u, exec (.vhvRiseOvlo t mv) s = .next u ∧ u = { s.atTime t with power := { s.power with vhvOvlo := true } }) ∧
  (∀ (s : State) (t : Nat) (pre : W16), s.power.kv = some 3 → s.power.vaux = true → s.power.vhvOvlo = true → s.power.wait ≠ .ovloRelease → 
    ∃ u, exec (.vhvOvloRelease t pre) s = .next u ∧ u = { s.atTime t with power := { s.power with vhvOvlo := false } })

/-- While the device is a read-only peer, LOCK, UNLOCK and RELEASE change no slot; TRIGGER puts a waiting trigger into its template, HOLD sets and RESUME clears the hold; the readout port returns the word at its address (in the event log the two bytes there) and steps it by two, read-only or not. -/
def Obligations.ReadOnlyRecorder : Prop :=
  (∀ (s : State) (t : Nat) (slot : Fin 16), (s.atTime t).readOnly = true → 
    ∃ u, exec (.lock t slot) s = .next u ∧ u.crb = s.crb) ∧
  (∀ (s : State) (t : Nat) (slot : Fin 16), (s.atTime t).readOnly = true → 
    ∃ u, exec (.unlock t slot) s = .next u ∧ u.crb = s.crb) ∧
  (∀ (s : State) (t : Nat) (slot : Fin 16), (s.atTime t).readOnly = true → 
    ∃ u, exec (.slotRelease t slot) s = .next u ∧ u.crb = s.crb) ∧
  (∀ (s : State) (t : Nat) (k : Fin 4) (n : Fin 16), s.window = true → s.up = true → (s.atTime t).readOnly = true → s.crb.hold = false → (s.tpl k).slot = some n → (s.tpl k).post = false → (s.tpl k).trigPend = none → (s.atTime t).heldSince k (s.atTime t).devTime = 0 → 
    ∃ u, exec (.trigger t k) s = .next u ∧ u.tpl k = { s.tpl k with trigPend := some (2, 0, 0) }) ∧
  (∀ (s : State) (t : Nat), s.window = true → s.up = true → (s.atTime t).readOnly = true → 
    ∃ u, exec (.hold t) s = .next u ∧ u.crb.hold = true) ∧
  (∀ (s : State) (t : Nat), s.window = true → s.up = true → (s.atTime t).readOnly = true → 
    ∃ u, exec (.resume t) s = .next u ∧ u.crb.hold = false) ∧
  (∀ (s : State) (t : Nat), s.window = true → 
    ∃ u, exec (.crumbDataRead t) s = .next u ∧ u.win.adOut = (crumbRead (s.atTime t)).1 ∧ u.crb.addr = (s.crb.addr + 2) % 2 ^ 24 ∧ (0x1E0000 ≤ s.crb.addr → s.crb.addr + 1 < 0x200000 → u.win.adOut = wordOf (s.ram s.crb.addr) (s.ram (s.crb.addr + 1))))
end

