-- ==== Sys2Proof/Laws/Mask.lean ====
section
/-! SUPPORT. Masks of the state: what a record update, a choice and a repetition leave outside a mask. -/

set_option linter.all false

set_option maxRecDepth 2000

namespace Sys2Proof.Machine

open Sys2Proof

theorem mask_or {α : Type} {b : Bool} {d x y : α} (h : b = true ∨ x = y) : (if b = true then d else x) = (if b = true then d else y) := by
  rcases h with h | h
  · rw [if_pos h, if_pos h]
  · rw [h]

-- A record update of a state: what it changes is masked.
@[simp] theorem mask_lit (m : Part → Bool) (x : State) (freeCount : Nat) (power : Power) (win : Win) (log : EvtLog) (par : Params) (nvm : Nvm) (loops : Vector LoopState 16) (phases : Vector PhaseState 64) (vsc : Vector ConvState 4) (isc : Vector ConvState 4) (lanes : Vector Lane 4) (grid : Nat) (svc : Svc) (snap : Snap) (stb : Stb) (prot : Prot) (acp : Vector AcpPort 8) (peers : Peers) (lsh : Lsh) (swp : Swp) (damp : Damp) (gsp : Gsp) (fch : Fch) (crb : Crb) (idn : Idn) (chw : Chw) (pins : Pins)
    (h_freeCount : m .free = true ∨ freeCount = x.freeCount)
    (h_power : Eq (power.mask m) (x.power.mask m))
    (h_win : Eq (win.mask m) (x.win.mask m))
    (h_log : m .log = true ∨ log = x.log)
    (h_par : Eq (par.mask m) (x.par.mask m))
    (h_nvm : m .nvm = true ∨ nvm = x.nvm)
    (h_loops : m .loops = true ∨ loops = x.loops)
    (h_phases : m .phases = true ∨ phases = x.phases)
    (h_vsc : m .conv = true ∨ vsc = x.vsc)
    (h_isc : m .conv = true ∨ isc = x.isc)
    (h_lanes : m .lanes = true ∨ lanes = x.lanes)
    (h_grid : m .grid = true ∨ grid = x.grid)
    (h_svc : m .svc = true ∨ svc = x.svc)
    (h_snap : m .snap = true ∨ snap = x.snap)
    (h_stb : m .stb = true ∨ stb = x.stb)
    (h_prot : m .prot = true ∨ prot = x.prot)
    (h_acp : m .acp = true ∨ acp = x.acp)
    (h_peers : m .peers = true ∨ peers = x.peers)
    (h_lsh : m .lsh = true ∨ lsh = x.lsh)
    (h_swp : m .swp = true ∨ swp = x.swp)
    (h_damp : m .damp = true ∨ damp = x.damp)
    (h_gsp : m .gsp = true ∨ gsp = x.gsp)
    (h_fch : m .fch = true ∨ fch = x.fch)
    (h_crb : Eq (crb.mask m) (x.crb.mask m))
    (h_idn : Eq (idn.mask m) (x.idn.mask m))
    (h_chw : m .chw = true ∨ chw = x.chw)
    (h_pins : m .pins = true ∨ pins = x.pins)
    : State.mask m (State.mk x.now freeCount x.pending power win log par nvm loops phases vsc isc lanes grid svc snap stb prot acp peers lsh swp damp gsp fch crb idn chw pins) = State.mask m x := by
  simp only [State.mask, h_power, h_win, h_par, h_crb, h_idn, State.mk.injEq, true_and, and_true]
  refine ⟨mask_or h_freeCount, mask_or h_log, mask_or h_nvm, mask_or h_loops, mask_or h_phases, mask_or h_vsc, mask_or h_isc, mask_or h_lanes, mask_or h_grid, mask_or h_svc, mask_or h_snap, mask_or h_stb, mask_or h_prot, mask_or h_acp, mask_or h_peers, mask_or h_lsh, mask_or h_swp, mask_or h_damp, mask_or h_gsp, mask_or h_fch, mask_or h_chw, mask_or h_pins⟩

@[simp] theorem mask_updPower (m : Part → Bool) (s : State) (f : Power → Power) (h : Eq ((f s.power).mask m) (s.power.mask m)) : (s.updPower f).mask m = s.mask m := by
  simp only [State.mask, State.updPower, h]
@[simp] theorem mask_updWin (m : Part → Bool) (s : State) (f : Win → Win) (h : Eq ((f s.win).mask m) (s.win.mask m)) : (s.updWin f).mask m = s.mask m := by
  simp only [State.mask, State.updWin, h]
@[simp] theorem mask_updPar (m : Part → Bool) (s : State) (f : Params → Params) (h : Eq ((f s.par).mask m) (s.par.mask m)) : (s.updPar f).mask m = s.mask m := by
  simp only [State.mask, State.updPar, h]
@[simp] theorem mask_updCrb (m : Part → Bool) (s : State) (f : Crb → Crb) (h : Eq ((f s.crb).mask m) (s.crb.mask m)) : (s.updCrb f).mask m = s.mask m := by
  simp only [State.mask, State.updCrb, h]
@[simp] theorem mask_updIdn (m : Part → Bool) (s : State) (f : Idn → Idn) (h : Eq ((f s.idn).mask m) (s.idn.mask m)) : (s.updIdn f).mask m = s.mask m := by
  simp only [State.mask, State.updIdn, h]
theorem mask_stb (m : Part → Bool) (s : State) (b : Stb) (h : m .stb = true) : State.mask m { s with stb := b } = s.mask m := by simp [h]
theorem mask_iteS (m : Part → Bool) (p : Prop) [Decidable p] (a b : State) (x : State) (ha : a.mask m = x) (hb : b.mask m = x) :
    (if p then a else b).mask m = x := by split <;> assumption
@[simp] theorem mask_ite (m : Part → Bool) (c : Prop) [Decidable c] (a b : State) : (if c then a else b).mask m = if c then a.mask m else b.mask m := by
  split <;> rfl
@[simp] theorem forLoops_mask (m : Part → Bool) (f : Fin 16 → State → State) (h : ∀ n s, (f n s).mask m = s.mask m) (l : List (Fin 16)) (s : State) :
    (forLoops f l s).mask m = s.mask m := by
  induction l generalizing s with
  | nil => rfl
  | cons n l ih => simp [forLoops, ih, h]
@[simp] theorem foldl_mask {α : Type} (m : Part → Bool) (f : State → α → State) (h : ∀ s a, (f s a).mask m = s.mask m) (l : List α) (s : State) :
    (l.foldl f s).mask m = s.mask m := by
  induction l generalizing s with
  | nil => rfl
  | cons n l ih => simp [ih, h]

end Sys2Proof.Machine
end

