-- ==== Sys2Proof/Laws/MaskLoops.lean ====
section
/-! SUPPORT. What each operation of the loops, phases, timebase and link leaves alone: with the parts it changes in
the mask, the masked state stays as it was. -/

set_option linter.all false

set_option maxRecDepth 2000

namespace Sys2Proof.Machine

open Sys2Proof

@[simp] theorem freeWord_mask (m : Part → Bool) (s : State) (h_free : m .free = true) : s.freeWord.2.mask m = s.mask m := by
  simp [State.freeWord, h_free]

@[simp] theorem freeBool_mask (m : Part → Bool) (s : State) (h_free : m .free = true) : s.freeBool.2.mask m = s.mask m := by
  simp [State.freeBool, h_free]

@[simp] theorem freeWords_mask (m : Part → Bool) (k : Nat) (s : State) (h_free : m .free = true) : (freeWords k s).2.mask m = s.mask m := by
  induction k generalizing s with
  | zero => rfl
  | succ k ih => simp [freeWords, ih, h_free]

@[simp] theorem State.setProof_mask (m : Part → Bool) (s : State) (a1 : ℕ) (a2 : W16) (h_proof : m .proof = true) : (State.setProof s a1 a2).mask m = s.mask m := by
  unfold State.setProof
  (repeat' split) <;> (first | (simp [Power.mask, Win.mask, Params.mask, Crb.mask, Idn.mask, h_proof]; done) | ((simp [Power.mask, Win.mask, Params.mask, Crb.mask, Idn.mask, h_proof]) <;> (repeat' split) <;> simp [Power.mask, Win.mask, Params.mask, Crb.mask, Idn.mask, h_proof]))

@[simp] theorem State.setUse_mask (m : Part → Bool) (s : State) (a1 : ℕ) (a2 : W16) (h_inUse : m .inUse = true) : (State.setUse s a1 a2).mask m = s.mask m := by
  unfold State.setUse
  (repeat' split) <;> (first | (simp [Power.mask, Win.mask, Params.mask, Crb.mask, Idn.mask, h_inUse]; done) | ((simp [Power.mask, Win.mask, Params.mask, Crb.mask, Idn.mask, h_inUse]) <;> (repeat' split) <;> simp [Power.mask, Win.mask, Params.mask, Crb.mask, Idn.mask, h_inUse]))

@[simp] theorem State.setLoop_mask (m : Part → Bool) (s : State) (a1 : Fin 16) (a2 : LoopState) (h_loops : m .loops = true) : (State.setLoop s a1 a2).mask m = s.mask m := by
  simp [State.setLoop, Power.mask, Win.mask, Params.mask, Crb.mask, Idn.mask, h_loops]

@[simp] theorem State.updLoop_mask (m : Part → Bool) (s : State) (a1 : Fin 16) (a2 : LoopState → LoopState) (h_loops : m .loops = true) : (State.updLoop s a1 a2).mask m = s.mask m := by
  simp [State.updLoop, Power.mask, Win.mask, Params.mask, Crb.mask, Idn.mask, h_loops]

@[simp] theorem State.setPhase_mask (m : Part → Bool) (s : State) (a1 : Fin 64) (a2 : PhaseState) (h_phases : m .phases = true) : (State.setPhase s a1 a2).mask m = s.mask m := by
  simp [State.setPhase, Power.mask, Win.mask, Params.mask, Crb.mask, Idn.mask, h_phases]

@[simp] theorem State.updPhase_mask (m : Part → Bool) (s : State) (a1 : Fin 64) (a2 : PhaseState → PhaseState) (h_phases : m .phases = true) : (State.updPhase s a1 a2).mask m = s.mask m := by
  simp [State.updPhase, Power.mask, Win.mask, Params.mask, Crb.mask, Idn.mask, h_phases]

@[simp] theorem State.updSense_mask (m : Part → Bool) (s : State) (a1 : Fin 16) (a2 : LoopSense → LoopSense) (h_loops : m .loops = true) : (State.updSense s a1 a2).mask m = s.mask m := by
  simp [State.updSense, Power.mask, Win.mask, Params.mask, Crb.mask, Idn.mask, h_loops]

@[simp] theorem State.updEng_mask (m : Part → Bool) (s : State) (a1 : Fin 16) (a2 : LoopEng → LoopEng) (h_loops : m .loops = true) : (State.updEng s a1 a2).mask m = s.mask m := by
  simp [State.updEng, Power.mask, Win.mask, Params.mask, Crb.mask, Idn.mask, h_loops]

@[simp] theorem State.updMod_mask (m : Part → Bool) (s : State) (a1 : Fin 16) (a2 : LoopMod → LoopMod) (h_loops : m .loops = true) : (State.updMod s a1 a2).mask m = s.mask m := by
  simp [State.updMod, Power.mask, Win.mask, Params.mask, Crb.mask, Idn.mask, h_loops]

@[simp] theorem State.updSp_mask (m : Part → Bool) (s : State) (a1 : Fin 16) (a2 : LoopSp → LoopSp) (h_loops : m .loops = true) : (State.updSp s a1 a2).mask m = s.mask m := by
  simp [State.updSp, Power.mask, Win.mask, Params.mask, Crb.mask, Idn.mask, h_loops]

@[simp] theorem State.updAcp_mask (m : Part → Bool) (s : State) (a1 : Fin 16) (a2 : LoopAcp → LoopAcp) (h_loops : m .loops = true) : (State.updAcp s a1 a2).mask m = s.mask m := by
  simp [State.updAcp, Power.mask, Win.mask, Params.mask, Crb.mask, Idn.mask, h_loops]

@[simp] theorem State.updLyr_mask (m : Part → Bool) (s : State) (a1 : Fin 16) (a2 : LoopLyr → LoopLyr) (h_loops : m .loops = true) : (State.updLyr s a1 a2).mask m = s.mask m := by
  simp [State.updLyr, Power.mask, Win.mask, Params.mask, Crb.mask, Idn.mask, h_loops]

@[simp] theorem State.updPrt_mask (m : Part → Bool) (s : State) (a1 : Fin 16) (a2 : LoopPrt → LoopPrt) (h_loops : m .loops = true) : (State.updPrt s a1 a2).mask m = s.mask m := by
  simp [State.updPrt, Power.mask, Win.mask, Params.mask, Crb.mask, Idn.mask, h_loops]

@[simp] theorem updPhases_mask (m : Part → Bool) (f : PhaseState → PhaseState) (l : List (Fin 64)) (s : State) (h_phases : m .phases = true) : (updPhases f l s).mask m = s.mask m := by
  induction l generalizing s with
  | nil => rfl
  | cons x l ih => simp [updPhases, ih, h_phases]

@[simp] theorem State.irq_mask (m : Part → Bool) (s : State) (a1 : ℕ) (h_irq : m .irq = true) : (State.irq s a1).mask m = s.mask m := by
  simp [State.irq, Power.mask, Win.mask, Params.mask, Crb.mask, Idn.mask, h_irq]

@[simp] theorem State.settleRun_mask (m : Part → Bool) (s : State) (h_g : m .g = true) : (State.settleRun s).mask m = s.mask m := by
  unfold State.settleRun
  (repeat' split) <;> (first | (simp [Power.mask, Win.mask, Params.mask, Crb.mask, Idn.mask, h_g]; done) | ((simp [Power.mask, Win.mask, Params.mask, Crb.mask, Idn.mask, h_g]) <;> (repeat' split) <;> simp [Power.mask, Win.mask, Params.mask, Crb.mask, Idn.mask, h_g]))

@[simp] theorem State.offer_mask (m : Part → Bool) (s : State) (a1 : LogEntry) (h_log : m .log = true) : (State.offer s a1).mask m = s.mask m := by
  unfold State.offer
  (repeat' split) <;> (first | (simp [Power.mask, Win.mask, Params.mask, Crb.mask, Idn.mask, h_log]; done) | ((simp [Power.mask, Win.mask, Params.mask, Crb.mask, Idn.mask, h_log]) <;> (repeat' split) <;> simp [Power.mask, Win.mask, Params.mask, Crb.mask, Idn.mask, h_log]))

@[simp] theorem State.event_mask (m : Part → Bool) (s : State) (a1 : Byte) (a2 : Option (Fin 16)) (a3 : W16) (a4 : ℕ) (h_log : m .log = true) : (State.event s a1 a2 a3 a4).mask m = s.mask m := by
  unfold State.event
  (repeat' split) <;> (first | (simp [Power.mask, Win.mask, Params.mask, Crb.mask, Idn.mask, h_log]; done) | ((simp [Power.mask, Win.mask, Params.mask, Crb.mask, Idn.mask, h_log]) <;> (repeat' split) <;> simp [Power.mask, Win.mask, Params.mask, Crb.mask, Idn.mask, h_log]))

@[simp] theorem State.raiseFault_mask (m : Part → Bool) (s : State) (a1 : Fin 16) (a2 : Byte) (a3 : W16) (a4 : List (Fin 64)) (h_loops : m .loops = true) : (State.raiseFault s a1 a2 a3 a4).mask m = s.mask m := by
  unfold State.raiseFault
  (repeat' split) <;> (first | (simp [Power.mask, Win.mask, Params.mask, Crb.mask, Idn.mask, h_loops]; done) | ((simp [Power.mask, Win.mask, Params.mask, Crb.mask, Idn.mask, h_loops]) <;> (repeat' split) <;> simp [Power.mask, Win.mask, Params.mask, Crb.mask, Idn.mask, h_loops]))

@[simp] theorem State.raiseFree_mask (m : Part → Bool) (s : State) (a1 : Fin 16) (a2 : Byte) (h_free : m .free = true) (h_loops : m .loops = true) : (State.raiseFree s a1 a2).mask m = s.mask m := by
  unfold State.raiseFree
  (repeat' split) <;> (first | (simp [Power.mask, Win.mask, Params.mask, Crb.mask, Idn.mask, h_free, h_loops]; done) | ((simp [Power.mask, Win.mask, Params.mask, Crb.mask, Idn.mask, h_free, h_loops]) <;> (repeat' split) <;> simp [Power.mask, Win.mask, Params.mask, Crb.mask, Idn.mask, h_free, h_loops]))

@[simp] theorem State.countFault_mask (m : Part → Bool) (s : State) (a1 : Byte) (a2 : Option (Fin 16)) (h_irq : m .irq = true) (h_win : m .win = true) : (State.countFault s a1 a2).mask m = s.mask m := by
  unfold State.countFault
  (repeat' split) <;> (first | (simp [Power.mask, Win.mask, Params.mask, Crb.mask, Idn.mask, h_irq, h_win]; done) | ((simp [Power.mask, Win.mask, Params.mask, Crb.mask, Idn.mask, h_irq, h_win]) <;> (repeat' split) <;> simp [Power.mask, Win.mask, Params.mask, Crb.mask, Idn.mask, h_irq, h_win]))

@[simp] theorem State.updChw_mask (m : Part → Bool) (s : State) (a1 : Chw → Chw) (h_chw : m .chw = true) : (State.updChw s a1).mask m = s.mask m := by
  simp [State.updChw, Power.mask, Win.mask, Params.mask, Crb.mask, Idn.mask, h_chw]

@[simp] theorem chwPick_mask (m : Part → Bool) (g : Chw → ChwSel) (p : ChwSel → Chw → Chw) (w : W16) (s : State) (h_chw : m .chw = true) : (chwPick g p w s).2.mask m = s.mask m := by
  simp only [chwPick]
  (repeat' split) <;> simp [Power.mask, Win.mask, Params.mask, Crb.mask, Idn.mask, h_chw]

@[simp] theorem chewAcp_mask (m : Part → Bool) (p : Fin 8) (s : State) (h_acp : m .acp = true) (h_chw : m .chw = true) : (chewAcp p s).2.mask m = s.mask m := by
  simp only [chewAcp]
  (repeat' split) <;> simp [Power.mask, Win.mask, Params.mask, Crb.mask, Idn.mask, h_acp, h_chw]

@[simp] theorem chewLeash_mask (m : Part → Bool) (p : Fin 8) (k : Nat) (s : State) (h_lsh : m .lsh = true) (h_chw : m .chw = true) : (chewLeash p k s).2.mask m = s.mask m := by
  simp only [chewLeash]
  (repeat' split) <;> simp [Power.mask, Win.mask, Params.mask, Crb.mask, Idn.mask, h_lsh, h_chw]

@[simp] theorem chewFetch_mask (m : Part → Bool) (p : Fin 32) (s : State) (h_fch : m .fch = true) (h_chw : m .chw = true) : (chewFetch p s).2.mask m = s.mask m := by
  simp only [chewFetch]
  (repeat' split) <;> simp [Power.mask, Win.mask, Params.mask, Crb.mask, Idn.mask, h_fch, h_chw]

@[simp] theorem storeWords_mask (m : Part → Bool)  (l : List (Fin 64 × Nat × Nat)) (s : State) (h_phases : m .phases = true) : (storeWords  l s).mask m = s.mask m := by
  induction l generalizing s with
  | nil => rfl
  | cons x l ih => simp [storeWords, ih, h_phases]

@[simp] theorem peakUpdate_mask (m : Part → Bool) (a0 : Fin 16) (s : State) (h_loops : m .loops = true) (h_phases : m .phases = true) : (peakUpdate a0 s).mask m = s.mask m := by
  unfold peakUpdate
  (repeat' split) <;> (first | (simp [Power.mask, Win.mask, Params.mask, Crb.mask, Idn.mask, h_loops, h_phases]; done) | ((simp [Power.mask, Win.mask, Params.mask, Crb.mask, Idn.mask, h_loops, h_phases]) <;> (repeat' split) <;> simp [Power.mask, Win.mask, Params.mask, Crb.mask, Idn.mask, h_loops, h_phases]))

@[simp] theorem fitShed_mask (m : Part → Bool) (k : Nat) (n : Fin 16) (nt : Nat) (s : State) (h_loops : m .loops = true) (h_phases : m .phases = true) : (fitShed k n nt s).mask m = s.mask m := by
  induction k generalizing s with
  | zero => rfl
  | succ k ih =>
    simp only [fitShed]
    (repeat' split) <;> simp [ih, h_loops, h_phases]

@[simp] theorem setTarget_mask (m : Part → Bool) (a0 : Fin 16) (a1 : ℕ) (s : State) (h_loops : m .loops = true) (h_phases : m .phases = true) : (setTarget a0 a1 s).mask m = s.mask m := by
  unfold setTarget
  (repeat' split) <;> (first | (simp [Power.mask, Win.mask, Params.mask, Crb.mask, Idn.mask, h_loops, h_phases]; done) | ((simp [Power.mask, Win.mask, Params.mask, Crb.mask, Idn.mask, h_loops, h_phases]) <;> (repeat' split) <;> simp [Power.mask, Win.mask, Params.mask, Crb.mask, Idn.mask, h_loops, h_phases]))

@[simp] theorem stopPulses_mask (m : Part → Bool) (a0 : Fin 16) (s : State) (h_loops : m .loops = true) (h_phases : m .phases = true) : (stopPulses a0 s).mask m = s.mask m := by
  unfold stopPulses
  (repeat' split) <;> (first | (simp [Power.mask, Win.mask, Params.mask, Crb.mask, Idn.mask, h_loops, h_phases]; done) | ((simp [Power.mask, Win.mask, Params.mask, Crb.mask, Idn.mask, h_loops, h_phases]) <;> (repeat' split) <;> simp [Power.mask, Win.mask, Params.mask, Crb.mask, Idn.mask, h_loops, h_phases]))

@[simp] theorem crowbarPhases_mask (m : Part → Bool) (a0 : Fin 16) (s : State) (h_loops : m .loops = true) (h_phases : m .phases = true) : (crowbarPhases a0 s).mask m = s.mask m := by
  unfold crowbarPhases
  (repeat' split) <;> (first | (simp [Power.mask, Win.mask, Params.mask, Crb.mask, Idn.mask, h_loops, h_phases]; done) | ((simp [Power.mask, Win.mask, Params.mask, Crb.mask, Idn.mask, h_loops, h_phases]) <;> (repeat' split) <;> simp [Power.mask, Win.mask, Params.mask, Crb.mask, Idn.mask, h_loops, h_phases]))

@[simp] theorem carrierFrom_mask (m : Part → Bool) (a0 : Fin 16) (s : State) (h_loops : m .loops = true) : (carrierFrom a0 s).mask m = s.mask m := by
  unfold carrierFrom
  (repeat' split) <;> (first | (simp [Power.mask, Win.mask, Params.mask, Crb.mask, Idn.mask, h_loops]; done) | ((simp [Power.mask, Win.mask, Params.mask, Crb.mask, Idn.mask, h_loops]) <;> (repeat' split) <;> simp [Power.mask, Win.mask, Params.mask, Crb.mask, Idn.mask, h_loops]))

@[simp] theorem carrierAngle_mask (m : Part → Bool) (a0 : Fin 16) (s : State) (h_loops : m .loops = true) : (carrierAngle a0 s).mask m = s.mask m := by
  unfold carrierAngle
  (repeat' split) <;> (first | (simp [Power.mask, Win.mask, Params.mask, Crb.mask, Idn.mask, h_loops]; done) | ((simp [Power.mask, Win.mask, Params.mask, Crb.mask, Idn.mask, h_loops]) <;> (repeat' split) <;> simp [Power.mask, Win.mask, Params.mask, Crb.mask, Idn.mask, h_loops]))

@[simp] theorem phaseTurnOn_mask (m : Part → Bool) (a0 : Fin 16) (a1 : Fin 64) (s : State) (h_loops : m .loops = true) (h_phases : m .phases = true) : (phaseTurnOn a0 a1 s).mask m = s.mask m := by
  unfold phaseTurnOn
  (repeat' split) <;> (first | (simp [Power.mask, Win.mask, Params.mask, Crb.mask, Idn.mask, h_loops, h_phases]; done) | ((simp [Power.mask, Win.mask, Params.mask, Crb.mask, Idn.mask, h_loops, h_phases]) <;> (repeat' split) <;> simp [Power.mask, Win.mask, Params.mask, Crb.mask, Idn.mask, h_loops, h_phases]))

@[simp] theorem comparatorTrip_mask (m : Part → Bool) (a0 : Fin 16) (a1 : Fin 64) (s : State) (h_phases : m .phases = true) : (comparatorTrip a0 a1 s).mask m = s.mask m := by
  unfold comparatorTrip
  (repeat' split) <;> (first | (simp [Power.mask, Win.mask, Params.mask, Crb.mask, Idn.mask, h_phases]; done) | ((simp [Power.mask, Win.mask, Params.mask, Crb.mask, Idn.mask, h_phases]) <;> (repeat' split) <;> simp [Power.mask, Win.mask, Params.mask, Crb.mask, Idn.mask, h_phases]))

@[simp] theorem tugCount_mask (m : Part → Bool) (a0 : Fin 16) (a1 : ℕ) (a2 : W16) (s : State) (h_log : m .log = true) (h_loops : m .loops = true) : (tugCount a0 a1 a2 s).mask m = s.mask m := by
  unfold tugCount
  (repeat' split) <;> (first | (simp [Power.mask, Win.mask, Params.mask, Crb.mask, Idn.mask, h_log, h_loops]; done) | ((simp [Power.mask, Win.mask, Params.mask, Crb.mask, Idn.mask, h_log, h_loops]) <;> (repeat' split) <;> simp [Power.mask, Win.mask, Params.mask, Crb.mask, Idn.mask, h_log, h_loops]))

@[simp] theorem tug_mask (m : Part → Bool) (a0 : Fin 16) (a1 : ℕ) (a2 : Bool) (a3 : ℕ) (s : State) (h_log : m .log = true) (h_loops : m .loops = true) : (tug a0 a1 a2 a3 s).mask m = s.mask m := by
  unfold tug
  (repeat' split) <;> (first | (simp [Power.mask, Win.mask, Params.mask, Crb.mask, Idn.mask, h_log, h_loops]; done) | ((simp [Power.mask, Win.mask, Params.mask, Crb.mask, Idn.mask, h_log, h_loops]) <;> (repeat' split) <;> simp [Power.mask, Win.mask, Params.mask, Crb.mask, Idn.mask, h_log, h_loops]))

@[simp] theorem addPhases_mask (m : Part → Bool) (a0 : Fin 16) (a1 : Frac) (s : State) (h_log : m .log = true) (h_loops : m .loops = true) (h_phases : m .phases = true) : (addPhases a0 a1 s).mask m = s.mask m := by
  unfold addPhases
  (repeat' split) <;> (first | (simp [Power.mask, Win.mask, Params.mask, Crb.mask, Idn.mask, h_log, h_loops, h_phases]; done) | ((simp [Power.mask, Win.mask, Params.mask, Crb.mask, Idn.mask, h_log, h_loops, h_phases]) <;> (repeat' split) <;> simp [Power.mask, Win.mask, Params.mask, Crb.mask, Idn.mask, h_log, h_loops, h_phases]))

@[simp] theorem shedOne_mask (m : Part → Bool) (a0 : Fin 16) (s : State) (h_loops : m .loops = true) (h_phases : m .phases = true) : (shedOne a0 s).mask m = s.mask m := by
  unfold shedOne
  (repeat' split) <;> (first | (simp [Power.mask, Win.mask, Params.mask, Crb.mask, Idn.mask, h_loops, h_phases]; done) | ((simp [Power.mask, Win.mask, Params.mask, Crb.mask, Idn.mask, h_loops, h_phases]) <;> (repeat' split) <;> simp [Power.mask, Win.mask, Params.mask, Crb.mask, Idn.mask, h_loops, h_phases]))

@[simp] theorem shedPhase_mask (m : Part → Bool) (a0 : Fin 16) (s : State) (h_log : m .log = true) (h_loops : m .loops = true) (h_phases : m .phases = true) : (shedPhase a0 s).mask m = s.mask m := by
  unfold shedPhase
  (repeat' split) <;> (first | (simp [Power.mask, Win.mask, Params.mask, Crb.mask, Idn.mask, h_log, h_loops, h_phases]; done) | ((simp [Power.mask, Win.mask, Params.mask, Crb.mask, Idn.mask, h_log, h_loops, h_phases]) <;> (repeat' split) <;> simp [Power.mask, Win.mask, Params.mask, Crb.mask, Idn.mask, h_log, h_loops, h_phases]))

@[simp] theorem adaptPhases_mask (m : Part → Bool) (a0 : Fin 16) (a1 : Frac) (s : State) (h_log : m .log = true) (h_loops : m .loops = true) (h_phases : m .phases = true) : (adaptPhases a0 a1 s).mask m = s.mask m := by
  unfold adaptPhases
  (repeat' split) <;> (first | (simp [Power.mask, Win.mask, Params.mask, Crb.mask, Idn.mask, h_log, h_loops, h_phases]; done) | ((simp [Power.mask, Win.mask, Params.mask, Crb.mask, Idn.mask, h_log, h_loops, h_phases]) <;> (repeat' split) <;> simp [Power.mask, Win.mask, Params.mask, Crb.mask, Idn.mask, h_log, h_loops, h_phases]))

@[simp] theorem noteLoad_mask (m : Part → Bool) (a0 : Fin 16) (a1 : Frac) (s : State) (h_loops : m .loops = true) : (noteLoad a0 a1 s).mask m = s.mask m := by
  unfold noteLoad
  (repeat' split) <;> (first | (simp [Power.mask, Win.mask, Params.mask, Crb.mask, Idn.mask, h_loops]; done) | ((simp [Power.mask, Win.mask, Params.mask, Crb.mask, Idn.mask, h_loops]) <;> (repeat' split) <;> simp [Power.mask, Win.mask, Params.mask, Crb.mask, Idn.mask, h_loops]))

@[simp] theorem adaptFreq_mask (m : Part → Bool) (a0 : Fin 16) (s : State) (h_log : m .log = true) (h_loops : m .loops = true) : (adaptFreq a0 s).mask m = s.mask m := by
  unfold adaptFreq
  (repeat' split) <;> (first | (simp [Power.mask, Win.mask, Params.mask, Crb.mask, Idn.mask, h_log, h_loops]; done) | ((simp [Power.mask, Win.mask, Params.mask, Crb.mask, Idn.mask, h_log, h_loops]) <;> (repeat' split) <;> simp [Power.mask, Win.mask, Params.mask, Crb.mask, Idn.mask, h_log, h_loops]))

@[simp] theorem alignLoop_mask (m : Part → Bool) (a0 : Fin 16) (s : State) (h_log : m .log = true) (h_loops : m .loops = true) : (alignLoop a0 s).mask m = s.mask m := by
  unfold alignLoop
  (repeat' split) <;> (first | (simp [Power.mask, Win.mask, Params.mask, Crb.mask, Idn.mask, h_log, h_loops]; done) | ((simp [Power.mask, Win.mask, Params.mask, Crb.mask, Idn.mask, h_log, h_loops]) <;> (repeat' split) <;> simp [Power.mask, Win.mask, Params.mask, Crb.mask, Idn.mask, h_log, h_loops]))

@[simp] theorem iscSample_mask (m : Part → Bool) (a0 : Fin 16) (a1 : Fin 64) (a2 : ℤ) (s : State) (h_phases : m .phases = true) : (iscSample a0 a1 a2 s).mask m = s.mask m := by
  unfold iscSample
  (repeat' split) <;> (first | (simp [Power.mask, Win.mask, Params.mask, Crb.mask, Idn.mask, h_phases]; done) | ((simp [Power.mask, Win.mask, Params.mask, Crb.mask, Idn.mask, h_phases]) <;> (repeat' split) <;> simp [Power.mask, Win.mask, Params.mask, Crb.mask, Idn.mask, h_phases]))

@[simp] theorem staleEnd_mask (m : Part → Bool) (a0 : Fin 16) (s : State) (h_loops : m .loops = true) : (staleEnd a0 s).mask m = s.mask m := by
  unfold staleEnd
  (repeat' split) <;> (first | (simp [Power.mask, Win.mask, Params.mask, Crb.mask, Idn.mask, h_loops]; done) | ((simp [Power.mask, Win.mask, Params.mask, Crb.mask, Idn.mask, h_loops]) <;> (repeat' split) <;> simp [Power.mask, Win.mask, Params.mask, Crb.mask, Idn.mask, h_loops]))

@[simp] theorem zeroReference_mask (m : Part → Bool) (a0 : Fin 16) (a1 : Fin 64) (a2 : List ℤ) (s : State) (h_loops : m .loops = true) (h_phases : m .phases = true) : (zeroReference a0 a1 a2 s).mask m = s.mask m := by
  unfold zeroReference
  (repeat' split) <;> (first | (simp [Power.mask, Win.mask, Params.mask, Crb.mask, Idn.mask, h_loops, h_phases]; done) | ((simp [Power.mask, Win.mask, Params.mask, Crb.mask, Idn.mask, h_loops, h_phases]) <;> (repeat' split) <;> simp [Power.mask, Win.mask, Params.mask, Crb.mask, Idn.mask, h_loops, h_phases]))

@[simp] theorem whiskTurn_mask (m : Part → Bool) (a0 : Fin 16) (s : State) (h_loops : m .loops = true) : (whiskTurn a0 s).mask m = s.mask m := by
  unfold whiskTurn
  (repeat' split) <;> (first | (simp [Power.mask, Win.mask, Params.mask, Crb.mask, Idn.mask, h_loops]; done) | ((simp [Power.mask, Win.mask, Params.mask, Crb.mask, Idn.mask, h_loops]) <;> (repeat' split) <;> simp [Power.mask, Win.mask, Params.mask, Crb.mask, Idn.mask, h_loops]))

@[simp] theorem whiskSwap_mask (m : Part → Bool) (a0 : Fin 16) (a1 : Fin 64) (a2 : Fin 64) (s : State) (h_loops : m .loops = true) (h_phases : m .phases = true) : (whiskSwap a0 a1 a2 s).mask m = s.mask m := by
  unfold whiskSwap
  (repeat' split) <;> (first | (simp [Power.mask, Win.mask, Params.mask, Crb.mask, Idn.mask, h_loops, h_phases]; done) | ((simp [Power.mask, Win.mask, Params.mask, Crb.mask, Idn.mask, h_loops, h_phases]) <;> (repeat' split) <;> simp [Power.mask, Win.mask, Params.mask, Crb.mask, Idn.mask, h_loops, h_phases]))

@[simp] theorem shedAfter_mask (m : Part → Bool) (a0 : Fin 16) (s : State) (h_loops : m .loops = true) (h_phases : m .phases = true) : (shedAfter a0 s).mask m = s.mask m := by
  unfold shedAfter
  (repeat' split) <;> (first | (simp [Power.mask, Win.mask, Params.mask, Crb.mask, Idn.mask, h_loops, h_phases]; done) | ((simp [Power.mask, Win.mask, Params.mask, Crb.mask, Idn.mask, h_loops, h_phases]) <;> (repeat' split) <;> simp [Power.mask, Win.mask, Params.mask, Crb.mask, Idn.mask, h_loops, h_phases]))

@[simp] theorem whiskInstant_mask (m : Part → Bool) (a0 : Fin 16) (s : State) (h_loops : m .loops = true) (h_phases : m .phases = true) : (whiskInstant a0 s).mask m = s.mask m := by
  unfold whiskInstant
  (repeat' split) <;> (first | (simp [Power.mask, Win.mask, Params.mask, Crb.mask, Idn.mask, h_loops, h_phases]; done) | ((simp [Power.mask, Win.mask, Params.mask, Crb.mask, Idn.mask, h_loops, h_phases]) <;> (repeat' split) <;> simp [Power.mask, Win.mask, Params.mask, Crb.mask, Idn.mask, h_loops, h_phases]))

@[simp] theorem newRanking_mask (m : Part → Bool) (a0 : Fin 16) (a1 : List (Fin 64)) (s : State) (h_loops : m .loops = true) (h_phases : m .phases = true) : (newRanking a0 a1 s).mask m = s.mask m := by
  unfold newRanking
  (repeat' split) <;> (first | (simp [Power.mask, Win.mask, Params.mask, Crb.mask, Idn.mask, h_loops, h_phases]; done) | ((simp [Power.mask, Win.mask, Params.mask, Crb.mask, Idn.mask, h_loops, h_phases]) <;> (repeat' split) <;> simp [Power.mask, Win.mask, Params.mask, Crb.mask, Idn.mask, h_loops, h_phases]))

@[simp] theorem takeHint_mask (m : Part → Bool) (a0 : Fin 16) (a1 : ℕ) (s : State) (h_loops : m .loops = true) (h_phases : m .phases = true) : (takeHint a0 a1 s).mask m = s.mask m := by
  unfold takeHint
  (repeat' split) <;> (first | (simp [Power.mask, Win.mask, Params.mask, Crb.mask, Idn.mask, h_loops, h_phases]; done) | ((simp [Power.mask, Win.mask, Params.mask, Crb.mask, Idn.mask, h_loops, h_phases]) <;> (repeat' split) <;> simp [Power.mask, Win.mask, Params.mask, Crb.mask, Idn.mask, h_loops, h_phases]))

@[simp] theorem hintInstant_mask (m : Part → Bool) (a0 : Fin 16) (s : State) (h_loops : m .loops = true) (h_phases : m .phases = true) : (hintInstant a0 s).mask m = s.mask m := by
  unfold hintInstant
  (repeat' split) <;> (first | (simp [Power.mask, Win.mask, Params.mask, Crb.mask, Idn.mask, h_loops, h_phases]; done) | ((simp [Power.mask, Win.mask, Params.mask, Crb.mask, Idn.mask, h_loops, h_phases]) <;> (repeat' split) <;> simp [Power.mask, Win.mask, Params.mask, Crb.mask, Idn.mask, h_loops, h_phases]))

@[simp] theorem refitHint_mask (m : Part → Bool) (a0 : Fin 16) (s : State) (h_loops : m .loops = true) (h_phases : m .phases = true) : (refitHint a0 s).mask m = s.mask m := by
  unfold refitHint
  (repeat' split) <;> (first | (simp [Power.mask, Win.mask, Params.mask, Crb.mask, Idn.mask, h_loops, h_phases]; done) | ((simp [Power.mask, Win.mask, Params.mask, Crb.mask, Idn.mask, h_loops, h_phases]) <;> (repeat' split) <;> simp [Power.mask, Win.mask, Params.mask, Crb.mask, Idn.mask, h_loops, h_phases]))

@[simp] theorem syncPulse_mask (m : Part → Bool) (a0 : Fin 16) (s : State) (h_stb : m .stb = true) : (syncPulse a0 s).mask m = s.mask m := by
  unfold syncPulse
  (repeat' split) <;> (first | (simp [Power.mask, Win.mask, Params.mask, Crb.mask, Idn.mask, h_stb]; done) | ((simp [Power.mask, Win.mask, Params.mask, Crb.mask, Idn.mask, h_stb]) <;> (repeat' split) <;> simp [Power.mask, Win.mask, Params.mask, Crb.mask, Idn.mask, h_stb]))

@[simp] theorem phasesBack_mask (m : Part → Bool) (a0 : Fin 16) (s : State) (h_loops : m .loops = true) (h_phases : m .phases = true) : (phasesBack a0 s).mask m = s.mask m := by
  unfold phasesBack
  (repeat' split) <;> (first | (simp [Power.mask, Win.mask, Params.mask, Crb.mask, Idn.mask, h_loops, h_phases]; done) | ((simp [Power.mask, Win.mask, Params.mask, Crb.mask, Idn.mask, h_loops, h_phases]) <;> (repeat' split) <;> simp [Power.mask, Win.mask, Params.mask, Crb.mask, Idn.mask, h_loops, h_phases]))

@[simp] theorem referenceInstant_mask (m : Part → Bool) (a0 : Fin 16) (s : State) (h_loops : m .loops = true) (h_phases : m .phases = true) (h_stb : m .stb = true) : (referenceInstant a0 s).mask m = s.mask m := by
  unfold referenceInstant
  (repeat' split) <;> (first | (simp [Power.mask, Win.mask, Params.mask, Crb.mask, Idn.mask, h_loops, h_phases, h_stb]; done) | ((simp [Power.mask, Win.mask, Params.mask, Crb.mask, Idn.mask, h_loops, h_phases, h_stb]) <;> (repeat' split) <;> simp [Power.mask, Win.mask, Params.mask, Crb.mask, Idn.mask, h_loops, h_phases, h_stb]))

@[simp] theorem kennelInstant_mask (m : Part → Bool) (a0 : Fin 16) (s : State) (h_loops : m .loops = true) (h_phases : m .phases = true) : (kennelInstant a0 s).mask m = s.mask m := by
  unfold kennelInstant
  (repeat' split) <;> (first | (simp [Power.mask, Win.mask, Params.mask, Crb.mask, Idn.mask, h_loops, h_phases]; done) | ((simp [Power.mask, Win.mask, Params.mask, Crb.mask, Idn.mask, h_loops, h_phases]) <;> (repeat' split) <;> simp [Power.mask, Win.mask, Params.mask, Crb.mask, Idn.mask, h_loops, h_phases]))

@[simp] theorem whiskBlankEnd_mask (m : Part → Bool) (a0 : Fin 16) (a1 : List ℤ) (s : State) (h_loops : m .loops = true) (h_phases : m .phases = true) : (whiskBlankEnd a0 a1 s).mask m = s.mask m := by
  unfold whiskBlankEnd
  (repeat' split) <;> (first | (simp [Power.mask, Win.mask, Params.mask, Crb.mask, Idn.mask, h_loops, h_phases]; done) | ((simp [Power.mask, Win.mask, Params.mask, Crb.mask, Idn.mask, h_loops, h_phases]) <;> (repeat' split) <;> simp [Power.mask, Win.mask, Params.mask, Crb.mask, Idn.mask, h_loops, h_phases]))

@[simp] theorem putState_mask (m : Part → Bool) (a0 : Fin 16) (a1 : LoopSt) (s : State) (h_loops : m .loops = true) : (putState a0 a1 s).mask m = s.mask m := by
  unfold putState
  (repeat' split) <;> (first | (simp [Power.mask, Win.mask, Params.mask, Crb.mask, Idn.mask, h_loops]; done) | ((simp [Power.mask, Win.mask, Params.mask, Crb.mask, Idn.mask, h_loops]) <;> (repeat' split) <;> simp [Power.mask, Win.mask, Params.mask, Crb.mask, Idn.mask, h_loops]))

@[simp] theorem enterOff_mask (m : Part → Bool) (a0 : Fin 16) (s : State) (h_g : m .g = true) (h_loops : m .loops = true) (h_phases : m .phases = true) : (enterOff a0 s).mask m = s.mask m := by
  unfold enterOff
  (repeat' split) <;> (first | (simp [Power.mask, Win.mask, Params.mask, Crb.mask, Idn.mask, h_g, h_loops, h_phases]; done) | ((simp [Power.mask, Win.mask, Params.mask, Crb.mask, Idn.mask, h_g, h_loops, h_phases]) <;> (repeat' split) <;> simp [Power.mask, Win.mask, Params.mask, Crb.mask, Idn.mask, h_g, h_loops, h_phases]))

@[simp] theorem enterDelayOff_mask (m : Part → Bool) (a0 : Fin 16) (s : State) (h_loops : m .loops = true) (h_phases : m .phases = true) : (enterDelayOff a0 s).mask m = s.mask m := by
  unfold enterDelayOff
  (repeat' split) <;> (first | (simp [Power.mask, Win.mask, Params.mask, Crb.mask, Idn.mask, h_loops, h_phases]; done) | ((simp [Power.mask, Win.mask, Params.mask, Crb.mask, Idn.mask, h_loops, h_phases]) <;> (repeat' split) <;> simp [Power.mask, Win.mask, Params.mask, Crb.mask, Idn.mask, h_loops, h_phases]))

@[simp] theorem enterRampDown_mask (m : Part → Bool) (a0 : Fin 16) (a1 : DownBy) (s : State) (h_loops : m .loops = true) (h_phases : m .phases = true) : (enterRampDown a0 a1 s).mask m = s.mask m := by
  unfold enterRampDown
  (repeat' split) <;> (first | (simp [Power.mask, Win.mask, Params.mask, Crb.mask, Idn.mask, h_loops, h_phases]; done) | ((simp [Power.mask, Win.mask, Params.mask, Crb.mask, Idn.mask, h_loops, h_phases]) <;> (repeat' split) <;> simp [Power.mask, Win.mask, Params.mask, Crb.mask, Idn.mask, h_loops, h_phases]))

@[simp] theorem enterRampUp_mask (m : Part → Bool) (a0 : Fin 16) (a1 : W16) (s : State) (h_loops : m .loops = true) (h_phases : m .phases = true) : (enterRampUp a0 a1 s).mask m = s.mask m := by
  unfold enterRampUp
  (repeat' split) <;> (first | (simp [Power.mask, Win.mask, Params.mask, Crb.mask, Idn.mask, h_loops, h_phases]; done) | ((simp [Power.mask, Win.mask, Params.mask, Crb.mask, Idn.mask, h_loops, h_phases]) <;> (repeat' split) <;> simp [Power.mask, Win.mask, Params.mask, Crb.mask, Idn.mask, h_loops, h_phases]))

@[simp] theorem startMove_mask (m : Part → Bool) (a0 : Fin 16) (a1 : W16) (s : State) (h_loops : m .loops = true) : (startMove a0 a1 s).mask m = s.mask m := by
  unfold startMove
  (repeat' split) <;> (first | (simp [Power.mask, Win.mask, Params.mask, Crb.mask, Idn.mask, h_loops]; done) | ((simp [Power.mask, Win.mask, Params.mask, Crb.mask, Idn.mask, h_loops]) <;> (repeat' split) <;> simp [Power.mask, Win.mask, Params.mask, Crb.mask, Idn.mask, h_loops]))

@[simp] theorem enterRegulate_mask (m : Part → Bool) (a0 : Fin 16) (a1 : Frac) (s : State) (h_loops : m .loops = true) : (enterRegulate a0 a1 s).mask m = s.mask m := by
  unfold enterRegulate
  (repeat' split) <;> (first | (simp [Power.mask, Win.mask, Params.mask, Crb.mask, Idn.mask, h_loops]; done) | ((simp [Power.mask, Win.mask, Params.mask, Crb.mask, Idn.mask, h_loops]) <;> (repeat' split) <;> simp [Power.mask, Win.mask, Params.mask, Crb.mask, Idn.mask, h_loops]))

@[simp] theorem takeEnable_mask (m : Part → Bool) (a0 : Fin 16) (s : State) (h_loops : m .loops = true) : (takeEnable a0 s).mask m = s.mask m := by
  unfold takeEnable
  (repeat' split) <;> (first | (simp [Power.mask, Win.mask, Params.mask, Crb.mask, Idn.mask, h_loops]; done) | ((simp [Power.mask, Win.mask, Params.mask, Crb.mask, Idn.mask, h_loops]) <;> (repeat' split) <;> simp [Power.mask, Win.mask, Params.mask, Crb.mask, Idn.mask, h_loops]))

@[simp] theorem heelFound_mask (m : Part → Bool) (a0 : Fin 16) (s : State) (h_loops : m .loops = true) : (heelFound a0 s).mask m = s.mask m := by
  unfold heelFound
  (repeat' split) <;> (first | (simp [Power.mask, Win.mask, Params.mask, Crb.mask, Idn.mask, h_loops]; done) | ((simp [Power.mask, Win.mask, Params.mask, Crb.mask, Idn.mask, h_loops]) <;> (repeat' split) <;> simp [Power.mask, Win.mask, Params.mask, Crb.mask, Idn.mask, h_loops]))

@[simp] theorem heelResume_mask (m : Part → Bool) (a0 : Fin 16) (s : State) (h_loops : m .loops = true) : (heelResume a0 s).mask m = s.mask m := by
  unfold heelResume
  (repeat' split) <;> (first | (simp [Power.mask, Win.mask, Params.mask, Crb.mask, Idn.mask, h_loops]; done) | ((simp [Power.mask, Win.mask, Params.mask, Crb.mask, Idn.mask, h_loops]) <;> (repeat' split) <;> simp [Power.mask, Win.mask, Params.mask, Crb.mask, Idn.mask, h_loops]))

@[simp] theorem boundaryRegulate_mask (m : Part → Bool) (a0 : Fin 16) (s : State) (h_loops : m .loops = true) (h_phases : m .phases = true) : (boundaryRegulate a0 s).mask m = s.mask m := by
  unfold boundaryRegulate
  (repeat' split) <;> (first | (simp [Power.mask, Win.mask, Params.mask, Crb.mask, Idn.mask, h_loops, h_phases]; done) | ((simp [Power.mask, Win.mask, Params.mask, Crb.mask, Idn.mask, h_loops, h_phases]) <;> (repeat' split) <;> simp [Power.mask, Win.mask, Params.mask, Crb.mask, Idn.mask, h_loops, h_phases]))

@[simp] theorem noteSteady_mask (m : Part → Bool) (a0 : Fin 16) (s : State) (h_loops : m .loops = true) : (noteSteady a0 s).mask m = s.mask m := by
  unfold noteSteady
  (repeat' split) <;> (first | (simp [Power.mask, Win.mask, Params.mask, Crb.mask, Idn.mask, h_loops]; done) | ((simp [Power.mask, Win.mask, Params.mask, Crb.mask, Idn.mask, h_loops]) <;> (repeat' split) <;> simp [Power.mask, Win.mask, Params.mask, Crb.mask, Idn.mask, h_loops]))

@[simp] theorem gaspTurnOff_mask (m : Part → Bool) (a0 : Fin 16) (s : State) (h_g : m .g = true) (h_loops : m .loops = true) (h_phases : m .phases = true) : (gaspTurnOff a0 s).mask m = s.mask m := by
  unfold gaspTurnOff
  (repeat' split) <;> (first | (simp [Power.mask, Win.mask, Params.mask, Crb.mask, Idn.mask, h_g, h_loops, h_phases]; done) | ((simp [Power.mask, Win.mask, Params.mask, Crb.mask, Idn.mask, h_g, h_loops, h_phases]) <;> (repeat' split) <;> simp [Power.mask, Win.mask, Params.mask, Crb.mask, Idn.mask, h_g, h_loops, h_phases]))

@[simp] theorem boundaryRampUp_mask (m : Part → Bool) (a0 : Fin 16) (s : State) (h_loops : m .loops = true) (h_phases : m .phases = true) : (boundaryRampUp a0 s).mask m = s.mask m := by
  unfold boundaryRampUp
  (repeat' split) <;> (first | (simp [Power.mask, Win.mask, Params.mask, Crb.mask, Idn.mask, h_loops, h_phases]; done) | ((simp [Power.mask, Win.mask, Params.mask, Crb.mask, Idn.mask, h_loops, h_phases]) <;> (repeat' split) <;> simp [Power.mask, Win.mask, Params.mask, Crb.mask, Idn.mask, h_loops, h_phases]))

@[simp] theorem boundaryState_mask (m : Part → Bool) (a0 : Fin 16) (s : State) (h_g : m .g = true) (h_loops : m .loops = true) (h_phases : m .phases = true) : (boundaryState a0 s).mask m = s.mask m := by
  unfold boundaryState
  (repeat' split) <;> (first | (simp [Power.mask, Win.mask, Params.mask, Crb.mask, Idn.mask, h_g, h_loops, h_phases]; done) | ((simp [Power.mask, Win.mask, Params.mask, Crb.mask, Idn.mask, h_g, h_loops, h_phases]) <;> (repeat' split) <;> simp [Power.mask, Win.mask, Params.mask, Crb.mask, Idn.mask, h_g, h_loops, h_phases]))

@[simp] theorem leaveOff_mask (m : Part → Bool) (a0 : Fin 16) (s : State) (h_loops : m .loops = true) : (leaveOff a0 s).mask m = s.mask m := by
  unfold leaveOff
  (repeat' split) <;> (first | (simp [Power.mask, Win.mask, Params.mask, Crb.mask, Idn.mask, h_loops]; done) | ((simp [Power.mask, Win.mask, Params.mask, Crb.mask, Idn.mask, h_loops]) <;> (repeat' split) <;> simp [Power.mask, Win.mask, Params.mask, Crb.mask, Idn.mask, h_loops]))

@[simp] theorem enterDelayOn_mask (m : Part → Bool) (a0 : Fin 16) (s : State) (h_g : m .g = true) (h_loops : m .loops = true) (h_damp : m .damp = true) : (enterDelayOn a0 s).mask m = s.mask m := by
  unfold enterDelayOn
  (repeat' split) <;> (first | (simp [Power.mask, Win.mask, Params.mask, Crb.mask, Idn.mask, h_g, h_loops, h_damp]; done) | ((simp [Power.mask, Win.mask, Params.mask, Crb.mask, Idn.mask, h_g, h_loops, h_damp]) <;> (repeat' split) <;> simp [Power.mask, Win.mask, Params.mask, Crb.mask, Idn.mask, h_g, h_loops, h_damp]))

@[simp] theorem delayOnEnd_mask (m : Part → Bool) (a0 : Fin 16) (s : State) (h_loops : m .loops = true) (h_phases : m .phases = true) : (delayOnEnd a0 s).mask m = s.mask m := by
  unfold delayOnEnd
  (repeat' split) <;> (first | (simp [Power.mask, Win.mask, Params.mask, Crb.mask, Idn.mask, h_loops, h_phases]; done) | ((simp [Power.mask, Win.mask, Params.mask, Crb.mask, Idn.mask, h_loops, h_phases]) <;> (repeat' split) <;> simp [Power.mask, Win.mask, Params.mask, Crb.mask, Idn.mask, h_loops, h_phases]))

@[simp] theorem setptLoop_mask (m : Part → Bool) (a0 : Frac) (a1 : Fin 16) (s : State) (h_loops : m .loops = true) : (setptLoop a0 a1 s).mask m = s.mask m := by
  unfold setptLoop
  (repeat' split) <;> (first | (simp [Power.mask, Win.mask, Params.mask, Crb.mask, Idn.mask, h_loops]; done) | ((simp [Power.mask, Win.mask, Params.mask, Crb.mask, Idn.mask, h_loops]) <;> (repeat' split) <;> simp [Power.mask, Win.mask, Params.mask, Crb.mask, Idn.mask, h_loops]))

@[simp] theorem heelLoss_mask (m : Part → Bool) (a0 : Fin 16) (s : State) (h_free : m .free = true) (h_loops : m .loops = true) (h_phases : m .phases = true) : (heelLoss a0 s).mask m = s.mask m := by
  unfold heelLoss
  (repeat' split) <;> (first | (simp [Power.mask, Win.mask, Params.mask, Crb.mask, Idn.mask, h_free, h_loops, h_phases]; done) | ((simp [Power.mask, Win.mask, Params.mask, Crb.mask, Idn.mask, h_free, h_loops, h_phases]) <;> (repeat' split) <;> simp [Power.mask, Win.mask, Params.mask, Crb.mask, Idn.mask, h_free, h_loops, h_phases]))

@[simp] theorem vinNote_mask (m : Part → Bool) (a0 : Fin 16) (s : State) (h_loops : m .loops = true) : (vinNote a0 s).mask m = s.mask m := by
  unfold vinNote
  (repeat' split) <;> (first | (simp [Power.mask, Win.mask, Params.mask, Crb.mask, Idn.mask, h_loops]; done) | ((simp [Power.mask, Win.mask, Params.mask, Crb.mask, Idn.mask, h_loops]) <;> (repeat' split) <;> simp [Power.mask, Win.mask, Params.mask, Crb.mask, Idn.mask, h_loops]))

@[simp] theorem vinNoteAll_mask (m : Part → Bool) (s : State) (h_loops : m .loops = true) : (vinNoteAll s).mask m = s.mask m := by
  unfold vinNoteAll
  (repeat' split) <;> (first | (simp [Power.mask, Win.mask, Params.mask, Crb.mask, Idn.mask, h_loops]; done) | ((simp [Power.mask, Win.mask, Params.mask, Crb.mask, Idn.mask, h_loops]) <;> (repeat' split) <;> simp [Power.mask, Win.mask, Params.mask, Crb.mask, Idn.mask, h_loops]))

@[simp] theorem otNote_mask (m : Part → Bool) (a0 : Fin 6) (s : State) (h_prot : m .prot = true) : (otNote a0 s).mask m = s.mask m := by
  unfold otNote
  (repeat' split) <;> (first | (simp [Power.mask, Win.mask, Params.mask, Crb.mask, Idn.mask, h_prot]; done) | ((simp [Power.mask, Win.mask, Params.mask, Crb.mask, Idn.mask, h_prot]) <;> (repeat' split) <;> simp [Power.mask, Win.mask, Params.mask, Crb.mask, Idn.mask, h_prot]))

@[simp] theorem otNotes_mask (m : Part → Bool)  (l : List (Fin 6)) (s : State) (h_prot : m .prot = true) : (otNotes  l s).mask m = s.mask m := by
  induction l generalizing s with
  | nil => rfl
  | cons x l ih => simp [otNotes, ih, h_prot]

@[simp] theorem otNoteAll_mask (m : Part → Bool) (s : State) (h_prot : m .prot = true) : (otNoteAll s).mask m = s.mask m := by
  unfold otNoteAll
  (repeat' split) <;> (first | (simp [Power.mask, Win.mask, Params.mask, Crb.mask, Idn.mask, h_prot]; done) | ((simp [Power.mask, Win.mask, Params.mask, Crb.mask, Idn.mask, h_prot]) <;> (repeat' split) <;> simp [Power.mask, Win.mask, Params.mask, Crb.mask, Idn.mask, h_prot]))

@[simp] theorem otPut_mask (m : Part → Bool) (a0 : Fin 6) (a1 : Bool) (s : State) (h_prot : m .prot = true) : (otPut a0 a1 s).mask m = s.mask m := by
  unfold otPut
  (repeat' split) <;> (first | (simp [Power.mask, Win.mask, Params.mask, Crb.mask, Idn.mask, h_prot]; done) | ((simp [Power.mask, Win.mask, Params.mask, Crb.mask, Idn.mask, h_prot]) <;> (repeat' split) <;> simp [Power.mask, Win.mask, Params.mask, Crb.mask, Idn.mask, h_prot]))

@[simp] theorem otOnset_mask (m : Part → Bool) (a0 : Fin 6) (s : State) (h_loops : m .loops = true) (h_prot : m .prot = true) : (otOnset a0 s).mask m = s.mask m := by
  unfold otOnset
  (repeat' split) <;> (first | (simp [Power.mask, Win.mask, Params.mask, Crb.mask, Idn.mask, h_loops, h_prot]; done) | ((simp [Power.mask, Win.mask, Params.mask, Crb.mask, Idn.mask, h_loops, h_prot]) <;> (repeat' split) <;> simp [Power.mask, Win.mask, Params.mask, Crb.mask, Idn.mask, h_loops, h_prot]))

@[simp] theorem phasesReturn_mask (m : Part → Bool) (a0 : Removal) (a1 : List (Fin 64)) (s : State) (h_phases : m .phases = true) : (phasesReturn a0 a1 s).mask m = s.mask m := by
  unfold phasesReturn
  (repeat' split) <;> (first | (simp [Power.mask, Win.mask, Params.mask, Crb.mask, Idn.mask, h_phases]; done) | ((simp [Power.mask, Win.mask, Params.mask, Crb.mask, Idn.mask, h_phases]) <;> (repeat' split) <;> simp [Power.mask, Win.mask, Params.mask, Crb.mask, Idn.mask, h_phases]))

@[simp] theorem reselect_mask (m : Part → Bool) (s : State) (h_stb : m .stb = true) : (reselect s).mask m = s.mask m := by
  unfold reselect
  (repeat' split) <;> (first | (simp [Power.mask, Win.mask, Params.mask, Crb.mask, Idn.mask, h_stb]; done) | ((simp [Power.mask, Win.mask, Params.mask, Crb.mask, Idn.mask, h_stb]) <;> (repeat' split) <;> simp [Power.mask, Win.mask, Params.mask, Crb.mask, Idn.mask, h_stb]))

@[simp] theorem stbTick_mask (m : Part → Bool) (s : State) (h_stb : m .stb = true) : (stbTick s).mask m = s.mask m := mask_stb m s _ h_stb

@[simp] theorem syncEdge_mask (m : Part → Bool) (s : State) (h_stb : m .stb = true) : (syncEdge s).mask m = s.mask m := by
  unfold syncEdge
  (repeat' split) <;> (first | (simp [Power.mask, Win.mask, Params.mask, Crb.mask, Idn.mask, h_stb]; done) | ((simp [Power.mask, Win.mask, Params.mask, Crb.mask, Idn.mask, h_stb]) <;> (repeat' split) <;> simp [Power.mask, Win.mask, Params.mask, Crb.mask, Idn.mask, h_stb]))

@[simp] theorem State.updLsh_mask (m : Part → Bool) (s : State) (a1 : Lsh → Lsh) (h_lsh : m .lsh = true) : (State.updLsh s a1).mask m = s.mask m := by
  simp [State.updLsh, Power.mask, Win.mask, Params.mask, Crb.mask, Idn.mask, h_lsh]

@[simp] theorem ageHeard_mask (m : Part → Bool) (s : State) (h_lsh : m .lsh = true) : (ageHeard s).mask m = s.mask m := by
  unfold ageHeard
  (repeat' split) <;> (first | (simp [Power.mask, Win.mask, Params.mask, Crb.mask, Idn.mask, h_lsh]; done) | ((simp [Power.mask, Win.mask, Params.mask, Crb.mask, Idn.mask, h_lsh]) <;> (repeat' split) <;> simp [Power.mask, Win.mask, Params.mask, Crb.mask, Idn.mask, h_lsh]))

@[simp] theorem State.updPeers_mask (m : Part → Bool) (s : State) (a1 : Peers → Peers) (h_peers : m .peers = true) : (State.updPeers s a1).mask m = s.mask m := by
  simp [State.updPeers, Power.mask, Win.mask, Params.mask, Crb.mask, Idn.mask, h_peers]

@[simp] theorem State.updPeer_mask (m : Part → Bool) (s : State) (a1 : Fin 8) (a2 : Peer → Peer) (h_peers : m .peers = true) : (State.updPeer s a1 a2).mask m = s.mask m := by
  simp [State.updPeer, Power.mask, Win.mask, Params.mask, Crb.mask, Idn.mask, h_peers]

@[simp] theorem State.updTok_mask (m : Part → Bool) (s : State) (a1 : Token → Token) (h_peers : m .peers = true) : (State.updTok s a1).mask m = s.mask m := by
  simp [State.updTok, Power.mask, Win.mask, Params.mask, Crb.mask, Idn.mask, h_peers]

@[simp] theorem settleWiring_mask (m : Part → Bool)  (l : List (Fin 8)) (s : State) (h_peers : m .peers = true) : (settleWiring  l s).mask m = s.mask m := by
  induction l generalizing s with
  | nil => rfl
  | cons x l ih => simp [settleWiring, ih, h_peers]

@[simp] theorem rosterAll_mask (m : Part → Bool)  (l : List (Fin 8)) (s : State) (h_peers : m .peers = true) : (rosterAll  l s).mask m = s.mask m := by
  induction l generalizing s with
  | nil => rfl
  | cons x l ih => simp [rosterAll, ih, h_peers]

@[simp] theorem rosterSettle_mask (m : Part → Bool) (s : State) (h_irq : m .irq = true) (h_peers : m .peers = true) : (rosterSettle s).mask m = s.mask m := by
  unfold rosterSettle
  (repeat' split) <;> (first | (simp [Power.mask, Win.mask, Params.mask, Crb.mask, Idn.mask, h_irq, h_peers]; done) | ((simp [Power.mask, Win.mask, Params.mask, Crb.mask, Idn.mask, h_irq, h_peers]) <;> (repeat' split) <;> simp [Power.mask, Win.mask, Params.mask, Crb.mask, Idn.mask, h_irq, h_peers]))

@[simp] theorem withStat_mask (m : Part → Bool) (f : State → State) (h : ∀ s, (f s).mask m = s.mask m) (s : State) (h_irq : m .irq = true) (h_peers : m .peers = true) : (withStat f s).mask m = s.mask m := by
  simp only [withStat]
  split <;> simp [h, h_irq, h_peers]

@[simp] theorem lshUnsync_mask (m : Part → Bool) (s : State) (h_stb : m .stb = true) : (lshUnsync s).mask m = s.mask m := by
  unfold lshUnsync
  (repeat' split) <;> (first | (simp [Power.mask, Win.mask, Params.mask, Crb.mask, Idn.mask, h_stb]; done) | ((simp [Power.mask, Win.mask, Params.mask, Crb.mask, Idn.mask, h_stb]) <;> (repeat' split) <;> simp [Power.mask, Win.mask, Params.mask, Crb.mask, Idn.mask, h_stb]))

@[simp] theorem enterListen_mask (m : Part → Bool) (a0 : Bool) (s : State) (h_stb : m .stb = true) (h_lsh : m .lsh = true) : (enterListen a0 s).mask m = s.mask m := by
  unfold enterListen
  (repeat' split) <;> (first | (simp [Power.mask, Win.mask, Params.mask, Crb.mask, Idn.mask, h_stb, h_lsh]; done) | ((simp [Power.mask, Win.mask, Params.mask, Crb.mask, Idn.mask, h_stb, h_lsh]) <;> (repeat' split) <;> simp [Power.mask, Win.mask, Params.mask, Crb.mask, Idn.mask, h_stb, h_lsh]))

@[simp] theorem enterFollow_mask (m : Part → Bool) (a0 : ℕ) (s : State) (h_stb : m .stb = true) (h_lsh : m .lsh = true) : (enterFollow a0 s).mask m = s.mask m := by
  unfold enterFollow
  (repeat' split) <;> (first | (simp [Power.mask, Win.mask, Params.mask, Crb.mask, Idn.mask, h_stb, h_lsh]; done) | ((simp [Power.mask, Win.mask, Params.mask, Crb.mask, Idn.mask, h_stb, h_lsh]) <;> (repeat' split) <;> simp [Power.mask, Win.mask, Params.mask, Crb.mask, Idn.mask, h_stb, h_lsh]))

@[simp] theorem enterLead_mask (m : Part → Bool) (s : State) (h_stb : m .stb = true) (h_lsh : m .lsh = true) : (enterLead s).mask m = s.mask m := by
  unfold enterLead
  (repeat' split) <;> (first | (simp [Power.mask, Win.mask, Params.mask, Crb.mask, Idn.mask, h_stb, h_lsh]; done) | ((simp [Power.mask, Win.mask, Params.mask, Crb.mask, Idn.mask, h_stb, h_lsh]) <;> (repeat' split) <;> simp [Power.mask, Win.mask, Params.mask, Crb.mask, Idn.mask, h_stb, h_lsh]))

@[simp] theorem leashEnable_mask (m : Part → Bool) (s : State) (h_stb : m .stb = true) (h_lsh : m .lsh = true) : (leashEnable s).mask m = s.mask m := by
  unfold leashEnable
  (repeat' split) <;> (first | (simp [Power.mask, Win.mask, Params.mask, Crb.mask, Idn.mask, h_stb, h_lsh]; done) | ((simp [Power.mask, Win.mask, Params.mask, Crb.mask, Idn.mask, h_stb, h_lsh]) <;> (repeat' split) <;> simp [Power.mask, Win.mask, Params.mask, Crb.mask, Idn.mask, h_stb, h_lsh]))

@[simp] theorem takeSync_mask (m : Part → Bool) (a0 : ℕ) (s : State) (h_stb : m .stb = true) (h_lsh : m .lsh = true) : (takeSync a0 s).mask m = s.mask m := by
  unfold takeSync
  (repeat' split) <;> (first | (simp [Power.mask, Win.mask, Params.mask, Crb.mask, Idn.mask, h_stb, h_lsh]; done) | ((simp [Power.mask, Win.mask, Params.mask, Crb.mask, Idn.mask, h_stb, h_lsh]) <;> (repeat' split) <;> simp [Power.mask, Win.mask, Params.mask, Crb.mask, Idn.mask, h_stb, h_lsh]))

@[simp] theorem napSync_mask (m : Part → Bool) (a0 : ℕ) (s : State) (h_lsh : m .lsh = true) : (napSync a0 s).mask m = s.mask m := by
  unfold napSync
  (repeat' split) <;> (first | (simp [Power.mask, Win.mask, Params.mask, Crb.mask, Idn.mask, h_lsh]; done) | ((simp [Power.mask, Win.mask, Params.mask, Crb.mask, Idn.mask, h_lsh]) <;> (repeat' split) <;> simp [Power.mask, Win.mask, Params.mask, Crb.mask, Idn.mask, h_lsh]))

@[simp] theorem syncReceived_mask (m : Part → Bool) (a0 : ℕ) (a1 : ℕ) (s : State) (h_stb : m .stb = true) (h_lsh : m .lsh = true) : (syncReceived a0 a1 s).mask m = s.mask m := by
  unfold syncReceived
  (repeat' split) <;> (first | (simp [Power.mask, Win.mask, Params.mask, Crb.mask, Idn.mask, h_stb, h_lsh]; done) | ((simp [Power.mask, Win.mask, Params.mask, Crb.mask, Idn.mask, h_stb, h_lsh]) <;> (repeat' split) <;> simp [Power.mask, Win.mask, Params.mask, Crb.mask, Idn.mask, h_stb, h_lsh]))

@[simp] theorem holdoffExpired_mask (m : Part → Bool) (s : State) (h_stb : m .stb = true) (h_lsh : m .lsh = true) : (holdoffExpired s).mask m = s.mask m := by
  unfold holdoffExpired
  (repeat' split) <;> (first | (simp [Power.mask, Win.mask, Params.mask, Crb.mask, Idn.mask, h_stb, h_lsh]; done) | ((simp [Power.mask, Win.mask, Params.mask, Crb.mask, Idn.mask, h_stb, h_lsh]) <;> (repeat' split) <;> simp [Power.mask, Win.mask, Params.mask, Crb.mask, Idn.mask, h_stb, h_lsh]))

@[simp] theorem sendSync_mask (m : Part → Bool) (s : State) (h_lsh : m .lsh = true) : (sendSync s).mask m = s.mask m := by
  unfold sendSync
  (repeat' split) <;> (first | (simp [Power.mask, Win.mask, Params.mask, Crb.mask, Idn.mask, h_lsh]; done) | ((simp [Power.mask, Win.mask, Params.mask, Crb.mask, Idn.mask, h_lsh]) <;> (repeat' split) <;> simp [Power.mask, Win.mask, Params.mask, Crb.mask, Idn.mask, h_lsh]))

@[simp] theorem leadFrame_mask (m : Part → Bool) (s : State) (h_lsh : m .lsh = true) : (leadFrame s).mask m = s.mask m := by
  unfold leadFrame
  (repeat' split) <;> (first | (simp [Power.mask, Win.mask, Params.mask, Crb.mask, Idn.mask, h_lsh]; done) | ((simp [Power.mask, Win.mask, Params.mask, Crb.mask, Idn.mask, h_lsh]) <;> (repeat' split) <;> simp [Power.mask, Win.mask, Params.mask, Crb.mask, Idn.mask, h_lsh]))

@[simp] theorem claimHeard_mask (m : Part → Bool) (a0 : ℕ) (a1 : ℕ) (s : State) (h_lsh : m .lsh = true) : (claimHeard a0 a1 s).mask m = s.mask m := by
  unfold claimHeard
  (repeat' split) <;> (first | (simp [Power.mask, Win.mask, Params.mask, Crb.mask, Idn.mask, h_lsh]; done) | ((simp [Power.mask, Win.mask, Params.mask, Crb.mask, Idn.mask, h_lsh]) <;> (repeat' split) <;> simp [Power.mask, Win.mask, Params.mask, Crb.mask, Idn.mask, h_lsh]))

@[simp] theorem handover_mask (m : Part → Bool) (a0 : Bool) (s : State) (h_stb : m .stb = true) (h_lsh : m .lsh = true) : (handover a0 s).mask m = s.mask m := by
  unfold handover
  (repeat' split) <;> (first | (simp [Power.mask, Win.mask, Params.mask, Crb.mask, Idn.mask, h_stb, h_lsh]; done) | ((simp [Power.mask, Win.mask, Params.mask, Crb.mask, Idn.mask, h_stb, h_lsh]) <;> (repeat' split) <;> simp [Power.mask, Win.mask, Params.mask, Crb.mask, Idn.mask, h_stb, h_lsh]))

@[simp] theorem claimFrame_mask (m : Part → Bool) (s : State) (h_lsh : m .lsh = true) : (claimFrame s).mask m = s.mask m := by
  unfold claimFrame
  (repeat' split) <;> (first | (simp [Power.mask, Win.mask, Params.mask, Crb.mask, Idn.mask, h_lsh]; done) | ((simp [Power.mask, Win.mask, Params.mask, Crb.mask, Idn.mask, h_lsh]) <;> (repeat' split) <;> simp [Power.mask, Win.mask, Params.mask, Crb.mask, Idn.mask, h_lsh]))

@[simp] theorem queueMsg_mask (m : Part → Bool) (a0 : ℕ) (a1 : ℕ) (a2 : W32) (s : State) (h_lsh : m .lsh = true) : (queueMsg a0 a1 a2 s).mask m = s.mask m := by
  unfold queueMsg
  (repeat' split) <;> (first | (simp [Power.mask, Win.mask, Params.mask, Crb.mask, Idn.mask, h_lsh]; done) | ((simp [Power.mask, Win.mask, Params.mask, Crb.mask, Idn.mask, h_lsh]) <;> (repeat' split) <;> simp [Power.mask, Win.mask, Params.mask, Crb.mask, Idn.mask, h_lsh]))

@[simp] theorem edgeDecision_mask (m : Part → Bool) (a0 : Bool) (s : State) (h_log : m .log = true) (h_stb : m .stb = true) (h_lsh : m .lsh = true) : (edgeDecision a0 s).mask m = s.mask m := by
  unfold edgeDecision
  (repeat' split) <;> (first | (simp [Power.mask, Win.mask, Params.mask, Crb.mask, Idn.mask, h_log, h_stb, h_lsh]; done) | ((simp [Power.mask, Win.mask, Params.mask, Crb.mask, Idn.mask, h_log, h_stb, h_lsh]) <;> (repeat' split) <;> simp [Power.mask, Win.mask, Params.mask, Crb.mask, Idn.mask, h_log, h_stb, h_lsh]))

@[simp] theorem napFrameEnd_mask (m : Part → Bool) (s : State) (h_lsh : m .lsh = true) : (napFrameEnd s).mask m = s.mask m := by
  unfold napFrameEnd
  (repeat' split) <;> (first | (simp [Power.mask, Win.mask, Params.mask, Crb.mask, Idn.mask, h_lsh]; done) | ((simp [Power.mask, Win.mask, Params.mask, Crb.mask, Idn.mask, h_lsh]) <;> (repeat' split) <;> simp [Power.mask, Win.mask, Params.mask, Crb.mask, Idn.mask, h_lsh]))

@[simp] theorem followOn_mask (m : Part → Bool) (s : State) (h_lsh : m .lsh = true) : (followOn s).mask m = s.mask m := by
  unfold followOn
  (repeat' split) <;> (first | (simp [Power.mask, Win.mask, Params.mask, Crb.mask, Idn.mask, h_lsh]; done) | ((simp [Power.mask, Win.mask, Params.mask, Crb.mask, Idn.mask, h_lsh]) <;> (repeat' split) <;> simp [Power.mask, Win.mask, Params.mask, Crb.mask, Idn.mask, h_lsh]))

@[simp] theorem frameEnd_mask (m : Part → Bool) (a0 : FrameView) (s : State) (h_log : m .log = true) (h_stb : m .stb = true) (h_lsh : m .lsh = true) : (frameEnd a0 s).mask m = s.mask m := by
  unfold frameEnd
  (repeat' split) <;> (first | (simp [Power.mask, Win.mask, Params.mask, Crb.mask, Idn.mask, h_log, h_stb, h_lsh]; done) | ((simp [Power.mask, Win.mask, Params.mask, Crb.mask, Idn.mask, h_log, h_stb, h_lsh]) <;> (repeat' split) <;> simp [Power.mask, Win.mask, Params.mask, Crb.mask, Idn.mask, h_log, h_stb, h_lsh]))

@[simp] theorem lshClear_mask (m : Part → Bool) (a0 : W16) (s : State) (h_lsh : m .lsh = true) : (lshClear a0 s).mask m = s.mask m := by
  unfold lshClear
  (repeat' split) <;> (first | (simp [Power.mask, Win.mask, Params.mask, Crb.mask, Idn.mask, h_lsh]; done) | ((simp [Power.mask, Win.mask, Params.mask, Crb.mask, Idn.mask, h_lsh]) <;> (repeat' split) <;> simp [Power.mask, Win.mask, Params.mask, Crb.mask, Idn.mask, h_lsh]))

@[simp] theorem signPass_mask (m : Part → Bool) (a0 : SignWork) (s : State) (h_gsp : m .gsp = true) (h_idn : m .idn = true) : (signPass a0 s).mask m = s.mask m := by
  unfold signPass
  (repeat' split) <;> (first | (simp [Power.mask, Win.mask, Params.mask, Crb.mask, Idn.mask, h_gsp, h_idn]; done) | ((simp [Power.mask, Win.mask, Params.mask, Crb.mask, Idn.mask, h_gsp, h_idn]) <;> (repeat' split) <;> simp [Power.mask, Win.mask, Params.mask, Crb.mask, Idn.mask, h_gsp, h_idn]))

@[simp] theorem signAhead_mask (m : Part → Bool) (a0 : SignWork) (s : State) (h_gsp : m .gsp = true) (h_idn : m .idn = true) : (signAhead a0 s).mask m = s.mask m := by
  unfold signAhead
  (repeat' split) <;> (first | (simp [Power.mask, Win.mask, Params.mask, Crb.mask, Idn.mask, h_gsp, h_idn]; done) | ((simp [Power.mask, Win.mask, Params.mask, Crb.mask, Idn.mask, h_gsp, h_idn]) <;> (repeat' split) <;> simp [Power.mask, Win.mask, Params.mask, Crb.mask, Idn.mask, h_gsp, h_idn]))

@[simp] theorem signDone_mask (m : Part → Bool) (w : SignWork) (f : State → State) (h : ∀ s, (f s).mask m = s.mask m) (s : State) (h_gsp : m .gsp = true) (h_idn : m .idn = true) : (signDone w f s).mask m = s.mask m := by
  simp [signDone, h, Power.mask, Win.mask, Params.mask, Crb.mask, Idn.mask, h_gsp, h_idn]

@[simp] theorem drawRandom_mask (m : Part → Bool) (k : Nat) (s : State) (h_idn : m .idn = true) : (drawRandom k s).2.mask m = s.mask m := by
  simp only [drawRandom]
  (repeat' split) <;> simp [Power.mask, Win.mask, Params.mask, Crb.mask, Idn.mask, h_idn]

@[simp] theorem queueChal_mask (m : Part → Bool) (t : Nat) (w : Bool) (b : List Byte) (l : List Nat) (s : State) (h_lsh : m .lsh = true) : (queueChal t w b l s).mask m = s.mask m := by
  induction l generalizing s with
  | nil => rfl
  | cons x l ih => simp [queueChal, ih, h_lsh]

@[simp] theorem challengeStart_mask (m : Part → Bool) (a0 : Fin 8) (s : State) (h_peers : m .peers = true) (h_lsh : m .lsh = true) (h_idn : m .idn = true) : (challengeStart a0 s).mask m = s.mask m := by
  unfold challengeStart
  (repeat' split) <;> (first | (simp [Power.mask, Win.mask, Params.mask, Crb.mask, Idn.mask, h_peers, h_lsh, h_idn]; done) | ((simp [Power.mask, Win.mask, Params.mask, Crb.mask, Idn.mask, h_peers, h_lsh, h_idn]) <;> (repeat' split) <;> simp [Power.mask, Win.mask, Params.mask, Crb.mask, Idn.mask, h_peers, h_lsh, h_idn]))

@[simp] theorem chalFail_mask (m : Part → Bool) (a0 : Fin 8) (a1 : Bool) (s : State) (h_irq : m .irq = true) (h_peers : m .peers = true) : (chalFail a0 a1 s).mask m = s.mask m := by
  unfold chalFail
  (repeat' split) <;> (first | (simp [Power.mask, Win.mask, Params.mask, Crb.mask, Idn.mask, h_irq, h_peers]; done) | ((simp [Power.mask, Win.mask, Params.mask, Crb.mask, Idn.mask, h_irq, h_peers]) <;> (repeat' split) <;> simp [Power.mask, Win.mask, Params.mask, Crb.mask, Idn.mask, h_irq, h_peers]))

@[simp] theorem chalPass_mask (m : Part → Bool) (a0 : Fin 8) (s : State) (h_irq : m .irq = true) (h_peers : m .peers = true) : (chalPass a0 s).mask m = s.mask m := by
  unfold chalPass
  (repeat' split) <;> (first | (simp [Power.mask, Win.mask, Params.mask, Crb.mask, Idn.mask, h_irq, h_peers]; done) | ((simp [Power.mask, Win.mask, Params.mask, Crb.mask, Idn.mask, h_irq, h_peers]) <;> (repeat' split) <;> simp [Power.mask, Win.mask, Params.mask, Crb.mask, Idn.mask, h_irq, h_peers]))

@[simp] theorem challengeVerified_mask (m : Part → Bool) (a0 : Fin 8) (a1 : Chal) (s : State) (h_irq : m .irq = true) (h_peers : m .peers = true) : (challengeVerified a0 a1 s).mask m = s.mask m := by
  unfold challengeVerified
  (repeat' split) <;> (first | (simp [Power.mask, Win.mask, Params.mask, Crb.mask, Idn.mask, h_irq, h_peers]; done) | ((simp [Power.mask, Win.mask, Params.mask, Crb.mask, Idn.mask, h_irq, h_peers]) <;> (repeat' split) <;> simp [Power.mask, Win.mask, Params.mask, Crb.mask, Idn.mask, h_irq, h_peers]))

@[simp] theorem chalReceived_mask (m : Part → Bool) (a0 : Fin 8) (a1 : W32) (s : State) (h_peers : m .peers = true) : (chalReceived a0 a1 s).mask m = s.mask m := by
  unfold chalReceived
  (repeat' split) <;> (first | (simp [Power.mask, Win.mask, Params.mask, Crb.mask, Idn.mask, h_peers]; done) | ((simp [Power.mask, Win.mask, Params.mask, Crb.mask, Idn.mask, h_peers]) <;> (repeat' split) <;> simp [Power.mask, Win.mask, Params.mask, Crb.mask, Idn.mask, h_peers]))

@[simp] theorem updAnswer_mask (m : Part → Bool) (a0 : Answer → Answer) (s : State) (h_peers : m .peers = true) : (updAnswer a0 s).mask m = s.mask m := by
  unfold updAnswer
  (repeat' split) <;> (first | (simp [Power.mask, Win.mask, Params.mask, Crb.mask, Idn.mask, h_peers]; done) | ((simp [Power.mask, Win.mask, Params.mask, Crb.mask, Idn.mask, h_peers]) <;> (repeat' split) <;> simp [Power.mask, Win.mask, Params.mask, Crb.mask, Idn.mask, h_peers]))

@[simp] theorem responseSigned_mask (m : Part → Bool) (s : State) (h_peers : m .peers = true) : (responseSigned s).mask m = s.mask m := by
  unfold responseSigned
  (repeat' split) <;> (first | (simp [Power.mask, Win.mask, Params.mask, Crb.mask, Idn.mask, h_peers]; done) | ((simp [Power.mask, Win.mask, Params.mask, Crb.mask, Idn.mask, h_peers]) <;> (repeat' split) <;> simp [Power.mask, Win.mask, Params.mask, Crb.mask, Idn.mask, h_peers]))

@[simp] theorem certReceived_mask (m : Part → Bool) (a0 : Fin 8) (a1 : W32) (s : State) (h_irq : m .irq = true) (h_peers : m .peers = true) : (certReceived a0 a1 s).mask m = s.mask m := by
  unfold certReceived
  (repeat' split) <;> (first | (simp [Power.mask, Win.mask, Params.mask, Crb.mask, Idn.mask, h_irq, h_peers]; done) | ((simp [Power.mask, Win.mask, Params.mask, Crb.mask, Idn.mask, h_irq, h_peers]) <;> (repeat' split) <;> simp [Power.mask, Win.mask, Params.mask, Crb.mask, Idn.mask, h_irq, h_peers]))

@[simp] theorem respReceived_mask (m : Part → Bool) (a0 : Fin 8) (a1 : W32) (s : State) (h_irq : m .irq = true) (h_peers : m .peers = true) : (respReceived a0 a1 s).mask m = s.mask m := by
  unfold respReceived
  (repeat' split) <;> (first | (simp [Power.mask, Win.mask, Params.mask, Crb.mask, Idn.mask, h_irq, h_peers]; done) | ((simp [Power.mask, Win.mask, Params.mask, Crb.mask, Idn.mask, h_irq, h_peers]) <;> (repeat' split) <;> simp [Power.mask, Win.mask, Params.mask, Crb.mask, Idn.mask, h_irq, h_peers]))

@[simp] theorem digestReceived_mask (m : Part → Bool) (a0 : Fin 8) (a1 : W32) (s : State) (h_peers : m .peers = true) : (digestReceived a0 a1 s).mask m = s.mask m := by
  unfold digestReceived
  (repeat' split) <;> (first | (simp [Power.mask, Win.mask, Params.mask, Crb.mask, Idn.mask, h_peers]; done) | ((simp [Power.mask, Win.mask, Params.mask, Crb.mask, Idn.mask, h_peers]) <;> (repeat' split) <;> simp [Power.mask, Win.mask, Params.mask, Crb.mask, Idn.mask, h_peers]))

@[simp] theorem sendHold_mask (m : Part → Bool) (s : State) (h_peers : m .peers = true) (h_lsh : m .lsh = true) : (sendHold s).mask m = s.mask m := by
  unfold sendHold
  (repeat' split) <;> (first | (simp [Power.mask, Win.mask, Params.mask, Crb.mask, Idn.mask, h_peers, h_lsh]; done) | ((simp [Power.mask, Win.mask, Params.mask, Crb.mask, Idn.mask, h_peers, h_lsh]) <;> (repeat' split) <;> simp [Power.mask, Win.mask, Params.mask, Crb.mask, Idn.mask, h_peers, h_lsh]))

@[simp] theorem grantLease_mask (m : Part → Bool) (a0 : ℕ) (a1 : ℕ) (s : State) (h_peers : m .peers = true) : (grantLease a0 a1 s).mask m = s.mask m := by
  unfold grantLease
  (repeat' split) <;> (first | (simp [Power.mask, Win.mask, Params.mask, Crb.mask, Idn.mask, h_peers]; done) | ((simp [Power.mask, Win.mask, Params.mask, Crb.mask, Idn.mask, h_peers]) <;> (repeat' split) <;> simp [Power.mask, Win.mask, Params.mask, Crb.mask, Idn.mask, h_peers]))

@[simp] theorem takeLease_mask (m : Part → Bool) (a0 : ℕ) (a1 : ℕ) (s : State) (h_peers : m .peers = true) (h_lsh : m .lsh = true) : (takeLease a0 a1 s).mask m = s.mask m := by
  unfold takeLease
  (repeat' split) <;> (first | (simp [Power.mask, Win.mask, Params.mask, Crb.mask, Idn.mask, h_peers, h_lsh]; done) | ((simp [Power.mask, Win.mask, Params.mask, Crb.mask, Idn.mask, h_peers, h_lsh]) <;> (repeat' split) <;> simp [Power.mask, Win.mask, Params.mask, Crb.mask, Idn.mask, h_peers, h_lsh]))

@[simp] theorem releaseLease_mask (m : Part → Bool) (s : State) (h_peers : m .peers = true) (h_lsh : m .lsh = true) : (releaseLease s).mask m = s.mask m := by
  unfold releaseLease
  (repeat' split) <;> (first | (simp [Power.mask, Win.mask, Params.mask, Crb.mask, Idn.mask, h_peers, h_lsh]; done) | ((simp [Power.mask, Win.mask, Params.mask, Crb.mask, Idn.mask, h_peers, h_lsh]) <;> (repeat' split) <;> simp [Power.mask, Win.mask, Params.mask, Crb.mask, Idn.mask, h_peers, h_lsh]))

@[simp] theorem storeHost_mask (m : Part → Bool) (a0 : Byte) (s : State) (h_peers : m .peers = true) : (storeHost a0 s).mask m = s.mask m := by
  unfold storeHost
  (repeat' split) <;> (first | (simp [Power.mask, Win.mask, Params.mask, Crb.mask, Idn.mask, h_peers]; done) | ((simp [Power.mask, Win.mask, Params.mask, Crb.mask, Idn.mask, h_peers]) <;> (repeat' split) <;> simp [Power.mask, Win.mask, Params.mask, Crb.mask, Idn.mask, h_peers]))

@[simp] theorem renewLease_mask (m : Part → Bool) (s : State) (h_peers : m .peers = true) (h_lsh : m .lsh = true) : (renewLease s).mask m = s.mask m := by
  unfold renewLease
  (repeat' split) <;> (first | (simp [Power.mask, Win.mask, Params.mask, Crb.mask, Idn.mask, h_peers, h_lsh]; done) | ((simp [Power.mask, Win.mask, Params.mask, Crb.mask, Idn.mask, h_peers, h_lsh]) <;> (repeat' split) <;> simp [Power.mask, Win.mask, Params.mask, Crb.mask, Idn.mask, h_peers, h_lsh]))

@[simp] theorem acquireLease_mask (m : Part → Bool) (s : State) (h_peers : m .peers = true) (h_lsh : m .lsh = true) : (acquireLease s).mask m = s.mask m := by
  unfold acquireLease
  (repeat' split) <;> (first | (simp [Power.mask, Win.mask, Params.mask, Crb.mask, Idn.mask, h_peers, h_lsh]; done) | ((simp [Power.mask, Win.mask, Params.mask, Crb.mask, Idn.mask, h_peers, h_lsh]) <;> (repeat' split) <;> simp [Power.mask, Win.mask, Params.mask, Crb.mask, Idn.mask, h_peers, h_lsh]))

@[simp] theorem releaseHeld_mask (m : Part → Bool) (s : State) (h_peers : m .peers = true) (h_lsh : m .lsh = true) : (releaseHeld s).mask m = s.mask m := by
  unfold releaseHeld
  (repeat' split) <;> (first | (simp [Power.mask, Win.mask, Params.mask, Crb.mask, Idn.mask, h_peers, h_lsh]; done) | ((simp [Power.mask, Win.mask, Params.mask, Crb.mask, Idn.mask, h_peers, h_lsh]) <;> (repeat' split) <;> simp [Power.mask, Win.mask, Params.mask, Crb.mask, Idn.mask, h_peers, h_lsh]))

@[simp] theorem handlerWrite_mask (m : Part → Bool) (a0 : W16) (s : State) (h_peers : m .peers = true) (h_lsh : m .lsh = true) : (handlerWrite a0 s).mask m = s.mask m := by
  unfold handlerWrite
  (repeat' split) <;> (first | (simp [Power.mask, Win.mask, Params.mask, Crb.mask, Idn.mask, h_peers, h_lsh]; done) | ((simp [Power.mask, Win.mask, Params.mask, Crb.mask, Idn.mask, h_peers, h_lsh]) <;> (repeat' split) <;> simp [Power.mask, Win.mask, Params.mask, Crb.mask, Idn.mask, h_peers, h_lsh]))

@[simp] theorem defeat_mask (m : Part → Bool) (a0 : Fin 8) (a1 : ℕ) (s : State) (h_peers : m .peers = true) : (defeat a0 a1 s).mask m = s.mask m := by
  unfold defeat
  (repeat' split) <;> (first | (simp [Power.mask, Win.mask, Params.mask, Crb.mask, Idn.mask, h_peers]; done) | ((simp [Power.mask, Win.mask, Params.mask, Crb.mask, Idn.mask, h_peers]) <;> (repeat' split) <;> simp [Power.mask, Win.mask, Params.mask, Crb.mask, Idn.mask, h_peers]))

@[simp] theorem holdReceived_mask (m : Part → Bool) (a0 : Fin 8) (a1 : W32) (s : State) (h_peers : m .peers = true) : (holdReceived a0 a1 s).mask m = s.mask m := by
  unfold holdReceived
  (repeat' split) <;> (first | (simp [Power.mask, Win.mask, Params.mask, Crb.mask, Idn.mask, h_peers]; done) | ((simp [Power.mask, Win.mask, Params.mask, Crb.mask, Idn.mask, h_peers]) <;> (repeat' split) <;> simp [Power.mask, Win.mask, Params.mask, Crb.mask, Idn.mask, h_peers]))

@[simp] theorem relReceived_mask (m : Part → Bool) (a0 : W32) (s : State) (h_peers : m .peers = true) : (relReceived a0 s).mask m = s.mask m := by
  unfold relReceived
  (repeat' split) <;> (first | (simp [Power.mask, Win.mask, Params.mask, Crb.mask, Idn.mask, h_peers]; done) | ((simp [Power.mask, Win.mask, Params.mask, Crb.mask, Idn.mask, h_peers]) <;> (repeat' split) <;> simp [Power.mask, Win.mask, Params.mask, Crb.mask, Idn.mask, h_peers]))

@[simp] theorem planWrite_mask (m : Part → Bool) (a0 : W16) (s : State) (h_peers : m .peers = true) : (planWrite a0 s).mask m = s.mask m := by
  unfold planWrite
  (repeat' split) <;> (first | (simp [Power.mask, Win.mask, Params.mask, Crb.mask, Idn.mask, h_peers]; done) | ((simp [Power.mask, Win.mask, Params.mask, Crb.mask, Idn.mask, h_peers]) <;> (repeat' split) <;> simp [Power.mask, Win.mask, Params.mask, Crb.mask, Idn.mask, h_peers]))

@[simp] theorem vrefReceived_mask (m : Part → Bool) (a0 : Fin 8) (a1 : W32) (s : State) (h_peers : m .peers = true) : (vrefReceived a0 a1 s).mask m = s.mask m := by
  unfold vrefReceived
  (repeat' split) <;> (first | (simp [Power.mask, Win.mask, Params.mask, Crb.mask, Idn.mask, h_peers]; done) | ((simp [Power.mask, Win.mask, Params.mask, Crb.mask, Idn.mask, h_peers]) <;> (repeat' split) <;> simp [Power.mask, Win.mask, Params.mask, Crb.mask, Idn.mask, h_peers]))

@[simp] theorem ramPut_mask (m : Part → Bool) (a0 : ℕ) (a1 : List Byte) (s : State) (h_sram : m .sram = true) : (ramPut a0 a1 s).mask m = s.mask m := by
  unfold ramPut
  (repeat' split) <;> (first | (simp [Power.mask, Win.mask, Params.mask, Crb.mask, Idn.mask, h_sram]; done) | ((simp [Power.mask, Win.mask, Params.mask, Crb.mask, Idn.mask, h_sram]) <;> (repeat' split) <;> simp [Power.mask, Win.mask, Params.mask, Crb.mask, Idn.mask, h_sram]))

@[simp] theorem ramPut16_mask (m : Part → Bool) (a0 : ℕ) (a1 : W16) (s : State) (h_sram : m .sram = true) : (ramPut16 a0 a1 s).mask m = s.mask m := by
  unfold ramPut16
  (repeat' split) <;> (first | (simp [Power.mask, Win.mask, Params.mask, Crb.mask, Idn.mask, h_sram]; done) | ((simp [Power.mask, Win.mask, Params.mask, Crb.mask, Idn.mask, h_sram]) <;> (repeat' split) <;> simp [Power.mask, Win.mask, Params.mask, Crb.mask, Idn.mask, h_sram]))

@[simp] theorem ramLose_mask (m : Part → Bool) (s : State) (h_free : m .free = true) (h_sram : m .sram = true) : (ramLose s).mask m = s.mask m := by
  unfold ramLose
  (repeat' split) <;> (first | (simp [Power.mask, Win.mask, Params.mask, Crb.mask, Idn.mask, h_free, h_sram]; done) | ((simp [Power.mask, Win.mask, Params.mask, Crb.mask, Idn.mask, h_free, h_sram]) <;> (repeat' split) <;> simp [Power.mask, Win.mask, Params.mask, Crb.mask, Idn.mask, h_free, h_sram]))

@[simp] theorem State.updSwp_mask (m : Part → Bool) (s : State) (a1 : Swp → Swp) (h_swp : m .swp = true) : (State.updSwp s a1).mask m = s.mask m := by
  simp [State.updSwp, Power.mask, Win.mask, Params.mask, Crb.mask, Idn.mask, h_swp]

@[simp] theorem State.updDamp_mask (m : Part → Bool) (s : State) (a1 : Damp → Damp) (h_damp : m .damp = true) : (State.updDamp s a1).mask m = s.mask m := by
  simp [State.updDamp, Power.mask, Win.mask, Params.mask, Crb.mask, Idn.mask, h_damp]

@[simp] theorem sweepTrack_mask (m : Part → Bool) (s : State) (h_swp : m .swp = true) : (sweepTrack s).mask m = s.mask m := by
  unfold sweepTrack
  (repeat' split) <;> (first | (simp [Power.mask, Win.mask, Params.mask, Crb.mask, Idn.mask, h_swp]; done) | ((simp [Power.mask, Win.mask, Params.mask, Crb.mask, Idn.mask, h_swp]) <;> (repeat' split) <;> simp [Power.mask, Win.mask, Params.mask, Crb.mask, Idn.mask, h_swp]))

@[simp] theorem swpPutStatus_mask (m : Part → Bool) (s : State) (h_sram : m .sram = true) : (swpPutStatus s).mask m = s.mask m := by
  unfold swpPutStatus
  (repeat' split) <;> (first | (simp [Power.mask, Win.mask, Params.mask, Crb.mask, Idn.mask, h_sram]; done) | ((simp [Power.mask, Win.mask, Params.mask, Crb.mask, Idn.mask, h_sram]) <;> (repeat' split) <;> simp [Power.mask, Win.mask, Params.mask, Crb.mask, Idn.mask, h_sram]))

@[simp] theorem sweepEnd_mask (m : Part → Bool) (a0 : SwpSt) (s : State) (h_swp : m .swp = true) (h_sram : m .sram = true) : (sweepEnd a0 s).mask m = s.mask m := by
  unfold sweepEnd
  (repeat' split) <;> (first | (simp [Power.mask, Win.mask, Params.mask, Crb.mask, Idn.mask, h_swp, h_sram]; done) | ((simp [Power.mask, Win.mask, Params.mask, Crb.mask, Idn.mask, h_swp, h_sram]) <;> (repeat' split) <;> simp [Power.mask, Win.mask, Params.mask, Crb.mask, Idn.mask, h_swp, h_sram]))

@[simp] theorem sweepStart_mask (m : Part → Bool) (s : State) (h_lsh : m .lsh = true) (h_swp : m .swp = true) : (sweepStart s).mask m = s.mask m := by
  unfold sweepStart
  (repeat' split) <;> (first | (simp [Power.mask, Win.mask, Params.mask, Crb.mask, Idn.mask, h_lsh, h_swp]; done) | ((simp [Power.mask, Win.mask, Params.mask, Crb.mask, Idn.mask, h_lsh, h_swp]) <;> (repeat' split) <;> simp [Power.mask, Win.mask, Params.mask, Crb.mask, Idn.mask, h_lsh, h_swp]))

@[simp] theorem sweepAbort_mask (m : Part → Bool) (s : State) (h_lsh : m .lsh = true) (h_swp : m .swp = true) (h_sram : m .sram = true) : (sweepAbort s).mask m = s.mask m := by
  unfold sweepAbort
  (repeat' split) <;> (first | (simp [Power.mask, Win.mask, Params.mask, Crb.mask, Idn.mask, h_lsh, h_swp, h_sram]; done) | ((simp [Power.mask, Win.mask, Params.mask, Crb.mask, Idn.mask, h_lsh, h_swp, h_sram]) <;> (repeat' split) <;> simp [Power.mask, Win.mask, Params.mask, Crb.mask, Idn.mask, h_lsh, h_swp, h_sram]))

@[simp] theorem swpWrite_mask (m : Part → Bool) (a0 : W16) (s : State) (h_lsh : m .lsh = true) (h_swp : m .swp = true) (h_sram : m .sram = true) : (swpWrite a0 s).mask m = s.mask m := by
  unfold swpWrite
  (repeat' split) <;> (first | (simp [Power.mask, Win.mask, Params.mask, Crb.mask, Idn.mask, h_lsh, h_swp, h_sram]; done) | ((simp [Power.mask, Win.mask, Params.mask, Crb.mask, Idn.mask, h_lsh, h_swp, h_sram]) <;> (repeat' split) <;> simp [Power.mask, Win.mask, Params.mask, Crb.mask, Idn.mask, h_lsh, h_swp, h_sram]))

@[simp] theorem heardSid_mask (m : Part → Bool) (a0 : ℕ) (s : State) (h_swp : m .swp = true) : (heardSid a0 s).mask m = s.mask m := by
  unfold heardSid
  (repeat' split) <;> (first | (simp [Power.mask, Win.mask, Params.mask, Crb.mask, Idn.mask, h_swp]; done) | ((simp [Power.mask, Win.mask, Params.mask, Crb.mask, Idn.mask, h_swp]) <;> (repeat' split) <;> simp [Power.mask, Win.mask, Params.mask, Crb.mask, Idn.mask, h_swp]))

@[simp] theorem swpStartReceived_mask (m : Part → Bool) (a0 : Fin 8) (a1 : W32) (s : State) (h_swp : m .swp = true) : (swpStartReceived a0 a1 s).mask m = s.mask m := by
  unfold swpStartReceived
  (repeat' split) <;> (first | (simp [Power.mask, Win.mask, Params.mask, Crb.mask, Idn.mask, h_swp]; done) | ((simp [Power.mask, Win.mask, Params.mask, Crb.mask, Idn.mask, h_swp]) <;> (repeat' split) <;> simp [Power.mask, Win.mask, Params.mask, Crb.mask, Idn.mask, h_swp]))

@[simp] theorem swpCheckReceived_mask (m : Part → Bool) (a0 : Fin 8) (a1 : W32) (s : State) (h_lsh : m .lsh = true) (h_swp : m .swp = true) : (swpCheckReceived a0 a1 s).mask m = s.mask m := by
  unfold swpCheckReceived
  (repeat' split) <;> (first | (simp [Power.mask, Win.mask, Params.mask, Crb.mask, Idn.mask, h_lsh, h_swp]; done) | ((simp [Power.mask, Win.mask, Params.mask, Crb.mask, Idn.mask, h_lsh, h_swp]) <;> (repeat' split) <;> simp [Power.mask, Win.mask, Params.mask, Crb.mask, Idn.mask, h_lsh, h_swp]))

@[simp] theorem swpJoinReceived_mask (m : Part → Bool) (a0 : Fin 8) (a1 : W32) (s : State) (h_swp : m .swp = true) : (swpJoinReceived a0 a1 s).mask m = s.mask m := by
  unfold swpJoinReceived
  (repeat' split) <;> (first | (simp [Power.mask, Win.mask, Params.mask, Crb.mask, Idn.mask, h_swp]; done) | ((simp [Power.mask, Win.mask, Params.mask, Crb.mask, Idn.mask, h_swp]) <;> (repeat' split) <;> simp [Power.mask, Win.mask, Params.mask, Crb.mask, Idn.mask, h_swp]))

@[simp] theorem takeSet_mask (m : Part → Bool) (a0 : Byte) (s : State) (h_swp : m .swp = true) (h_sram : m .sram = true) : (takeSet a0 s).mask m = s.mask m := by
  unfold takeSet
  (repeat' split) <;> (first | (simp [Power.mask, Win.mask, Params.mask, Crb.mask, Idn.mask, h_swp, h_sram]; done) | ((simp [Power.mask, Win.mask, Params.mask, Crb.mask, Idn.mask, h_swp, h_sram]) <;> (repeat' split) <;> simp [Power.mask, Win.mask, Params.mask, Crb.mask, Idn.mask, h_swp, h_sram]))

@[simp] theorem swpSetReceived_mask (m : Part → Bool) (a0 : Fin 8) (a1 : W32) (s : State) (h_swp : m .swp = true) (h_sram : m .sram = true) : (swpSetReceived a0 a1 s).mask m = s.mask m := by
  unfold swpSetReceived
  (repeat' split) <;> (first | (simp [Power.mask, Win.mask, Params.mask, Crb.mask, Idn.mask, h_swp, h_sram]; done) | ((simp [Power.mask, Win.mask, Params.mask, Crb.mask, Idn.mask, h_swp, h_sram]) <;> (repeat' split) <;> simp [Power.mask, Win.mask, Params.mask, Crb.mask, Idn.mask, h_swp, h_sram]))

@[simp] theorem sweepRunStart_mask (m : Part → Bool) (s : State) (h_swp : m .swp = true) (h_sram : m .sram = true) : (sweepRunStart s).mask m = s.mask m := by
  unfold sweepRunStart
  (repeat' split) <;> (first | (simp [Power.mask, Win.mask, Params.mask, Crb.mask, Idn.mask, h_swp, h_sram]; done) | ((simp [Power.mask, Win.mask, Params.mask, Crb.mask, Idn.mask, h_swp, h_sram]) <;> (repeat' split) <;> simp [Power.mask, Win.mask, Params.mask, Crb.mask, Idn.mask, h_swp, h_sram]))

@[simp] theorem sweepStepStart_mask (m : Part → Bool) (s : State) (h_swp : m .swp = true) : (sweepStepStart s).mask m = s.mask m := by
  unfold sweepStepStart
  (repeat' split) <;> (first | (simp [Power.mask, Win.mask, Params.mask, Crb.mask, Idn.mask, h_swp]; done) | ((simp [Power.mask, Win.mask, Params.mask, Crb.mask, Idn.mask, h_swp]) <;> (repeat' split) <;> simp [Power.mask, Win.mask, Params.mask, Crb.mask, Idn.mask, h_swp]))

@[simp] theorem sweepInject_mask (m : Part → Bool) (n : Fin 16) (s : State) (h_swp : m .swp = true) : (sweepInject n s).2.mask m = s.mask m := by
  simp only [sweepInject]
  (repeat' split) <;> simp [Power.mask, Win.mask, Params.mask, Crb.mask, Idn.mask, h_swp]

@[simp] theorem placeSweep_mask (m : Part → Bool) (s : State) (h_svc : m .svc = true) (h_swp : m .swp = true) : (placeSweep s).mask m = s.mask m := by
  unfold placeSweep
  (repeat' split) <;> (first | (simp [Power.mask, Win.mask, Params.mask, Crb.mask, Idn.mask, h_svc, h_swp]; done) | ((simp [Power.mask, Win.mask, Params.mask, Crb.mask, Idn.mask, h_svc, h_swp]) <;> (repeat' split) <;> simp [Power.mask, Win.mask, Params.mask, Crb.mask, Idn.mask, h_svc, h_swp]))

@[simp] theorem sweepConv_mask (m : Part → Bool) (a0 : ℕ) (a1 : ℤ) (a2 : Bool) (s : State) (h_swp : m .swp = true) : (sweepConv a0 a1 a2 s).mask m = s.mask m := by
  unfold sweepConv
  (repeat' split) <;> (first | (simp [Power.mask, Win.mask, Params.mask, Crb.mask, Idn.mask, h_swp]; done) | ((simp [Power.mask, Win.mask, Params.mask, Crb.mask, Idn.mask, h_swp]) <;> (repeat' split) <;> simp [Power.mask, Win.mask, Params.mask, Crb.mask, Idn.mask, h_swp]))

@[simp] theorem sweepSample_mask (m : Part → Bool) (a0 : Fin 16) (a1 : ℕ) (a2 : W16) (a3 : W16) (s : State) (h_swp : m .swp = true) : (sweepSample a0 a1 a2 a3 s).mask m = s.mask m := by
  unfold sweepSample
  (repeat' split) <;> (first | (simp [Power.mask, Win.mask, Params.mask, Crb.mask, Idn.mask, h_swp]; done) | ((simp [Power.mask, Win.mask, Params.mask, Crb.mask, Idn.mask, h_swp]) <;> (repeat' split) <;> simp [Power.mask, Win.mask, Params.mask, Crb.mask, Idn.mask, h_swp]))

@[simp] theorem sweepWindowEnd_mask (m : Part → Bool) (s : State) (h_lsh : m .lsh = true) (h_swp : m .swp = true) : (sweepWindowEnd s).mask m = s.mask m := by
  unfold sweepWindowEnd
  (repeat' split) <;> (first | (simp [Power.mask, Win.mask, Params.mask, Crb.mask, Idn.mask, h_lsh, h_swp]; done) | ((simp [Power.mask, Win.mask, Params.mask, Crb.mask, Idn.mask, h_lsh, h_swp]) <;> (repeat' split) <;> simp [Power.mask, Win.mask, Params.mask, Crb.mask, Idn.mask, h_lsh, h_swp]))

@[simp] theorem currentReceived_mask (m : Part → Bool) (a0 : Fin 8) (a1 : Bool) (a2 : W32) (s : State) (h_swp : m .swp = true) : (currentReceived a0 a1 a2 s).mask m = s.mask m := by
  unfold currentReceived
  (repeat' split) <;> (first | (simp [Power.mask, Win.mask, Params.mask, Crb.mask, Idn.mask, h_swp]; done) | ((simp [Power.mask, Win.mask, Params.mask, Crb.mask, Idn.mask, h_swp]) <;> (repeat' split) <;> simp [Power.mask, Win.mask, Params.mask, Crb.mask, Idn.mask, h_swp]))

@[simp] theorem entryWrite_mask (m : Part → Bool) (a0 : SwpWait) (s : State) (h_free : m .free = true) (h_swp : m .swp = true) (h_sram : m .sram = true) : (entryWrite a0 s).mask m = s.mask m := by
  unfold entryWrite
  (repeat' split) <;> (first | (simp [Power.mask, Win.mask, Params.mask, Crb.mask, Idn.mask, h_free, h_swp, h_sram]; done) | ((simp [Power.mask, Win.mask, Params.mask, Crb.mask, Idn.mask, h_free, h_swp, h_sram]) <;> (repeat' split) <;> simp [Power.mask, Win.mask, Params.mask, Crb.mask, Idn.mask, h_free, h_swp, h_sram]))

@[simp] theorem sweepResults_mask (m : Part → Bool) (s : State) (h_free : m .free = true) (h_swp : m .swp = true) (h_sram : m .sram = true) : (sweepResults s).mask m = s.mask m := by
  unfold sweepResults
  (repeat' split) <;> (first | (simp [Power.mask, Win.mask, Params.mask, Crb.mask, Idn.mask, h_free, h_swp, h_sram]; done) | ((simp [Power.mask, Win.mask, Params.mask, Crb.mask, Idn.mask, h_free, h_swp, h_sram]) <;> (repeat' split) <;> simp [Power.mask, Win.mask, Params.mask, Crb.mask, Idn.mask, h_free, h_swp, h_sram]))

@[simp] theorem dampFast_mask (m : Part → Bool) (a0 : ℕ) (a1 : W16) (s : State) (h_damp : m .damp = true) : (dampFast a0 a1 s).mask m = s.mask m := by
  unfold dampFast
  (repeat' split) <;> (first | (simp [Power.mask, Win.mask, Params.mask, Crb.mask, Idn.mask, h_damp]; done) | ((simp [Power.mask, Win.mask, Params.mask, Crb.mask, Idn.mask, h_damp]) <;> (repeat' split) <;> simp [Power.mask, Win.mask, Params.mask, Crb.mask, Idn.mask, h_damp]))

@[simp] theorem dampStep_mask (m : Part → Bool) (n : Fin 16) (s : State) (h_log : m .log = true) (h_loops : m .loops = true) (h_damp : m .damp = true) : (dampStep n s).2.mask m = s.mask m := by
  simp only [dampStep]
  (repeat' split) <;> simp [Power.mask, Win.mask, Params.mask, Crb.mask, Idn.mask, h_log, h_loops, h_damp]

@[simp] theorem State.updNvm_mask (m : Part → Bool) (s : State) (a1 : Nvm → Nvm) (h_nvm : m .nvm = true) : (State.updNvm s a1).mask m = s.mask m := by
  simp [State.updNvm, Power.mask, Win.mask, Params.mask, Crb.mask, Idn.mask, h_nvm]

@[simp] theorem State.updSlot_mask (m : Part → Bool) (s : State) (a1 : Bool) (a2 : ImgSlot → ImgSlot) (h_nvm : m .nvm = true) : (State.updSlot s a1 a2).mask m = s.mask m := by
  simp [State.updSlot, Power.mask, Win.mask, Params.mask, Crb.mask, Idn.mask, h_nvm]

@[simp] theorem nvmResult_mask (m : Part → Bool) (a0 : ℕ) (s : State) (h_irq : m .irq = true) (h_nvm : m .nvm = true) : (nvmResult a0 s).mask m = s.mask m := by
  unfold nvmResult
  (repeat' split) <;> (first | (simp [Power.mask, Win.mask, Params.mask, Crb.mask, Idn.mask, h_irq, h_nvm]; done) | ((simp [Power.mask, Win.mask, Params.mask, Crb.mask, Idn.mask, h_irq, h_nvm]) <;> (repeat' split) <;> simp [Power.mask, Win.mask, Params.mask, Crb.mask, Idn.mask, h_irq, h_nvm]))

@[simp] theorem nvmBegin_mask (m : Part → Bool) (a0 : NvmOp) (s : State) (h_nvm : m .nvm = true) : (nvmBegin a0 s).mask m = s.mask m := by
  unfold nvmBegin
  (repeat' split) <;> (first | (simp [Power.mask, Win.mask, Params.mask, Crb.mask, Idn.mask, h_nvm]; done) | ((simp [Power.mask, Win.mask, Params.mask, Crb.mask, Idn.mask, h_nvm]) <;> (repeat' split) <;> simp [Power.mask, Win.mask, Params.mask, Crb.mask, Idn.mask, h_nvm]))

@[simp] theorem nvmCommand_mask (m : Part → Bool) (ok : State → Bool) (f : State → State) (h : ∀ s, (f s).mask m = s.mask m) (s : State)
    (h_irq : m .irq = true) (h_nvm : m .nvm = true) : (nvmCommand ok f s).mask m = s.mask m := by
  simp only [nvmCommand]
  split <;> simp [h, h_irq, h_nvm]

@[simp] theorem nvmSave_mask (m : Part → Bool) (s : State) (h_nvm : m .nvm = true) : (nvmSave s).mask m = s.mask m := by
  unfold nvmSave
  (repeat' split) <;> (first | (simp [Power.mask, Win.mask, Params.mask, Crb.mask, Idn.mask, h_nvm]; done) | ((simp [Power.mask, Win.mask, Params.mask, Crb.mask, Idn.mask, h_nvm]) <;> (repeat' split) <;> simp [Power.mask, Win.mask, Params.mask, Crb.mask, Idn.mask, h_nvm]))

@[simp] theorem saveCommand_mask (m : Part → Bool) (s : State) (h_irq : m .irq = true) (h_nvm : m .nvm = true) : (saveCommand s).mask m = s.mask m := by
  unfold saveCommand
  (repeat' split) <;> (first | (simp [Power.mask, Win.mask, Params.mask, Crb.mask, Idn.mask, h_irq, h_nvm]; done) | ((simp [Power.mask, Win.mask, Params.mask, Crb.mask, Idn.mask, h_irq, h_nvm]) <;> (repeat' split) <;> simp [Power.mask, Win.mask, Params.mask, Crb.mask, Idn.mask, h_irq, h_nvm]))

@[simp] theorem nvmOpenSlot_mask (m : Part → Bool) (a0 : Bool) (s : State) (h_nvm : m .nvm = true) : (nvmOpenSlot a0 s).mask m = s.mask m := by
  unfold nvmOpenSlot
  (repeat' split) <;> (first | (simp [Power.mask, Win.mask, Params.mask, Crb.mask, Idn.mask, h_nvm]; done) | ((simp [Power.mask, Win.mask, Params.mask, Crb.mask, Idn.mask, h_nvm]) <;> (repeat' split) <;> simp [Power.mask, Win.mask, Params.mask, Crb.mask, Idn.mask, h_nvm]))

@[simp] theorem openCommand_mask (m : Part → Bool) (a0 : Bool) (s : State) (h_irq : m .irq = true) (h_nvm : m .nvm = true) : (openCommand a0 s).mask m = s.mask m := by
  unfold openCommand
  (repeat' split) <;> (first | (simp [Power.mask, Win.mask, Params.mask, Crb.mask, Idn.mask, h_irq, h_nvm]; done) | ((simp [Power.mask, Win.mask, Params.mask, Crb.mask, Idn.mask, h_irq, h_nvm]) <;> (repeat' split) <;> simp [Power.mask, Win.mask, Params.mask, Crb.mask, Idn.mask, h_irq, h_nvm]))

@[simp] theorem confirmCommand_mask (m : Part → Bool) (s : State) (h_irq : m .irq = true) (h_nvm : m .nvm = true) : (confirmCommand s).mask m = s.mask m := by
  unfold confirmCommand
  (repeat' split) <;> (first | (simp [Power.mask, Win.mask, Params.mask, Crb.mask, Idn.mask, h_irq, h_nvm]; done) | ((simp [Power.mask, Win.mask, Params.mask, Crb.mask, Idn.mask, h_irq, h_nvm]) <;> (repeat' split) <;> simp [Power.mask, Win.mask, Params.mask, Crb.mask, Idn.mask, h_irq, h_nvm]))

@[simp] theorem nvmFinish_mask (m : Part → Bool) (a0 : NvmOp) (a1 : Bool) (s : State) (h_nvm : m .nvm = true) : (nvmFinish a0 a1 s).mask m = s.mask m := by
  unfold nvmFinish
  (repeat' split) <;> (first | (simp [Power.mask, Win.mask, Params.mask, Crb.mask, Idn.mask, h_nvm]; done) | ((simp [Power.mask, Win.mask, Params.mask, Crb.mask, Idn.mask, h_nvm]) <;> (repeat' split) <;> simp [Power.mask, Win.mask, Params.mask, Crb.mask, Idn.mask, h_nvm]))

@[simp] theorem nvmComplete_mask (m : Part → Bool) (a0 : Bool) (s : State) (h_irq : m .irq = true) (h_nvm : m .nvm = true) : (nvmComplete a0 s).mask m = s.mask m := by
  unfold nvmComplete
  (repeat' split) <;> (first | (simp [Power.mask, Win.mask, Params.mask, Crb.mask, Idn.mask, h_irq, h_nvm]; done) | ((simp [Power.mask, Win.mask, Params.mask, Crb.mask, Idn.mask, h_irq, h_nvm]) <;> (repeat' split) <;> simp [Power.mask, Win.mask, Params.mask, Crb.mask, Idn.mask, h_irq, h_nvm]))

@[simp] theorem nvmWord_mask (m : Part → Bool) (a0 : W16) (s : State) (h_irq : m .irq = true) (h_nvm : m .nvm = true) : (nvmWord a0 s).mask m = s.mask m := by
  unfold nvmWord
  (repeat' split) <;> (first | (simp [Power.mask, Win.mask, Params.mask, Crb.mask, Idn.mask, h_irq, h_nvm]; done) | ((simp [Power.mask, Win.mask, Params.mask, Crb.mask, Idn.mask, h_irq, h_nvm]) <;> (repeat' split) <;> simp [Power.mask, Win.mask, Params.mask, Crb.mask, Idn.mask, h_irq, h_nvm]))

@[simp] theorem nvmWrite_mask (m : Part → Bool) (a0 : W16) (s : State) (h_irq : m .irq = true) (h_nvm : m .nvm = true) : (nvmWrite a0 s).mask m = s.mask m := by
  unfold nvmWrite
  (repeat' split) <;> (first | (simp [Power.mask, Win.mask, Params.mask, Crb.mask, Idn.mask, h_irq, h_nvm]; done) | ((simp [Power.mask, Win.mask, Params.mask, Crb.mask, Idn.mask, h_irq, h_nvm]) <;> (repeat' split) <;> simp [Power.mask, Win.mask, Params.mask, Crb.mask, Idn.mask, h_irq, h_nvm]))

@[simp] theorem nvmChecked_mask (m : Part → Bool) (a0 : Bool) (s : State) (h_irq : m .irq = true) (h_nvm : m .nvm = true) : (nvmChecked a0 s).mask m = s.mask m := by
  unfold nvmChecked
  (repeat' split) <;> (first | (simp [Power.mask, Win.mask, Params.mask, Crb.mask, Idn.mask, h_irq, h_nvm]; done) | ((simp [Power.mask, Win.mask, Params.mask, Crb.mask, Idn.mask, h_irq, h_nvm]) <;> (repeat' split) <;> simp [Power.mask, Win.mask, Params.mask, Crb.mask, Idn.mask, h_irq, h_nvm]))

@[simp] theorem nvmDamage_mask (m : Part → Bool) (s : State) (h_nvm : m .nvm = true) : (nvmDamage s).mask m = s.mask m := by
  unfold nvmDamage
  (repeat' split) <;> (first | (simp [Power.mask, Win.mask, Params.mask, Crb.mask, Idn.mask, h_nvm]; done) | ((simp [Power.mask, Win.mask, Params.mask, Crb.mask, Idn.mask, h_nvm]) <;> (repeat' split) <;> simp [Power.mask, Win.mask, Params.mask, Crb.mask, Idn.mask, h_nvm]))

@[simp] theorem nvmGasp_mask (m : Part → Bool) (s : State) (h_irq : m .irq = true) (h_nvm : m .nvm = true) (h_peers : m .peers = true) : (nvmGasp s).mask m = s.mask m := by
  unfold nvmGasp
  (repeat' split) <;> (first | (simp [Power.mask, Win.mask, Params.mask, Crb.mask, Idn.mask, h_irq, h_nvm, h_peers]; done) | ((simp [Power.mask, Win.mask, Params.mask, Crb.mask, Idn.mask, h_irq, h_nvm, h_peers]) <;> (repeat' split) <;> simp [Power.mask, Win.mask, Params.mask, Crb.mask, Idn.mask, h_irq, h_nvm, h_peers]))

@[simp] theorem nvmLoss_mask (m : Part → Bool) (s : State) (h_nvm : m .nvm = true) (h_peers : m .peers = true) : (nvmLoss s).mask m = s.mask m := by
  unfold nvmLoss
  (repeat' split) <;> (first | (simp [Power.mask, Win.mask, Params.mask, Crb.mask, Idn.mask, h_nvm, h_peers]; done) | ((simp [Power.mask, Win.mask, Params.mask, Crb.mask, Idn.mask, h_nvm, h_peers]) <;> (repeat' split) <;> simp [Power.mask, Win.mask, Params.mask, Crb.mask, Idn.mask, h_nvm, h_peers]))

@[simp] theorem nvmReset_mask (m : Part → Bool) (s : State) (h_nvm : m .nvm = true) : (nvmReset s).mask m = s.mask m := by
  unfold nvmReset
  (repeat' split) <;> (first | (simp [Power.mask, Win.mask, Params.mask, Crb.mask, Idn.mask, h_nvm]; done) | ((simp [Power.mask, Win.mask, Params.mask, Crb.mask, Idn.mask, h_nvm]) <;> (repeat' split) <;> simp [Power.mask, Win.mask, Params.mask, Crb.mask, Idn.mask, h_nvm]))

@[simp] theorem State.updGsp_mask (m : Part → Bool) (s : State) (a1 : Gsp → Gsp) (h_gsp : m .gsp = true) : (State.updGsp s a1).mask m = s.mask m := by
  simp [State.updGsp, Power.mask, Win.mask, Params.mask, Crb.mask, Idn.mask, h_gsp]

@[simp] theorem sendGasp_mask (m : Part → Bool) (a0 : ℕ) (s : State) (h_lsh : m .lsh = true) (h_gsp : m .gsp = true) : (sendGasp a0 s).mask m = s.mask m := by
  unfold sendGasp
  (repeat' split) <;> (first | (simp [Power.mask, Win.mask, Params.mask, Crb.mask, Idn.mask, h_lsh, h_gsp]; done) | ((simp [Power.mask, Win.mask, Params.mask, Crb.mask, Idn.mask, h_lsh, h_gsp]) <;> (repeat' split) <;> simp [Power.mask, Win.mask, Params.mask, Crb.mask, Idn.mask, h_lsh, h_gsp]))

@[simp] theorem gaspFrame_mask (m : Part → Bool) (s : State) (h_lsh : m .lsh = true) (h_gsp : m .gsp = true) : (gaspFrame s).mask m = s.mask m := by
  unfold gaspFrame
  (repeat' split) <;> (first | (simp [Power.mask, Win.mask, Params.mask, Crb.mask, Idn.mask, h_lsh, h_gsp]; done) | ((simp [Power.mask, Win.mask, Params.mask, Crb.mask, Idn.mask, h_lsh, h_gsp]) <;> (repeat' split) <;> simp [Power.mask, Win.mask, Params.mask, Crb.mask, Idn.mask, h_lsh, h_gsp]))

@[simp] theorem summaryBegin_mask (m : Part → Bool) (a0 : ℕ) (a1 : ℕ) (s : State) (h_gsp : m .gsp = true) : (summaryBegin a0 a1 s).mask m = s.mask m := by
  unfold summaryBegin
  (repeat' split) <;> (first | (simp [Power.mask, Win.mask, Params.mask, Crb.mask, Idn.mask, h_gsp]; done) | ((simp [Power.mask, Win.mask, Params.mask, Crb.mask, Idn.mask, h_gsp]) <;> (repeat' split) <;> simp [Power.mask, Win.mask, Params.mask, Crb.mask, Idn.mask, h_gsp]))

@[simp] theorem summaryStart_mask (m : Part → Bool) (a0 : ℕ) (a1 : ℕ) (s : State) (h_gsp : m .gsp = true) : (summaryStart a0 a1 s).mask m = s.mask m := by
  unfold summaryStart
  (repeat' split) <;> (first | (simp [Power.mask, Win.mask, Params.mask, Crb.mask, Idn.mask, h_gsp]; done) | ((simp [Power.mask, Win.mask, Params.mask, Crb.mask, Idn.mask, h_gsp]) <;> (repeat' split) <;> simp [Power.mask, Win.mask, Params.mask, Crb.mask, Idn.mask, h_gsp]))

@[simp] theorem summaryWritten_mask (m : Part → Bool) (s : State) (h_irq : m .irq = true) (h_gsp : m .gsp = true) : (summaryWritten s).mask m = s.mask m := by
  unfold summaryWritten
  (repeat' split) <;> (first | (simp [Power.mask, Win.mask, Params.mask, Crb.mask, Idn.mask, h_irq, h_gsp]; done) | ((simp [Power.mask, Win.mask, Params.mask, Crb.mask, Idn.mask, h_irq, h_gsp]) <;> (repeat' split) <;> simp [Power.mask, Win.mask, Params.mask, Crb.mask, Idn.mask, h_irq, h_gsp]))

@[simp] theorem gaspHoldLoops_mask (m : Part → Bool) (a0 : State → Fin 16 → Bool) (s : State) (h_loops : m .loops = true) : (gaspHoldLoops a0 s).mask m = s.mask m := by
  unfold gaspHoldLoops
  (repeat' split) <;> (first | (simp [Power.mask, Win.mask, Params.mask, Crb.mask, Idn.mask, h_loops]; done) | ((simp [Power.mask, Win.mask, Params.mask, Crb.mask, Idn.mask, h_loops]) <;> (repeat' split) <;> simp [Power.mask, Win.mask, Params.mask, Crb.mask, Idn.mask, h_loops]))

@[simp] theorem shedRank_mask (m : Part → Bool) (a0 : ℕ) (s : State) (h_loops : m .loops = true) (h_gsp : m .gsp = true) : (shedRank a0 s).mask m = s.mask m := by
  unfold shedRank
  (repeat' split) <;> (first | (simp [Power.mask, Win.mask, Params.mask, Crb.mask, Idn.mask, h_loops, h_gsp]; done) | ((simp [Power.mask, Win.mask, Params.mask, Crb.mask, Idn.mask, h_loops, h_gsp]) <;> (repeat' split) <;> simp [Power.mask, Win.mask, Params.mask, Crb.mask, Idn.mask, h_loops, h_gsp]))

@[simp] theorem simRank_mask (m : Part → Bool) (a0 : ℕ) (s : State) (h_gsp : m .gsp = true) : (simRank a0 s).mask m = s.mask m := by
  unfold simRank
  (repeat' split) <;> (first | (simp [Power.mask, Win.mask, Params.mask, Crb.mask, Idn.mask, h_gsp]; done) | ((simp [Power.mask, Win.mask, Params.mask, Crb.mask, Idn.mask, h_gsp]) <;> (repeat' split) <;> simp [Power.mask, Win.mask, Params.mask, Crb.mask, Idn.mask, h_gsp]))

@[simp] theorem shedRanks_mask (m : Part → Bool) (f : Nat → State → State) (h : ∀ n s, (f n s).mask m = s.mask m) (l : List Nat) (s : State) :
    (shedRanks f l s).mask m = s.mask m := by
  induction l generalizing s with
  | nil => rfl
  | cons x l ih => simp [shedRanks, ih, h]

@[simp] theorem evalSheds_mask (m : Part → Bool) (f : Nat → State → State) (h : ∀ n s, (f n s).mask m = s.mask m) (l : Option Nat) (s : State) :
    (evalSheds f l s).mask m = s.mask m := by
  simp only [evalSheds]
  split <;> simp [h]

@[simp] theorem acpFreeze_mask (m : Part → Bool) (a0 : Fin 16) (s : State) (h_loops : m .loops = true) : (acpFreeze a0 s).mask m = s.mask m := by
  unfold acpFreeze
  (repeat' split) <;> (first | (simp [Power.mask, Win.mask, Params.mask, Crb.mask, Idn.mask, h_loops]; done) | ((simp [Power.mask, Win.mask, Params.mask, Crb.mask, Idn.mask, h_loops]) <;> (repeat' split) <;> simp [Power.mask, Win.mask, Params.mask, Crb.mask, Idn.mask, h_loops]))

@[simp] theorem gaspEnter_mask (m : Part → Bool) (a0 : ℕ) (s : State) (h_g : m .g = true) (h_irq : m .irq = true) (h_win : m .win = true) (h_log : m .log = true) (h_nvm : m .nvm = true) (h_loops : m .loops = true) (h_peers : m .peers = true) (h_lsh : m .lsh = true) (h_swp : m .swp = true) (h_gsp : m .gsp = true) (h_sram : m .sram = true) : (gaspEnter a0 s).mask m = s.mask m := by
  unfold gaspEnter
  (repeat' split) <;> (first | (simp [Power.mask, Win.mask, Params.mask, Crb.mask, Idn.mask, h_g, h_irq, h_win, h_log, h_nvm, h_loops, h_peers, h_lsh, h_swp, h_gsp, h_sram]; done) | ((simp [Power.mask, Win.mask, Params.mask, Crb.mask, Idn.mask, h_g, h_irq, h_win, h_log, h_nvm, h_loops, h_peers, h_lsh, h_swp, h_gsp, h_sram]) <;> (repeat' split) <;> simp [Power.mask, Win.mask, Params.mask, Crb.mask, Idn.mask, h_g, h_irq, h_win, h_log, h_nvm, h_loops, h_peers, h_lsh, h_swp, h_gsp, h_sram]))

@[simp] theorem holdWindow_mask (m : Part → Bool) (a0 : W16) (s : State) (h_gsp : m .gsp = true) : (holdWindow a0 s).mask m = s.mask m := by
  unfold holdWindow
  (repeat' split) <;> (first | (simp [Power.mask, Win.mask, Params.mask, Crb.mask, Idn.mask, h_gsp]; done) | ((simp [Power.mask, Win.mask, Params.mask, Crb.mask, Idn.mask, h_gsp]) <;> (repeat' split) <;> simp [Power.mask, Win.mask, Params.mask, Crb.mask, Idn.mask, h_gsp]))

@[simp] theorem gaspEval_mask (m : Part → Bool) (s : State) (h_loops : m .loops = true) (h_gsp : m .gsp = true) : (gaspEval s).mask m = s.mask m := by
  unfold gaspEval
  (repeat' split) <;> (first | (simp [Power.mask, Win.mask, Params.mask, Crb.mask, Idn.mask, h_loops, h_gsp]; done) | ((simp [Power.mask, Win.mask, Params.mask, Crb.mask, Idn.mask, h_loops, h_gsp]) <;> (repeat' split) <;> simp [Power.mask, Win.mask, Params.mask, Crb.mask, Idn.mask, h_loops, h_gsp]))

@[simp] theorem rehearseEval_mask (m : Part → Bool) (s : State) (h_gsp : m .gsp = true) : (rehearseEval s).mask m = s.mask m := by
  unfold rehearseEval
  (repeat' split) <;> (first | (simp [Power.mask, Win.mask, Params.mask, Crb.mask, Idn.mask, h_gsp]; done) | ((simp [Power.mask, Win.mask, Params.mask, Crb.mask, Idn.mask, h_gsp]) <;> (repeat' split) <;> simp [Power.mask, Win.mask, Params.mask, Crb.mask, Idn.mask, h_gsp]))

@[simp] theorem gaspLeave_mask (m : Part → Bool) (s : State) (h_win : m .win = true) (h_loops : m .loops = true) (h_gsp : m .gsp = true) : (gaspLeave s).mask m = s.mask m := by
  unfold gaspLeave
  (repeat' split) <;> (first | (simp [Power.mask, Win.mask, Params.mask, Crb.mask, Idn.mask, h_win, h_loops, h_gsp]; done) | ((simp [Power.mask, Win.mask, Params.mask, Crb.mask, Idn.mask, h_win, h_loops, h_gsp]) <;> (repeat' split) <;> simp [Power.mask, Win.mask, Params.mask, Crb.mask, Idn.mask, h_win, h_loops, h_gsp]))

@[simp] theorem gaspExit_mask (m : Part → Bool) (s : State) (h_g : m .g = true) (h_win : m .win = true) (h_loops : m .loops = true) (h_lsh : m .lsh = true) (h_gsp : m .gsp = true) : (gaspExit s).mask m = s.mask m := by
  unfold gaspExit
  (repeat' split) <;> (first | (simp [Power.mask, Win.mask, Params.mask, Crb.mask, Idn.mask, h_g, h_win, h_loops, h_lsh, h_gsp]; done) | ((simp [Power.mask, Win.mask, Params.mask, Crb.mask, Idn.mask, h_g, h_win, h_loops, h_lsh, h_gsp]) <;> (repeat' split) <;> simp [Power.mask, Win.mask, Params.mask, Crb.mask, Idn.mask, h_g, h_win, h_loops, h_lsh, h_gsp]))

@[simp] theorem gaspFast_mask (m : Part → Bool) (a0 : ℕ) (a1 : W16) (s : State) (h_gsp : m .gsp = true) : (gaspFast a0 a1 s).mask m = s.mask m := by
  unfold gaspFast
  (repeat' split) <;> (first | (simp [Power.mask, Win.mask, Params.mask, Crb.mask, Idn.mask, h_gsp]; done) | ((simp [Power.mask, Win.mask, Params.mask, Crb.mask, Idn.mask, h_gsp]) <;> (repeat' split) <;> simp [Power.mask, Win.mask, Params.mask, Crb.mask, Idn.mask, h_gsp]))

@[simp] theorem rehearseStart_mask (m : Part → Bool) (s : State) (h_lsh : m .lsh = true) (h_gsp : m .gsp = true) : (rehearseStart s).mask m = s.mask m := by
  unfold rehearseStart
  (repeat' split) <;> (first | (simp [Power.mask, Win.mask, Params.mask, Crb.mask, Idn.mask, h_lsh, h_gsp]; done) | ((simp [Power.mask, Win.mask, Params.mask, Crb.mask, Idn.mask, h_lsh, h_gsp]) <;> (repeat' split) <;> simp [Power.mask, Win.mask, Params.mask, Crb.mask, Idn.mask, h_lsh, h_gsp]))

@[simp] theorem gaspWrite_mask (m : Part → Bool) (a0 : W16) (s : State) (h_lsh : m .lsh = true) (h_gsp : m .gsp = true) : (gaspWrite a0 s).mask m = s.mask m := by
  unfold gaspWrite
  (repeat' split) <;> (first | (simp [Power.mask, Win.mask, Params.mask, Crb.mask, Idn.mask, h_lsh, h_gsp]; done) | ((simp [Power.mask, Win.mask, Params.mask, Crb.mask, Idn.mask, h_lsh, h_gsp]) <;> (repeat' split) <;> simp [Power.mask, Win.mask, Params.mask, Crb.mask, Idn.mask, h_lsh, h_gsp]))

@[simp] theorem rehearseEnd_mask (m : Part → Bool) (s : State) (h_lsh : m .lsh = true) (h_gsp : m .gsp = true) : (rehearseEnd s).mask m = s.mask m := by
  unfold rehearseEnd
  (repeat' split) <;> (first | (simp [Power.mask, Win.mask, Params.mask, Crb.mask, Idn.mask, h_lsh, h_gsp]; done) | ((simp [Power.mask, Win.mask, Params.mask, Crb.mask, Idn.mask, h_lsh, h_gsp]) <;> (repeat' split) <;> simp [Power.mask, Win.mask, Params.mask, Crb.mask, Idn.mask, h_lsh, h_gsp]))

@[simp] theorem State.updSvc_mask (m : Part → Bool) (s : State) (a1 : Svc → Svc) (h_svc : m .svc = true) : (State.updSvc s a1).mask m = s.mask m := by
  simp [State.updSvc, Power.mask, Win.mask, Params.mask, Crb.mask, Idn.mask, h_svc]

@[simp] theorem coldEvent_mask (m : Part → Bool) (a0 : Bool) (a1 : ℕ) (s : State) (h_log : m .log = true) (h_svc : m .svc = true) : (coldEvent a0 a1 s).mask m = s.mask m := by
  unfold coldEvent
  (repeat' split) <;> (first | (simp [Power.mask, Win.mask, Params.mask, Crb.mask, Idn.mask, h_log, h_svc]; done) | ((simp [Power.mask, Win.mask, Params.mask, Crb.mask, Idn.mask, h_log, h_svc]) <;> (repeat' split) <;> simp [Power.mask, Win.mask, Params.mask, Crb.mask, Idn.mask, h_log, h_svc]))

@[simp] theorem svcWrite_mask (m : Part → Bool) (a0 : ℕ) (a1 : W16) (a2 : Mark) (s : State) (h_loops : m .loops = true) (h_svc : m .svc = true) (h_prot : m .prot = true) : (svcWrite a0 a1 a2 s).mask m = s.mask m := by
  unfold svcWrite
  (repeat' split) <;> (first | (simp [Power.mask, Win.mask, Params.mask, Crb.mask, Idn.mask, h_loops, h_svc, h_prot]; done) | ((simp [Power.mask, Win.mask, Params.mask, Crb.mask, Idn.mask, h_loops, h_svc, h_prot]) <;> (repeat' split) <;> simp [Power.mask, Win.mask, Params.mask, Crb.mask, Idn.mask, h_loops, h_svc, h_prot]))

@[simp] theorem visitResult_mask (m : Part → Bool) (a0 : SvcTail) (a1 : List ℕ) (a2 : Bool) (s : State) (h_log : m .log = true) (h_loops : m .loops = true) (h_svc : m .svc = true) (h_prot : m .prot = true) : (visitResult a0 a1 a2 s).mask m = s.mask m := by
  unfold visitResult
  (repeat' split) <;> (first | (simp [Power.mask, Win.mask, Params.mask, Crb.mask, Idn.mask, h_log, h_loops, h_svc, h_prot]; done) | ((simp [Power.mask, Win.mask, Params.mask, Crb.mask, Idn.mask, h_log, h_loops, h_svc, h_prot]) <;> (repeat' split) <;> simp [Power.mask, Win.mask, Params.mask, Crb.mask, Idn.mask, h_log, h_loops, h_svc, h_prot]))

@[simp] theorem meetUrgent_mask (m : Part → Bool) (a0 : ℕ) (a1 : ℕ) (s : State) (h_svc : m .svc = true) : (meetUrgent a0 a1 s).mask m = s.mask m := by
  unfold meetUrgent
  (repeat' split) <;> (first | (simp [Power.mask, Win.mask, Params.mask, Crb.mask, Idn.mask, h_svc]; done) | ((simp [Power.mask, Win.mask, Params.mask, Crb.mask, Idn.mask, h_svc]) <;> (repeat' split) <;> simp [Power.mask, Win.mask, Params.mask, Crb.mask, Idn.mask, h_svc]))

@[simp] theorem nextEntry_mask (m : Part → Bool) (a0 : ℕ) (s : State) (h_svc : m .svc = true) : (nextEntry a0 s).mask m = s.mask m := by
  unfold nextEntry
  (repeat' split) <;> (first | (simp [Power.mask, Win.mask, Params.mask, Crb.mask, Idn.mask, h_svc]; done) | ((simp [Power.mask, Win.mask, Params.mask, Crb.mask, Idn.mask, h_svc]) <;> (repeat' split) <;> simp [Power.mask, Win.mask, Params.mask, Crb.mask, Idn.mask, h_svc]))

@[simp] theorem visitDone_mask (m : Part → Bool) (s : State) (h_svc : m .svc = true) : (visitDone s).mask m = s.mask m := by
  unfold visitDone
  (repeat' split) <;> (first | (simp [Power.mask, Win.mask, Params.mask, Crb.mask, Idn.mask, h_svc]; done) | ((simp [Power.mask, Win.mask, Params.mask, Crb.mask, Idn.mask, h_svc]) <;> (repeat' split) <;> simp [Power.mask, Win.mask, Params.mask, Crb.mask, Idn.mask, h_svc]))

@[simp] theorem svcRestart_mask (m : Part → Bool) (a0 : State) (s : State) (h_svc : m .svc = true) : (svcRestart a0 s).mask m = s.mask m := by
  unfold svcRestart
  (repeat' split) <;> (first | (simp [Power.mask, Win.mask, Params.mask, Crb.mask, Idn.mask, h_svc]; done) | ((simp [Power.mask, Win.mask, Params.mask, Crb.mask, Idn.mask, h_svc]) <;> (repeat' split) <;> simp [Power.mask, Win.mask, Params.mask, Crb.mask, Idn.mask, h_svc]))

@[simp] theorem svrChange_mask (m : Part → Bool) (a0 : W16) (s : State) (h_svc : m .svc = true) : (svrChange a0 s).mask m = s.mask m := by
  unfold svrChange
  (repeat' split) <;> (first | (simp [Power.mask, Win.mask, Params.mask, Crb.mask, Idn.mask, h_svc]; done) | ((simp [Power.mask, Win.mask, Params.mask, Crb.mask, Idn.mask, h_svc]) <;> (repeat' split) <;> simp [Power.mask, Win.mask, Params.mask, Crb.mask, Idn.mask, h_svc]))

@[simp] theorem svcBoot_mask (m : Part → Bool) (s : State) (h_svc : m .svc = true) : (svcBoot s).mask m = s.mask m := by
  unfold svcBoot
  (repeat' split) <;> (first | (simp [Power.mask, Win.mask, Params.mask, Crb.mask, Idn.mask, h_svc]; done) | ((simp [Power.mask, Win.mask, Params.mask, Crb.mask, Idn.mask, h_svc]) <;> (repeat' split) <;> simp [Power.mask, Win.mask, Params.mask, Crb.mask, Idn.mask, h_svc]))

@[simp] theorem urgentPlace_mask (m : Part → Bool) (a0 : UrgReq) (s : State) (h_svc : m .svc = true) : (urgentPlace a0 s).mask m = s.mask m := by
  unfold urgentPlace
  (repeat' split) <;> (first | (simp [Power.mask, Win.mask, Params.mask, Crb.mask, Idn.mask, h_svc]; done) | ((simp [Power.mask, Win.mask, Params.mask, Crb.mask, Idn.mask, h_svc]) <;> (repeat' split) <;> simp [Power.mask, Win.mask, Params.mask, Crb.mask, Idn.mask, h_svc]))

@[simp] theorem urgentWrite_mask (m : Part → Bool) (a0 : W16) (s : State) (h_svc : m .svc = true) : (urgentWrite a0 s).mask m = s.mask m := by
  unfold urgentWrite
  (repeat' split) <;> (first | (simp [Power.mask, Win.mask, Params.mask, Crb.mask, Idn.mask, h_svc]; done) | ((simp [Power.mask, Win.mask, Params.mask, Crb.mask, Idn.mask, h_svc]) <;> (repeat' split) <;> simp [Power.mask, Win.mask, Params.mask, Crb.mask, Idn.mask, h_svc]))

@[simp] theorem urgentStart_mask (m : Part → Bool) (a0 : UrgReq) (s : State) (h_svc : m .svc = true) : (urgentStart a0 s).mask m = s.mask m := by
  unfold urgentStart
  (repeat' split) <;> (first | (simp [Power.mask, Win.mask, Params.mask, Crb.mask, Idn.mask, h_svc]; done) | ((simp [Power.mask, Win.mask, Params.mask, Crb.mask, Idn.mask, h_svc]) <;> (repeat' split) <;> simp [Power.mask, Win.mask, Params.mask, Crb.mask, Idn.mask, h_svc]))

@[simp] theorem calPlace_mask (m : Part → Bool) (s : State) (h_svc : m .svc = true) : (calPlace s).mask m = s.mask m := by
  unfold calPlace
  (repeat' split) <;> (first | (simp [Power.mask, Win.mask, Params.mask, Crb.mask, Idn.mask, h_svc]; done) | ((simp [Power.mask, Win.mask, Params.mask, Crb.mask, Idn.mask, h_svc]) <;> (repeat' split) <;> simp [Power.mask, Win.mask, Params.mask, Crb.mask, Idn.mask, h_svc]))

@[simp] theorem fastResult_mask (m : Part → Bool) (a0 : Fin 2) (a1 : W16) (a2 : Mark) (s : State) (h_loops : m .loops = true) (h_prot : m .prot = true) (h_damp : m .damp = true) (h_gsp : m .gsp = true) : (fastResult a0 a1 a2 s).mask m = s.mask m := by
  unfold fastResult
  (repeat' split) <;> (first | (simp [Power.mask, Win.mask, Params.mask, Crb.mask, Idn.mask, h_loops, h_prot, h_damp, h_gsp]; done) | ((simp [Power.mask, Win.mask, Params.mask, Crb.mask, Idn.mask, h_loops, h_prot, h_damp, h_gsp]) <;> (repeat' split) <;> simp [Power.mask, Win.mask, Params.mask, Crb.mask, Idn.mask, h_loops, h_prot, h_damp, h_gsp]))

@[simp] theorem calConv_mask (m : Part → Bool) (a0 : UrgReq) (a1 : ℕ) (a2 : Bool) (s : State) (h_svc : m .svc = true) : (calConv a0 a1 a2 s).mask m = s.mask m := by
  unfold calConv
  (repeat' split) <;> (first | (simp [Power.mask, Win.mask, Params.mask, Crb.mask, Idn.mask, h_svc]; done) | ((simp [Power.mask, Win.mask, Params.mask, Crb.mask, Idn.mask, h_svc]) <;> (repeat' split) <;> simp [Power.mask, Win.mask, Params.mask, Crb.mask, Idn.mask, h_svc]))

@[simp] theorem hostResult_mask (m : Part → Bool) (a0 : Bool) (a1 : ℕ) (a2 : W16 × Bool) (a3 : Bool) (a4 : Bool) (s : State) (h_svc : m .svc = true) : (hostResult a0 a1 a2 a3 a4 s).mask m = s.mask m := by
  unfold hostResult
  (repeat' split) <;> (first | (simp [Power.mask, Win.mask, Params.mask, Crb.mask, Idn.mask, h_svc]; done) | ((simp [Power.mask, Win.mask, Params.mask, Crb.mask, Idn.mask, h_svc]) <;> (repeat' split) <;> simp [Power.mask, Win.mask, Params.mask, Crb.mask, Idn.mask, h_svc]))

@[simp] theorem urgentDone_mask (m : Part → Bool) (a0 : UrgReq) (a1 : ℕ) (a2 : ℕ) (a3 : Bool) (s : State) (h_log : m .log = true) (h_loops : m .loops = true) (h_svc : m .svc = true) (h_prot : m .prot = true) (h_swp : m .swp = true) (h_damp : m .damp = true) (h_gsp : m .gsp = true) : (urgentDone a0 a1 a2 a3 s).mask m = s.mask m := by
  unfold urgentDone
  (repeat' split) <;> (first | (simp [Power.mask, Win.mask, Params.mask, Crb.mask, Idn.mask, h_log, h_loops, h_svc, h_prot, h_swp, h_damp, h_gsp]; done) | ((simp [Power.mask, Win.mask, Params.mask, Crb.mask, Idn.mask, h_log, h_loops, h_svc, h_prot, h_swp, h_damp, h_gsp]) <;> (repeat' split) <;> simp [Power.mask, Win.mask, Params.mask, Crb.mask, Idn.mask, h_log, h_loops, h_svc, h_prot, h_swp, h_damp, h_gsp]))

@[simp] theorem State.updCal_mask (m : Part → Bool) (s : State) (a1 : Cal → Cal) (h_svc : m .svc = true) : (State.updCal s a1).mask m = s.mask m := by
  simp [State.updCal, Power.mask, Win.mask, Params.mask, Crb.mask, Idn.mask, h_svc]

@[simp] theorem calMeasure_mask (m : Part → Bool) (a0 : ℕ) (a1 : Bool) (s : State) (h_svc : m .svc = true) : (calMeasure a0 a1 s).mask m = s.mask m := by
  unfold calMeasure
  (repeat' split) <;> (first | (simp [Power.mask, Win.mask, Params.mask, Crb.mask, Idn.mask, h_svc]; done) | ((simp [Power.mask, Win.mask, Params.mask, Crb.mask, Idn.mask, h_svc]) <;> (repeat' split) <;> simp [Power.mask, Win.mask, Params.mask, Crb.mask, Idn.mask, h_svc]))

@[simp] theorem calZero_mask (m : Part → Bool) (a0 : ℕ) (s : State) (h_svc : m .svc = true) : (calZero a0 s).mask m = s.mask m := by
  unfold calZero
  (repeat' split) <;> (first | (simp [Power.mask, Win.mask, Params.mask, Crb.mask, Idn.mask, h_svc]; done) | ((simp [Power.mask, Win.mask, Params.mask, Crb.mask, Idn.mask, h_svc]) <;> (repeat' split) <;> simp [Power.mask, Win.mask, Params.mask, Crb.mask, Idn.mask, h_svc]))

@[simp] theorem calFull_mask (m : Part → Bool) (a0 : ℕ) (s : State) (h_svc : m .svc = true) : (calFull a0 s).mask m = s.mask m := by
  unfold calFull
  (repeat' split) <;> (first | (simp [Power.mask, Win.mask, Params.mask, Crb.mask, Idn.mask, h_svc]; done) | ((simp [Power.mask, Win.mask, Params.mask, Crb.mask, Idn.mask, h_svc]) <;> (repeat' split) <;> simp [Power.mask, Win.mask, Params.mask, Crb.mask, Idn.mask, h_svc]))

@[simp] theorem calMeasureEnd_mask (m : Part → Bool) (s : State) (h_svc : m .svc = true) : (calMeasureEnd s).mask m = s.mask m := by
  unfold calMeasureEnd
  (repeat' split) <;> (first | (simp [Power.mask, Win.mask, Params.mask, Crb.mask, Idn.mask, h_svc]; done) | ((simp [Power.mask, Win.mask, Params.mask, Crb.mask, Idn.mask, h_svc]) <;> (repeat' split) <;> simp [Power.mask, Win.mask, Params.mask, Crb.mask, Idn.mask, h_svc]))

@[simp] theorem calApply_mask (m : Part → Bool) (s : State) (h_proof : m .proof = true) (h_svc : m .svc = true) : (calApply s).mask m = s.mask m := by
  unfold calApply
  (repeat' split) <;> (first | (simp [Power.mask, Win.mask, Params.mask, Crb.mask, Idn.mask, h_proof, h_svc]; done) | ((simp [Power.mask, Win.mask, Params.mask, Crb.mask, Idn.mask, h_proof, h_svc]) <;> (repeat' split) <;> simp [Power.mask, Win.mask, Params.mask, Crb.mask, Idn.mask, h_proof, h_svc]))

@[simp] theorem calAbort_mask (m : Part → Bool) (s : State) (h_svc : m .svc = true) : (calAbort s).mask m = s.mask m := by
  unfold calAbort
  (repeat' split) <;> (first | (simp [Power.mask, Win.mask, Params.mask, Crb.mask, Idn.mask, h_svc]; done) | ((simp [Power.mask, Win.mask, Params.mask, Crb.mask, Idn.mask, h_svc]) <;> (repeat' split) <;> simp [Power.mask, Win.mask, Params.mask, Crb.mask, Idn.mask, h_svc]))

end Sys2Proof.Machine
end

