-- ==== Sys2Proof/Laws/MaskUnits.lean ====
section
/-! SUPPORT. What each operation of the messages, protection, ports and engine leaves alone: with the parts it changes in
the mask, the masked state stays as it was. -/

set_option linter.all false

set_option maxRecDepth 2000

namespace Sys2Proof.Machine

open Sys2Proof

@[simp] theorem calWrite_mask (m : Part → Bool) (a0 : W16) (s : State) (h_proof : m .proof = true) (h_svc : m .svc = true) : (calWrite a0 s).mask m = s.mask m := by
  unfold calWrite
  (repeat' split) <;> (first | (simp [Power.mask, Win.mask, Params.mask, Crb.mask, Idn.mask, h_proof, h_svc]; done) | ((simp [Power.mask, Win.mask, Params.mask, Crb.mask, Idn.mask, h_proof, h_svc]) <;> (repeat' split) <;> simp [Power.mask, Win.mask, Params.mask, Crb.mask, Idn.mask, h_proof, h_svc]))

@[simp] theorem idleReceived_mask (m : Part → Bool) (a0 : Fin 8) (a1 : W32) (s : State) (h_peers : m .peers = true) (h_lsh : m .lsh = true) : (idleReceived a0 a1 s).mask m = s.mask m := by
  unfold idleReceived
  (repeat' split) <;> (first | (simp [Power.mask, Win.mask, Params.mask, Crb.mask, Idn.mask, h_peers, h_lsh]; done) | ((simp [Power.mask, Win.mask, Params.mask, Crb.mask, Idn.mask, h_peers, h_lsh]) <;> (repeat' split) <;> simp [Power.mask, Win.mask, Params.mask, Crb.mask, Idn.mask, h_peers, h_lsh]))

@[simp] theorem napReceived_mask (m : Part → Bool) (a0 : Fin 8) (a1 : W32) (s : State) (h_lsh : m .lsh = true) : (napReceived a0 a1 s).mask m = s.mask m := by
  unfold napReceived
  (repeat' split) <;> (first | (simp [Power.mask, Win.mask, Params.mask, Crb.mask, Idn.mask, h_lsh]; done) | ((simp [Power.mask, Win.mask, Params.mask, Crb.mask, Idn.mask, h_lsh]) <;> (repeat' split) <;> simp [Power.mask, Win.mask, Params.mask, Crb.mask, Idn.mask, h_lsh]))

@[simp] theorem howlFault_mask (m : Part → Bool) (a0 : Fin 8) (a1 : W32) (s : State) (h_log : m .log = true) : (howlFault a0 a1 s).mask m = s.mask m := by
  unfold howlFault
  (repeat' split) <;> (first | (simp [Power.mask, Win.mask, Params.mask, Crb.mask, Idn.mask, h_log]; done) | ((simp [Power.mask, Win.mask, Params.mask, Crb.mask, Idn.mask, h_log]) <;> (repeat' split) <;> simp [Power.mask, Win.mask, Params.mask, Crb.mask, Idn.mask, h_log]))

@[simp] theorem howlNote_mask (m : Part → Bool) (a0 : Fin 8) (a1 : W32) (s : State) (h_gsp : m .gsp = true) : (howlNote a0 a1 s).mask m = s.mask m := by
  unfold howlNote
  (repeat' split) <;> (first | (simp [Power.mask, Win.mask, Params.mask, Crb.mask, Idn.mask, h_gsp]; done) | ((simp [Power.mask, Win.mask, Params.mask, Crb.mask, Idn.mask, h_gsp]) <;> (repeat' split) <;> simp [Power.mask, Win.mask, Params.mask, Crb.mask, Idn.mask, h_gsp]))

@[simp] theorem howlGasp_mask (m : Part → Bool) (a0 : Fin 8) (a1 : W32) (s : State) (h_g : m .g = true) (h_irq : m .irq = true) (h_win : m .win = true) (h_log : m .log = true) (h_nvm : m .nvm = true) (h_loops : m .loops = true) (h_peers : m .peers = true) (h_lsh : m .lsh = true) (h_swp : m .swp = true) (h_gsp : m .gsp = true) (h_sram : m .sram = true) : (howlGasp a0 a1 s).mask m = s.mask m := by
  unfold howlGasp
  (repeat' split) <;> (first | (simp [Power.mask, Win.mask, Params.mask, Crb.mask, Idn.mask, h_g, h_irq, h_win, h_log, h_nvm, h_loops, h_peers, h_lsh, h_swp, h_gsp, h_sram]; done) | ((simp [Power.mask, Win.mask, Params.mask, Crb.mask, Idn.mask, h_g, h_irq, h_win, h_log, h_nvm, h_loops, h_peers, h_lsh, h_swp, h_gsp, h_sram]) <;> (repeat' split) <;> simp [Power.mask, Win.mask, Params.mask, Crb.mask, Idn.mask, h_g, h_irq, h_win, h_log, h_nvm, h_loops, h_peers, h_lsh, h_swp, h_gsp, h_sram]))

@[simp] theorem acqReceived_mask (m : Part → Bool) (a0 : Fin 8) (a1 : W32) (s : State) (h_peers : m .peers = true) : (acqReceived a0 a1 s).mask m = s.mask m := by
  unfold acqReceived
  (repeat' split) <;> (first | (simp [Power.mask, Win.mask, Params.mask, Crb.mask, Idn.mask, h_peers]; done) | ((simp [Power.mask, Win.mask, Params.mask, Crb.mask, Idn.mask, h_peers]) <;> (repeat' split) <;> simp [Power.mask, Win.mask, Params.mask, Crb.mask, Idn.mask, h_peers]))

@[simp] theorem reservedReceived_mask (m : Part → Bool) (s : State) (h_peers : m .peers = true) : (reservedReceived s).mask m = s.mask m := by
  unfold reservedReceived
  (repeat' split) <;> (first | (simp [Power.mask, Win.mask, Params.mask, Crb.mask, Idn.mask, h_peers]; done) | ((simp [Power.mask, Win.mask, Params.mask, Crb.mask, Idn.mask, h_peers]) <;> (repeat' split) <;> simp [Power.mask, Win.mask, Params.mask, Crb.mask, Idn.mask, h_peers]))

@[simp] theorem service_mask (m : Part → Bool) (a0 : Fin 8) (a1 : ℕ) (a2 : ℕ) (a3 : W32) (s : State) (h_g : m .g = true) (h_irq : m .irq = true) (h_win : m .win = true) (h_log : m .log = true) (h_nvm : m .nvm = true) (h_loops : m .loops = true) (h_peers : m .peers = true) (h_lsh : m .lsh = true) (h_swp : m .swp = true) (h_gsp : m .gsp = true) (h_sram : m .sram = true) : (service a0 a1 a2 a3 s).mask m = s.mask m := by
  unfold service
  (repeat' split) <;> (first | (simp [Power.mask, Win.mask, Params.mask, Crb.mask, Idn.mask, h_g, h_irq, h_win, h_log, h_nvm, h_loops, h_peers, h_lsh, h_swp, h_gsp, h_sram]; done) | ((simp [Power.mask, Win.mask, Params.mask, Crb.mask, Idn.mask, h_g, h_irq, h_win, h_log, h_nvm, h_loops, h_peers, h_lsh, h_swp, h_gsp, h_sram]) <;> (repeat' split) <;> simp [Power.mask, Win.mask, Params.mask, Crb.mask, Idn.mask, h_g, h_irq, h_win, h_log, h_nvm, h_loops, h_peers, h_lsh, h_swp, h_gsp, h_sram]))

@[simp] theorem deliver_mask (m : Part → Bool) (a0 : Fin 8) (a1 : LshMsg) (s : State) (h_g : m .g = true) (h_irq : m .irq = true) (h_win : m .win = true) (h_log : m .log = true) (h_nvm : m .nvm = true) (h_loops : m .loops = true) (h_peers : m .peers = true) (h_lsh : m .lsh = true) (h_swp : m .swp = true) (h_gsp : m .gsp = true) (h_sram : m .sram = true) : (deliver a0 a1 s).mask m = s.mask m := by
  unfold deliver
  (repeat' split) <;> (first | (simp [Power.mask, Win.mask, Params.mask, Crb.mask, Idn.mask, h_g, h_irq, h_win, h_log, h_nvm, h_loops, h_peers, h_lsh, h_swp, h_gsp, h_sram]; done) | ((simp [Power.mask, Win.mask, Params.mask, Crb.mask, Idn.mask, h_g, h_irq, h_win, h_log, h_nvm, h_loops, h_peers, h_lsh, h_swp, h_gsp, h_sram]) <;> (repeat' split) <;> simp [Power.mask, Win.mask, Params.mask, Crb.mask, Idn.mask, h_g, h_irq, h_win, h_log, h_nvm, h_loops, h_peers, h_lsh, h_swp, h_gsp, h_sram]))

@[simp] theorem releaseAll_mask (m : Part → Bool)  (l : List (Nat × LshMsg × Nat)) (s : State) (h_g : m .g = true) (h_irq : m .irq = true) (h_win : m .win = true) (h_log : m .log = true) (h_nvm : m .nvm = true) (h_loops : m .loops = true) (h_peers : m .peers = true) (h_lsh : m .lsh = true) (h_swp : m .swp = true) (h_gsp : m .gsp = true) (h_sram : m .sram = true) : (releaseAll  l s).mask m = s.mask m := by
  induction l generalizing s with
  | nil => rfl
  | cons x l ih => simp [releaseAll, ih, h_g, h_irq, h_win, h_log, h_nvm, h_loops, h_peers, h_lsh, h_swp, h_gsp, h_sram]

@[simp] theorem chewDisarm_mask (m : Part → Bool) (a0 : ℕ) (s : State) (h_g : m .g = true) (h_irq : m .irq = true) (h_win : m .win = true) (h_log : m .log = true) (h_nvm : m .nvm = true) (h_loops : m .loops = true) (h_peers : m .peers = true) (h_lsh : m .lsh = true) (h_swp : m .swp = true) (h_gsp : m .gsp = true) (h_fch : m .fch = true) (h_sram : m .sram = true) (h_chw : m .chw = true) : (chewDisarm a0 s).mask m = s.mask m := by
  unfold chewDisarm
  (repeat' split) <;> (first | (simp [Power.mask, Win.mask, Params.mask, Crb.mask, Idn.mask, h_g, h_irq, h_win, h_log, h_nvm, h_loops, h_peers, h_lsh, h_swp, h_gsp, h_fch, h_sram, h_chw]; done) | ((simp [Power.mask, Win.mask, Params.mask, Crb.mask, Idn.mask, h_g, h_irq, h_win, h_log, h_nvm, h_loops, h_peers, h_lsh, h_swp, h_gsp, h_fch, h_sram, h_chw]) <;> (repeat' split) <;> simp [Power.mask, Win.mask, Params.mask, Crb.mask, Idn.mask, h_g, h_irq, h_win, h_log, h_nvm, h_loops, h_peers, h_lsh, h_swp, h_gsp, h_fch, h_sram, h_chw]))

@[simp] theorem chewSettle_mask (m : Part → Bool) (s : State) (h_g : m .g = true) (h_irq : m .irq = true) (h_win : m .win = true) (h_log : m .log = true) (h_nvm : m .nvm = true) (h_loops : m .loops = true) (h_peers : m .peers = true) (h_lsh : m .lsh = true) (h_swp : m .swp = true) (h_gsp : m .gsp = true) (h_fch : m .fch = true) (h_sram : m .sram = true) (h_chw : m .chw = true) : (chewSettle s).mask m = s.mask m := by
  unfold chewSettle
  (repeat' split) <;> (first | (simp [Power.mask, Win.mask, Params.mask, Crb.mask, Idn.mask, h_g, h_irq, h_win, h_log, h_nvm, h_loops, h_peers, h_lsh, h_swp, h_gsp, h_fch, h_sram, h_chw]; done) | ((simp [Power.mask, Win.mask, Params.mask, Crb.mask, Idn.mask, h_g, h_irq, h_win, h_log, h_nvm, h_loops, h_peers, h_lsh, h_swp, h_gsp, h_fch, h_sram, h_chw]) <;> (repeat' split) <;> simp [Power.mask, Win.mask, Params.mask, Crb.mask, Idn.mask, h_g, h_irq, h_win, h_log, h_nvm, h_loops, h_peers, h_lsh, h_swp, h_gsp, h_fch, h_sram, h_chw]))

@[simp] theorem noteTraffic_mask (m : Part → Bool) (a0 : LshMsg) (s : State) (h_lsh : m .lsh = true) : (noteTraffic a0 s).mask m = s.mask m := by
  unfold noteTraffic
  (repeat' split) <;> (first | (simp [Power.mask, Win.mask, Params.mask, Crb.mask, Idn.mask, h_lsh]; done) | ((simp [Power.mask, Win.mask, Params.mask, Crb.mask, Idn.mask, h_lsh]) <;> (repeat' split) <;> simp [Power.mask, Win.mask, Params.mask, Crb.mask, Idn.mask, h_lsh]))

@[simp] theorem releaseOf_mask (m : Part → Bool) (a0 : Fin 8) (s : State) (h_g : m .g = true) (h_irq : m .irq = true) (h_win : m .win = true) (h_log : m .log = true) (h_nvm : m .nvm = true) (h_loops : m .loops = true) (h_peers : m .peers = true) (h_lsh : m .lsh = true) (h_swp : m .swp = true) (h_gsp : m .gsp = true) (h_sram : m .sram = true) (h_chw : m .chw = true) : (releaseOf a0 s).mask m = s.mask m := by
  unfold releaseOf
  (repeat' split) <;> (first | (simp [Power.mask, Win.mask, Params.mask, Crb.mask, Idn.mask, h_g, h_irq, h_win, h_log, h_nvm, h_loops, h_peers, h_lsh, h_swp, h_gsp, h_sram, h_chw]; done) | ((simp [Power.mask, Win.mask, Params.mask, Crb.mask, Idn.mask, h_g, h_irq, h_win, h_log, h_nvm, h_loops, h_peers, h_lsh, h_swp, h_gsp, h_sram, h_chw]) <;> (repeat' split) <;> simp [Power.mask, Win.mask, Params.mask, Crb.mask, Idn.mask, h_g, h_irq, h_win, h_log, h_nvm, h_loops, h_peers, h_lsh, h_swp, h_gsp, h_sram, h_chw]))

@[simp] theorem receive_mask (m : Part → Bool) (a0 : Fin 8) (a1 : ℕ) (a2 : ℕ) (a3 : W32) (s : State) (h_g : m .g = true) (h_irq : m .irq = true) (h_win : m .win = true) (h_log : m .log = true) (h_nvm : m .nvm = true) (h_loops : m .loops = true) (h_peers : m .peers = true) (h_lsh : m .lsh = true) (h_swp : m .swp = true) (h_gsp : m .gsp = true) (h_fch : m .fch = true) (h_sram : m .sram = true) (h_chw : m .chw = true) : (receive a0 a1 a2 a3 s).mask m = s.mask m := by
  unfold receive
  (repeat' split) <;> (first | (simp [Power.mask, Win.mask, Params.mask, Crb.mask, Idn.mask, h_g, h_irq, h_win, h_log, h_nvm, h_loops, h_peers, h_lsh, h_swp, h_gsp, h_fch, h_sram, h_chw]; done) | ((simp [Power.mask, Win.mask, Params.mask, Crb.mask, Idn.mask, h_g, h_irq, h_win, h_log, h_nvm, h_loops, h_peers, h_lsh, h_swp, h_gsp, h_fch, h_sram, h_chw]) <;> (repeat' split) <;> simp [Power.mask, Win.mask, Params.mask, Crb.mask, Idn.mask, h_g, h_irq, h_win, h_log, h_nvm, h_loops, h_peers, h_lsh, h_swp, h_gsp, h_fch, h_sram, h_chw]))

@[simp] theorem sendNote_mask (m : Part → Bool) (x : LshMsg) (s : State) (h_peers : m .peers = true) (h_swp : m .swp = true) : (sendNote x s).2.mask m = s.mask m := by
  simp only [sendNote]
  (repeat' split) <;> simp [Power.mask, Win.mask, Params.mask, Crb.mask, Idn.mask, h_peers, h_swp]

theorem headMsg_mask (m : Part → Bool) (q : List LshMsg) (f : State → State) (s : State) (hf : (f s).mask m = s.mask m) (k : Pick)
    (h : headMsg q f s = some k) : k.st.mask m = s.mask m := by
  unfold headMsg at h
  split at h
  · injection h with h; subst h; exact hf
  · cases h

theorem pickVref_mask (m : Part → Bool) (s : State) (k : Pick) (h : pickVref s = some k) (h_peers : m .peers = true) : k.st.mask m = s.mask m := by
  simp only [pickVref, Option.map_eq_some_iff] at h
  obtain ⟨n, _, rfl⟩ := h
  simp [h_peers]

theorem pickTurn_mask (m : Part → Bool) (s : State) (k : Pick) (h : pickTurn s = some k) : k.st.mask m = s.mask m := by
  unfold pickTurn at h
  (repeat' split at h) <;> first | (injection h with h; subst h; rfl) | cases h

theorem pickStream_mask (m : Part → Bool) (s : State) (k : Pick) (h : pickStream s = some k) (h_peers : m .peers = true) : k.st.mask m = s.mask m := by
  unfold pickStream at h
  split at h
  · simp only at h
    split at h
    · injection h with h; subst h; simp [h_peers]
    · split at h
      · injection h with h; subst h; simp only; split <;> simp [h_peers]
      · cases h
  · cases h

theorem pickIdle_mask (m : Part → Bool) (s : State) : (pickIdle s).st.mask m = s.mask m := by
  unfold pickIdle
  split <;> rfl

theorem slotPick_mask (m : Part → Bool) (s : State) (k : Pick) (h : s.slotPick = some k) (h_peers : m .peers = true) (h_lsh : m .lsh = true) :
    k.st.mask m = s.mask m := by
  have howl (k : Pick) (h : pickHowl s = some k) : k.st.mask m = s.mask m := headMsg_mask m _ _ _ (by simp [h_lsh]) _ h
  have cmd (k : Pick) (h : pickCmd s = some k) : k.st.mask m = s.mask m := headMsg_mask m _ _ _ (by simp [h_lsh]) _ h
  have data (k : Pick) (h : pickData s = some k) : k.st.mask m = s.mask m := headMsg_mask m _ _ _ (by simp [h_lsh]) _ h
  have mgmt (k : Pick) (h : (pickTurn s).or (pickMgmt s) = some k) : k.st.mask m = s.mask m := by
    rcases Option.or_eq_some_iff.mp h with h | h
    · exact pickTurn_mask m s k h
    · exact headMsg_mask m _ _ _ (by simp [h_lsh]) _ h.2
  unfold State.slotPick at h
  split at h
  · exact howl k h
  · split at h
    · obtain ⟨j, hj, rfl⟩ := Option.map_eq_some_iff.mp h
      simpa [h_lsh] using howl j hj
    · cases h
  · simp only [Option.or_eq_some_iff] at h
    rcases h with h | ⟨_, h | ⟨_, h | ⟨_, h | ⟨_, h | ⟨_, h | ⟨_, h | ⟨_, h⟩⟩⟩⟩⟩⟩⟩
    · exact howl k h
    · exact cmd k h
    · exact pickVref_mask m s k h h_peers
    · split at h
      · exact mgmt k h
      · cases h
    · exact data k h
    · exact mgmt k (Option.or_eq_some_iff.mpr h)
    · exact pickStream_mask m s k h h_peers
    · injection h with h; subst h; exact pickIdle_mask m s

@[simp] theorem slotTransmit_mask (m : Part → Bool) (s : State) (h_peers : m .peers = true) (h_lsh : m .lsh = true) (h_swp : m .swp = true) : (slotTransmit s).mask m = s.mask m := by
  simp only [slotTransmit]
  split
  · next k h => exact ((State.updLsh_mask m _ _ h_lsh).trans (sendNote_mask m _ _ h_peers h_swp)).trans (slotPick_mask m s k h h_peers h_lsh)
  · rfl

@[simp] theorem releaseOld_mask (m : Part → Bool) (s : State) (h_g : m .g = true) (h_irq : m .irq = true) (h_win : m .win = true) (h_log : m .log = true) (h_nvm : m .nvm = true) (h_loops : m .loops = true) (h_peers : m .peers = true) (h_lsh : m .lsh = true) (h_swp : m .swp = true) (h_gsp : m .gsp = true) (h_sram : m .sram = true) (h_chw : m .chw = true) : (releaseOld s).mask m = s.mask m := by
  unfold releaseOld
  (repeat' split) <;> (first | (simp [Power.mask, Win.mask, Params.mask, Crb.mask, Idn.mask, h_g, h_irq, h_win, h_log, h_nvm, h_loops, h_peers, h_lsh, h_swp, h_gsp, h_sram, h_chw]; done) | ((simp [Power.mask, Win.mask, Params.mask, Crb.mask, Idn.mask, h_g, h_irq, h_win, h_log, h_nvm, h_loops, h_peers, h_lsh, h_swp, h_gsp, h_sram, h_chw]) <;> (repeat' split) <;> simp [Power.mask, Win.mask, Params.mask, Crb.mask, Idn.mask, h_g, h_irq, h_win, h_log, h_nvm, h_loops, h_peers, h_lsh, h_swp, h_gsp, h_sram, h_chw]))

@[simp] theorem frameDone_mask (m : Part → Bool) (a0 : FrameView) (s : State) (h_g : m .g = true) (h_irq : m .irq = true) (h_win : m .win = true) (h_log : m .log = true) (h_nvm : m .nvm = true) (h_loops : m .loops = true) (h_stb : m .stb = true) (h_peers : m .peers = true) (h_lsh : m .lsh = true) (h_swp : m .swp = true) (h_gsp : m .gsp = true) (h_fch : m .fch = true) (h_sram : m .sram = true) (h_chw : m .chw = true) : (frameDone a0 s).mask m = s.mask m := by
  unfold frameDone
  (repeat' split) <;> (first | (simp [Power.mask, Win.mask, Params.mask, Crb.mask, Idn.mask, h_g, h_irq, h_win, h_log, h_nvm, h_loops, h_stb, h_peers, h_lsh, h_swp, h_gsp, h_fch, h_sram, h_chw]; done) | ((simp [Power.mask, Win.mask, Params.mask, Crb.mask, Idn.mask, h_g, h_irq, h_win, h_log, h_nvm, h_loops, h_stb, h_peers, h_lsh, h_swp, h_gsp, h_fch, h_sram, h_chw]) <;> (repeat' split) <;> simp [Power.mask, Win.mask, Params.mask, Crb.mask, Idn.mask, h_g, h_irq, h_win, h_log, h_nvm, h_loops, h_stb, h_peers, h_lsh, h_swp, h_gsp, h_fch, h_sram, h_chw]))

@[simp] theorem chewArm_mask (m : Part → Bool) (s : State) (h_log : m .log = true) (h_acp : m .acp = true) (h_lsh : m .lsh = true) (h_fch : m .fch = true) (h_chw : m .chw = true) : (chewArm s).mask m = s.mask m := by
  unfold chewArm
  (repeat' split) <;> (first | (simp [Power.mask, Win.mask, Params.mask, Crb.mask, Idn.mask, h_log, h_acp, h_lsh, h_fch, h_chw]; done) | ((simp [Power.mask, Win.mask, Params.mask, Crb.mask, Idn.mask, h_log, h_acp, h_lsh, h_fch, h_chw]) <;> (repeat' split) <;> simp [Power.mask, Win.mask, Params.mask, Crb.mask, Idn.mask, h_log, h_acp, h_lsh, h_fch, h_chw]))

@[simp] theorem chwWrite_mask (m : Part → Bool) (a0 : W16) (s : State) (h_g : m .g = true) (h_irq : m .irq = true) (h_win : m .win = true) (h_log : m .log = true) (h_nvm : m .nvm = true) (h_loops : m .loops = true) (h_acp : m .acp = true) (h_peers : m .peers = true) (h_lsh : m .lsh = true) (h_swp : m .swp = true) (h_gsp : m .gsp = true) (h_fch : m .fch = true) (h_sram : m .sram = true) (h_chw : m .chw = true) : (chwWrite a0 s).mask m = s.mask m := by
  unfold chwWrite
  (repeat' split) <;> (first | (simp [Power.mask, Win.mask, Params.mask, Crb.mask, Idn.mask, h_g, h_irq, h_win, h_log, h_nvm, h_loops, h_acp, h_peers, h_lsh, h_swp, h_gsp, h_fch, h_sram, h_chw]; done) | ((simp [Power.mask, Win.mask, Params.mask, Crb.mask, Idn.mask, h_g, h_irq, h_win, h_log, h_nvm, h_loops, h_acp, h_peers, h_lsh, h_swp, h_gsp, h_fch, h_sram, h_chw]) <;> (repeat' split) <;> simp [Power.mask, Win.mask, Params.mask, Crb.mask, Idn.mask, h_g, h_irq, h_win, h_log, h_nvm, h_loops, h_acp, h_peers, h_lsh, h_swp, h_gsp, h_fch, h_sram, h_chw]))

@[simp] theorem driveFault_mask (m : Part → Bool) (s : State) (h_prot : m .prot = true) : (driveFault s).mask m = s.mask m := by
  unfold driveFault
  (repeat' split) <;> (first | (simp [Power.mask, Win.mask, Params.mask, Crb.mask, Idn.mask, h_prot]; done) | ((simp [Power.mask, Win.mask, Params.mask, Crb.mask, Idn.mask, h_prot]) <;> (repeat' split) <;> simp [Power.mask, Win.mask, Params.mask, Crb.mask, Idn.mask, h_prot]))

@[simp] theorem howlSend_mask (m : Part → Bool) (a0 : Byte) (a1 : Option (Fin 16)) (a2 : ℕ) (a3 : W16) (s : State) (h_lsh : m .lsh = true) : (howlSend a0 a1 a2 a3 s).mask m = s.mask m := by
  unfold howlSend
  (repeat' split) <;> (first | (simp [Power.mask, Win.mask, Params.mask, Crb.mask, Idn.mask, h_lsh]; done) | ((simp [Power.mask, Win.mask, Params.mask, Crb.mask, Idn.mask, h_lsh]) <;> (repeat' split) <;> simp [Power.mask, Win.mask, Params.mask, Crb.mask, Idn.mask, h_lsh]))

@[simp] theorem howlAction_mask (m : Part → Bool) (a0 : Byte) (a1 : Fin 16) (a2 : ℕ) (a3 : W16) (s : State) (h_lsh : m .lsh = true) : (howlAction a0 a1 a2 a3 s).mask m = s.mask m := by
  unfold howlAction
  (repeat' split) <;> (first | (simp [Power.mask, Win.mask, Params.mask, Crb.mask, Idn.mask, h_lsh]; done) | ((simp [Power.mask, Win.mask, Params.mask, Crb.mask, Idn.mask, h_lsh]) <;> (repeat' split) <;> simp [Power.mask, Win.mask, Params.mask, Crb.mask, Idn.mask, h_lsh]))

@[simp] theorem ovTrip_mask (m : Part → Bool) (a0 : Fin 16) (s : State) (h_loops : m .loops = true) (h_phases : m .phases = true) : (ovTrip a0 s).mask m = s.mask m := by
  unfold ovTrip
  (repeat' split) <;> (first | (simp [Power.mask, Win.mask, Params.mask, Crb.mask, Idn.mask, h_loops, h_phases]; done) | ((simp [Power.mask, Win.mask, Params.mask, Crb.mask, Idn.mask, h_loops, h_phases]) <;> (repeat' split) <;> simp [Power.mask, Win.mask, Params.mask, Crb.mask, Idn.mask, h_loops, h_phases]))

@[simp] theorem ovSettle_mask (m : Part → Bool) (a0 : Fin 16) (s : State) (h_loops : m .loops = true) : (ovSettle a0 s).mask m = s.mask m := by
  unfold ovSettle
  (repeat' split) <;> (first | (simp [Power.mask, Win.mask, Params.mask, Crb.mask, Idn.mask, h_loops]; done) | ((simp [Power.mask, Win.mask, Params.mask, Crb.mask, Idn.mask, h_loops]) <;> (repeat' split) <;> simp [Power.mask, Win.mask, Params.mask, Crb.mask, Idn.mask, h_loops]))

@[simp] theorem uvNote_mask (m : Part → Bool) (a0 : Fin 16) (s : State) (h_loops : m .loops = true) : (uvNote a0 s).mask m = s.mask m := by
  unfold uvNote
  (repeat' split) <;> (first | (simp [Power.mask, Win.mask, Params.mask, Crb.mask, Idn.mask, h_loops]; done) | ((simp [Power.mask, Win.mask, Params.mask, Crb.mask, Idn.mask, h_loops]) <;> (repeat' split) <;> simp [Power.mask, Win.mask, Params.mask, Crb.mask, Idn.mask, h_loops]))

@[simp] theorem octNote_mask (m : Part → Bool) (a0 : Fin 16) (s : State) (h_loops : m .loops = true) : (octNote a0 s).mask m = s.mask m := by
  unfold octNote
  (repeat' split) <;> (first | (simp [Power.mask, Win.mask, Params.mask, Crb.mask, Idn.mask, h_loops]; done) | ((simp [Power.mask, Win.mask, Params.mask, Crb.mask, Idn.mask, h_loops]) <;> (repeat' split) <;> simp [Power.mask, Win.mask, Params.mask, Crb.mask, Idn.mask, h_loops]))

@[simp] theorem ocpTrip_mask (m : Part → Bool) (a0 : Fin 16) (a1 : Fin 64) (s : State) (h_loops : m .loops = true) (h_phases : m .phases = true) : (ocpTrip a0 a1 s).mask m = s.mask m := by
  unfold ocpTrip
  (repeat' split) <;> (first | (simp [Power.mask, Win.mask, Params.mask, Crb.mask, Idn.mask, h_loops, h_phases]; done) | ((simp [Power.mask, Win.mask, Params.mask, Crb.mask, Idn.mask, h_loops, h_phases]) <;> (repeat' split) <;> simp [Power.mask, Win.mask, Params.mask, Crb.mask, Idn.mask, h_loops, h_phases]))

@[simp] theorem negTrip_mask (m : Part → Bool) (a0 : Fin 16) (a1 : Fin 64) (s : State) (h_loops : m .loops = true) (h_phases : m .phases = true) : (negTrip a0 a1 s).mask m = s.mask m := by
  unfold negTrip
  (repeat' split) <;> (first | (simp [Power.mask, Win.mask, Params.mask, Crb.mask, Idn.mask, h_loops, h_phases]; done) | ((simp [Power.mask, Win.mask, Params.mask, Crb.mask, Idn.mask, h_loops, h_phases]) <;> (repeat' split) <;> simp [Power.mask, Win.mask, Params.mask, Crb.mask, Idn.mask, h_loops, h_phases]))

@[simp] theorem removedClear_mask (m : Part → Bool) (a0 : ℕ) (a1 : W16) (s : State) (h_phases : m .phases = true) : (removedClear a0 a1 s).mask m = s.mask m := by
  unfold removedClear
  (repeat' split) <;> (first | (simp [Power.mask, Win.mask, Params.mask, Crb.mask, Idn.mask, h_phases]; done) | ((simp [Power.mask, Win.mask, Params.mask, Crb.mask, Idn.mask, h_phases]) <;> (repeat' split) <;> simp [Power.mask, Win.mask, Params.mask, Crb.mask, Idn.mask, h_phases]))

@[simp] theorem logFault_mask (m : Part → Bool) (a0 : Fin 16) (a1 : Acted) (s : State) (h_irq : m .irq = true) (h_win : m .win = true) (h_log : m .log = true) (h_loops : m .loops = true) (h_lsh : m .lsh = true) : (logFault a0 a1 s).mask m = s.mask m := by
  unfold logFault
  (repeat' split) <;> (first | (simp [Power.mask, Win.mask, Params.mask, Crb.mask, Idn.mask, h_irq, h_win, h_log, h_loops, h_lsh]; done) | ((simp [Power.mask, Win.mask, Params.mask, Crb.mask, Idn.mask, h_irq, h_win, h_log, h_loops, h_lsh]) <;> (repeat' split) <;> simp [Power.mask, Win.mask, Params.mask, Crb.mask, Idn.mask, h_irq, h_win, h_log, h_loops, h_lsh]))

@[simp] theorem logFaults_mask (m : Part → Bool) (n : Fin 16) (l : List Acted) (s : State) (h_irq : m .irq = true) (h_win : m .win = true) (h_log : m .log = true) (h_loops : m .loops = true) (h_lsh : m .lsh = true) : (logFaults n l s).mask m = s.mask m := by
  induction l generalizing s with
  | nil => rfl
  | cons x l ih => simp [logFaults, ih, h_irq, h_win, h_log, h_loops, h_lsh]

@[simp] theorem faultAlert_mask (m : Part → Bool) (a0 : Fin 16) (s : State) (h_loops : m .loops = true) : (faultAlert a0 s).mask m = s.mask m := by
  unfold faultAlert
  (repeat' split) <;> (first | (simp [Power.mask, Win.mask, Params.mask, Crb.mask, Idn.mask, h_loops]; done) | ((simp [Power.mask, Win.mask, Params.mask, Crb.mask, Idn.mask, h_loops]) <;> (repeat' split) <;> simp [Power.mask, Win.mask, Params.mask, Crb.mask, Idn.mask, h_loops]))

@[simp] theorem enterHiccup_mask (m : Part → Bool) (a0 : Fin 16) (s : State) (h_loops : m .loops = true) (h_phases : m .phases = true) : (enterHiccup a0 s).mask m = s.mask m := by
  unfold enterHiccup
  (repeat' split) <;> (first | (simp [Power.mask, Win.mask, Params.mask, Crb.mask, Idn.mask, h_loops, h_phases]; done) | ((simp [Power.mask, Win.mask, Params.mask, Crb.mask, Idn.mask, h_loops, h_phases]) <;> (repeat' split) <;> simp [Power.mask, Win.mask, Params.mask, Crb.mask, Idn.mask, h_loops, h_phases]))

@[simp] theorem enterLatched_mask (m : Part → Bool) (a0 : Fin 16) (s : State) (h_loops : m .loops = true) (h_phases : m .phases = true) : (enterLatched a0 s).mask m = s.mask m := by
  unfold enterLatched
  (repeat' split) <;> (first | (simp [Power.mask, Win.mask, Params.mask, Crb.mask, Idn.mask, h_loops, h_phases]; done) | ((simp [Power.mask, Win.mask, Params.mask, Crb.mask, Idn.mask, h_loops, h_phases]) <;> (repeat' split) <;> simp [Power.mask, Win.mask, Params.mask, Crb.mask, Idn.mask, h_loops, h_phases]))

@[simp] theorem enterCrowbar_mask (m : Part → Bool) (a0 : Fin 16) (s : State) (h_loops : m .loops = true) (h_phases : m .phases = true) : (enterCrowbar a0 s).mask m = s.mask m := by
  unfold enterCrowbar
  (repeat' split) <;> (first | (simp [Power.mask, Win.mask, Params.mask, Crb.mask, Idn.mask, h_loops, h_phases]; done) | ((simp [Power.mask, Win.mask, Params.mask, Crb.mask, Idn.mask, h_loops, h_phases]) <;> (repeat' split) <;> simp [Power.mask, Win.mask, Params.mask, Crb.mask, Idn.mask, h_loops, h_phases]))

@[simp] theorem removePhases_mask (m : Part → Bool) (a0 : Raised) (s : State) (h_phases : m .phases = true) : (removePhases a0 s).mask m = s.mask m := by
  unfold removePhases
  (repeat' split) <;> (first | (simp [Power.mask, Win.mask, Params.mask, Crb.mask, Idn.mask, h_phases]; done) | ((simp [Power.mask, Win.mask, Params.mask, Crb.mask, Idn.mask, h_phases]) <;> (repeat' split) <;> simp [Power.mask, Win.mask, Params.mask, Crb.mask, Idn.mask, h_phases]))

@[simp] theorem shedFaults_mask (m : Part → Bool) (a0 : Fin 16) (a1 : List Acted) (s : State) (h_loops : m .loops = true) (h_phases : m .phases = true) : (shedFaults a0 a1 s).mask m = s.mask m := by
  unfold shedFaults
  (repeat' split) <;> (first | (simp [Power.mask, Win.mask, Params.mask, Crb.mask, Idn.mask, h_loops, h_phases]; done) | ((simp [Power.mask, Win.mask, Params.mask, Crb.mask, Idn.mask, h_loops, h_phases]) <;> (repeat' split) <;> simp [Power.mask, Win.mask, Params.mask, Crb.mask, Idn.mask, h_loops, h_phases]))

@[simp] theorem faultAction_mask (m : Part → Bool) (a0 : Fin 16) (s : State) (h_irq : m .irq = true) (h_win : m .win = true) (h_log : m .log = true) (h_loops : m .loops = true) (h_phases : m .phases = true) (h_prot : m .prot = true) (h_lsh : m .lsh = true) : (faultAction a0 s).mask m = s.mask m := by
  unfold faultAction
  (repeat' split) <;> (first | (simp [Power.mask, Win.mask, Params.mask, Crb.mask, Idn.mask, h_irq, h_win, h_log, h_loops, h_phases, h_prot, h_lsh]; done) | ((simp [Power.mask, Win.mask, Params.mask, Crb.mask, Idn.mask, h_irq, h_win, h_log, h_loops, h_phases, h_prot, h_lsh]) <;> (repeat' split) <;> simp [Power.mask, Win.mask, Params.mask, Crb.mask, Idn.mask, h_irq, h_win, h_log, h_loops, h_phases, h_prot, h_lsh]))

@[simp] theorem fltClr_mask (m : Part → Bool) (a0 : W16) (s : State) (h_loops : m .loops = true) : (fltClr a0 s).mask m = s.mask m := by
  unfold fltClr
  (repeat' split) <;> (first | (simp [Power.mask, Win.mask, Params.mask, Crb.mask, Idn.mask, h_loops]; done) | ((simp [Power.mask, Win.mask, Params.mask, Crb.mask, Idn.mask, h_loops]) <;> (repeat' split) <;> simp [Power.mask, Win.mask, Params.mask, Crb.mask, Idn.mask, h_loops]))

@[simp] theorem finLoop_mask (m : Part → Bool) (a0 : Fin 16) (s : State) (h_g : m .g = true) (h_loops : m .loops = true) (h_phases : m .phases = true) : (finLoop a0 s).mask m = s.mask m := by
  unfold finLoop
  (repeat' split) <;> (first | (simp [Power.mask, Win.mask, Params.mask, Crb.mask, Idn.mask, h_g, h_loops, h_phases]; done) | ((simp [Power.mask, Win.mask, Params.mask, Crb.mask, Idn.mask, h_g, h_loops, h_phases]) <;> (repeat' split) <;> simp [Power.mask, Win.mask, Params.mask, Crb.mask, Idn.mask, h_g, h_loops, h_phases]))

@[simp] theorem finOnset_mask (m : Part → Bool) (s : State) (h_g : m .g = true) (h_irq : m .irq = true) (h_win : m .win = true) (h_log : m .log = true) (h_loops : m .loops = true) (h_phases : m .phases = true) (h_prot : m .prot = true) : (finOnset s).mask m = s.mask m := by
  unfold finOnset
  (repeat' split) <;> (first | (simp [Power.mask, Win.mask, Params.mask, Crb.mask, Idn.mask, h_g, h_irq, h_win, h_log, h_loops, h_phases, h_prot]; done) | ((simp [Power.mask, Win.mask, Params.mask, Crb.mask, Idn.mask, h_g, h_irq, h_win, h_log, h_loops, h_phases, h_prot]) <;> (repeat' split) <;> simp [Power.mask, Win.mask, Params.mask, Crb.mask, Idn.mask, h_g, h_irq, h_win, h_log, h_loops, h_phases, h_prot]))

@[simp] theorem faultInSeen_mask (m : Part → Bool) (s : State) (h_g : m .g = true) (h_irq : m .irq = true) (h_win : m .win = true) (h_log : m .log = true) (h_loops : m .loops = true) (h_phases : m .phases = true) (h_prot : m .prot = true) : (faultInSeen s).mask m = s.mask m := by
  unfold faultInSeen
  (repeat' split) <;> (first | (simp [Power.mask, Win.mask, Params.mask, Crb.mask, Idn.mask, h_g, h_irq, h_win, h_log, h_loops, h_phases, h_prot]; done) | ((simp [Power.mask, Win.mask, Params.mask, Crb.mask, Idn.mask, h_g, h_irq, h_win, h_log, h_loops, h_phases, h_prot]) <;> (repeat' split) <;> simp [Power.mask, Win.mask, Params.mask, Crb.mask, Idn.mask, h_g, h_irq, h_win, h_log, h_loops, h_phases, h_prot]))

@[simp] theorem killPins_mask (m : Part → Bool) (s : State) (h_phases : m .phases = true) : (killPins s).mask m = s.mask m := by
  unfold killPins
  (repeat' split) <;> (first | (simp [Power.mask, Win.mask, Params.mask, Crb.mask, Idn.mask, h_phases]; done) | ((simp [Power.mask, Win.mask, Params.mask, Crb.mask, Idn.mask, h_phases]) <;> (repeat' split) <;> simp [Power.mask, Win.mask, Params.mask, Crb.mask, Idn.mask, h_phases]))

@[simp] theorem killLoop_mask (m : Part → Bool) (a0 : Fin 16) (s : State) (h_g : m .g = true) (h_loops : m .loops = true) (h_phases : m .phases = true) : (killLoop a0 s).mask m = s.mask m := by
  unfold killLoop
  (repeat' split) <;> (first | (simp [Power.mask, Win.mask, Params.mask, Crb.mask, Idn.mask, h_g, h_loops, h_phases]; done) | ((simp [Power.mask, Win.mask, Params.mask, Crb.mask, Idn.mask, h_g, h_loops, h_phases]) <;> (repeat' split) <;> simp [Power.mask, Win.mask, Params.mask, Crb.mask, Idn.mask, h_g, h_loops, h_phases]))

@[simp] theorem raiseKill_mask (m : Part → Bool) (s : State) (h_irq : m .irq = true) (h_win : m .win = true) (h_log : m .log = true) (h_lsh : m .lsh = true) : (raiseKill s).mask m = s.mask m := by
  unfold raiseKill
  (repeat' split) <;> (first | (simp [Power.mask, Win.mask, Params.mask, Crb.mask, Idn.mask, h_irq, h_win, h_log, h_lsh]; done) | ((simp [Power.mask, Win.mask, Params.mask, Crb.mask, Idn.mask, h_irq, h_win, h_log, h_lsh]) <;> (repeat' split) <;> simp [Power.mask, Win.mask, Params.mask, Crb.mask, Idn.mask, h_irq, h_win, h_log, h_lsh]))

@[simp] theorem enterKilled_mask (m : Part → Bool) (s : State) (h_g : m .g = true) (h_win : m .win = true) (h_loops : m .loops = true) (h_phases : m .phases = true) (h_prot : m .prot = true) (h_gsp : m .gsp = true) : (enterKilled s).mask m = s.mask m := by
  unfold enterKilled
  (repeat' split) <;> (first | (simp [Power.mask, Win.mask, Params.mask, Crb.mask, Idn.mask, h_g, h_win, h_loops, h_phases, h_prot, h_gsp]; done) | ((simp [Power.mask, Win.mask, Params.mask, Crb.mask, Idn.mask, h_g, h_win, h_loops, h_phases, h_prot, h_gsp]) <;> (repeat' split) <;> simp [Power.mask, Win.mask, Params.mask, Crb.mask, Idn.mask, h_g, h_win, h_loops, h_phases, h_prot, h_gsp]))

@[simp] theorem leaveKilled_mask (m : Part → Bool) (s : State) (h_g : m .g = true) (h_peers : m .peers = true) : (leaveKilled s).mask m = s.mask m := by
  unfold leaveKilled
  (repeat' split) <;> (first | (simp [Power.mask, Win.mask, Params.mask, Crb.mask, Idn.mask, h_g, h_peers]; done) | ((simp [Power.mask, Win.mask, Params.mask, Crb.mask, Idn.mask, h_g, h_peers]) <;> (repeat' split) <;> simp [Power.mask, Win.mask, Params.mask, Crb.mask, Idn.mask, h_g, h_peers]))

@[simp] theorem layerBoundary_mask (m : Part → Bool) (a0 : Fin 16) (s : State) (h_loops : m .loops = true) : (layerBoundary a0 s).mask m = s.mask m := by
  unfold layerBoundary
  (repeat' split) <;> (first | (simp [Power.mask, Win.mask, Params.mask, Crb.mask, Idn.mask, h_loops]; done) | ((simp [Power.mask, Win.mask, Params.mask, Crb.mask, Idn.mask, h_loops]) <;> (repeat' split) <;> simp [Power.mask, Win.mask, Params.mask, Crb.mask, Idn.mask, h_loops]))

@[simp] theorem layerMark_mask (m : Part → Bool) (a0 : Fin 16) (a1 : ℕ) (s : State) (h_loops : m .loops = true) : (layerMark a0 a1 s).mask m = s.mask m := by
  unfold layerMark
  (repeat' split) <;> (first | (simp [Power.mask, Win.mask, Params.mask, Crb.mask, Idn.mask, h_loops]; done) | ((simp [Power.mask, Win.mask, Params.mask, Crb.mask, Idn.mask, h_loops]) <;> (repeat' split) <;> simp [Power.mask, Win.mask, Params.mask, Crb.mask, Idn.mask, h_loops]))

@[simp] theorem strobeEdge_mask (m : Part → Bool) (a0 : Fin 16) (a1 : Bool) (s : State) (h_loops : m .loops = true) : (strobeEdge a0 a1 s).mask m = s.mask m := by
  unfold strobeEdge
  (repeat' split) <;> (first | (simp [Power.mask, Win.mask, Params.mask, Crb.mask, Idn.mask, h_loops]; done) | ((simp [Power.mask, Win.mask, Params.mask, Crb.mask, Idn.mask, h_loops]) <;> (repeat' split) <;> simp [Power.mask, Win.mask, Params.mask, Crb.mask, Idn.mask, h_loops]))

@[simp] theorem layerMarks_mask (m : Part → Bool) (a0 : Fin 16) (s : State) (h_loops : m .loops = true) : (layerMarks a0 s).mask m = s.mask m := by
  unfold layerMarks
  (repeat' split) <;> (first | (simp [Power.mask, Win.mask, Params.mask, Crb.mask, Idn.mask, h_loops]; done) | ((simp [Power.mask, Win.mask, Params.mask, Crb.mask, Idn.mask, h_loops]) <;> (repeat' split) <;> simp [Power.mask, Win.mask, Params.mask, Crb.mask, Idn.mask, h_loops]))

@[simp] theorem layerMiss_mask (m : Part → Bool) (a0 : Fin 16) (s : State) (h_loops : m .loops = true) : (layerMiss a0 s).mask m = s.mask m := by
  unfold layerMiss
  (repeat' split) <;> (first | (simp [Power.mask, Win.mask, Params.mask, Crb.mask, Idn.mask, h_loops]; done) | ((simp [Power.mask, Win.mask, Params.mask, Crb.mask, Idn.mask, h_loops]) <;> (repeat' split) <;> simp [Power.mask, Win.mask, Params.mask, Crb.mask, Idn.mask, h_loops]))

@[simp] theorem windowNote_mask (m : Part → Bool) (a0 : Fin 16) (a1 : ℤ) (s : State) (h_loops : m .loops = true) : (windowNote a0 a1 s).mask m = s.mask m := by
  unfold windowNote
  (repeat' split) <;> (first | (simp [Power.mask, Win.mask, Params.mask, Crb.mask, Idn.mask, h_loops]; done) | ((simp [Power.mask, Win.mask, Params.mask, Crb.mask, Idn.mask, h_loops]) <;> (repeat' split) <;> simp [Power.mask, Win.mask, Params.mask, Crb.mask, Idn.mask, h_loops]))

@[simp] theorem layerRecord_mask (m : Part → Bool) (a0 : Fin 16) (a1 : ℤ) (a2 : Bool) (s : State) (h_loops : m .loops = true) : (layerRecord a0 a1 a2 s).mask m = s.mask m := by
  unfold layerRecord
  (repeat' split) <;> (first | (simp [Power.mask, Win.mask, Params.mask, Crb.mask, Idn.mask, h_loops]; done) | ((simp [Power.mask, Win.mask, Params.mask, Crb.mask, Idn.mask, h_loops]) <;> (repeat' split) <;> simp [Power.mask, Win.mask, Params.mask, Crb.mask, Idn.mask, h_loops]))

@[simp] theorem layerHeld_mask (m : Part → Bool) (a0 : Fin 16) (s : State) (h_loops : m .loops = true) : (layerHeld a0 s).mask m = s.mask m := by
  unfold layerHeld
  (repeat' split) <;> (first | (simp [Power.mask, Win.mask, Params.mask, Crb.mask, Idn.mask, h_loops]; done) | ((simp [Power.mask, Win.mask, Params.mask, Crb.mask, Idn.mask, h_loops]) <;> (repeat' split) <;> simp [Power.mask, Win.mask, Params.mask, Crb.mask, Idn.mask, h_loops]))

@[simp] theorem layerAbandon_mask (m : Part → Bool) (a0 : Fin 16) (s : State) (h_loops : m .loops = true) : (layerAbandon a0 s).mask m = s.mask m := by
  unfold layerAbandon
  (repeat' split) <;> (first | (simp [Power.mask, Win.mask, Params.mask, Crb.mask, Idn.mask, h_loops]; done) | ((simp [Power.mask, Win.mask, Params.mask, Crb.mask, Idn.mask, h_loops]) <;> (repeat' split) <;> simp [Power.mask, Win.mask, Params.mask, Crb.mask, Idn.mask, h_loops]))

@[simp] theorem layerAutoEnd_mask (m : Part → Bool) (a0 : Fin 16) (s : State) (h_loops : m .loops = true) : (layerAutoEnd a0 s).mask m = s.mask m := by
  unfold layerAutoEnd
  (repeat' split) <;> (first | (simp [Power.mask, Win.mask, Params.mask, Crb.mask, Idn.mask, h_loops]; done) | ((simp [Power.mask, Win.mask, Params.mask, Crb.mask, Idn.mask, h_loops]) <;> (repeat' split) <;> simp [Power.mask, Win.mask, Params.mask, Crb.mask, Idn.mask, h_loops]))

@[simp] theorem layerChunk_mask (m : Part → Bool) (a0 : Fin 16) (s : State) (h_loops : m .loops = true) : (layerChunk a0 s).mask m = s.mask m := by
  unfold layerChunk
  (repeat' split) <;> (first | (simp [Power.mask, Win.mask, Params.mask, Crb.mask, Idn.mask, h_loops]; done) | ((simp [Power.mask, Win.mask, Params.mask, Crb.mask, Idn.mask, h_loops]) <;> (repeat' split) <;> simp [Power.mask, Win.mask, Params.mask, Crb.mask, Idn.mask, h_loops]))

@[simp] theorem layerDiverge_mask (m : Part → Bool) (a0 : Fin 16) (s : State) (h_free : m .free = true) (h_loops : m .loops = true) : (layerDiverge a0 s).mask m = s.mask m := by
  unfold layerDiverge
  (repeat' split) <;> (first | (simp [Power.mask, Win.mask, Params.mask, Crb.mask, Idn.mask, h_free, h_loops]; done) | ((simp [Power.mask, Win.mask, Params.mask, Crb.mask, Idn.mask, h_free, h_loops]) <;> (repeat' split) <;> simp [Power.mask, Win.mask, Params.mask, Crb.mask, Idn.mask, h_free, h_loops]))

@[simp] theorem layerPeriodEnd_mask (m : Part → Bool) (a0 : Fin 16) (s : State) (h_free : m .free = true) (h_loops : m .loops = true) : (layerPeriodEnd a0 s).mask m = s.mask m := by
  unfold layerPeriodEnd
  (repeat' split) <;> (first | (simp [Power.mask, Win.mask, Params.mask, Crb.mask, Idn.mask, h_free, h_loops]; done) | ((simp [Power.mask, Win.mask, Params.mask, Crb.mask, Idn.mask, h_free, h_loops]) <;> (repeat' split) <;> simp [Power.mask, Win.mask, Params.mask, Crb.mask, Idn.mask, h_free, h_loops]))

@[simp] theorem lyrClear_mask (m : Part → Bool) (a0 : W16) (s : State) (h_loops : m .loops = true) : (lyrClear a0 s).mask m = s.mask m := by
  unfold lyrClear
  (repeat' split) <;> (first | (simp [Power.mask, Win.mask, Params.mask, Crb.mask, Idn.mask, h_loops]; done) | ((simp [Power.mask, Win.mask, Params.mask, Crb.mask, Idn.mask, h_loops]) <;> (repeat' split) <;> simp [Power.mask, Win.mask, Params.mask, Crb.mask, Idn.mask, h_loops]))

@[simp] theorem layerCommit_mask (m : Part → Bool) (a0 : Fin 16) (a1 : W16) (a2 : W16) (a3 : W16) (a4 : W16) (a5 : Bool) (a6 : Bool) (s : State) (h_loops : m .loops = true) : (layerCommit a0 a1 a2 a3 a4 a5 a6 s).mask m = s.mask m := by
  unfold layerCommit
  (repeat' split) <;> (first | (simp [Power.mask, Win.mask, Params.mask, Crb.mask, Idn.mask, h_loops]; done) | ((simp [Power.mask, Win.mask, Params.mask, Crb.mask, Idn.mask, h_loops]) <;> (repeat' split) <;> simp [Power.mask, Win.mask, Params.mask, Crb.mask, Idn.mask, h_loops]))

@[simp] theorem layerBoot_mask (m : Part → Bool) (a0 : Fin 16) (a1 : Bool) (s : State) (h_loops : m .loops = true) : (layerBoot a0 a1 s).mask m = s.mask m := by
  unfold layerBoot
  (repeat' split) <;> (first | (simp [Power.mask, Win.mask, Params.mask, Crb.mask, Idn.mask, h_loops]; done) | ((simp [Power.mask, Win.mask, Params.mask, Crb.mask, Idn.mask, h_loops]) <;> (repeat' split) <;> simp [Power.mask, Win.mask, Params.mask, Crb.mask, Idn.mask, h_loops]))

@[simp] theorem State.updPort_mask (m : Part → Bool) (s : State) (a1 : Fin 8) (a2 : AcpPort → AcpPort) (h_acp : m .acp = true) : (State.updPort s a1 a2).mask m = s.mask m := by
  simp [State.updPort, Power.mask, Win.mask, Params.mask, Crb.mask, Idn.mask, h_acp]

@[simp] theorem acpEvt_mask (m : Part → Bool) (a0 : Fin 8) (a1 : ℕ) (s : State) (h_irq : m .irq = true) (h_acp : m .acp = true) : (acpEvt a0 a1 s).mask m = s.mask m := by
  unfold acpEvt
  (repeat' split) <;> (first | (simp [Power.mask, Win.mask, Params.mask, Crb.mask, Idn.mask, h_irq, h_acp]; done) | ((simp [Power.mask, Win.mask, Params.mask, Crb.mask, Idn.mask, h_irq, h_acp]) <;> (repeat' split) <;> simp [Power.mask, Win.mask, Params.mask, Crb.mask, Idn.mask, h_irq, h_acp]))

@[simp] theorem acpAccept_mask (m : Part → Bool) (a0 : Fin 16) (a1 : W16) (s : State) (h_loops : m .loops = true) : (acpAccept a0 a1 s).mask m = s.mask m := by
  unfold acpAccept
  (repeat' split) <;> (first | (simp [Power.mask, Win.mask, Params.mask, Crb.mask, Idn.mask, h_loops]; done) | ((simp [Power.mask, Win.mask, Params.mask, Crb.mask, Idn.mask, h_loops]) <;> (repeat' split) <;> simp [Power.mask, Win.mask, Params.mask, Crb.mask, Idn.mask, h_loops]))

@[simp] theorem acpHint_mask (m : Part → Bool) (a0 : Fin 16) (a1 : ℕ) (s : State) (h_loops : m .loops = true) : (acpHint a0 a1 s).mask m = s.mask m := by
  unfold acpHint
  (repeat' split) <;> (first | (simp [Power.mask, Win.mask, Params.mask, Crb.mask, Idn.mask, h_loops]; done) | ((simp [Power.mask, Win.mask, Params.mask, Crb.mask, Idn.mask, h_loops]) <;> (repeat' split) <;> simp [Power.mask, Win.mask, Params.mask, Crb.mask, Idn.mask, h_loops]))

@[simp] theorem acpMark_mask (m : Part → Bool) (a0 : Fin 16) (a1 : W16) (s : State) (h_loops : m .loops = true) : (acpMark a0 a1 s).mask m = s.mask m := by
  unfold acpMark
  (repeat' split) <;> (first | (simp [Power.mask, Win.mask, Params.mask, Crb.mask, Idn.mask, h_loops]; done) | ((simp [Power.mask, Win.mask, Params.mask, Crb.mask, Idn.mask, h_loops]) <;> (repeat' split) <;> simp [Power.mask, Win.mask, Params.mask, Crb.mask, Idn.mask, h_loops]))

@[simp] theorem acpLinkUp_mask (m : Part → Bool) (a0 : Fin 8) (s : State) (h_irq : m .irq = true) (h_loops : m .loops = true) (h_acp : m .acp = true) : (acpLinkUp a0 s).mask m = s.mask m := by
  unfold acpLinkUp
  (repeat' split) <;> (first | (simp [Power.mask, Win.mask, Params.mask, Crb.mask, Idn.mask, h_irq, h_loops, h_acp]; done) | ((simp [Power.mask, Win.mask, Params.mask, Crb.mask, Idn.mask, h_irq, h_loops, h_acp]) <;> (repeat' split) <;> simp [Power.mask, Win.mask, Params.mask, Crb.mask, Idn.mask, h_irq, h_loops, h_acp]))

@[simp] theorem acpSend_mask (m : Part → Bool) (a0 : Fin 8) (a1 : ℕ) (a2 : W32) (s : State) (h_acp : m .acp = true) : (acpSend a0 a1 a2 s).mask m = s.mask m := by
  unfold acpSend
  (repeat' split) <;> (first | (simp [Power.mask, Win.mask, Params.mask, Crb.mask, Idn.mask, h_acp]; done) | ((simp [Power.mask, Win.mask, Params.mask, Crb.mask, Idn.mask, h_acp]) <;> (repeat' split) <;> simp [Power.mask, Win.mask, Params.mask, Crb.mask, Idn.mask, h_acp]))

@[simp] theorem acpBadCrc_mask (m : Part → Bool) (a0 : Fin 8) (a1 : W32) (s : State) (h_irq : m .irq = true) (h_acp : m .acp = true) : (acpBadCrc a0 a1 s).mask m = s.mask m := by
  unfold acpBadCrc
  (repeat' split) <;> (first | (simp [Power.mask, Win.mask, Params.mask, Crb.mask, Idn.mask, h_irq, h_acp]; done) | ((simp [Power.mask, Win.mask, Params.mask, Crb.mask, Idn.mask, h_irq, h_acp]) <;> (repeat' split) <;> simp [Power.mask, Win.mask, Params.mask, Crb.mask, Idn.mask, h_irq, h_acp]))

theorem acpDo_act_mask (m : Part → Bool) (s t : State) (p : Fin 8) (n : Fin 16) (op : Nat) (v : W16) (h_loops : m .loops = true) (h_acp : m .acp = true) :
    ((s.acpDo p n op v).act t).mask m = t.mask m := by
  simp only [State.acpDo]
  (repeat' split) <;> simp [acpSay, h_loops, h_acp]

theorem acpDecide_act_mask (m : Part → Bool) (s t : State) (p : Fin 8) (r : W32) (h_loops : m .loops = true) (h_acp : m .acp = true) :
    ((s.acpDecide p r).act t).mask m = t.mask m := by
  simp only [State.acpDecide]
  (repeat' split) <;> simp [acpSay, acpDo_act_mask, h_loops, h_acp]

@[simp] theorem acpNew_mask (m : Part → Bool) (p : Fin 8) (r : W32) (s : State) (h_irq : m .irq = true) (h_loops : m .loops = true) (h_acp : m .acp = true) : (acpNew p r s).mask m = s.mask m := by
  simp only [acpNew]
  split <;> simp [acpDecide_act_mask, h_irq, h_loops, h_acp]

@[simp] theorem acpGood_mask (m : Part → Bool) (a0 : Fin 8) (a1 : W32) (s : State) (h_irq : m .irq = true) (h_loops : m .loops = true) (h_acp : m .acp = true) : (acpGood a0 a1 s).mask m = s.mask m := by
  unfold acpGood
  (repeat' split) <;> (first | (simp [Power.mask, Win.mask, Params.mask, Crb.mask, Idn.mask, h_irq, h_loops, h_acp]; done) | ((simp [Power.mask, Win.mask, Params.mask, Crb.mask, Idn.mask, h_irq, h_loops, h_acp]) <;> (repeat' split) <;> simp [Power.mask, Win.mask, Params.mask, Crb.mask, Idn.mask, h_irq, h_loops, h_acp]))

@[simp] theorem acpLow_mask (m : Part → Bool) (a0 : Fin 8) (a1 : W32) (s : State) (h_irq : m .irq = true) (h_acp : m .acp = true) : (acpLow a0 a1 s).mask m = s.mask m := by
  unfold acpLow
  (repeat' split) <;> (first | (simp [Power.mask, Win.mask, Params.mask, Crb.mask, Idn.mask, h_irq, h_acp]; done) | ((simp [Power.mask, Win.mask, Params.mask, Crb.mask, Idn.mask, h_irq, h_acp]) <;> (repeat' split) <;> simp [Power.mask, Win.mask, Params.mask, Crb.mask, Idn.mask, h_irq, h_acp]))

@[simp] theorem acpRequest_mask (m : Part → Bool) (a0 : Fin 8) (a1 : W32) (a2 : ℕ) (s : State) (h_g : m .g = true) (h_irq : m .irq = true) (h_win : m .win = true) (h_log : m .log = true) (h_nvm : m .nvm = true) (h_loops : m .loops = true) (h_acp : m .acp = true) (h_peers : m .peers = true) (h_lsh : m .lsh = true) (h_swp : m .swp = true) (h_gsp : m .gsp = true) (h_fch : m .fch = true) (h_sram : m .sram = true) (h_chw : m .chw = true) : (acpRequest a0 a1 a2 s).mask m = s.mask m := by
  unfold acpRequest
  (repeat' split) <;> (first | (simp [Power.mask, Win.mask, Params.mask, Crb.mask, Idn.mask, h_g, h_irq, h_win, h_log, h_nvm, h_loops, h_acp, h_peers, h_lsh, h_swp, h_gsp, h_fch, h_sram, h_chw]; done) | ((simp [Power.mask, Win.mask, Params.mask, Crb.mask, Idn.mask, h_g, h_irq, h_win, h_log, h_nvm, h_loops, h_acp, h_peers, h_lsh, h_swp, h_gsp, h_fch, h_sram, h_chw]) <;> (repeat' split) <;> simp [Power.mask, Win.mask, Params.mask, Crb.mask, Idn.mask, h_g, h_irq, h_win, h_log, h_nvm, h_loops, h_acp, h_peers, h_lsh, h_swp, h_gsp, h_fch, h_sram, h_chw]))

@[simp] theorem getstatEnd_mask (m : Part → Bool) (a0 : Fin 8) (s : State) (h_loops : m .loops = true) (h_acp : m .acp = true) : (getstatEnd a0 s).mask m = s.mask m := by
  unfold getstatEnd
  (repeat' split) <;> (first | (simp [Power.mask, Win.mask, Params.mask, Crb.mask, Idn.mask, h_loops, h_acp]; done) | ((simp [Power.mask, Win.mask, Params.mask, Crb.mask, Idn.mask, h_loops, h_acp]) <;> (repeat' split) <;> simp [Power.mask, Win.mask, Params.mask, Crb.mask, Idn.mask, h_loops, h_acp]))

@[simp] theorem arrivalNote_mask (m : Part → Bool) (a0 : Fin 16) (s : State) (h_loops : m .loops = true) : (arrivalNote a0 s).mask m = s.mask m := by
  unfold arrivalNote
  (repeat' split) <;> (first | (simp [Power.mask, Win.mask, Params.mask, Crb.mask, Idn.mask, h_loops]; done) | ((simp [Power.mask, Win.mask, Params.mask, Crb.mask, Idn.mask, h_loops]) <;> (repeat' split) <;> simp [Power.mask, Win.mask, Params.mask, Crb.mask, Idn.mask, h_loops]))

@[simp] theorem arrive_mask (m : Part → Bool) (a0 : Fin 16) (s : State) (h_irq : m .irq = true) (h_loops : m .loops = true) (h_acp : m .acp = true) : (arrive a0 s).mask m = s.mask m := by
  unfold arrive
  (repeat' split) <;> (first | (simp [Power.mask, Win.mask, Params.mask, Crb.mask, Idn.mask, h_irq, h_loops, h_acp]; done) | ((simp [Power.mask, Win.mask, Params.mask, Crb.mask, Idn.mask, h_irq, h_loops, h_acp]) <;> (repeat' split) <;> simp [Power.mask, Win.mask, Params.mask, Crb.mask, Idn.mask, h_irq, h_loops, h_acp]))

@[simp] theorem acpLossLoop_mask (m : Part → Bool) (a0 : Fin 16) (s : State) (h_free : m .free = true) (h_loops : m .loops = true) : (acpLossLoop a0 s).mask m = s.mask m := by
  unfold acpLossLoop
  (repeat' split) <;> (first | (simp [Power.mask, Win.mask, Params.mask, Crb.mask, Idn.mask, h_free, h_loops]; done) | ((simp [Power.mask, Win.mask, Params.mask, Crb.mask, Idn.mask, h_free, h_loops]) <;> (repeat' split) <;> simp [Power.mask, Win.mask, Params.mask, Crb.mask, Idn.mask, h_free, h_loops]))

@[simp] theorem acpLose_mask (m : Part → Bool) (a0 : Fin 8) (s : State) (h_free : m .free = true) (h_irq : m .irq = true) (h_loops : m .loops = true) (h_acp : m .acp = true) : (acpLose a0 s).mask m = s.mask m := by
  unfold acpLose
  (repeat' split) <;> (first | (simp [Power.mask, Win.mask, Params.mask, Crb.mask, Idn.mask, h_free, h_irq, h_loops, h_acp]; done) | ((simp [Power.mask, Win.mask, Params.mask, Crb.mask, Idn.mask, h_free, h_irq, h_loops, h_acp]) <;> (repeat' split) <;> simp [Power.mask, Win.mask, Params.mask, Crb.mask, Idn.mask, h_free, h_irq, h_loops, h_acp]))

@[simp] theorem linklossAct_mask (m : Part → Bool) (a0 : Fin 16) (s : State) (h_loops : m .loops = true) : (linklossAct a0 s).mask m = s.mask m := by
  unfold linklossAct
  (repeat' split) <;> (first | (simp [Power.mask, Win.mask, Params.mask, Crb.mask, Idn.mask, h_loops]; done) | ((simp [Power.mask, Win.mask, Params.mask, Crb.mask, Idn.mask, h_loops]) <;> (repeat' split) <;> simp [Power.mask, Win.mask, Params.mask, Crb.mask, Idn.mask, h_loops]))

@[simp] theorem acpEvtWrite_mask (m : Part → Bool) (a0 : Fin 8) (a1 : W16) (s : State) (h_acp : m .acp = true) : (acpEvtWrite a0 a1 s).mask m = s.mask m := by
  unfold acpEvtWrite
  (repeat' split) <;> (first | (simp [Power.mask, Win.mask, Params.mask, Crb.mask, Idn.mask, h_acp]; done) | ((simp [Power.mask, Win.mask, Params.mask, Crb.mask, Idn.mask, h_acp]) <;> (repeat' split) <;> simp [Power.mask, Win.mask, Params.mask, Crb.mask, Idn.mask, h_acp]))

@[simp] theorem acpPortOff_mask (m : Part → Bool) (a0 : Fin 8) (s : State) (h_acp : m .acp = true) : (acpPortOff a0 s).mask m = s.mask m := by
  unfold acpPortOff
  (repeat' split) <;> (first | (simp [Power.mask, Win.mask, Params.mask, Crb.mask, Idn.mask, h_acp]; done) | ((simp [Power.mask, Win.mask, Params.mask, Crb.mask, Idn.mask, h_acp]) <;> (repeat' split) <;> simp [Power.mask, Win.mask, Params.mask, Crb.mask, Idn.mask, h_acp]))

@[simp] theorem acpCommit_mask (m : Part → Bool) (s : State) (h_acp : m .acp = true) : (acpCommit s).mask m = s.mask m := by
  unfold acpCommit
  (repeat' split) <;> (first | (simp [Power.mask, Win.mask, Params.mask, Crb.mask, Idn.mask, h_acp]; done) | ((simp [Power.mask, Win.mask, Params.mask, Crb.mask, Idn.mask, h_acp]) <;> (repeat' split) <;> simp [Power.mask, Win.mask, Params.mask, Crb.mask, Idn.mask, h_acp]))

@[simp] theorem State.updLane_mask (m : Part → Bool) (s : State) (a1 : Fin 16) (a2 : Lane → Lane) (h_lanes : m .lanes = true) : (State.updLane s a1 a2).mask m = s.mask m := by
  simp [State.updLane, Power.mask, Win.mask, Params.mask, Crb.mask, Idn.mask, h_lanes]

@[simp] theorem pairNote_mask (m : Part → Bool) (a0 : Fin 16) (a1 : Fin 4) (s : State) (h_par : m .par = true) : (pairNote a0 a1 s).mask m = s.mask m := by
  unfold pairNote
  (repeat' split) <;> (first | (simp [Power.mask, Win.mask, Params.mask, Crb.mask, Idn.mask, h_par]; done) | ((simp [Power.mask, Win.mask, Params.mask, Crb.mask, Idn.mask, h_par]) <;> (repeat' split) <;> simp [Power.mask, Win.mask, Params.mask, Crb.mask, Idn.mask, h_par]))

@[simp] theorem pairsNote_mask (m : Part → Bool) (a0 : Fin 16) (s : State) (h_par : m .par = true) : (pairsNote a0 s).mask m = s.mask m := by
  unfold pairsNote
  (repeat' split) <;> (first | (simp [Power.mask, Win.mask, Params.mask, Crb.mask, Idn.mask, h_par]; done) | ((simp [Power.mask, Win.mask, Params.mask, Crb.mask, Idn.mask, h_par]) <;> (repeat' split) <;> simp [Power.mask, Win.mask, Params.mask, Crb.mask, Idn.mask, h_par]))

@[simp] theorem disagree_mask (m : Part → Bool) (a0 : Fin 16) (a1 : Fin 4) (s : State) (h_log : m .log = true) (h_par : m .par = true) : (disagree a0 a1 s).mask m = s.mask m := by
  unfold disagree
  (repeat' split) <;> (first | (simp [Power.mask, Win.mask, Params.mask, Crb.mask, Idn.mask, h_log, h_par]; done) | ((simp [Power.mask, Win.mask, Params.mask, Crb.mask, Idn.mask, h_log, h_par]) <;> (repeat' split) <;> simp [Power.mask, Win.mask, Params.mask, Crb.mask, Idn.mask, h_log, h_par]))

@[simp] theorem halveRate_mask (m : Part → Bool) (a0 : Fin 16) (s : State) (h_log : m .log = true) (h_loops : m .loops = true) : (halveRate a0 s).mask m = s.mask m := by
  unfold halveRate
  (repeat' split) <;> (first | (simp [Power.mask, Win.mask, Params.mask, Crb.mask, Idn.mask, h_log, h_loops]; done) | ((simp [Power.mask, Win.mask, Params.mask, Crb.mask, Idn.mask, h_log, h_loops]) <;> (repeat' split) <;> simp [Power.mask, Win.mask, Params.mask, Crb.mask, Idn.mask, h_log, h_loops]))

@[simp] theorem superviseSat_mask (m : Part → Bool) (a0 : Fin 16) (s : State) (h_free : m .free = true) (h_loops : m .loops = true) : (superviseSat a0 s).mask m = s.mask m := by
  unfold superviseSat
  (repeat' split) <;> (first | (simp [Power.mask, Win.mask, Params.mask, Crb.mask, Idn.mask, h_free, h_loops]; done) | ((simp [Power.mask, Win.mask, Params.mask, Crb.mask, Idn.mask, h_free, h_loops]) <;> (repeat' split) <;> simp [Power.mask, Win.mask, Params.mask, Crb.mask, Idn.mask, h_free, h_loops]))

@[simp] theorem loadDac_mask (m : Part → Bool) (a0 : Fin 16) (s : State) (h_loops : m .loops = true) (h_swp : m .swp = true) : (loadDac a0 s).mask m = s.mask m := by
  unfold loadDac
  (repeat' split) <;> (first | (simp [Power.mask, Win.mask, Params.mask, Crb.mask, Idn.mask, h_loops, h_swp]; done) | ((simp [Power.mask, Win.mask, Params.mask, Crb.mask, Idn.mask, h_loops, h_swp]) <;> (repeat' split) <;> simp [Power.mask, Win.mask, Params.mask, Crb.mask, Idn.mask, h_loops, h_swp]))

@[simp] theorem closeNoSink_mask (m : Part → Bool) (a0 : Fin 16) (s : State) (h_loops : m .loops = true) : (closeNoSink a0 s).mask m = s.mask m := by
  unfold closeNoSink
  (repeat' split) <;> (first | (simp [Power.mask, Win.mask, Params.mask, Crb.mask, Idn.mask, h_loops]; done) | ((simp [Power.mask, Win.mask, Params.mask, Crb.mask, Idn.mask, h_loops]) <;> (repeat' split) <;> simp [Power.mask, Win.mask, Params.mask, Crb.mask, Idn.mask, h_loops]))

@[simp] theorem takeMode_mask (m : Part → Bool) (a0 : Fin 16) (s : State) (h_loops : m .loops = true) : (takeMode a0 s).mask m = s.mask m := by
  unfold takeMode
  (repeat' split) <;> (first | (simp [Power.mask, Win.mask, Params.mask, Crb.mask, Idn.mask, h_loops]; done) | ((simp [Power.mask, Win.mask, Params.mask, Crb.mask, Idn.mask, h_loops]) <;> (repeat' split) <;> simp [Power.mask, Win.mask, Params.mask, Crb.mask, Idn.mask, h_loops]))

@[simp] theorem sampleBoundary_mask (m : Part → Bool) (a0 : Fin 16) (s : State) (h_free : m .free = true) (h_g : m .g = true) (h_log : m .log = true) (h_par : m .par = true) (h_loops : m .loops = true) (h_phases : m .phases = true) (h_swp : m .swp = true) : (sampleBoundary a0 s).mask m = s.mask m := by
  unfold sampleBoundary
  (repeat' split) <;> (first | (simp [Power.mask, Win.mask, Params.mask, Crb.mask, Idn.mask, h_free, h_g, h_log, h_par, h_loops, h_phases, h_swp]; done) | ((simp [Power.mask, Win.mask, Params.mask, Crb.mask, Idn.mask, h_free, h_g, h_log, h_par, h_loops, h_phases, h_swp]) <;> (repeat' split) <;> simp [Power.mask, Win.mask, Params.mask, Crb.mask, Idn.mask, h_free, h_g, h_log, h_par, h_loops, h_phases, h_swp]))

@[simp] theorem kennelBoundary_mask (m : Part → Bool) (a0 : Fin 16) (s : State) (h_power : m .power = true) (h_par : m .par = true) (h_loops : m .loops = true) : (kennelBoundary a0 s).mask m = s.mask m := by
  unfold kennelBoundary
  (repeat' split) <;> (first | (simp [Power.mask, Win.mask, Params.mask, Crb.mask, Idn.mask, h_power, h_par, h_loops]; done) | ((simp [Power.mask, Win.mask, Params.mask, Crb.mask, Idn.mask, h_power, h_par, h_loops]) <;> (repeat' split) <;> simp [Power.mask, Win.mask, Params.mask, Crb.mask, Idn.mask, h_power, h_par, h_loops]))

@[simp] theorem takeSense_mask (m : Part → Bool) (a0 : Fin 16) (a1 : List ℤ) (a2 : Option ℤ) (s : State) (h_loops : m .loops = true) : (takeSense a0 a1 a2 s).mask m = s.mask m := by
  unfold takeSense
  (repeat' split) <;> (first | (simp [Power.mask, Win.mask, Params.mask, Crb.mask, Idn.mask, h_loops]; done) | ((simp [Power.mask, Win.mask, Params.mask, Crb.mask, Idn.mask, h_loops]) <;> (repeat' split) <;> simp [Power.mask, Win.mask, Params.mask, Crb.mask, Idn.mask, h_loops]))

@[simp] theorem notePreBias_mask (m : Part → Bool) (a0 : Fin 16) (a1 : Bool) (s : State) (h_loops : m .loops = true) : (notePreBias a0 a1 s).mask m = s.mask m := by
  unfold notePreBias
  (repeat' split) <;> (first | (simp [Power.mask, Win.mask, Params.mask, Crb.mask, Idn.mask, h_loops]; done) | ((simp [Power.mask, Win.mask, Params.mask, Crb.mask, Idn.mask, h_loops]) <;> (repeat' split) <;> simp [Power.mask, Win.mask, Params.mask, Crb.mask, Idn.mask, h_loops]))

@[simp] theorem noteOutputs_mask (m : Part → Bool) (a0 : Fin 16) (s : State) (h_loops : m .loops = true) : (noteOutputs a0 s).mask m = s.mask m := by
  unfold noteOutputs
  (repeat' split) <;> (first | (simp [Power.mask, Win.mask, Params.mask, Crb.mask, Idn.mask, h_loops]; done) | ((simp [Power.mask, Win.mask, Params.mask, Crb.mask, Idn.mask, h_loops]) <;> (repeat' split) <;> simp [Power.mask, Win.mask, Params.mask, Crb.mask, Idn.mask, h_loops]))

@[simp] theorem takeVin_mask (m : Part → Bool) (a0 : Fin 16) (s : State) (h_loops : m .loops = true) : (takeVin a0 s).mask m = s.mask m := by
  unfold takeVin
  (repeat' split) <;> (first | (simp [Power.mask, Win.mask, Params.mask, Crb.mask, Idn.mask, h_loops]; done) | ((simp [Power.mask, Win.mask, Params.mask, Crb.mask, Idn.mask, h_loops]) <;> (repeat' split) <;> simp [Power.mask, Win.mask, Params.mask, Crb.mask, Idn.mask, h_loops]))

@[simp] theorem takeDroop_mask (m : Part → Bool) (a0 : Fin 16) (a1 : ℤ) (s : State) (h_loops : m .loops = true) : (takeDroop a0 a1 s).mask m = s.mask m := by
  unfold takeDroop
  (repeat' split) <;> (first | (simp [Power.mask, Win.mask, Params.mask, Crb.mask, Idn.mask, h_loops]; done) | ((simp [Power.mask, Win.mask, Params.mask, Crb.mask, Idn.mask, h_loops]) <;> (repeat' split) <;> simp [Power.mask, Win.mask, Params.mask, Crb.mask, Idn.mask, h_loops]))

@[simp] theorem placeJob_mask (m : Part → Bool) (a0 : Fin 16) (a1 : ℕ) (a2 : ℕ) (a3 : ℕ) (s : State) (h_loops : m .loops = true) (h_lanes : m .lanes = true) : (placeJob a0 a1 a2 a3 s).mask m = s.mask m := by
  unfold placeJob
  (repeat' split) <;> (first | (simp [Power.mask, Win.mask, Params.mask, Crb.mask, Idn.mask, h_loops, h_lanes]; done) | ((simp [Power.mask, Win.mask, Params.mask, Crb.mask, Idn.mask, h_loops, h_lanes]) <;> (repeat' split) <;> simp [Power.mask, Win.mask, Params.mask, Crb.mask, Idn.mask, h_loops, h_lanes]))

@[simp] theorem step206_mask (m : Part → Bool) (a0 : Fin 16) (a1 : Bool) (a2 : W16) (a3 : Frac) (a4 : Bool) (s : State) (h_log : m .log = true) (h_loops : m .loops = true) (h_phases : m .phases = true) (h_lanes : m .lanes = true) (h_swp : m .swp = true) (h_damp : m .damp = true) : (step206 a0 a1 a2 a3 a4 s).mask m = s.mask m := by
  unfold step206
  (repeat' split) <;> (first | (simp [Power.mask, Win.mask, Params.mask, Crb.mask, Idn.mask, h_log, h_loops, h_phases, h_lanes, h_swp, h_damp]; done) | ((simp [Power.mask, Win.mask, Params.mask, Crb.mask, Idn.mask, h_log, h_loops, h_phases, h_lanes, h_swp, h_damp]) <;> (repeat' split) <;> simp [Power.mask, Win.mask, Params.mask, Crb.mask, Idn.mask, h_log, h_loops, h_phases, h_lanes, h_swp, h_damp]))

@[simp] theorem kennelStep_mask (m : Part → Bool) (a0 : Fin 16) (s : State) (h_free : m .free = true) (h_loops : m .loops = true) (h_phases : m .phases = true) (h_lanes : m .lanes = true) : (kennelStep a0 s).mask m = s.mask m := by
  unfold kennelStep
  (repeat' split) <;> (first | (simp [Power.mask, Win.mask, Params.mask, Crb.mask, Idn.mask, h_free, h_loops, h_phases, h_lanes]; done) | ((simp [Power.mask, Win.mask, Params.mask, Crb.mask, Idn.mask, h_free, h_loops, h_phases, h_lanes]) <;> (repeat' split) <;> simp [Power.mask, Win.mask, Params.mask, Crb.mask, Idn.mask, h_free, h_loops, h_phases, h_lanes]))

@[simp] theorem abandonLayer_mask (m : Part → Bool) (a0 : Fin 16) (s : State) (h_loops : m .loops = true) (h_lanes : m .lanes = true) : (abandonLayer a0 s).mask m = s.mask m := by
  unfold abandonLayer
  (repeat' split) <;> (first | (simp [Power.mask, Win.mask, Params.mask, Crb.mask, Idn.mask, h_loops, h_lanes]; done) | ((simp [Power.mask, Win.mask, Params.mask, Crb.mask, Idn.mask, h_loops, h_lanes]) <;> (repeat' split) <;> simp [Power.mask, Win.mask, Params.mask, Crb.mask, Idn.mask, h_loops, h_lanes]))

@[simp] theorem holdSample_mask (m : Part → Bool) (a0 : Fin 16) (s : State) (h_free : m .free = true) (h_loops : m .loops = true) : (holdSample a0 s).mask m = s.mask m := by
  unfold holdSample
  (repeat' split) <;> (first | (simp [Power.mask, Win.mask, Params.mask, Crb.mask, Idn.mask, h_free, h_loops]; done) | ((simp [Power.mask, Win.mask, Params.mask, Crb.mask, Idn.mask, h_free, h_loops]) <;> (repeat' split) <;> simp [Power.mask, Win.mask, Params.mask, Crb.mask, Idn.mask, h_free, h_loops]))

@[simp] theorem laneNow_mask (m : Part → Bool) (a0 : Fin 16) (s : State) (h_lanes : m .lanes = true) : (laneNow a0 s).mask m = s.mask m := by
  unfold laneNow
  (repeat' split) <;> (first | (simp [Power.mask, Win.mask, Params.mask, Crb.mask, Idn.mask, h_lanes]; done) | ((simp [Power.mask, Win.mask, Params.mask, Crb.mask, Idn.mask, h_lanes]) <;> (repeat' split) <;> simp [Power.mask, Win.mask, Params.mask, Crb.mask, Idn.mask, h_lanes]))

@[simp] theorem settleStep_mask (m : Part → Bool) (a0 : Fin 16) (s : State) (h_loops : m .loops = true) : (settleStep a0 s).mask m = s.mask m := by
  unfold settleStep
  (repeat' split) <;> (first | (simp [Power.mask, Win.mask, Params.mask, Crb.mask, Idn.mask, h_loops]; done) | ((simp [Power.mask, Win.mask, Params.mask, Crb.mask, Idn.mask, h_loops]) <;> (repeat' split) <;> simp [Power.mask, Win.mask, Params.mask, Crb.mask, Idn.mask, h_loops]))

@[simp] theorem runningEnd_mask (m : Part → Bool) (a0 : Fin 16) (a1 : Bool) (a2 : W16) (a3 : Frac) (s : State) (h_free : m .free = true) (h_log : m .log = true) (h_loops : m .loops = true) (h_phases : m .phases = true) (h_lanes : m .lanes = true) (h_swp : m .swp = true) (h_damp : m .damp = true) : (runningEnd a0 a1 a2 a3 s).mask m = s.mask m := by
  unfold runningEnd
  (repeat' split) <;> (first | (simp [Power.mask, Win.mask, Params.mask, Crb.mask, Idn.mask, h_free, h_log, h_loops, h_phases, h_lanes, h_swp, h_damp]; done) | ((simp [Power.mask, Win.mask, Params.mask, Crb.mask, Idn.mask, h_free, h_log, h_loops, h_phases, h_lanes, h_swp, h_damp]) <;> (repeat' split) <;> simp [Power.mask, Win.mask, Params.mask, Crb.mask, Idn.mask, h_free, h_log, h_loops, h_phases, h_lanes, h_swp, h_damp]))

@[simp] theorem acquisitionEnd_mask (m : Part → Bool) (a0 : Fin 16) (a1 : List ℤ) (a2 : Option ℤ) (s : State) (h_free : m .free = true) (h_log : m .log = true) (h_loops : m .loops = true) (h_phases : m .phases = true) (h_lanes : m .lanes = true) (h_swp : m .swp = true) (h_damp : m .damp = true) : (acquisitionEnd a0 a1 a2 s).mask m = s.mask m := by
  unfold acquisitionEnd
  (repeat' split) <;> (first | (simp [Power.mask, Win.mask, Params.mask, Crb.mask, Idn.mask, h_free, h_log, h_loops, h_phases, h_lanes, h_swp, h_damp]; done) | ((simp [Power.mask, Win.mask, Params.mask, Crb.mask, Idn.mask, h_free, h_log, h_loops, h_phases, h_lanes, h_swp, h_damp]) <;> (repeat' split) <;> simp [Power.mask, Win.mask, Params.mask, Crb.mask, Idn.mask, h_free, h_log, h_loops, h_phases, h_lanes, h_swp, h_damp]))

@[simp] theorem snapWrite_mask (m : Part → Bool) (a0 : W16) (s : State) (h_snap : m .snap = true) : (snapWrite a0 s).mask m = s.mask m := by
  unfold snapWrite
  (repeat' split) <;> (first | (simp [Power.mask, Win.mask, Params.mask, Crb.mask, Idn.mask, h_snap]; done) | ((simp [Power.mask, Win.mask, Params.mask, Crb.mask, Idn.mask, h_snap]) <;> (repeat' split) <;> simp [Power.mask, Win.mask, Params.mask, Crb.mask, Idn.mask, h_snap]))

@[simp] theorem capture_mask (m : Part → Bool) (s : State) (h_loops : m .loops = true) (h_lanes : m .lanes = true) (h_snap : m .snap = true) : (capture s).mask m = s.mask m := by
  unfold capture
  (repeat' split) <;> (first | (simp [Power.mask, Win.mask, Params.mask, Crb.mask, Idn.mask, h_loops, h_lanes, h_snap]; done) | ((simp [Power.mask, Win.mask, Params.mask, Crb.mask, Idn.mask, h_loops, h_lanes, h_snap]) <;> (repeat' split) <;> simp [Power.mask, Win.mask, Params.mask, Crb.mask, Idn.mask, h_loops, h_lanes, h_snap]))

@[simp] theorem engClr_mask (m : Part → Bool) (a0 : W16) (s : State) (h_loops : m .loops = true) : (engClr a0 s).mask m = s.mask m := by
  unfold engClr
  (repeat' split) <;> (first | (simp [Power.mask, Win.mask, Params.mask, Crb.mask, Idn.mask, h_loops]; done) | ((simp [Power.mask, Win.mask, Params.mask, Crb.mask, Idn.mask, h_loops]) <;> (repeat' split) <;> simp [Power.mask, Win.mask, Params.mask, Crb.mask, Idn.mask, h_loops]))

@[simp] theorem engRestore_mask (m : Part → Bool) (a0 : W16) (s : State) (h_loops : m .loops = true) : (engRestore a0 s).mask m = s.mask m := by
  unfold engRestore
  (repeat' split) <;> (first | (simp [Power.mask, Win.mask, Params.mask, Crb.mask, Idn.mask, h_loops]; done) | ((simp [Power.mask, Win.mask, Params.mask, Crb.mask, Idn.mask, h_loops]) <;> (repeat' split) <;> simp [Power.mask, Win.mask, Params.mask, Crb.mask, Idn.mask, h_loops]))

@[simp] theorem enableNote_mask (m : Part → Bool) (a0 : Fin 16) (s : State) (h_loops : m .loops = true) : (enableNote a0 s).mask m = s.mask m := by
  unfold enableNote
  (repeat' split) <;> (first | (simp [Power.mask, Win.mask, Params.mask, Crb.mask, Idn.mask, h_loops]; done) | ((simp [Power.mask, Win.mask, Params.mask, Crb.mask, Idn.mask, h_loops]) <;> (repeat' split) <;> simp [Power.mask, Win.mask, Params.mask, Crb.mask, Idn.mask, h_loops]))

@[simp] theorem setGpio_mask (m : Part → Bool) (a0 : Fin 24) (a1 : Bool) (s : State) (h_pins : m .pins = true) : (setGpio a0 a1 s).mask m = s.mask m := by
  unfold setGpio
  (repeat' split) <;> (first | (simp [Power.mask, Win.mask, Params.mask, Crb.mask, Idn.mask, h_pins]; done) | ((simp [Power.mask, Win.mask, Params.mask, Crb.mask, Idn.mask, h_pins]) <;> (repeat' split) <;> simp [Power.mask, Win.mask, Params.mask, Crb.mask, Idn.mask, h_pins]))

end Sys2Proof.Machine
end

