-- ==== Sys2Proof/Laws/MaskDevice.lean ====
section
/-! SUPPORT. What each operation of Fetch, Crumb, commits, identity, boot, power and the window leaves alone: with the parts it changes in
the mask, the masked state stays as it was. -/

set_option linter.all false

set_option maxRecDepth 2000

namespace Sys2Proof.Machine

open Sys2Proof

@[simp] theorem State.withUse_mask (m : Part → Bool) (s : State) (a1 : List (ℕ × W16)) (h_inUse : m .inUse = true) (h_par : m .par = true) : (State.withUse s a1).mask m = s.mask m := by
  unfold State.withUse
  (repeat' split) <;> (first | (simp [Power.mask, Win.mask, Params.mask, Crb.mask, Idn.mask, h_inUse, h_par]; done) | ((simp [Power.mask, Win.mask, Params.mask, Crb.mask, Idn.mask, h_inUse, h_par]) <;> (repeat' split) <;> simp [Power.mask, Win.mask, Params.mask, Crb.mask, Idn.mask, h_inUse, h_par]))

@[simp] theorem State.updFch_mask (m : Part → Bool) (s : State) (a1 : Fch → Fch) (h_fch : m .fch = true) : (State.updFch s a1).mask m = s.mask m := by
  simp [State.updFch, Power.mask, Win.mask, Params.mask, Crb.mask, Idn.mask, h_fch]

@[simp] theorem State.updEntry_mask (m : Part → Bool) (s : State) (a1 : Fin 32) (a2 : FchEntry → FchEntry) (h_fch : m .fch = true) : (State.updEntry s a1 a2).mask m = s.mask m := by
  simp [State.updEntry, Power.mask, Win.mask, Params.mask, Crb.mask, Idn.mask, h_fch]

@[simp] theorem State.forEntries_mask (m : Part → Bool) (s : State) (a1 : Fin 32 → FchEntry → FchEntry) (h_fch : m .fch = true) : (State.forEntries s a1).mask m = s.mask m := by
  unfold State.forEntries
  (repeat' split) <;> (first | (simp [Power.mask, Win.mask, Params.mask, Crb.mask, Idn.mask, h_fch]; done) | ((simp [Power.mask, Win.mask, Params.mask, Crb.mask, Idn.mask, h_fch]) <;> (repeat' split) <;> simp [Power.mask, Win.mask, Params.mask, Crb.mask, Idn.mask, h_fch]))

@[simp] theorem fchEvt_mask (m : Part → Bool) (a0 : ℕ) (s : State) (h_irq : m .irq = true) (h_fch : m .fch = true) : (fchEvt a0 s).mask m = s.mask m := by
  unfold fchEvt
  (repeat' split) <;> (first | (simp [Power.mask, Win.mask, Params.mask, Crb.mask, Idn.mask, h_irq, h_fch]; done) | ((simp [Power.mask, Win.mask, Params.mask, Crb.mask, Idn.mask, h_irq, h_fch]) <;> (repeat' split) <;> simp [Power.mask, Win.mask, Params.mask, Crb.mask, Idn.mask, h_irq, h_fch]))

@[simp] theorem pollStart_mask (m : Part → Bool) (a0 : Fin 32) (s : State) (h_g : m .g = true) (h_irq : m .irq = true) (h_win : m .win = true) (h_log : m .log = true) (h_nvm : m .nvm = true) (h_loops : m .loops = true) (h_peers : m .peers = true) (h_lsh : m .lsh = true) (h_swp : m .swp = true) (h_gsp : m .gsp = true) (h_fch : m .fch = true) (h_sram : m .sram = true) (h_chw : m .chw = true) : (pollStart a0 s).mask m = s.mask m := by
  unfold pollStart
  (repeat' split) <;> (first | (simp [Power.mask, Win.mask, Params.mask, Crb.mask, Idn.mask, h_g, h_irq, h_win, h_log, h_nvm, h_loops, h_peers, h_lsh, h_swp, h_gsp, h_fch, h_sram, h_chw]; done) | ((simp [Power.mask, Win.mask, Params.mask, Crb.mask, Idn.mask, h_g, h_irq, h_win, h_log, h_nvm, h_loops, h_peers, h_lsh, h_swp, h_gsp, h_fch, h_sram, h_chw]) <;> (repeat' split) <;> simp [Power.mask, Win.mask, Params.mask, Crb.mask, Idn.mask, h_g, h_irq, h_win, h_log, h_nvm, h_loops, h_peers, h_lsh, h_swp, h_gsp, h_fch, h_sram, h_chw]))

@[simp] theorem pollFail_mask (m : Part → Bool) (a0 : Fin 32) (s : State) (h_irq : m .irq = true) (h_fch : m .fch = true) : (pollFail a0 s).mask m = s.mask m := by
  unfold pollFail
  (repeat' split) <;> (first | (simp [Power.mask, Win.mask, Params.mask, Crb.mask, Idn.mask, h_irq, h_fch]; done) | ((simp [Power.mask, Win.mask, Params.mask, Crb.mask, Idn.mask, h_irq, h_fch]) <;> (repeat' split) <;> simp [Power.mask, Win.mask, Params.mask, Crb.mask, Idn.mask, h_irq, h_fch]))

@[simp] theorem pollGood_mask (m : Part → Bool) (a0 : Fin 32) (a1 : W16) (s : State) (h_irq : m .irq = true) (h_fch : m .fch = true) : (pollGood a0 a1 s).mask m = s.mask m := by
  unfold pollGood
  (repeat' split) <;> (first | (simp [Power.mask, Win.mask, Params.mask, Crb.mask, Idn.mask, h_irq, h_fch]; done) | ((simp [Power.mask, Win.mask, Params.mask, Crb.mask, Idn.mask, h_irq, h_fch]) <;> (repeat' split) <;> simp [Power.mask, Win.mask, Params.mask, Crb.mask, Idn.mask, h_irq, h_fch]))

@[simp] theorem pollEnd_mask (m : Part → Bool) (s : State) (h_fch : m .fch = true) : (pollEnd s).mask m = s.mask m := by
  unfold pollEnd
  (repeat' split) <;> (first | (simp [Power.mask, Win.mask, Params.mask, Crb.mask, Idn.mask, h_fch]; done) | ((simp [Power.mask, Win.mask, Params.mask, Crb.mask, Idn.mask, h_fch]) <;> (repeat' split) <;> simp [Power.mask, Win.mask, Params.mask, Crb.mask, Idn.mask, h_fch]))

@[simp] theorem pollAbort_mask (m : Part → Bool) (s : State) (h_irq : m .irq = true) (h_prot : m .prot = true) (h_fch : m .fch = true) : (pollAbort s).mask m = s.mask m := by
  unfold pollAbort
  (repeat' split) <;> (first | (simp [Power.mask, Win.mask, Params.mask, Crb.mask, Idn.mask, h_irq, h_prot, h_fch]; done) | ((simp [Power.mask, Win.mask, Params.mask, Crb.mask, Idn.mask, h_irq, h_prot, h_fch]) <;> (repeat' split) <;> simp [Power.mask, Win.mask, Params.mask, Crb.mask, Idn.mask, h_irq, h_prot, h_fch]))

@[simp] theorem portDead_mask (m : Part → Bool) (a0 : ℕ) (s : State) (h_irq : m .irq = true) (h_log : m .log = true) (h_prot : m .prot = true) (h_fch : m .fch = true) : (portDead a0 s).mask m = s.mask m := by
  unfold portDead
  (repeat' split) <;> (first | (simp [Power.mask, Win.mask, Params.mask, Crb.mask, Idn.mask, h_irq, h_log, h_prot, h_fch]; done) | ((simp [Power.mask, Win.mask, Params.mask, Crb.mask, Idn.mask, h_irq, h_log, h_prot, h_fch]) <;> (repeat' split) <;> simp [Power.mask, Win.mask, Params.mask, Crb.mask, Idn.mask, h_irq, h_log, h_prot, h_fch]))

@[simp] theorem attemptFail_mask (m : Part → Bool) (a0 : ℕ) (s : State) (h_irq : m .irq = true) (h_log : m .log = true) (h_prot : m .prot = true) (h_fch : m .fch = true) : (attemptFail a0 s).mask m = s.mask m := by
  unfold attemptFail
  (repeat' split) <;> (first | (simp [Power.mask, Win.mask, Params.mask, Crb.mask, Idn.mask, h_irq, h_log, h_prot, h_fch]; done) | ((simp [Power.mask, Win.mask, Params.mask, Crb.mask, Idn.mask, h_irq, h_log, h_prot, h_fch]) <;> (repeat' split) <;> simp [Power.mask, Win.mask, Params.mask, Crb.mask, Idn.mask, h_irq, h_log, h_prot, h_fch]))

@[simp] theorem portUp_mask (m : Part → Bool) (s : State) (h_fch : m .fch = true) : (portUp s).mask m = s.mask m := by
  unfold portUp
  (repeat' split) <;> (first | (simp [Power.mask, Win.mask, Params.mask, Crb.mask, Idn.mask, h_fch]; done) | ((simp [Power.mask, Win.mask, Params.mask, Crb.mask, Idn.mask, h_fch]) <;> (repeat' split) <;> simp [Power.mask, Win.mask, Params.mask, Crb.mask, Idn.mask, h_fch]))

@[simp] theorem attemptGood_mask (m : Part → Bool) (s : State) (h_irq : m .irq = true) (h_fch : m .fch = true) : (attemptGood s).mask m = s.mask m := by
  unfold attemptGood
  (repeat' split) <;> (first | (simp [Power.mask, Win.mask, Params.mask, Crb.mask, Idn.mask, h_irq, h_fch]; done) | ((simp [Power.mask, Win.mask, Params.mask, Crb.mask, Idn.mask, h_irq, h_fch]) <;> (repeat' split) <;> simp [Power.mask, Win.mask, Params.mask, Crb.mask, Idn.mask, h_irq, h_fch]))

@[simp] theorem fchEvtWrite_mask (m : Part → Bool) (a0 : W16) (s : State) (h_fch : m .fch = true) : (fchEvtWrite a0 s).mask m = s.mask m := by
  unfold fchEvtWrite
  (repeat' split) <;> (first | (simp [Power.mask, Win.mask, Params.mask, Crb.mask, Idn.mask, h_fch]; done) | ((simp [Power.mask, Win.mask, Params.mask, Crb.mask, Idn.mask, h_fch]) <;> (repeat' split) <;> simp [Power.mask, Win.mask, Params.mask, Crb.mask, Idn.mask, h_fch]))

@[simp] theorem fchEntries_mask (m : Part → Bool) (s : State) (h_fch : m .fch = true) : (fchEntries s).mask m = s.mask m := by
  unfold fchEntries
  (repeat' split) <;> (first | (simp [Power.mask, Win.mask, Params.mask, Crb.mask, Idn.mask, h_fch]; done) | ((simp [Power.mask, Win.mask, Params.mask, Crb.mask, Idn.mask, h_fch]) <;> (repeat' split) <;> simp [Power.mask, Win.mask, Params.mask, Crb.mask, Idn.mask, h_fch]))

@[simp] theorem fchPort_mask (m : Part → Bool) (s : State) (h_fch : m .fch = true) : (fchPort s).mask m = s.mask m := by
  unfold fchPort
  (repeat' split) <;> (first | (simp [Power.mask, Win.mask, Params.mask, Crb.mask, Idn.mask, h_fch]; done) | ((simp [Power.mask, Win.mask, Params.mask, Crb.mask, Idn.mask, h_fch]) <;> (repeat' split) <;> simp [Power.mask, Win.mask, Params.mask, Crb.mask, Idn.mask, h_fch]))

@[simp] theorem fchCommit_mask (m : Part → Bool) (s : State) (h_prot : m .prot = true) (h_fch : m .fch = true) : (fchCommit s).mask m = s.mask m := by
  unfold fchCommit
  (repeat' split) <;> (first | (simp [Power.mask, Win.mask, Params.mask, Crb.mask, Idn.mask, h_prot, h_fch]; done) | ((simp [Power.mask, Win.mask, Params.mask, Crb.mask, Idn.mask, h_prot, h_fch]) <;> (repeat' split) <;> simp [Power.mask, Win.mask, Params.mask, Crb.mask, Idn.mask, h_prot, h_fch]))

@[simp] theorem fchBoot_mask (m : Part → Bool) (s : State) (h_fch : m .fch = true) : (fchBoot s).mask m = s.mask m := by
  unfold fchBoot
  (repeat' split) <;> (first | (simp [Power.mask, Win.mask, Params.mask, Crb.mask, Idn.mask, h_fch]; done) | ((simp [Power.mask, Win.mask, Params.mask, Crb.mask, Idn.mask, h_fch]) <;> (repeat' split) <;> simp [Power.mask, Win.mask, Params.mask, Crb.mask, Idn.mask, h_fch]))

@[simp] theorem State.updTpl_mask (m : Part → Bool) (s : State) (a1 : Fin 4) (a2 : CrbTpl → CrbTpl) (h_crb : m .crb = true) : (State.updTpl s a1 a2).mask m = s.mask m := by
  simp [State.updTpl, Power.mask, Win.mask, Params.mask, Crb.mask, Idn.mask, h_crb]

@[simp] theorem State.updCrbSlot_mask (m : Part → Bool) (s : State) (a1 : Fin 16) (a2 : CrbSlot → CrbSlot) (h_crb : m .crb = true) : (State.updCrbSlot s a1 a2).mask m = s.mask m := by
  simp [State.updCrbSlot, Power.mask, Win.mask, Params.mask, Crb.mask, Idn.mask, h_crb]

@[simp] theorem tplTake_mask (m : Part → Bool) (a0 : Fin 4) (s : State) (h_crb : m .crb = true) : (tplTake a0 s).mask m = s.mask m := by
  unfold tplTake
  (repeat' split) <;> (first | (simp [Power.mask, Win.mask, Params.mask, Crb.mask, Idn.mask, h_crb]; done) | ((simp [Power.mask, Win.mask, Params.mask, Crb.mask, Idn.mask, h_crb]) <;> (repeat' split) <;> simp [Power.mask, Win.mask, Params.mask, Crb.mask, Idn.mask, h_crb]))

@[simp] theorem tplsTake_mask (m : Part → Bool) (s : State) (h_crb : m .crb = true) : (tplsTake s).mask m = s.mask m := by
  unfold tplsTake
  (repeat' split) <;> (first | (simp [Power.mask, Win.mask, Params.mask, Crb.mask, Idn.mask, h_crb]; done) | ((simp [Power.mask, Win.mask, Params.mask, Crb.mask, Idn.mask, h_crb]) <;> (repeat' split) <;> simp [Power.mask, Win.mask, Params.mask, Crb.mask, Idn.mask, h_crb]))

@[simp] theorem tplArm_mask (m : Part → Bool) (a0 : Fin 4) (s : State) (h_crb : m .crb = true) : (tplArm a0 s).mask m = s.mask m := by
  unfold tplArm
  (repeat' split) <;> (first | (simp [Power.mask, Win.mask, Params.mask, Crb.mask, Idn.mask, h_crb]; done) | ((simp [Power.mask, Win.mask, Params.mask, Crb.mask, Idn.mask, h_crb]) <;> (repeat' split) <;> simp [Power.mask, Win.mask, Params.mask, Crb.mask, Idn.mask, h_crb]))

@[simp] theorem crbArm_mask (m : Part → Bool) (s : State) (h_crb : m .crb = true) : (crbArm s).mask m = s.mask m := by
  unfold crbArm
  (repeat' split) <;> (first | (simp [Power.mask, Win.mask, Params.mask, Crb.mask, Idn.mask, h_crb]; done) | ((simp [Power.mask, Win.mask, Params.mask, Crb.mask, Idn.mask, h_crb]) <;> (repeat' split) <;> simp [Power.mask, Win.mask, Params.mask, Crb.mask, Idn.mask, h_crb]))

@[simp] theorem enterPost_mask (m : Part → Bool) (a0 : Fin 4) (a1 : Fin 16) (a2 : ℕ) (a3 : ℕ × Byte × ℕ) (s : State) (h_irq : m .irq = true) (h_sram : m .sram = true) (h_crb : m .crb = true) : (enterPost a0 a1 a2 a3 s).mask m = s.mask m := by
  unfold enterPost
  (repeat' split) <;> (first | (simp [Power.mask, Win.mask, Params.mask, Crb.mask, Idn.mask, h_irq, h_sram, h_crb]; done) | ((simp [Power.mask, Win.mask, Params.mask, Crb.mask, Idn.mask, h_irq, h_sram, h_crb]) <;> (repeat' split) <;> simp [Power.mask, Win.mask, Params.mask, Crb.mask, Idn.mask, h_irq, h_sram, h_crb]))

@[simp] theorem addExtra_mask (m : Part → Bool) (a0 : Fin 4) (a1 : ℕ) (s : State) (h_crb : m .crb = true) : (addExtra a0 a1 s).mask m = s.mask m := by
  unfold addExtra
  (repeat' split) <;> (first | (simp [Power.mask, Win.mask, Params.mask, Crb.mask, Idn.mask, h_crb]; done) | ((simp [Power.mask, Win.mask, Params.mask, Crb.mask, Idn.mask, h_crb]) <;> (repeat' split) <;> simp [Power.mask, Win.mask, Params.mask, Crb.mask, Idn.mask, h_crb]))

@[simp] theorem trigger_mask (m : Part → Bool) (a0 : Fin 4) (a1 : ℕ) (a2 : ℕ × Byte × ℕ) (s : State) (h_irq : m .irq = true) (h_sram : m .sram = true) (h_crb : m .crb = true) : (trigger a0 a1 a2 s).mask m = s.mask m := by
  unfold trigger
  (repeat' split) <;> (first | (simp [Power.mask, Win.mask, Params.mask, Crb.mask, Idn.mask, h_irq, h_sram, h_crb]; done) | ((simp [Power.mask, Win.mask, Params.mask, Crb.mask, Idn.mask, h_irq, h_sram, h_crb]) <;> (repeat' split) <;> simp [Power.mask, Win.mask, Params.mask, Crb.mask, Idn.mask, h_irq, h_sram, h_crb]))

@[simp] theorem eventTriggers_mask (m : Part → Bool) (a0 : LogEntry) (a1 : ℕ) (s : State) (h_irq : m .irq = true) (h_sram : m .sram = true) (h_crb : m .crb = true) : (eventTriggers a0 a1 s).mask m = s.mask m := by
  unfold eventTriggers
  (repeat' split) <;> (first | (simp [Power.mask, Win.mask, Params.mask, Crb.mask, Idn.mask, h_irq, h_sram, h_crb]; done) | ((simp [Power.mask, Win.mask, Params.mask, Crb.mask, Idn.mask, h_irq, h_sram, h_crb]) <;> (repeat' split) <;> simp [Power.mask, Win.mask, Params.mask, Crb.mask, Idn.mask, h_irq, h_sram, h_crb]))

@[simp] theorem State.updPins_mask (m : Part → Bool) (s : State) (a1 : Pins → Pins) (h_pins : m .pins = true) : (State.updPins s a1).mask m = s.mask m := by
  simp [State.updPins, Power.mask, Win.mask, Params.mask, Crb.mask, Idn.mask, h_pins]

@[simp] theorem pulseStart_mask (m : Part → Bool) (a0 : Fin 24) (s : State) (h_pins : m .pins = true) : (pulseStart a0 s).mask m = s.mask m := by
  unfold pulseStart
  (repeat' split) <;> (first | (simp [Power.mask, Win.mask, Params.mask, Crb.mask, Idn.mask, h_pins]; done) | ((simp [Power.mask, Win.mask, Params.mask, Crb.mask, Idn.mask, h_pins]) <;> (repeat' split) <;> simp [Power.mask, Win.mask, Params.mask, Crb.mask, Idn.mask, h_pins]))

@[simp] theorem eventPulses_mask (m : Part → Bool) (a0 : LogEntry) (s : State) (h_pins : m .pins = true) : (eventPulses a0 s).mask m = s.mask m := by
  unfold eventPulses
  (repeat' split) <;> (first | (simp [Power.mask, Win.mask, Params.mask, Crb.mask, Idn.mask, h_pins]; done) | ((simp [Power.mask, Win.mask, Params.mask, Crb.mask, Idn.mask, h_pins]) <;> (repeat' split) <;> simp [Power.mask, Win.mask, Params.mask, Crb.mask, Idn.mask, h_pins]))

@[simp] theorem logAppend_mask (m : Part → Bool) (a0 : LogEntry) (s : State) (h_irq : m .irq = true) (h_log : m .log = true) (h_sram : m .sram = true) : (logAppend a0 s).mask m = s.mask m := by
  unfold logAppend
  (repeat' split) <;> (first | (simp [Power.mask, Win.mask, Params.mask, Crb.mask, Idn.mask, h_irq, h_log, h_sram]; done) | ((simp [Power.mask, Win.mask, Params.mask, Crb.mask, Idn.mask, h_irq, h_log, h_sram]) <;> (repeat' split) <;> simp [Power.mask, Win.mask, Params.mask, Crb.mask, Idn.mask, h_irq, h_log, h_sram]))

@[simp] theorem appendHead_mask (m : Part → Bool) (s : State) (h_irq : m .irq = true) (h_log : m .log = true) (h_sram : m .sram = true) (h_crb : m .crb = true) (h_pins : m .pins = true) : (appendHead s).mask m = s.mask m := by
  unfold appendHead
  (repeat' split) <;> (first | (simp [Power.mask, Win.mask, Params.mask, Crb.mask, Idn.mask, h_irq, h_log, h_sram, h_crb, h_pins]; done) | ((simp [Power.mask, Win.mask, Params.mask, Crb.mask, Idn.mask, h_irq, h_log, h_sram, h_crb, h_pins]) <;> (repeat' split) <;> simp [Power.mask, Win.mask, Params.mask, Crb.mask, Idn.mask, h_irq, h_log, h_sram, h_crb, h_pins]))

@[simp] theorem crumbTrigger_mask (m : Part → Bool) (a0 : Fin 4) (s : State) (h_irq : m .irq = true) (h_sram : m .sram = true) (h_crb : m .crb = true) : (crumbTrigger a0 s).mask m = s.mask m := by
  unfold crumbTrigger
  (repeat' split) <;> (first | (simp [Power.mask, Win.mask, Params.mask, Crb.mask, Idn.mask, h_irq, h_sram, h_crb]; done) | ((simp [Power.mask, Win.mask, Params.mask, Crb.mask, Idn.mask, h_irq, h_sram, h_crb]) <;> (repeat' split) <;> simp [Power.mask, Win.mask, Params.mask, Crb.mask, Idn.mask, h_irq, h_sram, h_crb]))

@[simp] theorem slotLock_mask (m : Part → Bool) (a0 : Fin 16) (s : State) (h_crb : m .crb = true) : (slotLock a0 s).mask m = s.mask m := by
  unfold slotLock
  (repeat' split) <;> (first | (simp [Power.mask, Win.mask, Params.mask, Crb.mask, Idn.mask, h_crb]; done) | ((simp [Power.mask, Win.mask, Params.mask, Crb.mask, Idn.mask, h_crb]) <;> (repeat' split) <;> simp [Power.mask, Win.mask, Params.mask, Crb.mask, Idn.mask, h_crb]))

@[simp] theorem slotUnlock_mask (m : Part → Bool) (a0 : Fin 16) (s : State) (h_crb : m .crb = true) : (slotUnlock a0 s).mask m = s.mask m := by
  unfold slotUnlock
  (repeat' split) <;> (first | (simp [Power.mask, Win.mask, Params.mask, Crb.mask, Idn.mask, h_crb]; done) | ((simp [Power.mask, Win.mask, Params.mask, Crb.mask, Idn.mask, h_crb]) <;> (repeat' split) <;> simp [Power.mask, Win.mask, Params.mask, Crb.mask, Idn.mask, h_crb]))

@[simp] theorem slotRelease_mask (m : Part → Bool) (a0 : Fin 16) (s : State) (h_crb : m .crb = true) : (slotRelease a0 s).mask m = s.mask m := by
  unfold slotRelease
  (repeat' split) <;> (first | (simp [Power.mask, Win.mask, Params.mask, Crb.mask, Idn.mask, h_crb]; done) | ((simp [Power.mask, Win.mask, Params.mask, Crb.mask, Idn.mask, h_crb]) <;> (repeat' split) <;> simp [Power.mask, Win.mask, Params.mask, Crb.mask, Idn.mask, h_crb]))

@[simp] theorem crumbHold_mask (m : Part → Bool) (a0 : Bool) (s : State) (h_crb : m .crb = true) : (crumbHold a0 s).mask m = s.mask m := by
  unfold crumbHold
  (repeat' split) <;> (first | (simp [Power.mask, Win.mask, Params.mask, Crb.mask, Idn.mask, h_crb]; done) | ((simp [Power.mask, Win.mask, Params.mask, Crb.mask, Idn.mask, h_crb]) <;> (repeat' split) <;> simp [Power.mask, Win.mask, Params.mask, Crb.mask, Idn.mask, h_crb]))

@[simp] theorem crumbCtlWrite_mask (m : Part → Bool) (a0 : W16) (s : State) (h_irq : m .irq = true) (h_sram : m .sram = true) (h_crb : m .crb = true) : (crumbCtlWrite a0 s).mask m = s.mask m := by
  unfold crumbCtlWrite
  (repeat' split) <;> (first | (simp [Power.mask, Win.mask, Params.mask, Crb.mask, Idn.mask, h_irq, h_sram, h_crb]; done) | ((simp [Power.mask, Win.mask, Params.mask, Crb.mask, Idn.mask, h_irq, h_sram, h_crb]) <;> (repeat' split) <;> simp [Power.mask, Win.mask, Params.mask, Crb.mask, Idn.mask, h_irq, h_sram, h_crb]))

@[simp] theorem sealRecord_mask (m : Part → Bool) (a0 : Fin 4) (a1 : Fin 16) (s : State) (h_sram : m .sram = true) (h_crb : m .crb = true) : (sealRecord a0 a1 s).mask m = s.mask m := by
  unfold sealRecord
  (repeat' split) <;> (first | (simp [Power.mask, Win.mask, Params.mask, Crb.mask, Idn.mask, h_sram, h_crb]; done) | ((simp [Power.mask, Win.mask, Params.mask, Crb.mask, Idn.mask, h_sram, h_crb]) <;> (repeat' split) <;> simp [Power.mask, Win.mask, Params.mask, Crb.mask, Idn.mask, h_sram, h_crb]))

@[simp] theorem captureSample_mask (m : Part → Bool) (a0 : Fin 4) (s : State) (h_irq : m .irq = true) (h_sram : m .sram = true) (h_crb : m .crb = true) : (captureSample a0 s).mask m = s.mask m := by
  simp only [captureSample]
  repeat' (first | with_reducible apply mask_iteS | split)
  all_goals simp [Power.mask, Win.mask, Params.mask, Crb.mask, Idn.mask, h_irq, h_sram, h_crb]

@[simp] theorem compressSlot_mask (m : Part → Bool) (a0 : Fin 16) (a1 : CrbCap) (s : State) (h_sram : m .sram = true) (h_crb : m .crb = true) : (compressSlot a0 a1 s).mask m = s.mask m := by
  unfold compressSlot
  (repeat' split) <;> (first | (simp [Power.mask, Win.mask, Params.mask, Crb.mask, Idn.mask, h_sram, h_crb]; done) | ((simp [Power.mask, Win.mask, Params.mask, Crb.mask, Idn.mask, h_sram, h_crb]) <;> (repeat' split) <;> simp [Power.mask, Win.mask, Params.mask, Crb.mask, Idn.mask, h_sram, h_crb]))

@[simp] theorem signSlot_mask (m : Part → Bool) (a0 : Fin 16) (a1 : CrbCap) (s : State) (h_irq : m .irq = true) (h_sram : m .sram = true) (h_crb : m .crb = true) : (signSlot a0 a1 s).mask m = s.mask m := by
  unfold signSlot
  (repeat' split) <;> (first | (simp [Power.mask, Win.mask, Params.mask, Crb.mask, Idn.mask, h_irq, h_sram, h_crb]; done) | ((simp [Power.mask, Win.mask, Params.mask, Crb.mask, Idn.mask, h_irq, h_sram, h_crb]) <;> (repeat' split) <;> simp [Power.mask, Win.mask, Params.mask, Crb.mask, Idn.mask, h_irq, h_sram, h_crb]))

@[simp] theorem recordSigned_mask (m : Part → Bool) (a0 : Fin 16) (s : State) (h_irq : m .irq = true) (h_sram : m .sram = true) (h_crb : m .crb = true) : (recordSigned a0 s).mask m = s.mask m := by
  unfold recordSigned
  (repeat' split) <;> (first | (simp [Power.mask, Win.mask, Params.mask, Crb.mask, Idn.mask, h_irq, h_sram, h_crb]; done) | ((simp [Power.mask, Win.mask, Params.mask, Crb.mask, Idn.mask, h_irq, h_sram, h_crb]) <;> (repeat' split) <;> simp [Power.mask, Win.mask, Params.mask, Crb.mask, Idn.mask, h_irq, h_sram, h_crb]))

@[simp] theorem crbBoot_mask (m : Part → Bool) (a0 : Bool) (s : State) (h_log : m .log = true) (h_crb : m .crb = true) : (crbBoot a0 s).mask m = s.mask m := by
  unfold crbBoot
  (repeat' split) <;> (first | (simp [Power.mask, Win.mask, Params.mask, Crb.mask, Idn.mask, h_log, h_crb]; done) | ((simp [Power.mask, Win.mask, Params.mask, Crb.mask, Idn.mask, h_log, h_crb]) <;> (repeat' split) <;> simp [Power.mask, Win.mask, Params.mask, Crb.mask, Idn.mask, h_log, h_crb]))

@[simp] theorem revertWords_mask (m : Part → Bool) (a0 : ℕ → Bool) (s : State) (h_proof : m .proof = true) (h_par : m .par = true) : (revertWords a0 s).mask m = s.mask m := by
  unfold revertWords
  (repeat' split) <;> (first | (simp [Power.mask, Win.mask, Params.mask, Crb.mask, Idn.mask, h_proof, h_par]; done) | ((simp [Power.mask, Win.mask, Params.mask, Crb.mask, Idn.mask, h_proof, h_par]) <;> (repeat' split) <;> simp [Power.mask, Win.mask, Params.mask, Crb.mask, Idn.mask, h_proof, h_par]))

@[simp] theorem revertWrite_mask (m : Part → Bool) (a0 : W16) (s : State) (h_proof : m .proof = true) (h_par : m .par = true) : (revertWrite a0 s).mask m = s.mask m := by
  unfold revertWrite
  (repeat' split) <;> (first | (simp [Power.mask, Win.mask, Params.mask, Crb.mask, Idn.mask, h_proof, h_par]; done) | ((simp [Power.mask, Win.mask, Params.mask, Crb.mask, Idn.mask, h_proof, h_par]) <;> (repeat' split) <;> simp [Power.mask, Win.mask, Params.mask, Crb.mask, Idn.mask, h_proof, h_par]))

@[simp] theorem writeL_mask (m : Part → Bool) (a0 : ℕ) (s : State) (h_par : m .par = true) : (writeL a0 s).mask m = s.mask m := by
  unfold writeL
  (repeat' split) <;> (first | (simp [Power.mask, Win.mask, Params.mask, Crb.mask, Idn.mask, h_par]; done) | ((simp [Power.mask, Win.mask, Params.mask, Crb.mask, Idn.mask, h_par]) <;> (repeat' split) <;> simp [Power.mask, Win.mask, Params.mask, Crb.mask, Idn.mask, h_par]))

@[simp] theorem reportRefusal_mask (m : Part → Bool) (a0 : Byte) (a1 : W16) (s : State) (h_irq : m .irq = true) (h_par : m .par = true) : (reportRefusal a0 a1 s).mask m = s.mask m := by
  unfold reportRefusal
  (repeat' split) <;> (first | (simp [Power.mask, Win.mask, Params.mask, Crb.mask, Idn.mask, h_irq, h_par]; done) | ((simp [Power.mask, Win.mask, Params.mask, Crb.mask, Idn.mask, h_irq, h_par]) <;> (repeat' split) <;> simp [Power.mask, Win.mask, Params.mask, Crb.mask, Idn.mask, h_irq, h_par]))

@[simp] theorem refuseL_mask (m : Part → Bool) (a0 : Fail) (s : State) (h_irq : m .irq = true) (h_par : m .par = true) : (refuseL a0 s).mask m = s.mask m := by
  unfold refuseL
  (repeat' split) <;> (first | (simp [Power.mask, Win.mask, Params.mask, Crb.mask, Idn.mask, h_irq, h_par]; done) | ((simp [Power.mask, Win.mask, Params.mask, Crb.mask, Idn.mask, h_irq, h_par]) <;> (repeat' split) <;> simp [Power.mask, Win.mask, Params.mask, Crb.mask, Idn.mask, h_irq, h_par]))

@[simp] theorem crossedL_mask (m : Part → Bool) (a0 : ℕ) (s : State) (h_loops : m .loops = true) (h_crb : m .crb = true) : (crossedL a0 s).mask m = s.mask m := by
  unfold crossedL
  (repeat' split) <;> (first | (simp [Power.mask, Win.mask, Params.mask, Crb.mask, Idn.mask, h_loops, h_crb]; done) | ((simp [Power.mask, Win.mask, Params.mask, Crb.mask, Idn.mask, h_loops, h_crb]) <;> (repeat' split) <;> simp [Power.mask, Win.mask, Params.mask, Crb.mask, Idn.mask, h_loops, h_crb]))

@[simp] theorem crossL_mask (m : Part → Bool) (a0 : ℕ) (s : State) (h_irq : m .irq = true) (h_inUse : m .inUse = true) (h_par : m .par = true) (h_loops : m .loops = true) (h_crb : m .crb = true) : (crossL a0 s).mask m = s.mask m := by
  unfold crossL
  (repeat' split) <;> (first | (simp [Power.mask, Win.mask, Params.mask, Crb.mask, Idn.mask, h_irq, h_inUse, h_par, h_loops, h_crb]; done) | ((simp [Power.mask, Win.mask, Params.mask, Crb.mask, Idn.mask, h_irq, h_inUse, h_par, h_loops, h_crb]) <;> (repeat' split) <;> simp [Power.mask, Win.mask, Params.mask, Crb.mask, Idn.mask, h_irq, h_inUse, h_par, h_loops, h_crb]))

@[simp] theorem pinFreq_mask (m : Part → Bool) (a0 : Fin 16) (s : State) (h_proof : m .proof = true) : (pinFreq a0 s).mask m = s.mask m := by
  unfold pinFreq
  (repeat' split) <;> (first | (simp [Power.mask, Win.mask, Params.mask, Crb.mask, Idn.mask, h_proof]; done) | ((simp [Power.mask, Win.mask, Params.mask, Crb.mask, Idn.mask, h_proof]) <;> (repeat' split) <;> simp [Power.mask, Win.mask, Params.mask, Crb.mask, Idn.mask, h_proof]))

@[simp] theorem commitRequest_mask (m : Part → Bool) (s : State) (h_proof : m .proof = true) (h_par : m .par = true) (h_loops : m .loops = true) (h_lanes : m .lanes = true) (h_snap : m .snap = true) (h_idn : m .idn = true) : (commitRequest s).mask m = s.mask m := by
  unfold commitRequest
  (repeat' split) <;> (first | (simp [Power.mask, Win.mask, Params.mask, Crb.mask, Idn.mask, h_proof, h_par, h_loops, h_lanes, h_snap, h_idn]; done) | ((simp [Power.mask, Win.mask, Params.mask, Crb.mask, Idn.mask, h_proof, h_par, h_loops, h_lanes, h_snap, h_idn]) <;> (repeat' split) <;> simp [Power.mask, Win.mask, Params.mask, Crb.mask, Idn.mask, h_proof, h_par, h_loops, h_lanes, h_snap, h_idn]))

@[simp] theorem commitWrite_mask (m : Part → Bool) (a0 : W16) (s : State) (h_proof : m .proof = true) (h_par : m .par = true) (h_loops : m .loops = true) (h_lanes : m .lanes = true) (h_snap : m .snap = true) (h_idn : m .idn = true) : (commitWrite a0 s).mask m = s.mask m := by
  unfold commitWrite
  (repeat' split) <;> (first | (simp [Power.mask, Win.mask, Params.mask, Crb.mask, Idn.mask, h_proof, h_par, h_loops, h_lanes, h_snap, h_idn]; done) | ((simp [Power.mask, Win.mask, Params.mask, Crb.mask, Idn.mask, h_proof, h_par, h_loops, h_lanes, h_snap, h_idn]) <;> (repeat' split) <;> simp [Power.mask, Win.mask, Params.mask, Crb.mask, Idn.mask, h_proof, h_par, h_loops, h_lanes, h_snap, h_idn]))

@[simp] theorem busyEnd_mask (m : Part → Bool) (s : State) (h_irq : m .irq = true) (h_par : m .par = true) (h_idn : m .idn = true) : (busyEnd s).mask m = s.mask m := by
  unfold busyEnd
  (repeat' split) <;> (first | (simp [Power.mask, Win.mask, Params.mask, Crb.mask, Idn.mask, h_irq, h_par, h_idn]; done) | ((simp [Power.mask, Win.mask, Params.mask, Crb.mask, Idn.mask, h_irq, h_par, h_idn]) <;> (repeat' split) <;> simp [Power.mask, Win.mask, Params.mask, Crb.mask, Idn.mask, h_irq, h_par, h_idn]))

@[simp] theorem commitDone_mask (m : Part → Bool) (a0 : Byte) (s : State) (h_irq : m .irq = true) (h_par : m .par = true) (h_idn : m .idn = true) : (commitDone a0 s).mask m = s.mask m := by
  unfold commitDone
  (repeat' split) <;> (first | (simp [Power.mask, Win.mask, Params.mask, Crb.mask, Idn.mask, h_irq, h_par, h_idn]; done) | ((simp [Power.mask, Win.mask, Params.mask, Crb.mask, Idn.mask, h_irq, h_par, h_idn]) <;> (repeat' split) <;> simp [Power.mask, Win.mask, Params.mask, Crb.mask, Idn.mask, h_irq, h_par, h_idn]))

@[simp] theorem spendUnlock_mask (m : Part → Bool) (a0 : List (ℕ × W16)) (s : State) (h_idn : m .idn = true) : (spendUnlock a0 s).mask m = s.mask m := by
  unfold spendUnlock
  (repeat' split) <;> (first | (simp [Power.mask, Win.mask, Params.mask, Crb.mask, Idn.mask, h_idn]; done) | ((simp [Power.mask, Win.mask, Params.mask, Crb.mask, Idn.mask, h_idn]) <;> (repeat' split) <;> simp [Power.mask, Win.mask, Params.mask, Crb.mask, Idn.mask, h_idn]))

@[simp] theorem commitApplied_mask (m : Part → Bool) (s : State) (h_irq : m .irq = true) (h_inUse : m .inUse = true) (h_par : m .par = true) (h_idn : m .idn = true) : (commitApplied s).mask m = s.mask m := by
  unfold commitApplied
  (repeat' split) <;> (first | (simp [Power.mask, Win.mask, Params.mask, Crb.mask, Idn.mask, h_irq, h_inUse, h_par, h_idn]; done) | ((simp [Power.mask, Win.mask, Params.mask, Crb.mask, Idn.mask, h_irq, h_inUse, h_par, h_idn]) <;> (repeat' split) <;> simp [Power.mask, Win.mask, Params.mask, Crb.mask, Idn.mask, h_irq, h_inUse, h_par, h_idn]))

@[simp] theorem judgeCapture_mask (m : Part → Bool) (s : State) (h_irq : m .irq = true) (h_par : m .par = true) (h_idn : m .idn = true) : (judgeCapture s).mask m = s.mask m := by
  unfold judgeCapture
  (repeat' split) <;> (first | (simp [Power.mask, Win.mask, Params.mask, Crb.mask, Idn.mask, h_irq, h_par, h_idn]; done) | ((simp [Power.mask, Win.mask, Params.mask, Crb.mask, Idn.mask, h_irq, h_par, h_idn]) <;> (repeat' split) <;> simp [Power.mask, Win.mask, Params.mask, Crb.mask, Idn.mask, h_irq, h_par, h_idn]))

@[simp] theorem loopTook_mask (m : Part → Bool) (a0 : Fin 16) (a1 : State) (s : State) (h_loops : m .loops = true) (h_phases : m .phases = true) : (loopTook a0 a1 s).mask m = s.mask m := by
  unfold loopTook
  (repeat' split) <;> (first | (simp [Power.mask, Win.mask, Params.mask, Crb.mask, Idn.mask, h_loops, h_phases]; done) | ((simp [Power.mask, Win.mask, Params.mask, Crb.mask, Idn.mask, h_loops, h_phases]) <;> (repeat' split) <;> simp [Power.mask, Win.mask, Params.mask, Crb.mask, Idn.mask, h_loops, h_phases]))

@[simp] theorem chewTook_mask (m : Part → Bool) (s : State) (h_acp : m .acp = true) (h_lsh : m .lsh = true) (h_fch : m .fch = true) (h_chw : m .chw = true) : (chewTook s).mask m = s.mask m := by
  unfold chewTook
  (repeat' split) <;> (first | (simp [Power.mask, Win.mask, Params.mask, Crb.mask, Idn.mask, h_acp, h_lsh, h_fch, h_chw]; done) | ((simp [Power.mask, Win.mask, Params.mask, Crb.mask, Idn.mask, h_acp, h_lsh, h_fch, h_chw]) <;> (repeat' split) <;> simp [Power.mask, Win.mask, Params.mask, Crb.mask, Idn.mask, h_acp, h_lsh, h_fch, h_chw]))

@[simp] theorem surveyTook_mask (m : Part → Bool) (a0 : State) (s : State) (h_svc : m .svc = true) : (surveyTook a0 s).mask m = s.mask m := by
  unfold surveyTook
  (repeat' split) <;> (first | (simp [Power.mask, Win.mask, Params.mask, Crb.mask, Idn.mask, h_svc]; done) | ((simp [Power.mask, Win.mask, Params.mask, Crb.mask, Idn.mask, h_svc]) <;> (repeat' split) <;> simp [Power.mask, Win.mask, Params.mask, Crb.mask, Idn.mask, h_svc]))

@[simp] theorem protTook_mask (m : Part → Bool) (a0 : State) (s : State) (h_log : m .log = true) (h_loops : m .loops = true) (h_prot : m .prot = true) : (protTook a0 s).mask m = s.mask m := by
  unfold protTook
  (repeat' split) <;> (first | (simp [Power.mask, Win.mask, Params.mask, Crb.mask, Idn.mask, h_log, h_loops, h_prot]; done) | ((simp [Power.mask, Win.mask, Params.mask, Crb.mask, Idn.mask, h_log, h_loops, h_prot]) <;> (repeat' split) <;> simp [Power.mask, Win.mask, Params.mask, Crb.mask, Idn.mask, h_log, h_loops, h_prot]))

@[simp] theorem pulsesTook_mask (m : Part → Bool) (s : State) (h_pins : m .pins = true) : (pulsesTook s).mask m = s.mask m := by
  unfold pulsesTook
  (repeat' split) <;> (first | (simp [Power.mask, Win.mask, Params.mask, Crb.mask, Idn.mask, h_pins]; done) | ((simp [Power.mask, Win.mask, Params.mask, Crb.mask, Idn.mask, h_pins]) <;> (repeat' split) <;> simp [Power.mask, Win.mask, Params.mask, Crb.mask, Idn.mask, h_pins]))

@[simp] theorem stbTook_mask (m : Part → Bool) (a0 : State) (s : State) (h_loops : m .loops = true) (h_stb : m .stb = true) : (stbTook a0 s).mask m = s.mask m := by
  unfold stbTook
  (repeat' split) <;> (first | (simp [Power.mask, Win.mask, Params.mask, Crb.mask, Idn.mask, h_loops, h_stb]; done) | ((simp [Power.mask, Win.mask, Params.mask, Crb.mask, Idn.mask, h_loops, h_stb]) <;> (repeat' split) <;> simp [Power.mask, Win.mask, Params.mask, Crb.mask, Idn.mask, h_loops, h_stb]))

@[simp] theorem pageTook_mask (m : Part → Bool) (a0 : ℕ) (a1 : State) (s : State) (h_irq : m .irq = true) (h_log : m .log = true) (h_loops : m .loops = true) (h_svc : m .svc = true) (h_stb : m .stb = true) (h_prot : m .prot = true) (h_acp : m .acp = true) (h_peers : m .peers = true) (h_lsh : m .lsh = true) (h_fch : m .fch = true) (h_chw : m .chw = true) (h_pins : m .pins = true) : (pageTook a0 a1 s).mask m = s.mask m := by
  unfold pageTook
  (repeat' split) <;> (first | (simp [Power.mask, Win.mask, Params.mask, Crb.mask, Idn.mask, h_irq, h_log, h_loops, h_svc, h_stb, h_prot, h_acp, h_peers, h_lsh, h_fch, h_chw, h_pins]; done) | ((simp [Power.mask, Win.mask, Params.mask, Crb.mask, Idn.mask, h_irq, h_log, h_loops, h_svc, h_stb, h_prot, h_acp, h_peers, h_lsh, h_fch, h_chw, h_pins]) <;> (repeat' split) <;> simp [Power.mask, Win.mask, Params.mask, Crb.mask, Idn.mask, h_irq, h_log, h_loops, h_svc, h_stb, h_prot, h_acp, h_peers, h_lsh, h_fch, h_chw, h_pins]))

@[simp] theorem commitApply_mask (m : Part → Bool) (a0 : Taker) (s : State) (h_irq : m .irq = true) (h_log : m .log = true) (h_inUse : m .inUse = true) (h_par : m .par = true) (h_loops : m .loops = true) (h_phases : m .phases = true) (h_svc : m .svc = true) (h_stb : m .stb = true) (h_prot : m .prot = true) (h_acp : m .acp = true) (h_peers : m .peers = true) (h_lsh : m .lsh = true) (h_fch : m .fch = true) (h_idn : m .idn = true) (h_chw : m .chw = true) (h_pins : m .pins = true) : (commitApply a0 s).mask m = s.mask m := by
  simp only [commitApply]
  apply mask_iteS
  all_goals (split <;> simp [Power.mask, Win.mask, Params.mask, Crb.mask, Idn.mask, h_irq, h_log, h_inUse, h_par, h_loops, h_phases, h_svc, h_stb, h_prot, h_acp, h_peers, h_lsh, h_fch, h_idn, h_chw, h_pins])

@[simp] theorem endUnlock_mask (m : Part → Bool) (s : State) (h_idn : m .idn = true) : (endUnlock s).mask m = s.mask m := by
  unfold endUnlock
  (repeat' split) <;> (first | (simp [Power.mask, Win.mask, Params.mask, Crb.mask, Idn.mask, h_idn]; done) | ((simp [Power.mask, Win.mask, Params.mask, Crb.mask, Idn.mask, h_idn]) <;> (repeat' split) <;> simp [Power.mask, Win.mask, Params.mask, Crb.mask, Idn.mask, h_idn]))

@[simp] theorem tokenAccept_mask (m : Part → Bool) (a0 : List Byte) (s : State) (h_tokCnt : m .tokCnt = true) (h_opk : m .opk = true) (h_idn : m .idn = true) : (tokenAccept a0 s).mask m = s.mask m := by
  unfold tokenAccept
  (repeat' split) <;> (first | (simp [Power.mask, Win.mask, Params.mask, Crb.mask, Idn.mask, h_tokCnt, h_opk, h_idn]; done) | ((simp [Power.mask, Win.mask, Params.mask, Crb.mask, Idn.mask, h_tokCnt, h_opk, h_idn]) <;> (repeat' split) <;> simp [Power.mask, Win.mask, Params.mask, Crb.mask, Idn.mask, h_tokCnt, h_opk, h_idn]))

@[simp] theorem fillOut_mask (m : Part → Bool) (a0 : List Byte) (s : State) (h_idn : m .idn = true) : (fillOut a0 s).mask m = s.mask m := by
  unfold fillOut
  (repeat' split) <;> (first | (simp [Power.mask, Win.mask, Params.mask, Crb.mask, Idn.mask, h_idn]; done) | ((simp [Power.mask, Win.mask, Params.mask, Crb.mask, Idn.mask, h_idn]) <;> (repeat' split) <;> simp [Power.mask, Win.mask, Params.mask, Crb.mask, Idn.mask, h_idn]))

@[simp] theorem tokenResult_mask (m : Part → Bool) (a0 : ℕ) (s : State) (h_irq : m .irq = true) (h_idn : m .idn = true) : (tokenResult a0 s).mask m = s.mask m := by
  unfold tokenResult
  (repeat' split) <;> (first | (simp [Power.mask, Win.mask, Params.mask, Crb.mask, Idn.mask, h_irq, h_idn]; done) | ((simp [Power.mask, Win.mask, Params.mask, Crb.mask, Idn.mask, h_irq, h_idn]) <;> (repeat' split) <;> simp [Power.mask, Win.mask, Params.mask, Crb.mask, Idn.mask, h_irq, h_idn]))

@[simp] theorem tokenOutcome_mask (m : Part → Bool) (a0 : IdnCmd) (s : State) (h_irq : m .irq = true) (h_tokCnt : m .tokCnt = true) (h_opk : m .opk = true) (h_idn : m .idn = true) : (tokenOutcome a0 s).mask m = s.mask m := by
  unfold tokenOutcome
  (repeat' split) <;> (first | (simp [Power.mask, Win.mask, Params.mask, Crb.mask, Idn.mask, h_irq, h_tokCnt, h_opk, h_idn]; done) | ((simp [Power.mask, Win.mask, Params.mask, Crb.mask, Idn.mask, h_irq, h_tokCnt, h_opk, h_idn]) <;> (repeat' split) <;> simp [Power.mask, Win.mask, Params.mask, Crb.mask, Idn.mask, h_irq, h_tokCnt, h_opk, h_idn]))

@[simp] theorem tokenDone_mask (m : Part → Bool) (s : State) (h_irq : m .irq = true) (h_tokCnt : m .tokCnt = true) (h_opk : m .opk = true) (h_idn : m .idn = true) : (tokenDone s).mask m = s.mask m := by
  unfold tokenDone
  (repeat' split) <;> (first | (simp [Power.mask, Win.mask, Params.mask, Crb.mask, Idn.mask, h_irq, h_tokCnt, h_opk, h_idn]; done) | ((simp [Power.mask, Win.mask, Params.mask, Crb.mask, Idn.mask, h_irq, h_tokCnt, h_opk, h_idn]) <;> (repeat' split) <;> simp [Power.mask, Win.mask, Params.mask, Crb.mask, Idn.mask, h_irq, h_tokCnt, h_opk, h_idn]))

@[simp] theorem tokenStart_mask (m : Part → Bool) (a0 : IdnCmd) (s : State) (h_idn : m .idn = true) : (tokenStart a0 s).mask m = s.mask m := by
  unfold tokenStart
  (repeat' split) <;> (first | (simp [Power.mask, Win.mask, Params.mask, Crb.mask, Idn.mask, h_idn]; done) | ((simp [Power.mask, Win.mask, Params.mask, Crb.mask, Idn.mask, h_idn]) <;> (repeat' split) <;> simp [Power.mask, Win.mask, Params.mask, Crb.mask, Idn.mask, h_idn]))

@[simp] theorem tokenClearIn_mask (m : Part → Bool) (s : State) (h_idn : m .idn = true) : (tokenClearIn s).mask m = s.mask m := by
  unfold tokenClearIn
  (repeat' split) <;> (first | (simp [Power.mask, Win.mask, Params.mask, Crb.mask, Idn.mask, h_idn]; done) | ((simp [Power.mask, Win.mask, Params.mask, Crb.mask, Idn.mask, h_idn]) <;> (repeat' split) <;> simp [Power.mask, Win.mask, Params.mask, Crb.mask, Idn.mask, h_idn]))

@[simp] theorem tokenDrop_mask (m : Part → Bool) (s : State) (h_irq : m .irq = true) (h_idn : m .idn = true) : (tokenDrop s).mask m = s.mask m := by
  unfold tokenDrop
  (repeat' split) <;> (first | (simp [Power.mask, Win.mask, Params.mask, Crb.mask, Idn.mask, h_irq, h_idn]; done) | ((simp [Power.mask, Win.mask, Params.mask, Crb.mask, Idn.mask, h_irq, h_idn]) <;> (repeat' split) <;> simp [Power.mask, Win.mask, Params.mask, Crb.mask, Idn.mask, h_irq, h_idn]))

@[simp] theorem tokenRewind_mask (m : Part → Bool) (s : State) (h_idn : m .idn = true) : (tokenRewind s).mask m = s.mask m := by
  unfold tokenRewind
  (repeat' split) <;> (first | (simp [Power.mask, Win.mask, Params.mask, Crb.mask, Idn.mask, h_idn]; done) | ((simp [Power.mask, Win.mask, Params.mask, Crb.mask, Idn.mask, h_idn]) <;> (repeat' split) <;> simp [Power.mask, Win.mask, Params.mask, Crb.mask, Idn.mask, h_idn]))

@[simp] theorem tokenCtlWrite_mask (m : Part → Bool) (a0 : W16) (s : State) (h_irq : m .irq = true) (h_idn : m .idn = true) : (tokenCtlWrite a0 s).mask m = s.mask m := by
  unfold tokenCtlWrite
  (repeat' split) <;> (first | (simp [Power.mask, Win.mask, Params.mask, Crb.mask, Idn.mask, h_irq, h_idn]; done) | ((simp [Power.mask, Win.mask, Params.mask, Crb.mask, Idn.mask, h_irq, h_idn]) <;> (repeat' split) <;> simp [Power.mask, Win.mask, Params.mask, Crb.mask, Idn.mask, h_irq, h_idn]))

@[simp] theorem portWrite_mask (m : Part → Bool) (a0 : W16) (s : State) (h_idn : m .idn = true) : (portWrite a0 s).mask m = s.mask m := by
  unfold portWrite
  (repeat' split) <;> (first | (simp [Power.mask, Win.mask, Params.mask, Crb.mask, Idn.mask, h_idn]; done) | ((simp [Power.mask, Win.mask, Params.mask, Crb.mask, Idn.mask, h_idn]) <;> (repeat' split) <;> simp [Power.mask, Win.mask, Params.mask, Crb.mask, Idn.mask, h_idn]))

@[simp] theorem portRead_mask (m : Part → Bool) (s : State) (h_win : m .win = true) (h_idn : m .idn = true) : (portRead s).mask m = s.mask m := by
  unfold portRead
  (repeat' split) <;> (first | (simp [Power.mask, Win.mask, Params.mask, Crb.mask, Idn.mask, h_win, h_idn]; done) | ((simp [Power.mask, Win.mask, Params.mask, Crb.mask, Idn.mask, h_win, h_idn]) <;> (repeat' split) <;> simp [Power.mask, Win.mask, Params.mask, Crb.mask, Idn.mask, h_win, h_idn]))

@[simp] theorem idnBoot_mask (m : Part → Bool) (s : State) (h_idn : m .idn = true) : (idnBoot s).mask m = s.mask m := by
  unfold idnBoot
  (repeat' split) <;> (first | (simp [Power.mask, Win.mask, Params.mask, Crb.mask, Idn.mask, h_idn]; done) | ((simp [Power.mask, Win.mask, Params.mask, Crb.mask, Idn.mask, h_idn]) <;> (repeat' split) <;> simp [Power.mask, Win.mask, Params.mask, Crb.mask, Idn.mask, h_idn]))

@[simp] theorem setReason_mask (m : Part → Bool) (a0 : Bool) (a1 : ℕ) (s : State) (h_nvm : m .nvm = true) : (setReason a0 a1 s).mask m = s.mask m := by
  unfold setReason
  (repeat' split) <;> (first | (simp [Power.mask, Win.mask, Params.mask, Crb.mask, Idn.mask, h_nvm]; done) | ((simp [Power.mask, Win.mask, Params.mask, Crb.mask, Idn.mask, h_nvm]) <;> (repeat' split) <;> simp [Power.mask, Win.mask, Params.mask, Crb.mask, Idn.mask, h_nvm]))

@[simp] theorem bootTake_mask (m : Part → Bool) (a0 : ℕ) (a1 : List Byte) (a2 : List (ℕ × W16) × Bool) (s : State) (h_power : m .power = true) (h_inUse : m .inUse = true) (h_par : m .par = true) (h_nvm : m .nvm = true) : (bootTake a0 a1 a2 s).mask m = s.mask m := by
  unfold bootTake
  (repeat' split) <;> (first | (simp [Power.mask, Win.mask, Params.mask, Crb.mask, Idn.mask, h_power, h_inUse, h_par, h_nvm]; done) | ((simp [Power.mask, Win.mask, Params.mask, Crb.mask, Idn.mask, h_power, h_inUse, h_par, h_nvm]) <;> (repeat' split) <;> simp [Power.mask, Win.mask, Params.mask, Crb.mask, Idn.mask, h_power, h_inUse, h_par, h_nvm]))

@[simp] theorem countTrial_mask (m : Part → Bool) (a0 : Bool) (s : State) (h_nvm : m .nvm = true) : (countTrial a0 s).mask m = s.mask m := by
  unfold countTrial
  (repeat' split) <;> (first | (simp [Power.mask, Win.mask, Params.mask, Crb.mask, Idn.mask, h_nvm]; done) | ((simp [Power.mask, Win.mask, Params.mask, Crb.mask, Idn.mask, h_nvm]) <;> (repeat' split) <;> simp [Power.mask, Win.mask, Params.mask, Crb.mask, Idn.mask, h_nvm]))

@[simp] theorem countTrials_mask (m : Part → Bool) (base : List (Nat × W16)) (l : List Bool) (s : State) (h_nvm : m .nvm = true) : (countTrials base l s).mask m = s.mask m := by
  induction l generalizing s with
  | nil => rfl
  | cons b l ih =>
    simp only [countTrials]
    split <;> simp [ih, h_nvm]

@[simp] theorem tryMtp_mask (m : Part → Bool) (base : List (Nat × W16)) (l : List Bool) (s : State) (h_power : m .power = true) (h_inUse : m .inUse = true) (h_par : m .par = true) (h_nvm : m .nvm = true) : (tryMtp base l s).mask m = s.mask m := by
  induction l generalizing s with
  | nil => rfl
  | cons b l ih =>
    simp only [tryMtp]
    split <;> simp [ih, h_power, h_inUse, h_par, h_nvm]

@[simp] theorem findCands_mask (m : Part → Bool) (s : State) (h_nvm : m .nvm = true) : (findCands s).mask m = s.mask m := by
  unfold findCands
  (repeat' split) <;> (first | (simp [Power.mask, Win.mask, Params.mask, Crb.mask, Idn.mask, h_nvm]; done) | ((simp [Power.mask, Win.mask, Params.mask, Crb.mask, Idn.mask, h_nvm]) <;> (repeat' split) <;> simp [Power.mask, Win.mask, Params.mask, Crb.mask, Idn.mask, h_nvm]))

@[simp] theorem noCandidate_mask (m : Part → Bool) (a0 : Bool) (s : State) (h_nvm : m .nvm = true) : (noCandidate a0 s).mask m = s.mask m := by
  unfold noCandidate
  (repeat' split) <;> (first | (simp [Power.mask, Win.mask, Params.mask, Crb.mask, Idn.mask, h_nvm]; done) | ((simp [Power.mask, Win.mask, Params.mask, Crb.mask, Idn.mask, h_nvm]) <;> (repeat' split) <;> simp [Power.mask, Win.mask, Params.mask, Crb.mask, Idn.mask, h_nvm]))

@[simp] theorem loadMtp_mask (m : Part → Bool) (a0 : List (ℕ × W16)) (s : State) (h_power : m .power = true) (h_inUse : m .inUse = true) (h_par : m .par = true) (h_nvm : m .nvm = true) : (loadMtp a0 s).mask m = s.mask m := by
  unfold loadMtp
  (repeat' split) <;> (first | (simp [Power.mask, Win.mask, Params.mask, Crb.mask, Idn.mask, h_power, h_inUse, h_par, h_nvm]; done) | ((simp [Power.mask, Win.mask, Params.mask, Crb.mask, Idn.mask, h_power, h_inUse, h_par, h_nvm]) <;> (repeat' split) <;> simp [Power.mask, Win.mask, Params.mask, Crb.mask, Idn.mask, h_power, h_inUse, h_par, h_nvm]))

@[simp] theorem loadEeprom_mask (m : Part → Bool) (a0 : List (ℕ × W16)) (a1 : Option (List Byte)) (s : State) (h_power : m .power = true) (h_inUse : m .inUse = true) (h_par : m .par = true) (h_nvm : m .nvm = true) : (loadEeprom a0 a1 s).mask m = s.mask m := by
  unfold loadEeprom
  (repeat' split) <;> (first | (simp [Power.mask, Win.mask, Params.mask, Crb.mask, Idn.mask, h_power, h_inUse, h_par, h_nvm]; done) | ((simp [Power.mask, Win.mask, Params.mask, Crb.mask, Idn.mask, h_power, h_inUse, h_par, h_nvm]) <;> (repeat' split) <;> simp [Power.mask, Win.mask, Params.mask, Crb.mask, Idn.mask, h_power, h_inUse, h_par, h_nvm]))

@[simp] theorem bootLoad_mask (m : Part → Bool) (a0 : Option (List Byte)) (s : State) (h_power : m .power = true) (h_proof : m .proof = true) (h_inUse : m .inUse = true) (h_par : m .par = true) (h_nvm : m .nvm = true) : (bootLoad a0 s).mask m = s.mask m := by
  unfold bootLoad
  (repeat' split) <;> (first | (simp [Power.mask, Win.mask, Params.mask, Crb.mask, Idn.mask, h_power, h_proof, h_inUse, h_par, h_nvm]; done) | ((simp [Power.mask, Win.mask, Params.mask, Crb.mask, Idn.mask, h_power, h_proof, h_inUse, h_par, h_nvm]) <;> (repeat' split) <;> simp [Power.mask, Win.mask, Params.mask, Crb.mask, Idn.mask, h_power, h_proof, h_inUse, h_par, h_nvm]))

@[simp] theorem kennelTake_mask (m : Part → Bool) (a0 : Option W16) (s : State) (h_power : m .power = true) (h_loops : m .loops = true) (h_phases : m .phases = true) (h_acp : m .acp = true) : (kennelTake a0 s).mask m = s.mask m := by
  unfold kennelTake
  (repeat' split) <;> (first | (simp [Power.mask, Win.mask, Params.mask, Crb.mask, Idn.mask, h_power, h_loops, h_phases, h_acp]; done) | ((simp [Power.mask, Win.mask, Params.mask, Crb.mask, Idn.mask, h_power, h_loops, h_phases, h_acp]) <;> (repeat' split) <;> simp [Power.mask, Win.mask, Params.mask, Crb.mask, Idn.mask, h_power, h_loops, h_phases, h_acp]))

@[simp] theorem lp15Stop_mask (m : Part → Bool) (s : State) (h_g : m .g = true) (h_power : m .power = true) (h_loops : m .loops = true) (h_phases : m .phases = true) : (lp15Stop s).mask m = s.mask m := by
  unfold lp15Stop
  (repeat' split) <;> (first | (simp [Power.mask, Win.mask, Params.mask, Crb.mask, Idn.mask, h_g, h_power, h_loops, h_phases]; done) | ((simp [Power.mask, Win.mask, Params.mask, Crb.mask, Idn.mask, h_g, h_power, h_loops, h_phases]) <;> (repeat' split) <;> simp [Power.mask, Win.mask, Params.mask, Crb.mask, Idn.mask, h_g, h_power, h_loops, h_phases]))

@[simp] theorem lp15Configured_mask (m : Part → Bool) (s : State) (h_power : m .power = true) (h_loops : m .loops = true) (h_phases : m .phases = true) : (lp15Configured s).mask m = s.mask m := by
  unfold lp15Configured
  (repeat' split) <;> (first | (simp [Power.mask, Win.mask, Params.mask, Crb.mask, Idn.mask, h_power, h_loops, h_phases]; done) | ((simp [Power.mask, Win.mask, Params.mask, Crb.mask, Idn.mask, h_power, h_loops, h_phases]) <;> (repeat' split) <;> simp [Power.mask, Win.mask, Params.mask, Crb.mask, Idn.mask, h_power, h_loops, h_phases]))

@[simp] theorem lp15Ready_mask (m : Part → Bool) (s : State) (h_g : m .g = true) (h_power : m .power = true) (h_loops : m .loops = true) (h_phases : m .phases = true) (h_acp : m .acp = true) (h_damp : m .damp = true) : (lp15Ready s).mask m = s.mask m := by
  unfold lp15Ready
  (repeat' split) <;> (first | (simp [Power.mask, Win.mask, Params.mask, Crb.mask, Idn.mask, h_g, h_power, h_loops, h_phases, h_acp, h_damp]; done) | ((simp [Power.mask, Win.mask, Params.mask, Crb.mask, Idn.mask, h_g, h_power, h_loops, h_phases, h_acp, h_damp]) <;> (repeat' split) <;> simp [Power.mask, Win.mask, Params.mask, Crb.mask, Idn.mask, h_g, h_power, h_loops, h_phases, h_acp, h_damp]))

@[simp] theorem failAttempt_mask (m : Part → Bool) (a0 : BitVec 3) (s : State) (h_g : m .g = true) (h_power : m .power = true) (h_loops : m .loops = true) (h_phases : m .phases = true) : (failAttempt a0 s).mask m = s.mask m := by
  unfold failAttempt
  (repeat' split) <;> (first | (simp [Power.mask, Win.mask, Params.mask, Crb.mask, Idn.mask, h_g, h_power, h_loops, h_phases]; done) | ((simp [Power.mask, Win.mask, Params.mask, Crb.mask, Idn.mask, h_g, h_power, h_loops, h_phases]) <;> (repeat' split) <;> simp [Power.mask, Win.mask, Params.mask, Crb.mask, Idn.mask, h_g, h_power, h_loops, h_phases]))

@[simp] theorem tryAttempt_mask (m : Part → Bool) (a0 : W16) (s : State) (h_g : m .g = true) (h_power : m .power = true) (h_loops : m .loops = true) (h_phases : m .phases = true) (h_acp : m .acp = true) (h_damp : m .damp = true) : (tryAttempt a0 s).mask m = s.mask m := by
  unfold tryAttempt
  (repeat' split) <;> (first | (simp [Power.mask, Win.mask, Params.mask, Crb.mask, Idn.mask, h_g, h_power, h_loops, h_phases, h_acp, h_damp]; done) | ((simp [Power.mask, Win.mask, Params.mask, Crb.mask, Idn.mask, h_g, h_power, h_loops, h_phases, h_acp, h_damp]) <;> (repeat' split) <;> simp [Power.mask, Win.mask, Params.mask, Crb.mask, Idn.mask, h_g, h_power, h_loops, h_phases, h_acp, h_damp]))

@[simp] theorem readKv_mask (m : Part → Bool) (a0 : BitVec 2) (s : State) (h_power : m .power = true) : (readKv a0 s).mask m = s.mask m := by
  unfold readKv
  (repeat' split) <;> (first | (simp [Power.mask, Win.mask, Params.mask, Crb.mask, Idn.mask, h_power]; done) | ((simp [Power.mask, Win.mask, Params.mask, Crb.mask, Idn.mask, h_power]) <;> (repeat' split) <;> simp [Power.mask, Win.mask, Params.mask, Crb.mask, Idn.mask, h_power]))

@[simp] theorem vhvRise_mask (m : Part → Bool) (a0 : BitVec 2) (s : State) (h_g : m .g = true) (h_power : m .power = true) (h_phases : m .phases = true) : (vhvRise a0 s).mask m = s.mask m := by
  unfold vhvRise
  (repeat' split) <;> (first | (simp [Power.mask, Win.mask, Params.mask, Crb.mask, Idn.mask, h_g, h_power, h_phases]; done) | ((simp [Power.mask, Win.mask, Params.mask, Crb.mask, Idn.mask, h_g, h_power, h_phases]) <;> (repeat' split) <;> simp [Power.mask, Win.mask, Params.mask, Crb.mask, Idn.mask, h_g, h_power, h_phases]))

@[simp] theorem pinsOff_mask (m : Part → Bool) (a0 : Fin 64 → Bool) (s : State) (h_phases : m .phases = true) : (pinsOff a0 s).mask m = s.mask m := by
  unfold pinsOff
  (repeat' split) <;> (first | (simp [Power.mask, Win.mask, Params.mask, Crb.mask, Idn.mask, h_phases]; done) | ((simp [Power.mask, Win.mask, Params.mask, Crb.mask, Idn.mask, h_phases]) <;> (repeat' split) <;> simp [Power.mask, Win.mask, Params.mask, Crb.mask, Idn.mask, h_phases]))

@[simp] theorem vhvFall_mask (m : Part → Bool) (s : State) (h_g : m .g = true) (h_power : m .power = true) (h_loops : m .loops = true) (h_phases : m .phases = true) : (vhvFall s).mask m = s.mask m := by
  unfold vhvFall
  (repeat' split) <;> (first | (simp [Power.mask, Win.mask, Params.mask, Crb.mask, Idn.mask, h_g, h_power, h_loops, h_phases]; done) | ((simp [Power.mask, Win.mask, Params.mask, Crb.mask, Idn.mask, h_g, h_power, h_loops, h_phases]) <;> (repeat' split) <;> simp [Power.mask, Win.mask, Params.mask, Crb.mask, Idn.mask, h_g, h_power, h_loops, h_phases]))

@[simp] theorem vhvOvlo_mask (m : Part → Bool) (s : State) (h_g : m .g = true) (h_power : m .power = true) (h_loops : m .loops = true) (h_phases : m .phases = true) : (vhvOvlo s).mask m = s.mask m := by
  unfold vhvOvlo
  (repeat' split) <;> (first | (simp [Power.mask, Win.mask, Params.mask, Crb.mask, Idn.mask, h_g, h_power, h_loops, h_phases]; done) | ((simp [Power.mask, Win.mask, Params.mask, Crb.mask, Idn.mask, h_g, h_power, h_loops, h_phases]) <;> (repeat' split) <;> simp [Power.mask, Win.mask, Params.mask, Crb.mask, Idn.mask, h_g, h_power, h_loops, h_phases]))

@[simp] theorem resetLoops_mask (m : Part → Bool) (a0 : Bool) (s : State) (h_loops : m .loops = true) (h_phases : m .phases = true) : (resetLoops a0 s).mask m = s.mask m := by
  unfold resetLoops
  (repeat' split) <;> (first | (simp [Power.mask, Win.mask, Params.mask, Crb.mask, Idn.mask, h_loops, h_phases]; done) | ((simp [Power.mask, Win.mask, Params.mask, Crb.mask, Idn.mask, h_loops, h_phases]) <;> (repeat' split) <;> simp [Power.mask, Win.mask, Params.mask, Crb.mask, Idn.mask, h_loops, h_phases]))

@[simp] theorem resetUnits_mask (m : Part → Bool) (s : State) (h_irq : m .irq = true) (h_win : m .win = true) (h_par : m .par = true) (h_conv : m .conv = true) (h_lanes : m .lanes = true) (h_svc : m .svc = true) (h_snap : m .snap = true) (h_stb : m .stb = true) (h_prot : m .prot = true) (h_acp : m .acp = true) (h_peers : m .peers = true) (h_lsh : m .lsh = true) (h_swp : m .swp = true) (h_damp : m .damp = true) (h_gsp : m .gsp = true) (h_fch : m .fch = true) (h_chw : m .chw = true) (h_pins : m .pins = true) : (resetUnits s).mask m = s.mask m := by
  unfold resetUnits
  (repeat' split) <;> (first | (simp [Power.mask, Win.mask, Params.mask, Crb.mask, Idn.mask, h_irq, h_win, h_par, h_conv, h_lanes, h_svc, h_snap, h_stb, h_prot, h_acp, h_peers, h_lsh, h_swp, h_damp, h_gsp, h_fch, h_chw, h_pins]; done) | ((simp [Power.mask, Win.mask, Params.mask, Crb.mask, Idn.mask, h_irq, h_win, h_par, h_conv, h_lanes, h_svc, h_snap, h_stb, h_prot, h_acp, h_peers, h_lsh, h_swp, h_damp, h_gsp, h_fch, h_chw, h_pins]) <;> (repeat' split) <;> simp [Power.mask, Win.mask, Params.mask, Crb.mask, Idn.mask, h_irq, h_win, h_par, h_conv, h_lanes, h_svc, h_snap, h_stb, h_prot, h_acp, h_peers, h_lsh, h_swp, h_damp, h_gsp, h_fch, h_chw, h_pins]))

@[simp] theorem keepQueue_mask (m : Part → Bool)  (l : List (LogEntry × Nat)) (s : State) (h_free : m .free = true) (h_irq : m .irq = true) (h_log : m .log = true) (h_sram : m .sram = true) : (keepQueue  l s).mask m = s.mask m := by
  induction l generalizing s with
  | nil => rfl
  | cons x l ih => simp [keepQueue, ih, h_free, h_irq, h_log, h_sram]

@[simp] theorem countBoot_mask (m : Part → Bool) (s : State) (h_bootCnt : m .bootCnt = true) (h_power : m .power = true) : (countBoot s).mask m = s.mask m := by
  unfold countBoot
  (repeat' split) <;> (first | (simp [Power.mask, Win.mask, Params.mask, Crb.mask, Idn.mask, h_bootCnt, h_power]; done) | ((simp [Power.mask, Win.mask, Params.mask, Crb.mask, Idn.mask, h_bootCnt, h_power]) <;> (repeat' split) <;> simp [Power.mask, Win.mask, Params.mask, Crb.mask, Idn.mask, h_bootCnt, h_power]))

@[simp] theorem fullReset_mask (m : Part → Bool) (a0 : BitVec 6) (s : State) (h_free : m .free = true) (h_g : m .g = true) (h_bootCnt : m .bootCnt = true) (h_power : m .power = true) (h_irq : m .irq = true) (h_win : m .win = true) (h_log : m .log = true) (h_par : m .par = true) (h_nvm : m .nvm = true) (h_loops : m .loops = true) (h_phases : m .phases = true) (h_conv : m .conv = true) (h_lanes : m .lanes = true) (h_svc : m .svc = true) (h_snap : m .snap = true) (h_stb : m .stb = true) (h_prot : m .prot = true) (h_acp : m .acp = true) (h_peers : m .peers = true) (h_lsh : m .lsh = true) (h_swp : m .swp = true) (h_damp : m .damp = true) (h_gsp : m .gsp = true) (h_fch : m .fch = true) (h_sram : m .sram = true) (h_chw : m .chw = true) (h_pins : m .pins = true) : (fullReset a0 s).mask m = s.mask m := by
  unfold fullReset
  (repeat' split) <;> (first | (simp [Power.mask, Win.mask, Params.mask, Crb.mask, Idn.mask, h_free, h_g, h_bootCnt, h_power, h_irq, h_win, h_log, h_par, h_nvm, h_loops, h_phases, h_conv, h_lanes, h_svc, h_snap, h_stb, h_prot, h_acp, h_peers, h_lsh, h_swp, h_damp, h_gsp, h_fch, h_sram, h_chw, h_pins]; done) | ((simp [Power.mask, Win.mask, Params.mask, Crb.mask, Idn.mask, h_free, h_g, h_bootCnt, h_power, h_irq, h_win, h_log, h_par, h_nvm, h_loops, h_phases, h_conv, h_lanes, h_svc, h_snap, h_stb, h_prot, h_acp, h_peers, h_lsh, h_swp, h_damp, h_gsp, h_fch, h_sram, h_chw, h_pins]) <;> (repeat' split) <;> simp [Power.mask, Win.mask, Params.mask, Crb.mask, Idn.mask, h_free, h_g, h_bootCnt, h_power, h_irq, h_win, h_log, h_par, h_nvm, h_loops, h_phases, h_conv, h_lanes, h_svc, h_snap, h_stb, h_prot, h_acp, h_peers, h_lsh, h_swp, h_damp, h_gsp, h_fch, h_sram, h_chw, h_pins]))

@[simp] theorem bootReady_mask (m : Part → Bool) (s : State) (h_power : m .power = true) : (bootReady s).mask m = s.mask m := by
  unfold bootReady
  (repeat' split) <;> (first | (simp [Power.mask, Win.mask, Params.mask, Crb.mask, Idn.mask, h_power]; done) | ((simp [Power.mask, Win.mask, Params.mask, Crb.mask, Idn.mask, h_power]) <;> (repeat' split) <;> simp [Power.mask, Win.mask, Params.mask, Crb.mask, Idn.mask, h_power]))

@[simp] theorem vauxValid_mask (m : Part → Bool) (a0 : BitVec 2) (s : State) (h_g : m .g = true) (h_power : m .power = true) (h_phases : m .phases = true) : (vauxValid a0 s).mask m = s.mask m := by
  unfold vauxValid
  (repeat' split) <;> (first | (simp [Power.mask, Win.mask, Params.mask, Crb.mask, Idn.mask, h_g, h_power, h_phases]; done) | ((simp [Power.mask, Win.mask, Params.mask, Crb.mask, Idn.mask, h_g, h_power, h_phases]) <;> (repeat' split) <;> simp [Power.mask, Win.mask, Params.mask, Crb.mask, Idn.mask, h_g, h_power, h_phases]))

@[simp] theorem tokenCut_mask (m : Part → Bool) (s : State) (h_free : m .free = true) (h_tokCnt : m .tokCnt = true) : (tokenCut s).mask m = s.mask m := by
  unfold tokenCut
  (repeat' split) <;> (first | (simp [Power.mask, Win.mask, Params.mask, Crb.mask, Idn.mask, h_free, h_tokCnt]; done) | ((simp [Power.mask, Win.mask, Params.mask, Crb.mask, Idn.mask, h_free, h_tokCnt]) <;> (repeat' split) <;> simp [Power.mask, Win.mask, Params.mask, Crb.mask, Idn.mask, h_free, h_tokCnt]))

@[simp] theorem bootCut_mask (m : Part → Bool) (s : State) (h_free : m .free = true) (h_bootCnt : m .bootCnt = true) (h_power : m .power = true) : (bootCut s).mask m = s.mask m := by
  unfold bootCut
  (repeat' split) <;> (first | (simp [Power.mask, Win.mask, Params.mask, Crb.mask, Idn.mask, h_free, h_bootCnt, h_power]; done) | ((simp [Power.mask, Win.mask, Params.mask, Crb.mask, Idn.mask, h_free, h_bootCnt, h_power]) <;> (repeat' split) <;> simp [Power.mask, Win.mask, Params.mask, Crb.mask, Idn.mask, h_free, h_bootCnt, h_power]))

@[simp] theorem vauxLoss_mask (m : Part → Bool) (a0 : Bool) (s : State) (h_free : m .free = true) (h_g : m .g = true) (h_bootCnt : m .bootCnt = true) (h_power : m .power = true) (h_irq : m .irq = true) (h_win : m .win = true) (h_log : m .log = true) (h_proof : m .proof = true) (h_inUse : m .inUse = true) (h_par : m .par = true) (h_nvm : m .nvm = true) (h_loops : m .loops = true) (h_phases : m .phases = true) (h_conv : m .conv = true) (h_lanes : m .lanes = true) (h_svc : m .svc = true) (h_snap : m .snap = true) (h_stb : m .stb = true) (h_prot : m .prot = true) (h_acp : m .acp = true) (h_peers : m .peers = true) (h_lsh : m .lsh = true) (h_swp : m .swp = true) (h_damp : m .damp = true) (h_gsp : m .gsp = true) (h_fch : m .fch = true) (h_sram : m .sram = true) (h_tokCnt : m .tokCnt = true) (h_idn : m .idn = true) (h_chw : m .chw = true) (h_pins : m .pins = true) : (vauxLoss a0 s).mask m = s.mask m := by
  unfold vauxLoss
  (repeat' split) <;> (first | (simp [Power.mask, Win.mask, Params.mask, Crb.mask, Idn.mask, h_free, h_g, h_bootCnt, h_power, h_irq, h_win, h_log, h_proof, h_inUse, h_par, h_nvm, h_loops, h_phases, h_conv, h_lanes, h_svc, h_snap, h_stb, h_prot, h_acp, h_peers, h_lsh, h_swp, h_damp, h_gsp, h_fch, h_sram, h_tokCnt, h_idn, h_chw, h_pins]; done) | ((simp [Power.mask, Win.mask, Params.mask, Crb.mask, Idn.mask, h_free, h_g, h_bootCnt, h_power, h_irq, h_win, h_log, h_proof, h_inUse, h_par, h_nvm, h_loops, h_phases, h_conv, h_lanes, h_svc, h_snap, h_stb, h_prot, h_acp, h_peers, h_lsh, h_swp, h_damp, h_gsp, h_fch, h_sram, h_tokCnt, h_idn, h_chw, h_pins]) <;> (repeat' split) <;> simp [Power.mask, Win.mask, Params.mask, Crb.mask, Idn.mask, h_free, h_g, h_bootCnt, h_power, h_irq, h_win, h_log, h_proof, h_inUse, h_par, h_nvm, h_loops, h_phases, h_conv, h_lanes, h_svc, h_snap, h_stb, h_prot, h_acp, h_peers, h_lsh, h_swp, h_damp, h_gsp, h_fch, h_sram, h_tokCnt, h_idn, h_chw, h_pins]))

@[simp] theorem resetLow_mask (m : Part → Bool) (s : State) (h_free : m .free = true) (h_g : m .g = true) (h_bootCnt : m .bootCnt = true) (h_power : m .power = true) (h_irq : m .irq = true) (h_win : m .win = true) (h_log : m .log = true) (h_par : m .par = true) (h_nvm : m .nvm = true) (h_loops : m .loops = true) (h_phases : m .phases = true) (h_conv : m .conv = true) (h_lanes : m .lanes = true) (h_svc : m .svc = true) (h_snap : m .snap = true) (h_stb : m .stb = true) (h_prot : m .prot = true) (h_acp : m .acp = true) (h_peers : m .peers = true) (h_lsh : m .lsh = true) (h_swp : m .swp = true) (h_damp : m .damp = true) (h_gsp : m .gsp = true) (h_fch : m .fch = true) (h_sram : m .sram = true) (h_chw : m .chw = true) (h_pins : m .pins = true) : (resetLow s).mask m = s.mask m := by
  unfold resetLow
  (repeat' split) <;> (first | (simp [Power.mask, Win.mask, Params.mask, Crb.mask, Idn.mask, h_free, h_g, h_bootCnt, h_power, h_irq, h_win, h_log, h_par, h_nvm, h_loops, h_phases, h_conv, h_lanes, h_svc, h_snap, h_stb, h_prot, h_acp, h_peers, h_lsh, h_swp, h_damp, h_gsp, h_fch, h_sram, h_chw, h_pins]; done) | ((simp [Power.mask, Win.mask, Params.mask, Crb.mask, Idn.mask, h_free, h_g, h_bootCnt, h_power, h_irq, h_win, h_log, h_par, h_nvm, h_loops, h_phases, h_conv, h_lanes, h_svc, h_snap, h_stb, h_prot, h_acp, h_peers, h_lsh, h_swp, h_damp, h_gsp, h_fch, h_sram, h_chw, h_pins]) <;> (repeat' split) <;> simp [Power.mask, Win.mask, Params.mask, Crb.mask, Idn.mask, h_free, h_g, h_bootCnt, h_power, h_irq, h_win, h_log, h_par, h_nvm, h_loops, h_phases, h_conv, h_lanes, h_svc, h_snap, h_stb, h_prot, h_acp, h_peers, h_lsh, h_swp, h_damp, h_gsp, h_fch, h_sram, h_chw, h_pins]))

@[simp] theorem warmRequest_mask (m : Part → Bool) (a0 : BitVec 6) (s : State) (h_power : m .power = true) : (warmRequest a0 s).mask m = s.mask m := by
  unfold warmRequest
  (repeat' split) <;> (first | (simp [Power.mask, Win.mask, Params.mask, Crb.mask, Idn.mask, h_power]; done) | ((simp [Power.mask, Win.mask, Params.mask, Crb.mask, Idn.mask, h_power]) <;> (repeat' split) <;> simp [Power.mask, Win.mask, Params.mask, Crb.mask, Idn.mask, h_power]))

@[simp] theorem resetWrite_mask (m : Part → Bool) (a0 : W16) (s : State) (h_power : m .power = true) : (resetWrite a0 s).mask m = s.mask m := by
  unfold resetWrite
  (repeat' split) <;> (first | (simp [Power.mask, Win.mask, Params.mask, Crb.mask, Idn.mask, h_power]; done) | ((simp [Power.mask, Win.mask, Params.mask, Crb.mask, Idn.mask, h_power]) <;> (repeat' split) <;> simp [Power.mask, Win.mask, Params.mask, Crb.mask, Idn.mask, h_power]))

@[simp] theorem warmTry_mask (m : Part → Bool) (s : State) (h_free : m .free = true) (h_g : m .g = true) (h_bootCnt : m .bootCnt = true) (h_power : m .power = true) (h_irq : m .irq = true) (h_win : m .win = true) (h_log : m .log = true) (h_par : m .par = true) (h_nvm : m .nvm = true) (h_loops : m .loops = true) (h_phases : m .phases = true) (h_conv : m .conv = true) (h_lanes : m .lanes = true) (h_svc : m .svc = true) (h_snap : m .snap = true) (h_stb : m .stb = true) (h_prot : m .prot = true) (h_acp : m .acp = true) (h_peers : m .peers = true) (h_lsh : m .lsh = true) (h_swp : m .swp = true) (h_damp : m .damp = true) (h_gsp : m .gsp = true) (h_fch : m .fch = true) (h_sram : m .sram = true) (h_chw : m .chw = true) (h_pins : m .pins = true) : (warmTry s).mask m = s.mask m := by
  unfold warmTry
  (repeat' split) <;> (first | (simp [Power.mask, Win.mask, Params.mask, Crb.mask, Idn.mask, h_free, h_g, h_bootCnt, h_power, h_irq, h_win, h_log, h_par, h_nvm, h_loops, h_phases, h_conv, h_lanes, h_svc, h_snap, h_stb, h_prot, h_acp, h_peers, h_lsh, h_swp, h_damp, h_gsp, h_fch, h_sram, h_chw, h_pins]; done) | ((simp [Power.mask, Win.mask, Params.mask, Crb.mask, Idn.mask, h_free, h_g, h_bootCnt, h_power, h_irq, h_win, h_log, h_par, h_nvm, h_loops, h_phases, h_conv, h_lanes, h_svc, h_snap, h_stb, h_prot, h_acp, h_peers, h_lsh, h_swp, h_damp, h_gsp, h_fch, h_sram, h_chw, h_pins]) <;> (repeat' split) <;> simp [Power.mask, Win.mask, Params.mask, Crb.mask, Idn.mask, h_free, h_g, h_bootCnt, h_power, h_irq, h_win, h_log, h_par, h_nvm, h_loops, h_phases, h_conv, h_lanes, h_svc, h_snap, h_stb, h_prot, h_acp, h_peers, h_lsh, h_swp, h_damp, h_gsp, h_fch, h_sram, h_chw, h_pins]))

@[simp] theorem bootStart_mask (m : Part → Bool) (a0 : BitVec 3) (a1 : BitVec 2) (s : State) (h_g : m .g = true) (h_power : m .power = true) (h_log : m .log = true) (h_inUse : m .inUse = true) (h_nvm : m .nvm = true) (h_loops : m .loops = true) (h_phases : m .phases = true) (h_conv : m .conv = true) (h_grid : m .grid = true) (h_svc : m .svc = true) (h_stb : m .stb = true) (h_fch : m .fch = true) (h_crb : m .crb = true) (h_idn : m .idn = true) : (bootStart a0 a1 s).mask m = s.mask m := by
  unfold bootStart
  (repeat' split) <;> (first | (simp [Power.mask, Win.mask, Params.mask, Crb.mask, Idn.mask, h_g, h_power, h_log, h_inUse, h_nvm, h_loops, h_phases, h_conv, h_grid, h_svc, h_stb, h_fch, h_crb, h_idn]; done) | ((simp [Power.mask, Win.mask, Params.mask, Crb.mask, Idn.mask, h_g, h_power, h_log, h_inUse, h_nvm, h_loops, h_phases, h_conv, h_grid, h_svc, h_stb, h_fch, h_crb, h_idn]) <;> (repeat' split) <;> simp [Power.mask, Win.mask, Params.mask, Crb.mask, Idn.mask, h_g, h_power, h_log, h_inUse, h_nvm, h_loops, h_phases, h_conv, h_grid, h_svc, h_stb, h_fch, h_crb, h_idn]))

@[simp] theorem bootCounted_mask (m : Part → Bool) (s : State) (h_bootCnt : m .bootCnt = true) (h_power : m .power = true) (h_log : m .log = true) : (bootCounted s).mask m = s.mask m := by
  unfold bootCounted
  (repeat' split) <;> (first | (simp [Power.mask, Win.mask, Params.mask, Crb.mask, Idn.mask, h_bootCnt, h_power, h_log]; done) | ((simp [Power.mask, Win.mask, Params.mask, Crb.mask, Idn.mask, h_bootCnt, h_power, h_log]) <;> (repeat' split) <;> simp [Power.mask, Win.mask, Params.mask, Crb.mask, Idn.mask, h_bootCnt, h_power, h_log]))

@[simp] theorem bootCopies_mask (m : Part → Bool) (s : State) (h_win : m .win = true) : (bootCopies s).mask m = s.mask m := by
  unfold bootCopies
  (repeat' split) <;> (first | (simp [Power.mask, Win.mask, Params.mask, Crb.mask, Idn.mask, h_win]; done) | ((simp [Power.mask, Win.mask, Params.mask, Crb.mask, Idn.mask, h_win]) <;> (repeat' split) <;> simp [Power.mask, Win.mask, Params.mask, Crb.mask, Idn.mask, h_win]))

@[simp] theorem bootLoop_mask (m : Part → Bool) (a0 : Bool) (a1 : Fin 16) (s : State) (h_loops : m .loops = true) : (bootLoop a0 a1 s).mask m = s.mask m := by
  unfold bootLoop
  (repeat' split) <;> (first | (simp [Power.mask, Win.mask, Params.mask, Crb.mask, Idn.mask, h_loops]; done) | ((simp [Power.mask, Win.mask, Params.mask, Crb.mask, Idn.mask, h_loops]) <;> (repeat' split) <;> simp [Power.mask, Win.mask, Params.mask, Crb.mask, Idn.mask, h_loops]))

@[simp] theorem bootNvm_mask (m : Part → Bool) (s : State) (h_irq : m .irq = true) (h_nvm : m .nvm = true) : (bootNvm s).mask m = s.mask m := by
  unfold bootNvm
  (repeat' split) <;> (first | (simp [Power.mask, Win.mask, Params.mask, Crb.mask, Idn.mask, h_irq, h_nvm]; done) | ((simp [Power.mask, Win.mask, Params.mask, Crb.mask, Idn.mask, h_irq, h_nvm]) <;> (repeat' split) <;> simp [Power.mask, Win.mask, Params.mask, Crb.mask, Idn.mask, h_irq, h_nvm]))

@[simp] theorem bootUnits_mask (m : Part → Bool) (s : State) (h_g : m .g = true) (h_power : m .power = true) (h_irq : m .irq = true) (h_win : m .win = true) (h_log : m .log = true) (h_par : m .par = true) (h_nvm : m .nvm = true) (h_loops : m .loops = true) (h_phases : m .phases = true) (h_svc : m .svc = true) (h_stb : m .stb = true) (h_prot : m .prot = true) (h_peers : m .peers = true) (h_lsh : m .lsh = true) (h_fch : m .fch = true) (h_crb : m .crb = true) : (bootUnits s).mask m = s.mask m := by
  unfold bootUnits
  (repeat' split) <;> (first | (simp [Power.mask, Win.mask, Params.mask, Crb.mask, Idn.mask, h_g, h_power, h_irq, h_win, h_log, h_par, h_nvm, h_loops, h_phases, h_svc, h_stb, h_prot, h_peers, h_lsh, h_fch, h_crb]; done) | ((simp [Power.mask, Win.mask, Params.mask, Crb.mask, Idn.mask, h_g, h_power, h_irq, h_win, h_log, h_par, h_nvm, h_loops, h_phases, h_svc, h_stb, h_prot, h_peers, h_lsh, h_fch, h_crb]) <;> (repeat' split) <;> simp [Power.mask, Win.mask, Params.mask, Crb.mask, Idn.mask, h_g, h_power, h_irq, h_win, h_log, h_par, h_nvm, h_loops, h_phases, h_svc, h_stb, h_prot, h_peers, h_lsh, h_fch, h_crb]))

@[simp] theorem bootComplete_mask (m : Part → Bool) (a0 : Option (List Byte)) (s : State) (h_g : m .g = true) (h_power : m .power = true) (h_irq : m .irq = true) (h_win : m .win = true) (h_log : m .log = true) (h_proof : m .proof = true) (h_inUse : m .inUse = true) (h_par : m .par = true) (h_nvm : m .nvm = true) (h_loops : m .loops = true) (h_phases : m .phases = true) (h_svc : m .svc = true) (h_stb : m .stb = true) (h_prot : m .prot = true) (h_acp : m .acp = true) (h_peers : m .peers = true) (h_lsh : m .lsh = true) (h_damp : m .damp = true) (h_gsp : m .gsp = true) (h_fch : m .fch = true) (h_crb : m .crb = true) : (bootComplete a0 s).mask m = s.mask m := by
  unfold bootComplete
  (repeat' split) <;> (first | (simp [Power.mask, Win.mask, Params.mask, Crb.mask, Idn.mask, h_g, h_power, h_irq, h_win, h_log, h_proof, h_inUse, h_par, h_nvm, h_loops, h_phases, h_svc, h_stb, h_prot, h_acp, h_peers, h_lsh, h_damp, h_gsp, h_fch, h_crb]; done) | ((simp [Power.mask, Win.mask, Params.mask, Crb.mask, Idn.mask, h_g, h_power, h_irq, h_win, h_log, h_proof, h_inUse, h_par, h_nvm, h_loops, h_phases, h_svc, h_stb, h_prot, h_acp, h_peers, h_lsh, h_damp, h_gsp, h_fch, h_crb]) <;> (repeat' split) <;> simp [Power.mask, Win.mask, Params.mask, Crb.mask, Idn.mask, h_g, h_power, h_irq, h_win, h_log, h_proof, h_inUse, h_par, h_nvm, h_loops, h_phases, h_svc, h_stb, h_prot, h_acp, h_peers, h_lsh, h_damp, h_gsp, h_fch, h_crb]))

@[simp] theorem killSeenNow_mask (m : Part → Bool) (s : State) (h_irq : m .irq = true) (h_win : m .win = true) : (killSeenNow s).mask m = s.mask m := by
  unfold killSeenNow
  (repeat' split) <;> (first | (simp [Power.mask, Win.mask, Params.mask, Crb.mask, Idn.mask, h_irq, h_win]; done) | ((simp [Power.mask, Win.mask, Params.mask, Crb.mask, Idn.mask, h_irq, h_win]) <;> (repeat' split) <;> simp [Power.mask, Win.mask, Params.mask, Crb.mask, Idn.mask, h_irq, h_win]))

@[simp] theorem killFall_mask (m : Part → Bool) (s : State) (h_g : m .g = true) (h_power : m .power = true) (h_irq : m .irq = true) (h_win : m .win = true) (h_log : m .log = true) (h_nvm : m .nvm = true) (h_loops : m .loops = true) (h_phases : m .phases = true) (h_prot : m .prot = true) (h_peers : m .peers = true) (h_lsh : m .lsh = true) (h_swp : m .swp = true) (h_gsp : m .gsp = true) (h_fch : m .fch = true) (h_sram : m .sram = true) (h_chw : m .chw = true) : (killFall s).mask m = s.mask m := by
  unfold killFall
  (repeat' split) <;> (first | (simp [Power.mask, Win.mask, Params.mask, Crb.mask, Idn.mask, h_g, h_power, h_irq, h_win, h_log, h_nvm, h_loops, h_phases, h_prot, h_peers, h_lsh, h_swp, h_gsp, h_fch, h_sram, h_chw]; done) | ((simp [Power.mask, Win.mask, Params.mask, Crb.mask, Idn.mask, h_g, h_power, h_irq, h_win, h_log, h_nvm, h_loops, h_phases, h_prot, h_peers, h_lsh, h_swp, h_gsp, h_fch, h_sram, h_chw]) <;> (repeat' split) <;> simp [Power.mask, Win.mask, Params.mask, Crb.mask, Idn.mask, h_g, h_power, h_irq, h_win, h_log, h_nvm, h_loops, h_phases, h_prot, h_peers, h_lsh, h_swp, h_gsp, h_fch, h_sram, h_chw]))

@[simp] theorem killRises_mask (m : Part → Bool) (s : State) (h_power : m .power = true) : (killRises s).mask m = s.mask m := by
  unfold killRises
  (repeat' split) <;> (first | (simp [Power.mask, Win.mask, Params.mask, Crb.mask, Idn.mask, h_power]; done) | ((simp [Power.mask, Win.mask, Params.mask, Crb.mask, Idn.mask, h_power]) <;> (repeat' split) <;> simp [Power.mask, Win.mask, Params.mask, Crb.mask, Idn.mask, h_power]))

@[simp] theorem tapLoad_mask (m : Part → Bool) (a0 : BitVec 4) (a1 : BitVec 357) (s : State) (h_g : m .g = true) (h_power : m .power = true) (h_irq : m .irq = true) (h_win : m .win = true) (h_log : m .log = true) (h_loops : m .loops = true) (h_phases : m .phases = true) (h_prot : m .prot = true) (h_lsh : m .lsh = true) (h_gsp : m .gsp = true) (h_pins : m .pins = true) : (tapLoad a0 a1 s).mask m = s.mask m := by
  unfold tapLoad
  (repeat' split) <;> (first | (simp [Power.mask, Win.mask, Params.mask, Crb.mask, Idn.mask, h_g, h_power, h_irq, h_win, h_log, h_loops, h_phases, h_prot, h_lsh, h_gsp, h_pins]; done) | ((simp [Power.mask, Win.mask, Params.mask, Crb.mask, Idn.mask, h_g, h_power, h_irq, h_win, h_log, h_loops, h_phases, h_prot, h_lsh, h_gsp, h_pins]) <;> (repeat' split) <;> simp [Power.mask, Win.mask, Params.mask, Crb.mask, Idn.mask, h_g, h_power, h_irq, h_win, h_log, h_loops, h_phases, h_prot, h_lsh, h_gsp, h_pins]))

@[simp] theorem State.answer_mask (m : Part → Bool) (s : State) (a1 : W16) (h_win : m .win = true) : (State.answer s a1).mask m = s.mask m := by
  unfold State.answer
  (repeat' split) <;> (first | (simp [Power.mask, Win.mask, Params.mask, Crb.mask, Idn.mask, h_win]; done) | ((simp [Power.mask, Win.mask, Params.mask, Crb.mask, Idn.mask, h_win]) <;> (repeat' split) <;> simp [Power.mask, Win.mask, Params.mask, Crb.mask, Idn.mask, h_win]))

@[simp] theorem causeClear_mask (m : Part → Bool) (a0 : W16) (s : State) (h_power : m .power = true) : (causeClear a0 s).mask m = s.mask m := by
  unfold causeClear
  (repeat' split) <;> (first | (simp [Power.mask, Win.mask, Params.mask, Crb.mask, Idn.mask, h_power]; done) | ((simp [Power.mask, Win.mask, Params.mask, Crb.mask, Idn.mask, h_power]) <;> (repeat' split) <;> simp [Power.mask, Win.mask, Params.mask, Crb.mask, Idn.mask, h_power]))

@[simp] theorem wordWrite_mask (m : Part → Bool) (a0 : ℕ) (a1 : W16) (s : State) (h_g : m .g = true) (h_power : m .power = true) (h_irq : m .irq = true) (h_win : m .win = true) (h_log : m .log = true) (h_proof : m .proof = true) (h_par : m .par = true) (h_nvm : m .nvm = true) (h_loops : m .loops = true) (h_phases : m .phases = true) (h_svc : m .svc = true) (h_acp : m .acp = true) (h_peers : m .peers = true) (h_lsh : m .lsh = true) (h_swp : m .swp = true) (h_gsp : m .gsp = true) (h_fch : m .fch = true) (h_sram : m .sram = true) (h_chw : m .chw = true) : (wordWrite a0 a1 s).mask m = s.mask m := by
  simp only [wordWrite]
  repeat' (with_reducible apply mask_iteS)
  all_goals simp [Power.mask, Win.mask, Params.mask, Crb.mask, Idn.mask, h_g, h_power, h_irq, h_win, h_log, h_proof, h_par, h_nvm, h_loops, h_phases, h_svc, h_acp, h_peers, h_lsh, h_swp, h_gsp, h_fch, h_sram, h_chw]

@[simp] theorem writeParam_mask (m : Part → Bool) (a0 : ℕ) (a1 : W16) (s : State) (h_g : m .g = true) (h_power : m .power = true) (h_irq : m .irq = true) (h_win : m .win = true) (h_log : m .log = true) (h_proof : m .proof = true) (h_par : m .par = true) (h_nvm : m .nvm = true) (h_loops : m .loops = true) (h_phases : m .phases = true) (h_svc : m .svc = true) (h_acp : m .acp = true) (h_peers : m .peers = true) (h_lsh : m .lsh = true) (h_swp : m .swp = true) (h_gsp : m .gsp = true) (h_fch : m .fch = true) (h_sram : m .sram = true) (h_chw : m .chw = true) : (writeParam a0 a1 s).mask m = s.mask m := by
  unfold writeParam
  (repeat' split) <;> (first | (simp [Power.mask, Win.mask, Params.mask, Crb.mask, Idn.mask, h_g, h_power, h_irq, h_win, h_log, h_proof, h_par, h_nvm, h_loops, h_phases, h_svc, h_acp, h_peers, h_lsh, h_swp, h_gsp, h_fch, h_sram, h_chw]; done) | ((simp [Power.mask, Win.mask, Params.mask, Crb.mask, Idn.mask, h_g, h_power, h_irq, h_win, h_log, h_proof, h_par, h_nvm, h_loops, h_phases, h_svc, h_acp, h_peers, h_lsh, h_swp, h_gsp, h_fch, h_sram, h_chw]) <;> (repeat' split) <;> simp [Power.mask, Win.mask, Params.mask, Crb.mask, Idn.mask, h_g, h_power, h_irq, h_win, h_log, h_proof, h_par, h_nvm, h_loops, h_phases, h_svc, h_acp, h_peers, h_lsh, h_swp, h_gsp, h_fch, h_sram, h_chw]))

@[simp] theorem stepPaddr_mask (m : Part → Bool) (s : State) (h_win : m .win = true) : (stepPaddr s).mask m = s.mask m := by
  unfold stepPaddr
  (repeat' split) <;> (first | (simp [Power.mask, Win.mask, Params.mask, Crb.mask, Idn.mask, h_win]; done) | ((simp [Power.mask, Win.mask, Params.mask, Crb.mask, Idn.mask, h_win]) <;> (repeat' split) <;> simp [Power.mask, Win.mask, Params.mask, Crb.mask, Idn.mask, h_win]))

@[simp] theorem pdataIncRead_mask (m : Part → Bool) (s : State) (h_win : m .win = true) : (pdataIncRead s).mask m = s.mask m := by
  unfold pdataIncRead
  (repeat' split) <;> (first | (simp [Power.mask, Win.mask, Params.mask, Crb.mask, Idn.mask, h_win]; done) | ((simp [Power.mask, Win.mask, Params.mask, Crb.mask, Idn.mask, h_win]) <;> (repeat' split) <;> simp [Power.mask, Win.mask, Params.mask, Crb.mask, Idn.mask, h_win]))

@[simp] theorem pdataIncWrite_mask (m : Part → Bool) (a0 : W16) (s : State) (h_g : m .g = true) (h_power : m .power = true) (h_irq : m .irq = true) (h_win : m .win = true) (h_log : m .log = true) (h_proof : m .proof = true) (h_par : m .par = true) (h_nvm : m .nvm = true) (h_loops : m .loops = true) (h_phases : m .phases = true) (h_svc : m .svc = true) (h_acp : m .acp = true) (h_peers : m .peers = true) (h_lsh : m .lsh = true) (h_swp : m .swp = true) (h_gsp : m .gsp = true) (h_fch : m .fch = true) (h_sram : m .sram = true) (h_chw : m .chw = true) : (pdataIncWrite a0 s).mask m = s.mask m := by
  unfold pdataIncWrite
  (repeat' split) <;> (first | (simp [Power.mask, Win.mask, Params.mask, Crb.mask, Idn.mask, h_g, h_power, h_irq, h_win, h_log, h_proof, h_par, h_nvm, h_loops, h_phases, h_svc, h_acp, h_peers, h_lsh, h_swp, h_gsp, h_fch, h_sram, h_chw]; done) | ((simp [Power.mask, Win.mask, Params.mask, Crb.mask, Idn.mask, h_g, h_power, h_irq, h_win, h_log, h_proof, h_par, h_nvm, h_loops, h_phases, h_svc, h_acp, h_peers, h_lsh, h_swp, h_gsp, h_fch, h_sram, h_chw]) <;> (repeat' split) <;> simp [Power.mask, Win.mask, Params.mask, Crb.mask, Idn.mask, h_g, h_power, h_irq, h_win, h_log, h_proof, h_par, h_nvm, h_loops, h_phases, h_svc, h_acp, h_peers, h_lsh, h_swp, h_gsp, h_fch, h_sram, h_chw]))

@[simp] theorem irqClear_mask (m : Part → Bool) (a0 : W16) (s : State) (h_irq : m .irq = true) : (irqClear a0 s).mask m = s.mask m := by
  unfold irqClear
  (repeat' split) <;> (first | (simp [Power.mask, Win.mask, Params.mask, Crb.mask, Idn.mask, h_irq]; done) | ((simp [Power.mask, Win.mask, Params.mask, Crb.mask, Idn.mask, h_irq]) <;> (repeat' split) <;> simp [Power.mask, Win.mask, Params.mask, Crb.mask, Idn.mask, h_irq]))

@[simp] theorem irqEnable_mask (m : Part → Bool) (a0 : W16) (s : State) (h_win : m .win = true) : (irqEnable a0 s).mask m = s.mask m := by
  unfold irqEnable
  (repeat' split) <;> (first | (simp [Power.mask, Win.mask, Params.mask, Crb.mask, Idn.mask, h_win]; done) | ((simp [Power.mask, Win.mask, Params.mask, Crb.mask, Idn.mask, h_win]) <;> (repeat' split) <;> simp [Power.mask, Win.mask, Params.mask, Crb.mask, Idn.mask, h_win]))

@[simp] theorem fltLoopWrite_mask (m : Part → Bool) (a0 : W16) (s : State) (h_win : m .win = true) : (fltLoopWrite a0 s).mask m = s.mask m := by
  unfold fltLoopWrite
  (repeat' split) <;> (first | (simp [Power.mask, Win.mask, Params.mask, Crb.mask, Idn.mask, h_win]; done) | ((simp [Power.mask, Win.mask, Params.mask, Crb.mask, Idn.mask, h_win]) <;> (repeat' split) <;> simp [Power.mask, Win.mask, Params.mask, Crb.mask, Idn.mask, h_win]))

@[simp] theorem killStatWrite_mask (m : Part → Bool) (a0 : W16) (s : State) (h_win : m .win = true) : (killStatWrite a0 s).mask m = s.mask m := by
  unfold killStatWrite
  (repeat' split) <;> (first | (simp [Power.mask, Win.mask, Params.mask, Crb.mask, Idn.mask, h_win]; done) | ((simp [Power.mask, Win.mask, Params.mask, Crb.mask, Idn.mask, h_win]) <;> (repeat' split) <;> simp [Power.mask, Win.mask, Params.mask, Crb.mask, Idn.mask, h_win]))

@[simp] theorem loopOnSet_mask (m : Part → Bool) (a0 : W16) (s : State) (h_win : m .win = true) (h_par : m .par = true) (h_loops : m .loops = true) : (loopOnSet a0 s).mask m = s.mask m := by
  unfold loopOnSet
  (repeat' split) <;> (first | (simp [Power.mask, Win.mask, Params.mask, Crb.mask, Idn.mask, h_win, h_par, h_loops]; done) | ((simp [Power.mask, Win.mask, Params.mask, Crb.mask, Idn.mask, h_win, h_par, h_loops]) <;> (repeat' split) <;> simp [Power.mask, Win.mask, Params.mask, Crb.mask, Idn.mask, h_win, h_par, h_loops]))

@[simp] theorem loopOnWrite_mask (m : Part → Bool) (a0 : W16) (s : State) (h_win : m .win = true) (h_par : m .par = true) (h_loops : m .loops = true) : (loopOnWrite a0 s).mask m = s.mask m := by
  unfold loopOnWrite
  (repeat' split) <;> (first | (simp [Power.mask, Win.mask, Params.mask, Crb.mask, Idn.mask, h_win, h_par, h_loops]; done) | ((simp [Power.mask, Win.mask, Params.mask, Crb.mask, Idn.mask, h_win, h_par, h_loops]) <;> (repeat' split) <;> simp [Power.mask, Win.mask, Params.mask, Crb.mask, Idn.mask, h_win, h_par, h_loops]))

@[simp] theorem State.updLog_mask (m : Part → Bool) (s : State) (a1 : EvtLog → EvtLog) (h_log : m .log = true) : (State.updLog s a1).mask m = s.mask m := by
  simp [State.updLog, Power.mask, Win.mask, Params.mask, Crb.mask, Idn.mask, h_log]

@[simp] theorem evtPopRead_mask (m : Part → Bool) (s : State) (h_win : m .win = true) (h_log : m .log = true) : (evtPopRead s).mask m = s.mask m := by
  unfold evtPopRead
  (repeat' split) <;> (first | (simp [Power.mask, Win.mask, Params.mask, Crb.mask, Idn.mask, h_win, h_log]; done) | ((simp [Power.mask, Win.mask, Params.mask, Crb.mask, Idn.mask, h_win, h_log]) <;> (repeat' split) <;> simp [Power.mask, Win.mask, Params.mask, Crb.mask, Idn.mask, h_win, h_log]))

@[simp] theorem evtPopRewind_mask (m : Part → Bool) (s : State) (h_log : m .log = true) : (evtPopRewind s).mask m = s.mask m := by
  unfold evtPopRewind
  (repeat' split) <;> (first | (simp [Power.mask, Win.mask, Params.mask, Crb.mask, Idn.mask, h_log]; done) | ((simp [Power.mask, Win.mask, Params.mask, Crb.mask, Idn.mask, h_log]) <;> (repeat' split) <;> simp [Power.mask, Win.mask, Params.mask, Crb.mask, Idn.mask, h_log]))

@[simp] theorem evtCountWrite_mask (m : Part → Bool) (a0 : W16) (s : State) (h_log : m .log = true) : (evtCountWrite a0 s).mask m = s.mask m := by
  unfold evtCountWrite
  (repeat' split) <;> (first | (simp [Power.mask, Win.mask, Params.mask, Crb.mask, Idn.mask, h_log]; done) | ((simp [Power.mask, Win.mask, Params.mask, Crb.mask, Idn.mask, h_log]) <;> (repeat' split) <;> simp [Power.mask, Win.mask, Params.mask, Crb.mask, Idn.mask, h_log]))

@[simp] theorem wdogRestart_mask (m : Part → Bool) (s : State) (h_win : m .win = true) : (wdogRestart s).mask m = s.mask m := by
  unfold wdogRestart
  (repeat' split) <;> (first | (simp [Power.mask, Win.mask, Params.mask, Crb.mask, Idn.mask, h_win]; done) | ((simp [Power.mask, Win.mask, Params.mask, Crb.mask, Idn.mask, h_win]) <;> (repeat' split) <;> simp [Power.mask, Win.mask, Params.mask, Crb.mask, Idn.mask, h_win]))

@[simp] theorem wdogAction_mask (m : Part → Bool) (s : State) (h_power : m .power = true) (h_win : m .win = true) (h_par : m .par = true) (h_loops : m .loops = true) (h_peers : m .peers = true) (h_lsh : m .lsh = true) : (wdogAction s).mask m = s.mask m := by
  unfold wdogAction
  (repeat' split) <;> (first | (simp [Power.mask, Win.mask, Params.mask, Crb.mask, Idn.mask, h_power, h_win, h_par, h_loops, h_peers, h_lsh]; done) | ((simp [Power.mask, Win.mask, Params.mask, Crb.mask, Idn.mask, h_power, h_win, h_par, h_loops, h_peers, h_lsh]) <;> (repeat' split) <;> simp [Power.mask, Win.mask, Params.mask, Crb.mask, Idn.mask, h_power, h_win, h_par, h_loops, h_peers, h_lsh]))

@[simp] theorem wdogExpire_mask (m : Part → Bool) (s : State) (h_g : m .g = true) (h_power : m .power = true) (h_irq : m .irq = true) (h_win : m .win = true) (h_log : m .log = true) (h_par : m .par = true) (h_nvm : m .nvm = true) (h_loops : m .loops = true) (h_peers : m .peers = true) (h_lsh : m .lsh = true) (h_swp : m .swp = true) (h_gsp : m .gsp = true) (h_fch : m .fch = true) (h_sram : m .sram = true) (h_chw : m .chw = true) : (wdogExpire s).mask m = s.mask m := by
  unfold wdogExpire
  (repeat' split) <;> (first | (simp [Power.mask, Win.mask, Params.mask, Crb.mask, Idn.mask, h_g, h_power, h_irq, h_win, h_log, h_par, h_nvm, h_loops, h_peers, h_lsh, h_swp, h_gsp, h_fch, h_sram, h_chw]; done) | ((simp [Power.mask, Win.mask, Params.mask, Crb.mask, Idn.mask, h_g, h_power, h_irq, h_win, h_log, h_par, h_nvm, h_loops, h_peers, h_lsh, h_swp, h_gsp, h_fch, h_sram, h_chw]) <;> (repeat' split) <;> simp [Power.mask, Win.mask, Params.mask, Crb.mask, Idn.mask, h_g, h_power, h_irq, h_win, h_log, h_par, h_nvm, h_loops, h_peers, h_lsh, h_swp, h_gsp, h_fch, h_sram, h_chw]))

@[simp] theorem wdogCfgWrite_mask (m : Part → Bool) (a0 : Bool) (a1 : W16) (s : State) (h_win : m .win = true) : (wdogCfgWrite a0 a1 s).mask m = s.mask m := by
  unfold wdogCfgWrite
  (repeat' split) <;> (first | (simp [Power.mask, Win.mask, Params.mask, Crb.mask, Idn.mask, h_win]; done) | ((simp [Power.mask, Win.mask, Params.mask, Crb.mask, Idn.mask, h_win]) <;> (repeat' split) <;> simp [Power.mask, Win.mask, Params.mask, Crb.mask, Idn.mask, h_win]))

@[simp] theorem wdogWrite_mask (m : Part → Bool) (a0 : W16) (s : State) (h_g : m .g = true) (h_power : m .power = true) (h_irq : m .irq = true) (h_win : m .win = true) (h_log : m .log = true) (h_par : m .par = true) (h_nvm : m .nvm = true) (h_loops : m .loops = true) (h_peers : m .peers = true) (h_lsh : m .lsh = true) (h_swp : m .swp = true) (h_gsp : m .gsp = true) (h_fch : m .fch = true) (h_sram : m .sram = true) (h_chw : m .chw = true) : (wdogWrite a0 s).mask m = s.mask m := by
  unfold wdogWrite
  (repeat' split) <;> (first | (simp [Power.mask, Win.mask, Params.mask, Crb.mask, Idn.mask, h_g, h_power, h_irq, h_win, h_log, h_par, h_nvm, h_loops, h_peers, h_lsh, h_swp, h_gsp, h_fch, h_sram, h_chw]; done) | ((simp [Power.mask, Win.mask, Params.mask, Crb.mask, Idn.mask, h_g, h_power, h_irq, h_win, h_log, h_par, h_nvm, h_loops, h_peers, h_lsh, h_swp, h_gsp, h_fch, h_sram, h_chw]) <;> (repeat' split) <;> simp [Power.mask, Win.mask, Params.mask, Crb.mask, Idn.mask, h_g, h_power, h_irq, h_win, h_log, h_par, h_nvm, h_loops, h_peers, h_lsh, h_swp, h_gsp, h_fch, h_sram, h_chw]))

@[simp] theorem timeLowRead_mask (m : Part → Bool) (a0 : Bool) (s : State) (h_win : m .win = true) : (timeLowRead a0 s).mask m = s.mask m := by
  unfold timeLowRead
  (repeat' split) <;> (first | (simp [Power.mask, Win.mask, Params.mask, Crb.mask, Idn.mask, h_win]; done) | ((simp [Power.mask, Win.mask, Params.mask, Crb.mask, Idn.mask, h_win]) <;> (repeat' split) <;> simp [Power.mask, Win.mask, Params.mask, Crb.mask, Idn.mask, h_win]))

@[simp] theorem writeSlot_mask (m : Part → Bool) (a0 : Bool) (a1 : ℕ) (a2 : W16) (s : State) (h_g : m .g = true) (h_power : m .power = true) (h_irq : m .irq = true) (h_win : m .win = true) (h_log : m .log = true) (h_proof : m .proof = true) (h_par : m .par = true) (h_nvm : m .nvm = true) (h_loops : m .loops = true) (h_phases : m .phases = true) (h_lanes : m .lanes = true) (h_svc : m .svc = true) (h_snap : m .snap = true) (h_acp : m .acp = true) (h_peers : m .peers = true) (h_lsh : m .lsh = true) (h_swp : m .swp = true) (h_gsp : m .gsp = true) (h_fch : m .fch = true) (h_sram : m .sram = true) (h_crb : m .crb = true) (h_idn : m .idn = true) (h_chw : m .chw = true) : (writeSlot a0 a1 a2 s).mask m = s.mask m := by
  simp only [writeSlot]
  repeat' (with_reducible apply mask_iteS)
  all_goals simp [Power.mask, Win.mask, Params.mask, Crb.mask, Idn.mask, h_g, h_power, h_irq, h_win, h_log, h_proof, h_par, h_nvm, h_loops, h_phases, h_lanes, h_svc, h_snap, h_acp, h_peers, h_lsh, h_swp, h_gsp, h_fch, h_sram, h_crb, h_idn, h_chw]

end Sys2Proof.Machine
end

