-- ==== Sys2Proof/Laws/Sparse.lean ====
section
/-! SUPPORT. The laws of sparse storage: a write is read back and leaves every other key alone, and every write keeps the
canonical form. -/

namespace Sys2Proof.Machine

variable {α : Type} [DecidableEq α]

/-- A store in canonical form above `lo` lists no key below `lo`, so such a key reads as its default. -/
theorem sparseGet_below (d : Nat → α) (l : List (Nat × α)) (lo k : Nat) (h : sparseWfFrom d lo l = true) (hk : k < lo) :
    sparseGet d l k = d k := by
  induction l generalizing lo with
  | nil => rfl
  | cons x r ih =>
    simp [sparseWfFrom] at h
    rw [sparseGet, if_neg (by omega)]
    exact ih _ h.2 (by omega)

theorem sparseWfFrom_mono (d : Nat → α) (l : List (Nat × α)) (lo lo' : Nat) (h : sparseWfFrom d lo l = true) (hl : lo' ≤ lo) :
    sparseWfFrom d lo' l = true := by
  cases l with
  | nil => rfl
  | cons x r => simp [sparseWfFrom] at h ⊢; exact ⟨⟨by omega, h.1.2⟩, h.2⟩

/-- A write keeps the canonical form. -/
theorem sparseSet_wfFrom (d : Nat → α) (l : List (Nat × α)) (lo k : Nat) (v : α) (h : sparseWfFrom d lo l = true) (hk : lo ≤ k) :
    sparseWfFrom d lo (sparseSet d l k v) = true := by
  induction l generalizing lo with
  | nil => simp only [sparseSet]; split <;> simp [sparseWfFrom, *]
  | cons x r ih =>
    simp only [sparseWfFrom, Bool.and_eq_true, decide_eq_true_eq] at h
    simp only [sparseSet]
    split
    · split
      · simp [sparseWfFrom, h]
      · simp_all [sparseWfFrom]
    · split
      · split
        · exact sparseWfFrom_mono d r _ _ h.2 (by omega)
        · next hj hv => simp [sparseWfFrom, hv, hk]; exact sparseWfFrom_mono d r _ _ h.2 (by omega)
      · simp only [sparseWfFrom, Bool.and_eq_true, decide_eq_true_eq]
        exact ⟨h.1, ih _ h.2 (by omega)⟩

theorem sparseSet_wf (d : Nat → α) (l : List (Nat × α)) (k : Nat) (v : α) (h : sparseWf d l = true) :
    sparseWf d (sparseSet d l k v) = true := sparseSet_wfFrom d l 0 k v h (Nat.zero_le _)

theorem sparseSetList_wf (d : Nat → α) (vs : List α) (l : List (Nat × α)) (k : Nat) (h : sparseWf d l = true) :
    sparseWf d (sparseSetList d l k vs) = true := by
  induction vs generalizing l k with
  | nil => exact h
  | cons v vs ih => exact ih _ _ (sparseSet_wf d l k v h)

/-- A write is read back. -/
theorem sparseGet_set_same (d : Nat → α) (l : List (Nat × α)) (lo k : Nat) (v : α) (h : sparseWfFrom d lo l = true) :
    sparseGet d (sparseSet d l k v) k = v := by
  induction l generalizing lo with
  | nil => simp only [sparseSet]; split <;> simp_all [sparseGet]
  | cons x r ih =>
    simp only [sparseWfFrom, Bool.and_eq_true, decide_eq_true_eq] at h
    simp only [sparseSet]
    split
    · split
      · next hv => rw [sparseGet, if_neg (by omega), sparseGet_below d r _ k h.2 (by omega), hv]
      · simp [sparseGet]
    · split
      · split
        · next hv => rw [sparseGet_below d r _ k h.2 (by omega), hv]
        · simp [sparseGet]
      · rw [sparseGet, if_neg (by omega)]; exact ih _ h.2

/-- A write leaves every other key alone. -/
theorem sparseGet_set_other (d : Nat → α) (l : List (Nat × α)) (lo k j : Nat) (v : α) (h : sparseWfFrom d lo l = true) (hj : j ≠ k) :
    sparseGet d (sparseSet d l k v) j = sparseGet d l j := by
  induction l generalizing lo with
  | nil => simp only [sparseSet]; split <;> simp [sparseGet, Ne.symm hj]
  | cons x r ih =>
    simp only [sparseWfFrom, Bool.and_eq_true, decide_eq_true_eq] at h
    simp only [sparseSet]
    split
    · split
      · rfl
      · rw [sparseGet, if_neg (Ne.symm hj)]
    · split
      · next hk =>
        split
        · rw [sparseGet, if_neg (by omega)]
        · rw [sparseGet, sparseGet, if_neg (Ne.symm hj), if_neg (by omega)]
      · simp only [sparseGet]; split
        · rfl
        · exact ih _ h.2

/-- A write of a list leaves every key outside it alone. -/
theorem sparseGet_setList_other (d : Nat → α) (vs : List α) (l : List (Nat × α)) (k j : Nat) (h : sparseWf d l = true)
    (hj : j < k ∨ k + vs.length ≤ j) : sparseGet d (sparseSetList d l k vs) j = sparseGet d l j := by
  induction vs generalizing l k with
  | nil => rfl
  | cons v vs ih =>
    simp only [List.length_cons] at hj
    rw [sparseSetList, ih _ _ (sparseSet_wf d l k v h) (by omega), sparseGet_set_other d l 0 k j v h (by omega)]

/-- A write of a list is read back. -/
theorem sparseGet_setList_same (d : Nat → α) (vs : List α) (l : List (Nat × α)) (k i : Nat) (h : sparseWf d l = true)
    (hi : i < vs.length) : sparseGet d (sparseSetList d l k vs) (k + i) = vs[i] := by
  induction vs generalizing l k i with
  | nil => simp at hi
  | cons v vs ih =>
    rw [sparseSetList]
    cases i with
    | zero =>
      rw [sparseGet_setList_other d vs _ _ _ (sparseSet_wf d l k v h) (by omega)]
      simpa using sparseGet_set_same d l 0 k v h
    | succ i =>
      have := ih (sparseSet d l k v) (k + 1) i (sparseSet_wf d l k v h) (by simpa using hi)
      simpa [Nat.add_assoc, Nat.add_comm 1] using this

end Sys2Proof.Machine
end

