-- ==== Sys2Proof/Laws/Core.lean ====
section
/-! SUPPORT. The core of the state: what few operations of the block touch (the time, the queue, the Crumb SRAM, both
parameter stores, the boot counter, the token counter and the operator keys), and the relation `Core.Le` that every operation keeps. -/

set_option linter.all false

set_option maxRecDepth 2000

namespace Sys2Proof.Machine

open Sys2Proof

/-- The fields of the state that few operations touch. -/
structure Core where
  now : Nat
  pending : List Instr
  sram : List Host.Cell
  gen : Nat
  proof : List (Nat × W16)
  inUse : List (Nat × W16)
  bootCnt : BitVec 32
  tokCnt : Nat
  opk : List (Nat × Nat)

/-- The Crumb SRAM and both parameter stores are in canonical form. -/
def Core.Canon (c : Core) : Prop :=
  Memory.wf c.gen c.sram = true ∧ sparseWf paramReset c.proof = true ∧ sparseWf paramReset c.inUse = true

/-- What every operation of the block keeps: the time and the queue of the command, the canonical form; the boot counter and
the token counter never fall and operator keys are only appended. -/
structure Core.Le (c c' : Core) : Prop where
  now : c'.now = c.now
  pending : c'.pending = c.pending
  canon : c.Canon → c'.Canon
  boot : c.bootCnt ≤ c'.bootCnt
  tok : c.tokCnt ≤ c'.tokCnt
  opk : c.opk <+: c'.opk

@[simp] theorem Core.Le.rfl (c : Core) : Core.Le c c := ⟨.refl _, .refl _, id, BitVec.le_refl _, Nat.le_refl _, List.prefix_refl _⟩
theorem Core.Le.trans (a b c : Core) (h : Core.Le a b) (k : Core.Le b c) : Core.Le a c :=
  ⟨k.now.trans h.now, k.pending.trans h.pending, fun x => k.canon (h.canon x), BitVec.le_trans h.boot k.boot, Nat.le_trans h.tok k.tok,
    h.opk.trans k.opk⟩
/-- The core of a state. -/
def State.core (s : State) : Core := ⟨s.now, s.pending, s.crb.sram, s.crb.gen, s.par.proof, s.par.inUse, s.power.bootCnt, s.idn.tokCnt, s.idn.opk⟩
/-- The mask that leaves the core. -/
def coreMask : Part → Bool
  | .sram | .proof | .inUse | .bootCnt | .tokCnt | .opk => false
  | _ => true

theorem core_of_mask {a b : State} (h : a.mask coreMask = b.mask coreMask) : a.core = b.core := by
  show (a.mask coreMask).core = (b.mask coreMask).core
  rw [h]

theorem core_now (s : State) : s.now = s.core.now := rfl
theorem core_bootCnt (s : State) : s.power.bootCnt = s.core.bootCnt := rfl
theorem core_tokCnt (s : State) : s.idn.tokCnt = s.core.tokCnt := rfl
theorem core_opk (s : State) : s.idn.opk = s.core.opk := rfl
theorem core_pending (s : State) : s.pending = s.core.pending := rfl
theorem core_sram (s : State) : s.crb.sram = s.core.sram := rfl
theorem core_gen (s : State) : s.crb.gen = s.core.gen := rfl
theorem core_proof (s : State) : s.par.proof = s.core.proof := rfl
theorem core_inUse (s : State) : s.par.inUse = s.core.inUse := rfl
@[simp] theorem core_eta (c : Core) : Core.mk c.now c.pending c.sram c.gen c.proof c.inUse c.bootCnt c.tokCnt c.opk = c := rfl
theorem core_mk (now freeCount : Nat) (pending : List Instr) (power : Power) (win : Win) (log : EvtLog) (par : Params) (nvm : Nvm)
    (loops : Vector LoopState 16) (phases : Vector PhaseState 64) (vsc isc : Vector ConvState 4) (lanes : Vector Lane 4) (grid : Nat)
    (svc : Svc) (snap : Snap) (stb : Stb) (prot : Prot) (acp : Vector AcpPort 8) (peers : Peers) (lsh : Lsh) (swp : Swp) (damp : Damp)
    (gsp : Gsp) (fch : Fch) (crb : Crb) (idn : Idn) (chw : Chw) (pins : Pins) :
    (State.mk now freeCount pending power win log par nvm loops phases vsc isc lanes grid svc snap stb prot acp peers lsh swp damp gsp fch
      crb idn chw pins).core = ⟨now, pending, crb.sram, crb.gen, par.proof, par.inUse, power.bootCnt, idn.tokCnt, idn.opk⟩ := rfl
@[simp] theorem core_ite (c : Prop) [Decidable c] (a b : State) : (if c then a else b).core = if c then a.core else b.core := by split <;> rfl
@[simp] theorem core_updCrb (s : State) (f : Crb → Crb) :
    (s.updCrb f).core = { s.core with sram := (f s.crb).sram, gen := (f s.crb).gen } := id rfl
@[simp] theorem core_updPar (s : State) (f : Params → Params) :
    (s.updPar f).core = { s.core with proof := (f s.par).proof, inUse := (f s.par).inUse } := id rfl
@[simp] theorem core_updWin (s : State) (f : Win → Win) :
    (s.updWin f).core = s.core := id rfl
@[simp] theorem core_updPower (s : State) (f : Power → Power) :
    (s.updPower f).core = { s.core with bootCnt := (f s.power).bootCnt } := id rfl
@[simp] theorem core_updIdn (s : State) (f : Idn → Idn) :
    (s.updIdn f).core = { s.core with tokCnt := (f s.idn).tokCnt, opk := (f s.idn).opk } := id rfl
@[simp] theorem forLoops_core (f : Fin 16 → State → State) (h : ∀ n s, (f n s).core = s.core) (l : List (Fin 16)) (s : State) :
    (forLoops f l s).core = s.core := by
  induction l generalizing s with
  | nil => rfl
  | cons n l ih => simp [forLoops, ih, h]
@[simp] theorem freeBool_core (s : State) : s.freeBool.2.core = s.core := id rfl
@[simp] theorem freeWord_core (s : State) : s.freeWord.2.core = s.core := id rfl
@[simp] theorem freeWords_core (k : Nat) (s : State) : (freeWords k s).2.core = s.core := by
  induction k generalizing s with
  | zero => rfl
  | succ k ih => simp [freeWords, ih]
@[simp] theorem foldl_core {α : Type} (f : State → α → State) (h : ∀ s a, (f s a).core = s.core) (l : List α) (s : State) :
    (l.foldl f s).core = s.core := by
  induction l generalizing s with
  | nil => rfl
  | cons n l ih => simp [ih, h]
theorem overlay_wf (l u : List (Nat × W16)) (h : sparseWf paramReset u = true) : sparseWf paramReset (overlay l u) = true := by
  unfold overlay
  induction l generalizing u with
  | nil => exact h
  | cons x l ih => exact ih _ (sparseSet_wf _ _ _ _ h)

theorem planUse_wf (p : Option (List W16)) : sparseWf paramReset (planUse p) = true := by
  cases p with
  | none => rfl
  | some w => exact sparseSetList_wf _ _ _ _ rfl

theorem imageTry_wf (s : State) (base : List (Nat × W16)) (b : List Byte) (u : List (Nat × W16) × Bool)
    (h : s.imageTry base b = some u) (k : sparseWf paramReset base = true) : sparseWf paramReset u.1 = true := by
  simp only [State.imageTry] at h
  (repeat' split at h) <;> simp at h <;> subst h <;> exact overlay_wf _ _ k


theorem le_inUse (s : State) (c : Core) (u : List (Nat × W16)) (w : sparseWf paramReset u = true) (h : Core.Le c s.core) :
    Core.Le c { s.core with inUse := u } :=
  ⟨h.now, h.pending, fun k => ⟨(h.canon k).1, (h.canon k).2.1, w⟩, h.boot, h.tok, h.opk⟩

theorem le_proof (s : State) (c : Core) (h : Core.Le c s.core) :
    Core.Le c { s.core with proof := s.core.inUse } :=
  ⟨h.now, h.pending, fun k => ⟨(h.canon k).1, (h.canon k).2.2, (h.canon k).2.2⟩, h.boot, h.tok, h.opk⟩

theorem le_iteS (c : Core) (p : Prop) [Decidable p] (a b : State) (ha : Core.Le c a.core) (hb : Core.Le c b.core) :
    Core.Le c (if p then a else b).core := by split <;> assumption

end Sys2Proof.Machine
end

