-- ==== Sys2Proof/Laws/CoreOps.lean ====
section
/-! SUPPORT. What each operation does to the core of the state: nothing (`f_core`), or a change that `Core.Le` allows (`f_le`). -/

set_option linter.all false

set_option maxRecDepth 2000

namespace Sys2Proof.Machine

open Sys2Proof

@[simp] theorem State.setProof_le (a : Nat) (v : W16) (s : State) (c : Core) (h : Core.Le c s.core) :
    Core.Le c (s.setProof a v).core :=
  ⟨h.now, h.pending, fun k => ⟨(h.canon k).1, sparseSet_wf _ _ _ _ (h.canon k).2.1, (h.canon k).2.2⟩, h.boot, h.tok, h.opk⟩

@[simp] theorem State.setUse_le (a : Nat) (v : W16) (s : State) (c : Core) (h : Core.Le c s.core) :
    Core.Le c (s.setUse a v).core :=
  ⟨h.now, h.pending, fun k => ⟨(h.canon k).1, (h.canon k).2.1, sparseSet_wf _ _ _ _ (h.canon k).2.2⟩, h.boot, h.tok, h.opk⟩

@[simp] theorem State.setLoop_core (s : State) (a1 : Fin 16) (a2 : LoopState) : (State.setLoop s a1 a2).core = s.core :=
  core_of_mask (State.setLoop_mask coreMask s a1 a2 rfl)

@[simp] theorem State.updLoop_core (s : State) (a1 : Fin 16) (a2 : LoopState → LoopState) : (State.updLoop s a1 a2).core = s.core :=
  core_of_mask (State.updLoop_mask coreMask s a1 a2 rfl)

@[simp] theorem State.setPhase_core (s : State) (a1 : Fin 64) (a2 : PhaseState) : (State.setPhase s a1 a2).core = s.core :=
  core_of_mask (State.setPhase_mask coreMask s a1 a2 rfl)

@[simp] theorem State.updPhase_core (s : State) (a1 : Fin 64) (a2 : PhaseState → PhaseState) : (State.updPhase s a1 a2).core = s.core :=
  core_of_mask (State.updPhase_mask coreMask s a1 a2 rfl)

@[simp] theorem State.updSense_core (s : State) (a1 : Fin 16) (a2 : LoopSense → LoopSense) : (State.updSense s a1 a2).core = s.core :=
  core_of_mask (State.updSense_mask coreMask s a1 a2 rfl)

@[simp] theorem State.updEng_core (s : State) (a1 : Fin 16) (a2 : LoopEng → LoopEng) : (State.updEng s a1 a2).core = s.core :=
  core_of_mask (State.updEng_mask coreMask s a1 a2 rfl)

@[simp] theorem State.updMod_core (s : State) (a1 : Fin 16) (a2 : LoopMod → LoopMod) : (State.updMod s a1 a2).core = s.core :=
  core_of_mask (State.updMod_mask coreMask s a1 a2 rfl)

@[simp] theorem State.updSp_core (s : State) (a1 : Fin 16) (a2 : LoopSp → LoopSp) : (State.updSp s a1 a2).core = s.core :=
  core_of_mask (State.updSp_mask coreMask s a1 a2 rfl)

@[simp] theorem State.updAcp_core (s : State) (a1 : Fin 16) (a2 : LoopAcp → LoopAcp) : (State.updAcp s a1 a2).core = s.core :=
  core_of_mask (State.updAcp_mask coreMask s a1 a2 rfl)

@[simp] theorem State.updLyr_core (s : State) (a1 : Fin 16) (a2 : LoopLyr → LoopLyr) : (State.updLyr s a1 a2).core = s.core :=
  core_of_mask (State.updLyr_mask coreMask s a1 a2 rfl)

@[simp] theorem State.updPrt_core (s : State) (a1 : Fin 16) (a2 : LoopPrt → LoopPrt) : (State.updPrt s a1 a2).core = s.core :=
  core_of_mask (State.updPrt_mask coreMask s a1 a2 rfl)

@[simp] theorem updPhases_core (a0 : PhaseState → PhaseState) (a1 : List (Fin 64)) (s : State) : (updPhases a0 a1 s).core = s.core :=
  core_of_mask (updPhases_mask coreMask a0 a1 s rfl)

@[simp] theorem State.irq_core (s : State) (a1 : ℕ) : (State.irq s a1).core = s.core :=
  core_of_mask (State.irq_mask coreMask s a1 rfl)

@[simp] theorem State.settleRun_core (s : State) : (State.settleRun s).core = s.core :=
  core_of_mask (State.settleRun_mask coreMask s rfl)

@[simp] theorem State.offer_core (s : State) (a1 : LogEntry) : (State.offer s a1).core = s.core :=
  core_of_mask (State.offer_mask coreMask s a1 rfl)

@[simp] theorem State.event_core (s : State) (a1 : Byte) (a2 : Option (Fin 16)) (a3 : W16) (a4 : ℕ) : (State.event s a1 a2 a3 a4).core = s.core :=
  core_of_mask (State.event_mask coreMask s a1 a2 a3 a4 rfl)

@[simp] theorem State.raiseFault_core (s : State) (a1 : Fin 16) (a2 : Byte) (a3 : W16) (a4 : List (Fin 64)) : (State.raiseFault s a1 a2 a3 a4).core = s.core :=
  core_of_mask (State.raiseFault_mask coreMask s a1 a2 a3 a4 rfl)

@[simp] theorem State.raiseFree_core (s : State) (a1 : Fin 16) (a2 : Byte) : (State.raiseFree s a1 a2).core = s.core :=
  core_of_mask (State.raiseFree_mask coreMask s a1 a2 rfl rfl)

@[simp] theorem State.countFault_core (s : State) (a1 : Byte) (a2 : Option (Fin 16)) : (State.countFault s a1 a2).core = s.core :=
  core_of_mask (State.countFault_mask coreMask s a1 a2 rfl rfl)

@[simp] theorem State.updChw_core (s : State) (a1 : Chw → Chw) : (State.updChw s a1).core = s.core :=
  core_of_mask (State.updChw_mask coreMask s a1 rfl)

@[simp] theorem chwPick_core (g : Chw → ChwSel) (p : ChwSel → Chw → Chw) (w : W16) (s : State) : (chwPick g p w s).2.core = s.core := by
  simp only [chwPick]
  (repeat' split) <;> rfl

@[simp] theorem chewAcp_core (p : Fin 8) (s : State) : (chewAcp p s).2.core = s.core := by
  simp only [chewAcp]
  (repeat' split) <;> simp

@[simp] theorem chewLeash_core (p : Fin 8) (k : Nat) (s : State) : (chewLeash p k s).2.core = s.core := by
  simp only [chewLeash]
  (repeat' split) <;> simp

@[simp] theorem chewFetch_core (p : Fin 32) (s : State) : (chewFetch p s).2.core = s.core := by
  simp only [chewFetch]
  (repeat' split) <;> simp

@[simp] theorem storeWords_core (a0 : List (Fin 64 × ℕ × ℕ)) (s : State) : (storeWords a0 s).core = s.core :=
  core_of_mask (storeWords_mask coreMask a0 s rfl)

@[simp] theorem peakUpdate_core (a0 : Fin 16) (s : State) : (peakUpdate a0 s).core = s.core :=
  core_of_mask (peakUpdate_mask coreMask a0 s rfl rfl)

@[simp] theorem fitShed_core (a0 : ℕ) (a1 : Fin 16) (a2 : ℕ) (s : State) : (fitShed a0 a1 a2 s).core = s.core :=
  core_of_mask (fitShed_mask coreMask a0 a1 a2 s rfl rfl)

@[simp] theorem setTarget_core (a0 : Fin 16) (a1 : ℕ) (s : State) : (setTarget a0 a1 s).core = s.core :=
  core_of_mask (setTarget_mask coreMask a0 a1 s rfl rfl)

@[simp] theorem stopPulses_core (a0 : Fin 16) (s : State) : (stopPulses a0 s).core = s.core :=
  core_of_mask (stopPulses_mask coreMask a0 s rfl rfl)

@[simp] theorem crowbarPhases_core (a0 : Fin 16) (s : State) : (crowbarPhases a0 s).core = s.core :=
  core_of_mask (crowbarPhases_mask coreMask a0 s rfl rfl)

@[simp] theorem carrierFrom_core (a0 : Fin 16) (s : State) : (carrierFrom a0 s).core = s.core :=
  core_of_mask (carrierFrom_mask coreMask a0 s rfl)

@[simp] theorem carrierAngle_core (a0 : Fin 16) (s : State) : (carrierAngle a0 s).core = s.core :=
  core_of_mask (carrierAngle_mask coreMask a0 s rfl)

@[simp] theorem phaseTurnOn_core (a0 : Fin 16) (a1 : Fin 64) (s : State) : (phaseTurnOn a0 a1 s).core = s.core :=
  core_of_mask (phaseTurnOn_mask coreMask a0 a1 s rfl rfl)

@[simp] theorem comparatorTrip_core (a0 : Fin 16) (a1 : Fin 64) (s : State) : (comparatorTrip a0 a1 s).core = s.core :=
  core_of_mask (comparatorTrip_mask coreMask a0 a1 s rfl)

@[simp] theorem tugCount_core (a0 : Fin 16) (a1 : ℕ) (a2 : W16) (s : State) : (tugCount a0 a1 a2 s).core = s.core :=
  core_of_mask (tugCount_mask coreMask a0 a1 a2 s rfl rfl)

@[simp] theorem tug_core (a0 : Fin 16) (a1 : ℕ) (a2 : Bool) (a3 : ℕ) (s : State) : (tug a0 a1 a2 a3 s).core = s.core :=
  core_of_mask (tug_mask coreMask a0 a1 a2 a3 s rfl rfl)

@[simp] theorem addPhases_core (a0 : Fin 16) (a1 : Frac) (s : State) : (addPhases a0 a1 s).core = s.core :=
  core_of_mask (addPhases_mask coreMask a0 a1 s rfl rfl rfl)

@[simp] theorem shedOne_core (a0 : Fin 16) (s : State) : (shedOne a0 s).core = s.core :=
  core_of_mask (shedOne_mask coreMask a0 s rfl rfl)

@[simp] theorem shedPhase_core (a0 : Fin 16) (s : State) : (shedPhase a0 s).core = s.core :=
  core_of_mask (shedPhase_mask coreMask a0 s rfl rfl rfl)

@[simp] theorem adaptPhases_core (a0 : Fin 16) (a1 : Frac) (s : State) : (adaptPhases a0 a1 s).core = s.core :=
  core_of_mask (adaptPhases_mask coreMask a0 a1 s rfl rfl rfl)

@[simp] theorem noteLoad_core (a0 : Fin 16) (a1 : Frac) (s : State) : (noteLoad a0 a1 s).core = s.core :=
  core_of_mask (noteLoad_mask coreMask a0 a1 s rfl)

@[simp] theorem adaptFreq_core (a0 : Fin 16) (s : State) : (adaptFreq a0 s).core = s.core :=
  core_of_mask (adaptFreq_mask coreMask a0 s rfl rfl)

@[simp] theorem alignLoop_core (a0 : Fin 16) (s : State) : (alignLoop a0 s).core = s.core :=
  core_of_mask (alignLoop_mask coreMask a0 s rfl rfl)

@[simp] theorem iscSample_core (a0 : Fin 16) (a1 : Fin 64) (a2 : ℤ) (s : State) : (iscSample a0 a1 a2 s).core = s.core :=
  core_of_mask (iscSample_mask coreMask a0 a1 a2 s rfl)

@[simp] theorem staleEnd_core (a0 : Fin 16) (s : State) : (staleEnd a0 s).core = s.core :=
  core_of_mask (staleEnd_mask coreMask a0 s rfl)

@[simp] theorem zeroReference_core (a0 : Fin 16) (a1 : Fin 64) (a2 : List ℤ) (s : State) : (zeroReference a0 a1 a2 s).core = s.core :=
  core_of_mask (zeroReference_mask coreMask a0 a1 a2 s rfl rfl)

@[simp] theorem whiskTurn_core (a0 : Fin 16) (s : State) : (whiskTurn a0 s).core = s.core :=
  core_of_mask (whiskTurn_mask coreMask a0 s rfl)

@[simp] theorem whiskSwap_core (a0 : Fin 16) (a1 : Fin 64) (a2 : Fin 64) (s : State) : (whiskSwap a0 a1 a2 s).core = s.core :=
  core_of_mask (whiskSwap_mask coreMask a0 a1 a2 s rfl rfl)

@[simp] theorem shedAfter_core (a0 : Fin 16) (s : State) : (shedAfter a0 s).core = s.core :=
  core_of_mask (shedAfter_mask coreMask a0 s rfl rfl)

@[simp] theorem whiskInstant_core (a0 : Fin 16) (s : State) : (whiskInstant a0 s).core = s.core :=
  core_of_mask (whiskInstant_mask coreMask a0 s rfl rfl)

@[simp] theorem newRanking_core (a0 : Fin 16) (a1 : List (Fin 64)) (s : State) : (newRanking a0 a1 s).core = s.core :=
  core_of_mask (newRanking_mask coreMask a0 a1 s rfl rfl)

@[simp] theorem takeHint_core (a0 : Fin 16) (a1 : ℕ) (s : State) : (takeHint a0 a1 s).core = s.core :=
  core_of_mask (takeHint_mask coreMask a0 a1 s rfl rfl)

@[simp] theorem hintInstant_core (a0 : Fin 16) (s : State) : (hintInstant a0 s).core = s.core :=
  core_of_mask (hintInstant_mask coreMask a0 s rfl rfl)

@[simp] theorem refitHint_core (a0 : Fin 16) (s : State) : (refitHint a0 s).core = s.core :=
  core_of_mask (refitHint_mask coreMask a0 s rfl rfl)

@[simp] theorem syncPulse_core (a0 : Fin 16) (s : State) : (syncPulse a0 s).core = s.core :=
  core_of_mask (syncPulse_mask coreMask a0 s rfl)

@[simp] theorem phasesBack_core (a0 : Fin 16) (s : State) : (phasesBack a0 s).core = s.core :=
  core_of_mask (phasesBack_mask coreMask a0 s rfl rfl)

@[simp] theorem referenceInstant_core (a0 : Fin 16) (s : State) : (referenceInstant a0 s).core = s.core :=
  core_of_mask (referenceInstant_mask coreMask a0 s rfl rfl rfl)

@[simp] theorem kennelInstant_core (a0 : Fin 16) (s : State) : (kennelInstant a0 s).core = s.core :=
  core_of_mask (kennelInstant_mask coreMask a0 s rfl rfl)

@[simp] theorem whiskBlankEnd_core (a0 : Fin 16) (a1 : List ℤ) (s : State) : (whiskBlankEnd a0 a1 s).core = s.core :=
  core_of_mask (whiskBlankEnd_mask coreMask a0 a1 s rfl rfl)

@[simp] theorem putState_core (a0 : Fin 16) (a1 : LoopSt) (s : State) : (putState a0 a1 s).core = s.core :=
  core_of_mask (putState_mask coreMask a0 a1 s rfl)

@[simp] theorem enterOff_core (a0 : Fin 16) (s : State) : (enterOff a0 s).core = s.core :=
  core_of_mask (enterOff_mask coreMask a0 s rfl rfl rfl)

@[simp] theorem enterDelayOff_core (a0 : Fin 16) (s : State) : (enterDelayOff a0 s).core = s.core :=
  core_of_mask (enterDelayOff_mask coreMask a0 s rfl rfl)

@[simp] theorem enterRampDown_core (a0 : Fin 16) (a1 : DownBy) (s : State) : (enterRampDown a0 a1 s).core = s.core :=
  core_of_mask (enterRampDown_mask coreMask a0 a1 s rfl rfl)

@[simp] theorem enterRampUp_core (a0 : Fin 16) (a1 : W16) (s : State) : (enterRampUp a0 a1 s).core = s.core :=
  core_of_mask (enterRampUp_mask coreMask a0 a1 s rfl rfl)

@[simp] theorem startMove_core (a0 : Fin 16) (a1 : W16) (s : State) : (startMove a0 a1 s).core = s.core :=
  core_of_mask (startMove_mask coreMask a0 a1 s rfl)

@[simp] theorem enterRegulate_core (a0 : Fin 16) (a1 : Frac) (s : State) : (enterRegulate a0 a1 s).core = s.core :=
  core_of_mask (enterRegulate_mask coreMask a0 a1 s rfl)

@[simp] theorem takeEnable_core (a0 : Fin 16) (s : State) : (takeEnable a0 s).core = s.core :=
  core_of_mask (takeEnable_mask coreMask a0 s rfl)

@[simp] theorem heelFound_core (a0 : Fin 16) (s : State) : (heelFound a0 s).core = s.core :=
  core_of_mask (heelFound_mask coreMask a0 s rfl)

@[simp] theorem heelResume_core (a0 : Fin 16) (s : State) : (heelResume a0 s).core = s.core :=
  core_of_mask (heelResume_mask coreMask a0 s rfl)

@[simp] theorem boundaryRegulate_core (a0 : Fin 16) (s : State) : (boundaryRegulate a0 s).core = s.core :=
  core_of_mask (boundaryRegulate_mask coreMask a0 s rfl rfl)

@[simp] theorem noteSteady_core (a0 : Fin 16) (s : State) : (noteSteady a0 s).core = s.core :=
  core_of_mask (noteSteady_mask coreMask a0 s rfl)

@[simp] theorem gaspTurnOff_core (a0 : Fin 16) (s : State) : (gaspTurnOff a0 s).core = s.core :=
  core_of_mask (gaspTurnOff_mask coreMask a0 s rfl rfl rfl)

@[simp] theorem boundaryRampUp_core (a0 : Fin 16) (s : State) : (boundaryRampUp a0 s).core = s.core :=
  core_of_mask (boundaryRampUp_mask coreMask a0 s rfl rfl)

@[simp] theorem boundaryState_core (a0 : Fin 16) (s : State) : (boundaryState a0 s).core = s.core :=
  core_of_mask (boundaryState_mask coreMask a0 s rfl rfl rfl)

@[simp] theorem leaveOff_core (a0 : Fin 16) (s : State) : (leaveOff a0 s).core = s.core :=
  core_of_mask (leaveOff_mask coreMask a0 s rfl)

@[simp] theorem enterDelayOn_core (a0 : Fin 16) (s : State) : (enterDelayOn a0 s).core = s.core :=
  core_of_mask (enterDelayOn_mask coreMask a0 s rfl rfl rfl)

@[simp] theorem delayOnEnd_core (a0 : Fin 16) (s : State) : (delayOnEnd a0 s).core = s.core :=
  core_of_mask (delayOnEnd_mask coreMask a0 s rfl rfl)

@[simp] theorem setptLoop_core (a0 : Frac) (a1 : Fin 16) (s : State) : (setptLoop a0 a1 s).core = s.core :=
  core_of_mask (setptLoop_mask coreMask a0 a1 s rfl)

@[simp] theorem heelLoss_core (a0 : Fin 16) (s : State) : (heelLoss a0 s).core = s.core :=
  core_of_mask (heelLoss_mask coreMask a0 s rfl rfl rfl)

@[simp] theorem vinNote_core (a0 : Fin 16) (s : State) : (vinNote a0 s).core = s.core :=
  core_of_mask (vinNote_mask coreMask a0 s rfl)

@[simp] theorem vinNoteAll_core (s : State) : (vinNoteAll s).core = s.core :=
  core_of_mask (vinNoteAll_mask coreMask s rfl)

@[simp] theorem otNote_core (a0 : Fin 6) (s : State) : (otNote a0 s).core = s.core :=
  core_of_mask (otNote_mask coreMask a0 s rfl)

@[simp] theorem otNotes_core (a0 : List (Fin 6)) (s : State) : (otNotes a0 s).core = s.core :=
  core_of_mask (otNotes_mask coreMask a0 s rfl)

@[simp] theorem otNoteAll_core (s : State) : (otNoteAll s).core = s.core :=
  core_of_mask (otNoteAll_mask coreMask s rfl)

@[simp] theorem otPut_core (a0 : Fin 6) (a1 : Bool) (s : State) : (otPut a0 a1 s).core = s.core :=
  core_of_mask (otPut_mask coreMask a0 a1 s rfl)

@[simp] theorem otOnset_core (a0 : Fin 6) (s : State) : (otOnset a0 s).core = s.core :=
  core_of_mask (otOnset_mask coreMask a0 s rfl rfl)

@[simp] theorem phasesReturn_core (a0 : Removal) (a1 : List (Fin 64)) (s : State) : (phasesReturn a0 a1 s).core = s.core :=
  core_of_mask (phasesReturn_mask coreMask a0 a1 s rfl)

@[simp] theorem reselect_core (s : State) : (reselect s).core = s.core :=
  core_of_mask (reselect_mask coreMask s rfl)

@[simp] theorem stbTick_core (s : State) : (stbTick s).core = s.core :=
  core_of_mask (stbTick_mask coreMask s rfl)

@[simp] theorem syncEdge_core (s : State) : (syncEdge s).core = s.core :=
  core_of_mask (syncEdge_mask coreMask s rfl)

@[simp] theorem State.updLsh_core (s : State) (a1 : Lsh → Lsh) : (State.updLsh s a1).core = s.core :=
  core_of_mask (State.updLsh_mask coreMask s a1 rfl)

@[simp] theorem ageHeard_core (s : State) : (ageHeard s).core = s.core :=
  core_of_mask (ageHeard_mask coreMask s rfl)

@[simp] theorem State.updPeers_core (s : State) (a1 : Peers → Peers) : (State.updPeers s a1).core = s.core :=
  core_of_mask (State.updPeers_mask coreMask s a1 rfl)

@[simp] theorem State.updPeer_core (s : State) (a1 : Fin 8) (a2 : Peer → Peer) : (State.updPeer s a1 a2).core = s.core :=
  core_of_mask (State.updPeer_mask coreMask s a1 a2 rfl)

@[simp] theorem State.updTok_core (s : State) (a1 : Token → Token) : (State.updTok s a1).core = s.core :=
  core_of_mask (State.updTok_mask coreMask s a1 rfl)

@[simp] theorem settleWiring_core (a0 : List (Fin 8)) (s : State) : (settleWiring a0 s).core = s.core :=
  core_of_mask (settleWiring_mask coreMask a0 s rfl)

@[simp] theorem rosterAll_core (a0 : List (Fin 8)) (s : State) : (rosterAll a0 s).core = s.core :=
  core_of_mask (rosterAll_mask coreMask a0 s rfl)

@[simp] theorem rosterSettle_core (s : State) : (rosterSettle s).core = s.core :=
  core_of_mask (rosterSettle_mask coreMask s rfl rfl)

@[simp] theorem withStat_core (f : State → State) (h : ∀ s, (f s).core = s.core) (s : State) : (withStat f s).core = s.core := by
  simp only [withStat]
  split <;> simp [h]
theorem withStat_le (f : State → State) (s : State) (c : Core) (h : Core.Le c (f s).core) : Core.Le c (withStat f s).core := by
  simp only [withStat]
  split <;> simp [h]

@[simp] theorem lshUnsync_core (s : State) : (lshUnsync s).core = s.core :=
  core_of_mask (lshUnsync_mask coreMask s rfl)

@[simp] theorem enterListen_core (a0 : Bool) (s : State) : (enterListen a0 s).core = s.core :=
  core_of_mask (enterListen_mask coreMask a0 s rfl rfl)

@[simp] theorem enterFollow_core (a0 : ℕ) (s : State) : (enterFollow a0 s).core = s.core :=
  core_of_mask (enterFollow_mask coreMask a0 s rfl rfl)

@[simp] theorem enterLead_core (s : State) : (enterLead s).core = s.core :=
  core_of_mask (enterLead_mask coreMask s rfl rfl)

@[simp] theorem leashEnable_core (s : State) : (leashEnable s).core = s.core :=
  core_of_mask (leashEnable_mask coreMask s rfl rfl)

@[simp] theorem takeSync_core (a0 : ℕ) (s : State) : (takeSync a0 s).core = s.core :=
  core_of_mask (takeSync_mask coreMask a0 s rfl rfl)

@[simp] theorem napSync_core (a0 : ℕ) (s : State) : (napSync a0 s).core = s.core :=
  core_of_mask (napSync_mask coreMask a0 s rfl)

@[simp] theorem syncReceived_core (a0 : ℕ) (a1 : ℕ) (s : State) : (syncReceived a0 a1 s).core = s.core :=
  core_of_mask (syncReceived_mask coreMask a0 a1 s rfl rfl)

@[simp] theorem holdoffExpired_core (s : State) : (holdoffExpired s).core = s.core :=
  core_of_mask (holdoffExpired_mask coreMask s rfl rfl)

@[simp] theorem sendSync_core (s : State) : (sendSync s).core = s.core :=
  core_of_mask (sendSync_mask coreMask s rfl)

@[simp] theorem leadFrame_core (s : State) : (leadFrame s).core = s.core :=
  core_of_mask (leadFrame_mask coreMask s rfl)

@[simp] theorem claimHeard_core (a0 : ℕ) (a1 : ℕ) (s : State) : (claimHeard a0 a1 s).core = s.core :=
  core_of_mask (claimHeard_mask coreMask a0 a1 s rfl)

@[simp] theorem handover_core (a0 : Bool) (s : State) : (handover a0 s).core = s.core :=
  core_of_mask (handover_mask coreMask a0 s rfl rfl)

@[simp] theorem claimFrame_core (s : State) : (claimFrame s).core = s.core :=
  core_of_mask (claimFrame_mask coreMask s rfl)

@[simp] theorem queueMsg_core (a0 : ℕ) (a1 : ℕ) (a2 : W32) (s : State) : (queueMsg a0 a1 a2 s).core = s.core :=
  core_of_mask (queueMsg_mask coreMask a0 a1 a2 s rfl)

@[simp] theorem edgeDecision_core (a0 : Bool) (s : State) : (edgeDecision a0 s).core = s.core :=
  core_of_mask (edgeDecision_mask coreMask a0 s rfl rfl rfl)

@[simp] theorem napFrameEnd_core (s : State) : (napFrameEnd s).core = s.core :=
  core_of_mask (napFrameEnd_mask coreMask s rfl)

@[simp] theorem followOn_core (s : State) : (followOn s).core = s.core :=
  core_of_mask (followOn_mask coreMask s rfl)

@[simp] theorem frameEnd_core (a0 : FrameView) (s : State) : (frameEnd a0 s).core = s.core :=
  core_of_mask (frameEnd_mask coreMask a0 s rfl rfl rfl)

@[simp] theorem lshClear_core (a0 : W16) (s : State) : (lshClear a0 s).core = s.core :=
  core_of_mask (lshClear_mask coreMask a0 s rfl)

@[simp] theorem signPass_core (a0 : SignWork) (s : State) : (signPass a0 s).core = s.core :=
  core_of_mask (signPass_mask coreMask a0 s rfl rfl)

@[simp] theorem signAhead_core (a0 : SignWork) (s : State) : (signAhead a0 s).core = s.core :=
  core_of_mask (signAhead_mask coreMask a0 s rfl rfl)

@[simp] theorem signDone_core (w : SignWork) (f : State → State) (h : ∀ s, (f s).core = s.core) (s : State) :
    (signDone w f s).core = s.core := by
  simp only [signDone]
  exact (h _).trans (signAhead_core _ _)

theorem signDone_le (w : SignWork) (f : State → State) (h : ∀ s c, Core.Le c s.core → Core.Le c (f s).core) (s : State) (c : Core)
    (k : Core.Le c s.core) : Core.Le c (signDone w f s).core := by
  have e : Core.Le c (f (signAhead w s)).core := h _ _ (by simpa using k)
  exact e

@[simp] theorem drawRandom_core (k : Nat) (s : State) : (drawRandom k s).2.core = s.core := by
  unfold drawRandom
  (repeat' split) <;> simp [core_mk, core_now, core_pending, core_sram, core_gen, core_proof, core_inUse, core_bootCnt, core_tokCnt, core_opk]

@[simp] theorem queueChal_core (a0 : ℕ) (a1 : Bool) (a2 : List Byte) (a3 : List ℕ) (s : State) : (queueChal a0 a1 a2 a3 s).core = s.core :=
  core_of_mask (queueChal_mask coreMask a0 a1 a2 a3 s rfl)

@[simp] theorem challengeStart_core (a0 : Fin 8) (s : State) : (challengeStart a0 s).core = s.core :=
  core_of_mask (challengeStart_mask coreMask a0 s rfl rfl rfl)

@[simp] theorem chalFail_core (a0 : Fin 8) (a1 : Bool) (s : State) : (chalFail a0 a1 s).core = s.core :=
  core_of_mask (chalFail_mask coreMask a0 a1 s rfl rfl)

@[simp] theorem chalPass_core (a0 : Fin 8) (s : State) : (chalPass a0 s).core = s.core :=
  core_of_mask (chalPass_mask coreMask a0 s rfl rfl)

@[simp] theorem challengeVerified_core (a0 : Fin 8) (a1 : Chal) (s : State) : (challengeVerified a0 a1 s).core = s.core :=
  core_of_mask (challengeVerified_mask coreMask a0 a1 s rfl rfl)

@[simp] theorem chalReceived_core (a0 : Fin 8) (a1 : W32) (s : State) : (chalReceived a0 a1 s).core = s.core :=
  core_of_mask (chalReceived_mask coreMask a0 a1 s rfl)

@[simp] theorem updAnswer_core (a0 : Answer → Answer) (s : State) : (updAnswer a0 s).core = s.core :=
  core_of_mask (updAnswer_mask coreMask a0 s rfl)

@[simp] theorem responseSigned_core (s : State) : (responseSigned s).core = s.core :=
  core_of_mask (responseSigned_mask coreMask s rfl)

@[simp] theorem certReceived_core (a0 : Fin 8) (a1 : W32) (s : State) : (certReceived a0 a1 s).core = s.core :=
  core_of_mask (certReceived_mask coreMask a0 a1 s rfl rfl)

@[simp] theorem respReceived_core (a0 : Fin 8) (a1 : W32) (s : State) : (respReceived a0 a1 s).core = s.core :=
  core_of_mask (respReceived_mask coreMask a0 a1 s rfl rfl)

@[simp] theorem digestReceived_core (a0 : Fin 8) (a1 : W32) (s : State) : (digestReceived a0 a1 s).core = s.core :=
  core_of_mask (digestReceived_mask coreMask a0 a1 s rfl)

@[simp] theorem sendHold_core (s : State) : (sendHold s).core = s.core :=
  core_of_mask (sendHold_mask coreMask s rfl rfl)

@[simp] theorem grantLease_core (a0 : ℕ) (a1 : ℕ) (s : State) : (grantLease a0 a1 s).core = s.core :=
  core_of_mask (grantLease_mask coreMask a0 a1 s rfl)

@[simp] theorem takeLease_core (a0 : ℕ) (a1 : ℕ) (s : State) : (takeLease a0 a1 s).core = s.core :=
  core_of_mask (takeLease_mask coreMask a0 a1 s rfl rfl)

@[simp] theorem releaseLease_core (s : State) : (releaseLease s).core = s.core :=
  core_of_mask (releaseLease_mask coreMask s rfl rfl)

@[simp] theorem storeHost_core (a0 : Byte) (s : State) : (storeHost a0 s).core = s.core :=
  core_of_mask (storeHost_mask coreMask a0 s rfl)

@[simp] theorem renewLease_core (s : State) : (renewLease s).core = s.core :=
  core_of_mask (renewLease_mask coreMask s rfl rfl)

@[simp] theorem acquireLease_core (s : State) : (acquireLease s).core = s.core :=
  core_of_mask (acquireLease_mask coreMask s rfl rfl)

@[simp] theorem releaseHeld_core (s : State) : (releaseHeld s).core = s.core :=
  core_of_mask (releaseHeld_mask coreMask s rfl rfl)

@[simp] theorem handlerWrite_le (a0 : W16) (s : State) (c : Core) (h : Core.Le c s.core) : Core.Le c (handlerWrite a0 s).core := by
  simp only [handlerWrite]
  repeat' (first | with_reducible exact h | with_reducible apply withStat_le | with_reducible apply le_iteS | split | (simp only [core_ite]; split) | simp | simp [core_mk, core_now, core_pending, core_sram, core_gen, core_proof, core_inUse, core_bootCnt, core_tokCnt, core_opk, h])

@[simp] theorem defeat_core (a0 : Fin 8) (a1 : ℕ) (s : State) : (defeat a0 a1 s).core = s.core :=
  core_of_mask (defeat_mask coreMask a0 a1 s rfl)

@[simp] theorem holdReceived_core (a0 : Fin 8) (a1 : W32) (s : State) : (holdReceived a0 a1 s).core = s.core :=
  core_of_mask (holdReceived_mask coreMask a0 a1 s rfl)

@[simp] theorem relReceived_core (a0 : W32) (s : State) : (relReceived a0 s).core = s.core :=
  core_of_mask (relReceived_mask coreMask a0 s rfl)

@[simp] theorem planWrite_core (a0 : W16) (s : State) : (planWrite a0 s).core = s.core :=
  core_of_mask (planWrite_mask coreMask a0 s rfl)

@[simp] theorem vrefReceived_core (a0 : Fin 8) (a1 : W32) (s : State) : (vrefReceived a0 a1 s).core = s.core :=
  core_of_mask (vrefReceived_mask coreMask a0 a1 s rfl)

@[simp] theorem ramPut_le (a : Nat) (l : List Byte) (s : State) (c : Core) (h : Core.Le c s.core) :
    Core.Le c (ramPut a l s).core :=
  ⟨h.now, h.pending, fun k => ⟨sparseSetList_wf _ _ _ _ (h.canon k).1, (h.canon k).2.1, (h.canon k).2.2⟩, h.boot, h.tok, h.opk⟩

@[simp] theorem ramPut16_le (a0 : ℕ) (a1 : W16) (s : State) (c : Core) (h : Core.Le c s.core) : Core.Le c (ramPut16 a0 a1 s).core := by
  simp only [ramPut16]
  repeat' (first | with_reducible exact h | with_reducible apply withStat_le | with_reducible apply ramPut_le | with_reducible apply le_iteS | split | (simp only [core_ite]; split) | simp | simp [core_mk, core_now, core_pending, core_sram, core_gen, core_proof, core_inUse, core_bootCnt, core_tokCnt, core_opk, h])

@[simp] theorem ramLose_le (s : State) (c : Core) (h : Core.Le c s.core) : Core.Le c (ramLose s).core :=
  ⟨h.now, h.pending, fun k => ⟨rfl, (h.canon k).2.1, (h.canon k).2.2⟩, h.boot, h.tok, h.opk⟩

@[simp] theorem State.updSwp_core (s : State) (a1 : Swp → Swp) : (State.updSwp s a1).core = s.core :=
  core_of_mask (State.updSwp_mask coreMask s a1 rfl)

@[simp] theorem State.updDamp_core (s : State) (a1 : Damp → Damp) : (State.updDamp s a1).core = s.core :=
  core_of_mask (State.updDamp_mask coreMask s a1 rfl)

@[simp] theorem sweepTrack_core (s : State) : (sweepTrack s).core = s.core :=
  core_of_mask (sweepTrack_mask coreMask s rfl)

@[simp] theorem swpPutStatus_le (s : State) (c : Core) (h : Core.Le c s.core) : Core.Le c (swpPutStatus s).core := by
  simp only [swpPutStatus]
  repeat' (first | with_reducible exact h | with_reducible apply withStat_le | with_reducible apply ramPut_le | with_reducible apply le_iteS | split | (simp only [core_ite]; split) | simp | simp [core_mk, core_now, core_pending, core_sram, core_gen, core_proof, core_inUse, core_bootCnt, core_tokCnt, core_opk, h])

@[simp] theorem sweepEnd_le (a0 : SwpSt) (s : State) (c : Core) (h : Core.Le c s.core) : Core.Le c (sweepEnd a0 s).core := by
  simp only [sweepEnd]
  repeat' (first | with_reducible exact h | with_reducible apply swpPutStatus_le | with_reducible apply withStat_le | with_reducible apply le_iteS | split | (simp only [core_ite]; split) | simp | simp [core_mk, core_now, core_pending, core_sram, core_gen, core_proof, core_inUse, core_bootCnt, core_tokCnt, core_opk, h])

@[simp] theorem sweepStart_core (s : State) : (sweepStart s).core = s.core :=
  core_of_mask (sweepStart_mask coreMask s rfl rfl)

@[simp] theorem sweepAbort_le (s : State) (c : Core) (h : Core.Le c s.core) : Core.Le c (sweepAbort s).core := by
  simp only [sweepAbort]
  repeat' (first | with_reducible exact h | with_reducible apply sweepEnd_le | with_reducible apply withStat_le | with_reducible apply le_iteS | split | (simp only [core_ite]; split) | simp | simp [core_mk, core_now, core_pending, core_sram, core_gen, core_proof, core_inUse, core_bootCnt, core_tokCnt, core_opk, h])

@[simp] theorem swpWrite_le (a0 : W16) (s : State) (c : Core) (h : Core.Le c s.core) : Core.Le c (swpWrite a0 s).core := by
  simp only [swpWrite]
  repeat' (first | with_reducible exact h | with_reducible apply sweepAbort_le | with_reducible apply withStat_le | with_reducible apply le_iteS | split | (simp only [core_ite]; split) | simp | simp [core_mk, core_now, core_pending, core_sram, core_gen, core_proof, core_inUse, core_bootCnt, core_tokCnt, core_opk, h])

@[simp] theorem heardSid_core (a0 : ℕ) (s : State) : (heardSid a0 s).core = s.core :=
  core_of_mask (heardSid_mask coreMask a0 s rfl)

@[simp] theorem swpStartReceived_core (a0 : Fin 8) (a1 : W32) (s : State) : (swpStartReceived a0 a1 s).core = s.core :=
  core_of_mask (swpStartReceived_mask coreMask a0 a1 s rfl)

@[simp] theorem swpCheckReceived_core (a0 : Fin 8) (a1 : W32) (s : State) : (swpCheckReceived a0 a1 s).core = s.core :=
  core_of_mask (swpCheckReceived_mask coreMask a0 a1 s rfl rfl)

@[simp] theorem swpJoinReceived_core (a0 : Fin 8) (a1 : W32) (s : State) : (swpJoinReceived a0 a1 s).core = s.core :=
  core_of_mask (swpJoinReceived_mask coreMask a0 a1 s rfl)

@[simp] theorem takeSet_le (a0 : Byte) (s : State) (c : Core) (h : Core.Le c s.core) : Core.Le c (takeSet a0 s).core := by
  simp only [takeSet]
  repeat' (first | with_reducible exact h | with_reducible apply sweepEnd_le | with_reducible apply withStat_le | with_reducible apply le_iteS | split | (simp only [core_ite]; split) | simp | simp [core_mk, core_now, core_pending, core_sram, core_gen, core_proof, core_inUse, core_bootCnt, core_tokCnt, core_opk, h])

@[simp] theorem swpSetReceived_le (a0 : Fin 8) (a1 : W32) (s : State) (c : Core) (h : Core.Le c s.core) : Core.Le c (swpSetReceived a0 a1 s).core := by
  simp only [swpSetReceived]
  repeat' (first | with_reducible exact h | with_reducible apply withStat_le | with_reducible apply takeSet_le | with_reducible apply le_iteS | split | (simp only [core_ite]; split) | simp | simp [core_mk, core_now, core_pending, core_sram, core_gen, core_proof, core_inUse, core_bootCnt, core_tokCnt, core_opk, h])

@[simp] theorem sweepRunStart_le (s : State) (c : Core) (h : Core.Le c s.core) : Core.Le c (sweepRunStart s).core := by
  simp only [sweepRunStart]
  repeat' (first | with_reducible exact h | with_reducible apply withStat_le | with_reducible apply ramPut_le | with_reducible apply le_iteS | split | (simp only [core_ite]; split) | simp | simp [core_mk, core_now, core_pending, core_sram, core_gen, core_proof, core_inUse, core_bootCnt, core_tokCnt, core_opk, h])

@[simp] theorem sweepStepStart_core (s : State) : (sweepStepStart s).core = s.core :=
  core_of_mask (sweepStepStart_mask coreMask s rfl)

@[simp] theorem sweepInject_core (n : Fin 16) (s : State) : (sweepInject n s).2.core = s.core := by
  unfold sweepInject
  (repeat' split) <;> simp [core_mk, core_now, core_pending, core_sram, core_gen, core_proof, core_inUse, core_bootCnt, core_tokCnt, core_opk]

@[simp] theorem placeSweep_core (s : State) : (placeSweep s).core = s.core :=
  core_of_mask (placeSweep_mask coreMask s rfl rfl)

@[simp] theorem sweepConv_core (a0 : ℕ) (a1 : ℤ) (a2 : Bool) (s : State) : (sweepConv a0 a1 a2 s).core = s.core :=
  core_of_mask (sweepConv_mask coreMask a0 a1 a2 s rfl)

@[simp] theorem sweepSample_core (a0 : Fin 16) (a1 : ℕ) (a2 : W16) (a3 : W16) (s : State) : (sweepSample a0 a1 a2 a3 s).core = s.core :=
  core_of_mask (sweepSample_mask coreMask a0 a1 a2 a3 s rfl)

@[simp] theorem sweepWindowEnd_core (s : State) : (sweepWindowEnd s).core = s.core :=
  core_of_mask (sweepWindowEnd_mask coreMask s rfl rfl)

@[simp] theorem currentReceived_core (a0 : Fin 8) (a1 : Bool) (a2 : W32) (s : State) : (currentReceived a0 a1 a2 s).core = s.core :=
  core_of_mask (currentReceived_mask coreMask a0 a1 a2 s rfl)

@[simp] theorem entryWrite_le (a0 : SwpWait) (s : State) (c : Core) (h : Core.Le c s.core) : Core.Le c (entryWrite a0 s).core := by
  simp only [entryWrite]
  repeat' (first | with_reducible exact h | with_reducible apply ramPut16_le | with_reducible apply withStat_le | with_reducible apply ramPut_le | with_reducible apply le_iteS | split | (simp only [core_ite]; split) | simp | simp [core_mk, core_now, core_pending, core_sram, core_gen, core_proof, core_inUse, core_bootCnt, core_tokCnt, core_opk, h])

@[simp] theorem sweepResults_le (s : State) (c : Core) (h : Core.Le c s.core) : Core.Le c (sweepResults s).core := by
  simp only [sweepResults]
  repeat' (first | with_reducible exact h | with_reducible apply sweepEnd_le | with_reducible apply withStat_le | with_reducible apply ramPut_le | with_reducible apply le_iteS | split | (simp only [core_ite]; split) | simp | simp [core_mk, core_now, core_pending, core_sram, core_gen, core_proof, core_inUse, core_bootCnt, core_tokCnt, core_opk, h])

@[simp] theorem dampFast_core (a0 : ℕ) (a1 : W16) (s : State) : (dampFast a0 a1 s).core = s.core :=
  core_of_mask (dampFast_mask coreMask a0 a1 s rfl)

@[simp] theorem dampStep_core (n : Fin 16) (s : State) : (dampStep n s).2.core = s.core := by
  simp only [dampStep]
  split
  · split <;> simp
  · rfl

@[simp] theorem State.updNvm_core (s : State) (a1 : Nvm → Nvm) : (State.updNvm s a1).core = s.core :=
  core_of_mask (State.updNvm_mask coreMask s a1 rfl)

@[simp] theorem State.updSlot_core (s : State) (a1 : Bool) (a2 : ImgSlot → ImgSlot) : (State.updSlot s a1 a2).core = s.core :=
  core_of_mask (State.updSlot_mask coreMask s a1 a2 rfl)

@[simp] theorem nvmResult_core (a0 : ℕ) (s : State) : (nvmResult a0 s).core = s.core :=
  core_of_mask (nvmResult_mask coreMask a0 s rfl rfl)

@[simp] theorem nvmBegin_core (a0 : NvmOp) (s : State) : (nvmBegin a0 s).core = s.core :=
  core_of_mask (nvmBegin_mask coreMask a0 s rfl)

@[simp] theorem nvmCommand_core (ok : State → Bool) (f : State → State) (h : ∀ s, (f s).core = s.core) (s : State) :
    (nvmCommand ok f s).core = s.core := by
  simp only [nvmCommand]
  split <;> simp [h]

@[simp] theorem nvmSave_core (s : State) : (nvmSave s).core = s.core :=
  core_of_mask (nvmSave_mask coreMask s rfl)

@[simp] theorem saveCommand_core (s : State) : (saveCommand s).core = s.core :=
  core_of_mask (saveCommand_mask coreMask s rfl rfl)

@[simp] theorem nvmOpenSlot_core (a0 : Bool) (s : State) : (nvmOpenSlot a0 s).core = s.core :=
  core_of_mask (nvmOpenSlot_mask coreMask a0 s rfl)

@[simp] theorem openCommand_core (a0 : Bool) (s : State) : (openCommand a0 s).core = s.core :=
  core_of_mask (openCommand_mask coreMask a0 s rfl rfl)

@[simp] theorem confirmCommand_core (s : State) : (confirmCommand s).core = s.core :=
  core_of_mask (confirmCommand_mask coreMask s rfl rfl)

@[simp] theorem nvmFinish_core (a0 : NvmOp) (a1 : Bool) (s : State) : (nvmFinish a0 a1 s).core = s.core :=
  core_of_mask (nvmFinish_mask coreMask a0 a1 s rfl)

@[simp] theorem nvmComplete_core (a0 : Bool) (s : State) : (nvmComplete a0 s).core = s.core :=
  core_of_mask (nvmComplete_mask coreMask a0 s rfl rfl)

@[simp] theorem nvmWord_core (a0 : W16) (s : State) : (nvmWord a0 s).core = s.core :=
  core_of_mask (nvmWord_mask coreMask a0 s rfl rfl)

@[simp] theorem nvmWrite_core (a0 : W16) (s : State) : (nvmWrite a0 s).core = s.core :=
  core_of_mask (nvmWrite_mask coreMask a0 s rfl rfl)

@[simp] theorem nvmChecked_core (a0 : Bool) (s : State) : (nvmChecked a0 s).core = s.core :=
  core_of_mask (nvmChecked_mask coreMask a0 s rfl rfl)

@[simp] theorem nvmDamage_core (s : State) : (nvmDamage s).core = s.core :=
  core_of_mask (nvmDamage_mask coreMask s rfl)

@[simp] theorem nvmGasp_core (s : State) : (nvmGasp s).core = s.core :=
  core_of_mask (nvmGasp_mask coreMask s rfl rfl rfl)

@[simp] theorem nvmLoss_core (s : State) : (nvmLoss s).core = s.core :=
  core_of_mask (nvmLoss_mask coreMask s rfl rfl)

@[simp] theorem nvmReset_core (s : State) : (nvmReset s).core = s.core :=
  core_of_mask (nvmReset_mask coreMask s rfl)

@[simp] theorem State.updGsp_core (s : State) (a1 : Gsp → Gsp) : (State.updGsp s a1).core = s.core :=
  core_of_mask (State.updGsp_mask coreMask s a1 rfl)

@[simp] theorem sendGasp_core (a0 : ℕ) (s : State) : (sendGasp a0 s).core = s.core :=
  core_of_mask (sendGasp_mask coreMask a0 s rfl rfl)

@[simp] theorem gaspFrame_core (s : State) : (gaspFrame s).core = s.core :=
  core_of_mask (gaspFrame_mask coreMask s rfl rfl)

@[simp] theorem summaryBegin_core (a0 : ℕ) (a1 : ℕ) (s : State) : (summaryBegin a0 a1 s).core = s.core :=
  core_of_mask (summaryBegin_mask coreMask a0 a1 s rfl)

@[simp] theorem summaryStart_core (a0 : ℕ) (a1 : ℕ) (s : State) : (summaryStart a0 a1 s).core = s.core :=
  core_of_mask (summaryStart_mask coreMask a0 a1 s rfl)

@[simp] theorem summaryWritten_core (s : State) : (summaryWritten s).core = s.core :=
  core_of_mask (summaryWritten_mask coreMask s rfl rfl)

@[simp] theorem gaspHoldLoops_core (a0 : State → Fin 16 → Bool) (s : State) : (gaspHoldLoops a0 s).core = s.core :=
  core_of_mask (gaspHoldLoops_mask coreMask a0 s rfl)

@[simp] theorem shedRank_core (a0 : ℕ) (s : State) : (shedRank a0 s).core = s.core :=
  core_of_mask (shedRank_mask coreMask a0 s rfl rfl)

@[simp] theorem simRank_core (a0 : ℕ) (s : State) : (simRank a0 s).core = s.core :=
  core_of_mask (simRank_mask coreMask a0 s rfl)

@[simp] theorem acpFreeze_core (a0 : Fin 16) (s : State) : (acpFreeze a0 s).core = s.core :=
  core_of_mask (acpFreeze_mask coreMask a0 s rfl)

@[simp] theorem gaspEnter_le (a0 : ℕ) (s : State) (c : Core) (h : Core.Le c s.core) : Core.Le c (gaspEnter a0 s).core := by
  simp only [gaspEnter]
  repeat' (first | with_reducible exact h | with_reducible apply sweepEnd_le | with_reducible apply withStat_le | with_reducible apply le_iteS | split | (simp only [core_ite]; split) | simp | simp [core_mk, core_now, core_pending, core_sram, core_gen, core_proof, core_inUse, core_bootCnt, core_tokCnt, core_opk, h])

@[simp] theorem holdWindow_core (a0 : W16) (s : State) : (holdWindow a0 s).core = s.core :=
  core_of_mask (holdWindow_mask coreMask a0 s rfl)

@[simp] theorem gaspEval_core (s : State) : (gaspEval s).core = s.core :=
  core_of_mask (gaspEval_mask coreMask s rfl rfl)

@[simp] theorem rehearseEval_core (s : State) : (rehearseEval s).core = s.core :=
  core_of_mask (rehearseEval_mask coreMask s rfl)

@[simp] theorem gaspLeave_core (s : State) : (gaspLeave s).core = s.core :=
  core_of_mask (gaspLeave_mask coreMask s rfl rfl rfl)

@[simp] theorem gaspExit_core (s : State) : (gaspExit s).core = s.core :=
  core_of_mask (gaspExit_mask coreMask s rfl rfl rfl rfl rfl)

@[simp] theorem gaspFast_core (a0 : ℕ) (a1 : W16) (s : State) : (gaspFast a0 a1 s).core = s.core :=
  core_of_mask (gaspFast_mask coreMask a0 a1 s rfl)

@[simp] theorem rehearseStart_core (s : State) : (rehearseStart s).core = s.core :=
  core_of_mask (rehearseStart_mask coreMask s rfl rfl)

@[simp] theorem gaspWrite_core (a0 : W16) (s : State) : (gaspWrite a0 s).core = s.core :=
  core_of_mask (gaspWrite_mask coreMask a0 s rfl rfl)

@[simp] theorem rehearseEnd_core (s : State) : (rehearseEnd s).core = s.core :=
  core_of_mask (rehearseEnd_mask coreMask s rfl rfl)

@[simp] theorem State.updSvc_core (s : State) (a1 : Svc → Svc) : (State.updSvc s a1).core = s.core :=
  core_of_mask (State.updSvc_mask coreMask s a1 rfl)

@[simp] theorem coldEvent_core (a0 : Bool) (a1 : ℕ) (s : State) : (coldEvent a0 a1 s).core = s.core :=
  core_of_mask (coldEvent_mask coreMask a0 a1 s rfl rfl)

@[simp] theorem svcWrite_core (a0 : ℕ) (a1 : W16) (a2 : Mark) (s : State) : (svcWrite a0 a1 a2 s).core = s.core :=
  core_of_mask (svcWrite_mask coreMask a0 a1 a2 s rfl rfl rfl)

@[simp] theorem visitResult_core (a0 : SvcTail) (a1 : List ℕ) (a2 : Bool) (s : State) : (visitResult a0 a1 a2 s).core = s.core :=
  core_of_mask (visitResult_mask coreMask a0 a1 a2 s rfl rfl rfl rfl)

@[simp] theorem meetUrgent_core (a0 : ℕ) (a1 : ℕ) (s : State) : (meetUrgent a0 a1 s).core = s.core :=
  core_of_mask (meetUrgent_mask coreMask a0 a1 s rfl)

@[simp] theorem nextEntry_core (a0 : ℕ) (s : State) : (nextEntry a0 s).core = s.core :=
  core_of_mask (nextEntry_mask coreMask a0 s rfl)

@[simp] theorem visitDone_core (s : State) : (visitDone s).core = s.core :=
  core_of_mask (visitDone_mask coreMask s rfl)

@[simp] theorem svcRestart_core (a0 : State) (s : State) : (svcRestart a0 s).core = s.core :=
  core_of_mask (svcRestart_mask coreMask a0 s rfl)

@[simp] theorem svrChange_core (a0 : W16) (s : State) : (svrChange a0 s).core = s.core :=
  core_of_mask (svrChange_mask coreMask a0 s rfl)

@[simp] theorem svcBoot_core (s : State) : (svcBoot s).core = s.core :=
  core_of_mask (svcBoot_mask coreMask s rfl)

@[simp] theorem urgentPlace_core (a0 : UrgReq) (s : State) : (urgentPlace a0 s).core = s.core :=
  core_of_mask (urgentPlace_mask coreMask a0 s rfl)

@[simp] theorem urgentWrite_core (a0 : W16) (s : State) : (urgentWrite a0 s).core = s.core :=
  core_of_mask (urgentWrite_mask coreMask a0 s rfl)

@[simp] theorem urgentStart_core (a0 : UrgReq) (s : State) : (urgentStart a0 s).core = s.core :=
  core_of_mask (urgentStart_mask coreMask a0 s rfl)

@[simp] theorem calPlace_core (s : State) : (calPlace s).core = s.core :=
  core_of_mask (calPlace_mask coreMask s rfl)

@[simp] theorem fastResult_core (a0 : Fin 2) (a1 : W16) (a2 : Mark) (s : State) : (fastResult a0 a1 a2 s).core = s.core :=
  core_of_mask (fastResult_mask coreMask a0 a1 a2 s rfl rfl rfl rfl)

@[simp] theorem calConv_core (a0 : UrgReq) (a1 : ℕ) (a2 : Bool) (s : State) : (calConv a0 a1 a2 s).core = s.core :=
  core_of_mask (calConv_mask coreMask a0 a1 a2 s rfl)

@[simp] theorem hostResult_core (a0 : Bool) (a1 : ℕ) (a2 : W16 × Bool) (a3 : Bool) (a4 : Bool) (s : State) : (hostResult a0 a1 a2 a3 a4 s).core = s.core :=
  core_of_mask (hostResult_mask coreMask a0 a1 a2 a3 a4 s rfl)

@[simp] theorem urgentDone_core (a0 : UrgReq) (a1 : ℕ) (a2 : ℕ) (a3 : Bool) (s : State) : (urgentDone a0 a1 a2 a3 s).core = s.core :=
  core_of_mask (urgentDone_mask coreMask a0 a1 a2 a3 s rfl rfl rfl rfl rfl rfl rfl)

@[simp] theorem State.updCal_core (s : State) (a1 : Cal → Cal) : (State.updCal s a1).core = s.core :=
  core_of_mask (State.updCal_mask coreMask s a1 rfl)

@[simp] theorem calMeasure_core (a0 : ℕ) (a1 : Bool) (s : State) : (calMeasure a0 a1 s).core = s.core :=
  core_of_mask (calMeasure_mask coreMask a0 a1 s rfl)

@[simp] theorem calZero_core (a0 : ℕ) (s : State) : (calZero a0 s).core = s.core :=
  core_of_mask (calZero_mask coreMask a0 s rfl)

@[simp] theorem calFull_core (a0 : ℕ) (s : State) : (calFull a0 s).core = s.core :=
  core_of_mask (calFull_mask coreMask a0 s rfl)

@[simp] theorem calMeasureEnd_core (s : State) : (calMeasureEnd s).core = s.core :=
  core_of_mask (calMeasureEnd_mask coreMask s rfl)

@[simp] theorem calApply_le (s : State) (c : Core) (h : Core.Le c s.core) : Core.Le c (calApply s).core := by
  simp only [calApply]
  repeat' (first | with_reducible exact h | with_reducible apply withStat_le | with_reducible apply le_iteS | split | (simp only [core_ite]; split) | simp | simp [core_mk, core_now, core_pending, core_sram, core_gen, core_proof, core_inUse, core_bootCnt, core_tokCnt, core_opk, h])

@[simp] theorem calAbort_core (s : State) : (calAbort s).core = s.core :=
  core_of_mask (calAbort_mask coreMask s rfl)

@[simp] theorem calWrite_le (a0 : W16) (s : State) (c : Core) (h : Core.Le c s.core) : Core.Le c (calWrite a0 s).core := by
  simp only [calWrite]
  repeat' (first | with_reducible exact h | with_reducible apply calApply_le | with_reducible apply withStat_le | with_reducible apply le_iteS | split | (simp only [core_ite]; split) | simp | simp [core_mk, core_now, core_pending, core_sram, core_gen, core_proof, core_inUse, core_bootCnt, core_tokCnt, core_opk, h])

@[simp] theorem idleReceived_core (a0 : Fin 8) (a1 : W32) (s : State) : (idleReceived a0 a1 s).core = s.core :=
  core_of_mask (idleReceived_mask coreMask a0 a1 s rfl rfl)

@[simp] theorem napReceived_core (a0 : Fin 8) (a1 : W32) (s : State) : (napReceived a0 a1 s).core = s.core :=
  core_of_mask (napReceived_mask coreMask a0 a1 s rfl)

@[simp] theorem howlFault_core (a0 : Fin 8) (a1 : W32) (s : State) : (howlFault a0 a1 s).core = s.core :=
  core_of_mask (howlFault_mask coreMask a0 a1 s rfl)

@[simp] theorem howlNote_core (a0 : Fin 8) (a1 : W32) (s : State) : (howlNote a0 a1 s).core = s.core :=
  core_of_mask (howlNote_mask coreMask a0 a1 s rfl)

@[simp] theorem howlGasp_le (a0 : Fin 8) (a1 : W32) (s : State) (c : Core) (h : Core.Le c s.core) : Core.Le c (howlGasp a0 a1 s).core := by
  simp only [howlGasp]
  repeat' (first | with_reducible exact h | with_reducible apply gaspEnter_le | with_reducible apply withStat_le | with_reducible apply le_iteS | split | (simp only [core_ite]; split) | simp | simp [core_mk, core_now, core_pending, core_sram, core_gen, core_proof, core_inUse, core_bootCnt, core_tokCnt, core_opk, h])

@[simp] theorem acqReceived_core (a0 : Fin 8) (a1 : W32) (s : State) : (acqReceived a0 a1 s).core = s.core :=
  core_of_mask (acqReceived_mask coreMask a0 a1 s rfl)

@[simp] theorem reservedReceived_core (s : State) : (reservedReceived s).core = s.core :=
  core_of_mask (reservedReceived_mask coreMask s rfl)

@[simp] theorem service_le (a0 : Fin 8) (a1 : ℕ) (a2 : ℕ) (a3 : W32) (s : State) (c : Core) (h : Core.Le c s.core) : Core.Le c (service a0 a1 a2 a3 s).core := by
  simp only [service]
  repeat' (first | with_reducible exact h | with_reducible apply swpSetReceived_le | with_reducible apply howlGasp_le | with_reducible apply withStat_le | with_reducible apply le_iteS | split | (simp only [core_ite]; split) | simp | simp [core_mk, core_now, core_pending, core_sram, core_gen, core_proof, core_inUse, core_bootCnt, core_tokCnt, core_opk, h])

@[simp] theorem deliver_le (a0 : Fin 8) (a1 : LshMsg) (s : State) (c : Core) (h : Core.Le c s.core) : Core.Le c (deliver a0 a1 s).core := by
  simp only [deliver]
  repeat' (first | with_reducible exact h | with_reducible apply withStat_le | with_reducible apply service_le | with_reducible apply le_iteS | split | (simp only [core_ite]; split) | simp | simp [core_mk, core_now, core_pending, core_sram, core_gen, core_proof, core_inUse, core_bootCnt, core_tokCnt, core_opk, h])

@[simp] theorem releaseAll_le (l : List (Nat × LshMsg × Nat)) (s : State) (c : Core) (h : Core.Le c s.core) :
    Core.Le c (releaseAll l s).core := by
  induction l generalizing s with
  | nil => exact h
  | cons x l ih => exact ih _ (by simp [h])

@[simp] theorem chewDisarm_le (a0 : ℕ) (s : State) (c : Core) (h : Core.Le c s.core) : Core.Le c (chewDisarm a0 s).core := by
  simp only [chewDisarm]
  repeat' (first | with_reducible exact h | with_reducible apply releaseAll_le | with_reducible apply withStat_le | with_reducible apply le_iteS | split | (simp only [core_ite]; split) | simp | simp [core_mk, core_now, core_pending, core_sram, core_gen, core_proof, core_inUse, core_bootCnt, core_tokCnt, core_opk, h])

@[simp] theorem chewSettle_le (s : State) (c : Core) (h : Core.Le c s.core) : Core.Le c (chewSettle s).core := by
  simp only [chewSettle]
  repeat' (first | with_reducible exact h | with_reducible apply chewDisarm_le | with_reducible apply withStat_le | with_reducible apply le_iteS | split | (simp only [core_ite]; split) | simp | simp [core_mk, core_now, core_pending, core_sram, core_gen, core_proof, core_inUse, core_bootCnt, core_tokCnt, core_opk, h])

@[simp] theorem noteTraffic_core (a0 : LshMsg) (s : State) : (noteTraffic a0 s).core = s.core :=
  core_of_mask (noteTraffic_mask coreMask a0 s rfl)

@[simp] theorem releaseOf_le (a0 : Fin 8) (s : State) (c : Core) (h : Core.Le c s.core) : Core.Le c (releaseOf a0 s).core := by
  simp only [releaseOf]
  repeat' (first | with_reducible exact h | with_reducible apply releaseAll_le | with_reducible apply withStat_le | with_reducible apply le_iteS | split | (simp only [core_ite]; split) | simp | simp [core_mk, core_now, core_pending, core_sram, core_gen, core_proof, core_inUse, core_bootCnt, core_tokCnt, core_opk, h])

@[simp] theorem receive_le (a0 : Fin 8) (a1 : ℕ) (a2 : ℕ) (a3 : W32) (s : State) (c : Core) (h : Core.Le c s.core) : Core.Le c (receive a0 a1 a2 a3 s).core := by
  simp only [receive]
  repeat' (first | with_reducible exact h | with_reducible apply chewSettle_le | with_reducible apply releaseOf_le | with_reducible apply withStat_le | with_reducible apply deliver_le | with_reducible apply le_iteS | split | (simp only [core_ite]; split) | simp | simp [core_mk, core_now, core_pending, core_sram, core_gen, core_proof, core_inUse, core_bootCnt, core_tokCnt, core_opk, h])

@[simp] theorem sendNote_core (m : LshMsg) (s : State) : (sendNote m s).2.core = s.core := by
  unfold sendNote
  (repeat' split) <;> simp [core_mk, core_now, core_pending, core_sram, core_gen, core_proof, core_inUse, core_bootCnt, core_tokCnt, core_opk]

@[simp] theorem slotTransmit_core (s : State) : (slotTransmit s).core = s.core :=
  core_of_mask (slotTransmit_mask coreMask s rfl rfl rfl)

@[simp] theorem releaseOld_le (s : State) (c : Core) (h : Core.Le c s.core) : Core.Le c (releaseOld s).core := by
  simp only [releaseOld]
  repeat' (first | with_reducible exact h | with_reducible apply releaseAll_le | with_reducible apply withStat_le | with_reducible apply le_iteS | split | (simp only [core_ite]; split) | simp | simp [core_mk, core_now, core_pending, core_sram, core_gen, core_proof, core_inUse, core_bootCnt, core_tokCnt, core_opk, h])

@[simp] theorem frameDone_le (a0 : FrameView) (s : State) (c : Core) (h : Core.Le c s.core) : Core.Le c (frameDone a0 s).core := by
  simp only [frameDone]
  repeat' (first | with_reducible exact h | with_reducible apply releaseOld_le | with_reducible apply chewSettle_le | with_reducible apply withStat_le | with_reducible apply le_iteS | split | (simp only [core_ite]; split) | simp | simp [core_mk, core_now, core_pending, core_sram, core_gen, core_proof, core_inUse, core_bootCnt, core_tokCnt, core_opk, h])

@[simp] theorem chewArm_core (s : State) : (chewArm s).core = s.core :=
  core_of_mask (chewArm_mask coreMask s rfl rfl rfl rfl rfl)

@[simp] theorem chwWrite_le (a0 : W16) (s : State) (c : Core) (h : Core.Le c s.core) : Core.Le c (chwWrite a0 s).core := by
  simp only [chwWrite]
  repeat' (first | with_reducible exact h | with_reducible apply chewDisarm_le | with_reducible apply withStat_le | with_reducible apply le_iteS | split | (simp only [core_ite]; split) | simp | simp [core_mk, core_now, core_pending, core_sram, core_gen, core_proof, core_inUse, core_bootCnt, core_tokCnt, core_opk, h])

@[simp] theorem driveFault_core (s : State) : (driveFault s).core = s.core :=
  core_of_mask (driveFault_mask coreMask s rfl)

@[simp] theorem howlSend_core (a0 : Byte) (a1 : Option (Fin 16)) (a2 : ℕ) (a3 : W16) (s : State) : (howlSend a0 a1 a2 a3 s).core = s.core :=
  core_of_mask (howlSend_mask coreMask a0 a1 a2 a3 s rfl)

@[simp] theorem howlAction_core (a0 : Byte) (a1 : Fin 16) (a2 : ℕ) (a3 : W16) (s : State) : (howlAction a0 a1 a2 a3 s).core = s.core :=
  core_of_mask (howlAction_mask coreMask a0 a1 a2 a3 s rfl)

@[simp] theorem ovTrip_core (a0 : Fin 16) (s : State) : (ovTrip a0 s).core = s.core :=
  core_of_mask (ovTrip_mask coreMask a0 s rfl rfl)

@[simp] theorem ovSettle_core (a0 : Fin 16) (s : State) : (ovSettle a0 s).core = s.core :=
  core_of_mask (ovSettle_mask coreMask a0 s rfl)

@[simp] theorem uvNote_core (a0 : Fin 16) (s : State) : (uvNote a0 s).core = s.core :=
  core_of_mask (uvNote_mask coreMask a0 s rfl)

@[simp] theorem octNote_core (a0 : Fin 16) (s : State) : (octNote a0 s).core = s.core :=
  core_of_mask (octNote_mask coreMask a0 s rfl)

@[simp] theorem ocpTrip_core (a0 : Fin 16) (a1 : Fin 64) (s : State) : (ocpTrip a0 a1 s).core = s.core :=
  core_of_mask (ocpTrip_mask coreMask a0 a1 s rfl rfl)

@[simp] theorem negTrip_core (a0 : Fin 16) (a1 : Fin 64) (s : State) : (negTrip a0 a1 s).core = s.core :=
  core_of_mask (negTrip_mask coreMask a0 a1 s rfl rfl)

@[simp] theorem removedClear_core (a0 : ℕ) (a1 : W16) (s : State) : (removedClear a0 a1 s).core = s.core :=
  core_of_mask (removedClear_mask coreMask a0 a1 s rfl)

@[simp] theorem logFault_core (a0 : Fin 16) (a1 : Acted) (s : State) : (logFault a0 a1 s).core = s.core :=
  core_of_mask (logFault_mask coreMask a0 a1 s rfl rfl rfl rfl rfl)

@[simp] theorem logFaults_core (a0 : Fin 16) (a1 : List Acted) (s : State) : (logFaults a0 a1 s).core = s.core :=
  core_of_mask (logFaults_mask coreMask a0 a1 s rfl rfl rfl rfl rfl)

@[simp] theorem faultAlert_core (a0 : Fin 16) (s : State) : (faultAlert a0 s).core = s.core :=
  core_of_mask (faultAlert_mask coreMask a0 s rfl)

@[simp] theorem enterHiccup_core (a0 : Fin 16) (s : State) : (enterHiccup a0 s).core = s.core :=
  core_of_mask (enterHiccup_mask coreMask a0 s rfl rfl)

@[simp] theorem enterLatched_core (a0 : Fin 16) (s : State) : (enterLatched a0 s).core = s.core :=
  core_of_mask (enterLatched_mask coreMask a0 s rfl rfl)

@[simp] theorem enterCrowbar_core (a0 : Fin 16) (s : State) : (enterCrowbar a0 s).core = s.core :=
  core_of_mask (enterCrowbar_mask coreMask a0 s rfl rfl)

@[simp] theorem removePhases_core (a0 : Raised) (s : State) : (removePhases a0 s).core = s.core :=
  core_of_mask (removePhases_mask coreMask a0 s rfl)

@[simp] theorem shedFaults_core (a0 : Fin 16) (a1 : List Acted) (s : State) : (shedFaults a0 a1 s).core = s.core :=
  core_of_mask (shedFaults_mask coreMask a0 a1 s rfl rfl)

@[simp] theorem faultAction_core (a0 : Fin 16) (s : State) : (faultAction a0 s).core = s.core :=
  core_of_mask (faultAction_mask coreMask a0 s rfl rfl rfl rfl rfl rfl rfl)

@[simp] theorem fltClr_core (a0 : W16) (s : State) : (fltClr a0 s).core = s.core :=
  core_of_mask (fltClr_mask coreMask a0 s rfl)

@[simp] theorem finLoop_core (a0 : Fin 16) (s : State) : (finLoop a0 s).core = s.core :=
  core_of_mask (finLoop_mask coreMask a0 s rfl rfl rfl)

@[simp] theorem finOnset_core (s : State) : (finOnset s).core = s.core :=
  core_of_mask (finOnset_mask coreMask s rfl rfl rfl rfl rfl rfl rfl)

@[simp] theorem faultInSeen_core (s : State) : (faultInSeen s).core = s.core :=
  core_of_mask (faultInSeen_mask coreMask s rfl rfl rfl rfl rfl rfl rfl)

@[simp] theorem killPins_core (s : State) : (killPins s).core = s.core :=
  core_of_mask (killPins_mask coreMask s rfl)

@[simp] theorem killLoop_core (a0 : Fin 16) (s : State) : (killLoop a0 s).core = s.core :=
  core_of_mask (killLoop_mask coreMask a0 s rfl rfl rfl)

@[simp] theorem raiseKill_core (s : State) : (raiseKill s).core = s.core :=
  core_of_mask (raiseKill_mask coreMask s rfl rfl rfl rfl)

@[simp] theorem enterKilled_core (s : State) : (enterKilled s).core = s.core :=
  core_of_mask (enterKilled_mask coreMask s rfl rfl rfl rfl rfl rfl)

@[simp] theorem leaveKilled_core (s : State) : (leaveKilled s).core = s.core :=
  core_of_mask (leaveKilled_mask coreMask s rfl rfl)

@[simp] theorem layerBoundary_core (a0 : Fin 16) (s : State) : (layerBoundary a0 s).core = s.core :=
  core_of_mask (layerBoundary_mask coreMask a0 s rfl)

@[simp] theorem layerMark_core (a0 : Fin 16) (a1 : ℕ) (s : State) : (layerMark a0 a1 s).core = s.core :=
  core_of_mask (layerMark_mask coreMask a0 a1 s rfl)

@[simp] theorem strobeEdge_core (a0 : Fin 16) (a1 : Bool) (s : State) : (strobeEdge a0 a1 s).core = s.core :=
  core_of_mask (strobeEdge_mask coreMask a0 a1 s rfl)

@[simp] theorem layerMarks_core (a0 : Fin 16) (s : State) : (layerMarks a0 s).core = s.core :=
  core_of_mask (layerMarks_mask coreMask a0 s rfl)

@[simp] theorem layerMiss_core (a0 : Fin 16) (s : State) : (layerMiss a0 s).core = s.core :=
  core_of_mask (layerMiss_mask coreMask a0 s rfl)

@[simp] theorem windowNote_core (a0 : Fin 16) (a1 : ℤ) (s : State) : (windowNote a0 a1 s).core = s.core :=
  core_of_mask (windowNote_mask coreMask a0 a1 s rfl)

@[simp] theorem layerRecord_core (a0 : Fin 16) (a1 : ℤ) (a2 : Bool) (s : State) : (layerRecord a0 a1 a2 s).core = s.core :=
  core_of_mask (layerRecord_mask coreMask a0 a1 a2 s rfl)

@[simp] theorem layerHeld_core (a0 : Fin 16) (s : State) : (layerHeld a0 s).core = s.core :=
  core_of_mask (layerHeld_mask coreMask a0 s rfl)

@[simp] theorem layerAbandon_core (a0 : Fin 16) (s : State) : (layerAbandon a0 s).core = s.core :=
  core_of_mask (layerAbandon_mask coreMask a0 s rfl)

@[simp] theorem layerAutoEnd_core (a0 : Fin 16) (s : State) : (layerAutoEnd a0 s).core = s.core :=
  core_of_mask (layerAutoEnd_mask coreMask a0 s rfl)

@[simp] theorem layerChunk_core (a0 : Fin 16) (s : State) : (layerChunk a0 s).core = s.core :=
  core_of_mask (layerChunk_mask coreMask a0 s rfl)

@[simp] theorem layerDiverge_core (a0 : Fin 16) (s : State) : (layerDiverge a0 s).core = s.core :=
  core_of_mask (layerDiverge_mask coreMask a0 s rfl rfl)

@[simp] theorem layerPeriodEnd_core (a0 : Fin 16) (s : State) : (layerPeriodEnd a0 s).core = s.core :=
  core_of_mask (layerPeriodEnd_mask coreMask a0 s rfl rfl)

@[simp] theorem lyrClear_core (a0 : W16) (s : State) : (lyrClear a0 s).core = s.core :=
  core_of_mask (lyrClear_mask coreMask a0 s rfl)

@[simp] theorem layerCommit_core (a0 : Fin 16) (a1 : W16) (a2 : W16) (a3 : W16) (a4 : W16) (a5 : Bool) (a6 : Bool) (s : State) : (layerCommit a0 a1 a2 a3 a4 a5 a6 s).core = s.core :=
  core_of_mask (layerCommit_mask coreMask a0 a1 a2 a3 a4 a5 a6 s rfl)

@[simp] theorem layerBoot_core (a0 : Fin 16) (a1 : Bool) (s : State) : (layerBoot a0 a1 s).core = s.core :=
  core_of_mask (layerBoot_mask coreMask a0 a1 s rfl)

@[simp] theorem State.updPort_core (s : State) (a1 : Fin 8) (a2 : AcpPort → AcpPort) : (State.updPort s a1 a2).core = s.core :=
  core_of_mask (State.updPort_mask coreMask s a1 a2 rfl)

@[simp] theorem acpEvt_core (a0 : Fin 8) (a1 : ℕ) (s : State) : (acpEvt a0 a1 s).core = s.core :=
  core_of_mask (acpEvt_mask coreMask a0 a1 s rfl rfl)

@[simp] theorem acpAccept_core (a0 : Fin 16) (a1 : W16) (s : State) : (acpAccept a0 a1 s).core = s.core :=
  core_of_mask (acpAccept_mask coreMask a0 a1 s rfl)

@[simp] theorem acpHint_core (a0 : Fin 16) (a1 : ℕ) (s : State) : (acpHint a0 a1 s).core = s.core :=
  core_of_mask (acpHint_mask coreMask a0 a1 s rfl)

@[simp] theorem acpMark_core (a0 : Fin 16) (a1 : W16) (s : State) : (acpMark a0 a1 s).core = s.core :=
  core_of_mask (acpMark_mask coreMask a0 a1 s rfl)

@[simp] theorem acpLinkUp_core (a0 : Fin 8) (s : State) : (acpLinkUp a0 s).core = s.core :=
  core_of_mask (acpLinkUp_mask coreMask a0 s rfl rfl rfl)

@[simp] theorem acpSend_core (a0 : Fin 8) (a1 : ℕ) (a2 : W32) (s : State) : (acpSend a0 a1 a2 s).core = s.core :=
  core_of_mask (acpSend_mask coreMask a0 a1 a2 s rfl)

@[simp] theorem acpBadCrc_core (a0 : Fin 8) (a1 : W32) (s : State) : (acpBadCrc a0 a1 s).core = s.core :=
  core_of_mask (acpBadCrc_mask coreMask a0 a1 s rfl rfl)

@[simp] theorem acpNew_core (a0 : Fin 8) (a1 : W32) (s : State) : (acpNew a0 a1 s).core = s.core :=
  core_of_mask (acpNew_mask coreMask a0 a1 s rfl rfl rfl)

@[simp] theorem acpGood_core (a0 : Fin 8) (a1 : W32) (s : State) : (acpGood a0 a1 s).core = s.core :=
  core_of_mask (acpGood_mask coreMask a0 a1 s rfl rfl rfl)

@[simp] theorem acpLow_core (a0 : Fin 8) (a1 : W32) (s : State) : (acpLow a0 a1 s).core = s.core :=
  core_of_mask (acpLow_mask coreMask a0 a1 s rfl rfl)

@[simp] theorem acpRequest_le (a0 : Fin 8) (a1 : W32) (a2 : ℕ) (s : State) (c : Core) (h : Core.Le c s.core) : Core.Le c (acpRequest a0 a1 a2 s).core := by
  simp only [acpRequest]
  repeat' (first | with_reducible exact h | with_reducible apply chewSettle_le | with_reducible apply withStat_le | with_reducible apply le_iteS | split | (simp only [core_ite]; split) | simp | simp [core_mk, core_now, core_pending, core_sram, core_gen, core_proof, core_inUse, core_bootCnt, core_tokCnt, core_opk, h])

@[simp] theorem getstatEnd_core (a0 : Fin 8) (s : State) : (getstatEnd a0 s).core = s.core :=
  core_of_mask (getstatEnd_mask coreMask a0 s rfl rfl)

@[simp] theorem arrivalNote_core (a0 : Fin 16) (s : State) : (arrivalNote a0 s).core = s.core :=
  core_of_mask (arrivalNote_mask coreMask a0 s rfl)

@[simp] theorem arrive_core (a0 : Fin 16) (s : State) : (arrive a0 s).core = s.core :=
  core_of_mask (arrive_mask coreMask a0 s rfl rfl rfl)

@[simp] theorem acpLossLoop_core (a0 : Fin 16) (s : State) : (acpLossLoop a0 s).core = s.core :=
  core_of_mask (acpLossLoop_mask coreMask a0 s rfl rfl)

@[simp] theorem acpLose_core (a0 : Fin 8) (s : State) : (acpLose a0 s).core = s.core :=
  core_of_mask (acpLose_mask coreMask a0 s rfl rfl rfl rfl)

@[simp] theorem linklossAct_core (a0 : Fin 16) (s : State) : (linklossAct a0 s).core = s.core :=
  core_of_mask (linklossAct_mask coreMask a0 s rfl)

@[simp] theorem acpEvtWrite_core (a0 : Fin 8) (a1 : W16) (s : State) : (acpEvtWrite a0 a1 s).core = s.core :=
  core_of_mask (acpEvtWrite_mask coreMask a0 a1 s rfl)

@[simp] theorem acpPortOff_core (a0 : Fin 8) (s : State) : (acpPortOff a0 s).core = s.core :=
  core_of_mask (acpPortOff_mask coreMask a0 s rfl)

@[simp] theorem acpCommit_core (s : State) : (acpCommit s).core = s.core :=
  core_of_mask (acpCommit_mask coreMask s rfl)

@[simp] theorem State.updLane_core (s : State) (a1 : Fin 16) (a2 : Lane → Lane) : (State.updLane s a1 a2).core = s.core :=
  core_of_mask (State.updLane_mask coreMask s a1 a2 rfl)

@[simp] theorem pairNote_core (a0 : Fin 16) (a1 : Fin 4) (s : State) : (pairNote a0 a1 s).core = s.core :=
  core_of_mask (pairNote_mask coreMask a0 a1 s rfl)

@[simp] theorem pairsNote_core (a0 : Fin 16) (s : State) : (pairsNote a0 s).core = s.core :=
  core_of_mask (pairsNote_mask coreMask a0 s rfl)

@[simp] theorem disagree_core (a0 : Fin 16) (a1 : Fin 4) (s : State) : (disagree a0 a1 s).core = s.core :=
  core_of_mask (disagree_mask coreMask a0 a1 s rfl rfl)

@[simp] theorem halveRate_core (a0 : Fin 16) (s : State) : (halveRate a0 s).core = s.core :=
  core_of_mask (halveRate_mask coreMask a0 s rfl rfl)

@[simp] theorem superviseSat_core (a0 : Fin 16) (s : State) : (superviseSat a0 s).core = s.core :=
  core_of_mask (superviseSat_mask coreMask a0 s rfl rfl)

@[simp] theorem loadDac_core (a0 : Fin 16) (s : State) : (loadDac a0 s).core = s.core :=
  core_of_mask (loadDac_mask coreMask a0 s rfl rfl)

@[simp] theorem closeNoSink_core (a0 : Fin 16) (s : State) : (closeNoSink a0 s).core = s.core :=
  core_of_mask (closeNoSink_mask coreMask a0 s rfl)

@[simp] theorem takeMode_core (a0 : Fin 16) (s : State) : (takeMode a0 s).core = s.core :=
  core_of_mask (takeMode_mask coreMask a0 s rfl)

@[simp] theorem sampleBoundary_core (a0 : Fin 16) (s : State) : (sampleBoundary a0 s).core = s.core :=
  core_of_mask (sampleBoundary_mask coreMask a0 s rfl rfl rfl rfl rfl rfl rfl)

@[simp] theorem kennelBoundary_core (a0 : Fin 16) (s : State) : (kennelBoundary a0 s).core = s.core :=
  core_of_mask (kennelBoundary_mask coreMask a0 s rfl rfl rfl)

@[simp] theorem takeSense_core (a0 : Fin 16) (a1 : List ℤ) (a2 : Option ℤ) (s : State) : (takeSense a0 a1 a2 s).core = s.core :=
  core_of_mask (takeSense_mask coreMask a0 a1 a2 s rfl)

@[simp] theorem notePreBias_core (a0 : Fin 16) (a1 : Bool) (s : State) : (notePreBias a0 a1 s).core = s.core :=
  core_of_mask (notePreBias_mask coreMask a0 a1 s rfl)

@[simp] theorem noteOutputs_core (a0 : Fin 16) (s : State) : (noteOutputs a0 s).core = s.core :=
  core_of_mask (noteOutputs_mask coreMask a0 s rfl)

@[simp] theorem takeVin_core (a0 : Fin 16) (s : State) : (takeVin a0 s).core = s.core :=
  core_of_mask (takeVin_mask coreMask a0 s rfl)

@[simp] theorem takeDroop_core (a0 : Fin 16) (a1 : ℤ) (s : State) : (takeDroop a0 a1 s).core = s.core :=
  core_of_mask (takeDroop_mask coreMask a0 a1 s rfl)

@[simp] theorem placeJob_core (a0 : Fin 16) (a1 : ℕ) (a2 : ℕ) (a3 : ℕ) (s : State) : (placeJob a0 a1 a2 a3 s).core = s.core :=
  core_of_mask (placeJob_mask coreMask a0 a1 a2 a3 s rfl rfl)

@[simp] theorem step206_core (a0 : Fin 16) (a1 : Bool) (a2 : W16) (a3 : Frac) (a4 : Bool) (s : State) : (step206 a0 a1 a2 a3 a4 s).core = s.core :=
  core_of_mask (step206_mask coreMask a0 a1 a2 a3 a4 s rfl rfl rfl rfl rfl rfl)

@[simp] theorem kennelStep_core (a0 : Fin 16) (s : State) : (kennelStep a0 s).core = s.core :=
  core_of_mask (kennelStep_mask coreMask a0 s rfl rfl rfl rfl)

@[simp] theorem abandonLayer_core (a0 : Fin 16) (s : State) : (abandonLayer a0 s).core = s.core :=
  core_of_mask (abandonLayer_mask coreMask a0 s rfl rfl)

@[simp] theorem holdSample_core (a0 : Fin 16) (s : State) : (holdSample a0 s).core = s.core :=
  core_of_mask (holdSample_mask coreMask a0 s rfl rfl)

@[simp] theorem laneNow_core (a0 : Fin 16) (s : State) : (laneNow a0 s).core = s.core :=
  core_of_mask (laneNow_mask coreMask a0 s rfl)

@[simp] theorem settleStep_core (a0 : Fin 16) (s : State) : (settleStep a0 s).core = s.core :=
  core_of_mask (settleStep_mask coreMask a0 s rfl)

@[simp] theorem runningEnd_core (a0 : Fin 16) (a1 : Bool) (a2 : W16) (a3 : Frac) (s : State) : (runningEnd a0 a1 a2 a3 s).core = s.core :=
  core_of_mask (runningEnd_mask coreMask a0 a1 a2 a3 s rfl rfl rfl rfl rfl rfl rfl)

@[simp] theorem acquisitionEnd_core (a0 : Fin 16) (a1 : List ℤ) (a2 : Option ℤ) (s : State) : (acquisitionEnd a0 a1 a2 s).core = s.core :=
  core_of_mask (acquisitionEnd_mask coreMask a0 a1 a2 s rfl rfl rfl rfl rfl rfl rfl)

@[simp] theorem snapWrite_core (a0 : W16) (s : State) : (snapWrite a0 s).core = s.core :=
  core_of_mask (snapWrite_mask coreMask a0 s rfl)

@[simp] theorem capture_core (s : State) : (capture s).core = s.core :=
  core_of_mask (capture_mask coreMask s rfl rfl rfl)

@[simp] theorem engClr_core (a0 : W16) (s : State) : (engClr a0 s).core = s.core :=
  core_of_mask (engClr_mask coreMask a0 s rfl)

@[simp] theorem engRestore_core (a0 : W16) (s : State) : (engRestore a0 s).core = s.core :=
  core_of_mask (engRestore_mask coreMask a0 s rfl)

@[simp] theorem enableNote_core (a0 : Fin 16) (s : State) : (enableNote a0 s).core = s.core :=
  core_of_mask (enableNote_mask coreMask a0 s rfl)

@[simp] theorem setGpio_core (a0 : Fin 24) (a1 : Bool) (s : State) : (setGpio a0 a1 s).core = s.core :=
  core_of_mask (setGpio_mask coreMask a0 a1 s rfl)

@[simp] theorem State.withUse_core (s : State) (u : List (Nat × W16)) : (s.withUse u).core = { s.core with inUse := u } := id rfl

@[simp] theorem State.updFch_core (s : State) (a1 : Fch → Fch) : (State.updFch s a1).core = s.core :=
  core_of_mask (State.updFch_mask coreMask s a1 rfl)

@[simp] theorem State.updEntry_core (s : State) (a1 : Fin 32) (a2 : FchEntry → FchEntry) : (State.updEntry s a1 a2).core = s.core :=
  core_of_mask (State.updEntry_mask coreMask s a1 a2 rfl)

@[simp] theorem State.forEntries_core (s : State) (a1 : Fin 32 → FchEntry → FchEntry) : (State.forEntries s a1).core = s.core :=
  core_of_mask (State.forEntries_mask coreMask s a1 rfl)

@[simp] theorem fchEvt_core (a0 : ℕ) (s : State) : (fchEvt a0 s).core = s.core :=
  core_of_mask (fchEvt_mask coreMask a0 s rfl rfl)

@[simp] theorem pollStart_le (a0 : Fin 32) (s : State) (c : Core) (h : Core.Le c s.core) : Core.Le c (pollStart a0 s).core := by
  simp only [pollStart]
  repeat' (first | with_reducible exact h | with_reducible apply chewSettle_le | with_reducible apply withStat_le | with_reducible apply le_iteS | split | (simp only [core_ite]; split) | simp | simp [core_mk, core_now, core_pending, core_sram, core_gen, core_proof, core_inUse, core_bootCnt, core_tokCnt, core_opk, h])

@[simp] theorem pollFail_core (a0 : Fin 32) (s : State) : (pollFail a0 s).core = s.core :=
  core_of_mask (pollFail_mask coreMask a0 s rfl rfl)

@[simp] theorem pollGood_core (a0 : Fin 32) (a1 : W16) (s : State) : (pollGood a0 a1 s).core = s.core :=
  core_of_mask (pollGood_mask coreMask a0 a1 s rfl rfl)

@[simp] theorem pollEnd_core (s : State) : (pollEnd s).core = s.core :=
  core_of_mask (pollEnd_mask coreMask s rfl)

@[simp] theorem pollAbort_core (s : State) : (pollAbort s).core = s.core :=
  core_of_mask (pollAbort_mask coreMask s rfl rfl rfl)

@[simp] theorem portDead_core (a0 : ℕ) (s : State) : (portDead a0 s).core = s.core :=
  core_of_mask (portDead_mask coreMask a0 s rfl rfl rfl rfl)

@[simp] theorem attemptFail_core (a0 : ℕ) (s : State) : (attemptFail a0 s).core = s.core :=
  core_of_mask (attemptFail_mask coreMask a0 s rfl rfl rfl rfl)

@[simp] theorem portUp_core (s : State) : (portUp s).core = s.core :=
  core_of_mask (portUp_mask coreMask s rfl)

@[simp] theorem attemptGood_core (s : State) : (attemptGood s).core = s.core :=
  core_of_mask (attemptGood_mask coreMask s rfl rfl)

@[simp] theorem fchEvtWrite_core (a0 : W16) (s : State) : (fchEvtWrite a0 s).core = s.core :=
  core_of_mask (fchEvtWrite_mask coreMask a0 s rfl)

@[simp] theorem fchEntries_core (s : State) : (fchEntries s).core = s.core :=
  core_of_mask (fchEntries_mask coreMask s rfl)

@[simp] theorem fchPort_core (s : State) : (fchPort s).core = s.core :=
  core_of_mask (fchPort_mask coreMask s rfl)

@[simp] theorem fchCommit_core (s : State) : (fchCommit s).core = s.core :=
  core_of_mask (fchCommit_mask coreMask s rfl rfl)

@[simp] theorem fchBoot_core (s : State) : (fchBoot s).core = s.core :=
  core_of_mask (fchBoot_mask coreMask s rfl)

@[simp] theorem State.updTpl_core (s : State) (a1 : Fin 4) (a2 : CrbTpl → CrbTpl) : (State.updTpl s a1 a2).core = s.core :=
  core_of_mask (State.updTpl_mask coreMask s a1 a2 rfl)

@[simp] theorem State.updCrbSlot_core (s : State) (a1 : Fin 16) (a2 : CrbSlot → CrbSlot) : (State.updCrbSlot s a1 a2).core = s.core :=
  core_of_mask (State.updCrbSlot_mask coreMask s a1 a2 rfl)

@[simp] theorem tplTake_core (a0 : Fin 4) (s : State) : (tplTake a0 s).core = s.core :=
  core_of_mask (tplTake_mask coreMask a0 s rfl)

@[simp] theorem tplsTake_core (s : State) : (tplsTake s).core = s.core :=
  core_of_mask (tplsTake_mask coreMask s rfl)

@[simp] theorem tplArm_core (a0 : Fin 4) (s : State) : (tplArm a0 s).core = s.core :=
  core_of_mask (tplArm_mask coreMask a0 s rfl)

@[simp] theorem crbArm_core (s : State) : (crbArm s).core = s.core :=
  core_of_mask (crbArm_mask coreMask s rfl)

@[simp] theorem enterPost_le (a0 : Fin 4) (a1 : Fin 16) (a2 : ℕ) (a3 : ℕ × Byte × ℕ) (s : State) (c : Core) (h : Core.Le c s.core) : Core.Le c (enterPost a0 a1 a2 a3 s).core := by
  simp only [enterPost]
  repeat' (first | with_reducible exact h | with_reducible apply withStat_le | with_reducible apply ramPut_le | with_reducible apply le_iteS | split | (simp only [core_ite]; split) | simp | simp [core_mk, core_now, core_pending, core_sram, core_gen, core_proof, core_inUse, core_bootCnt, core_tokCnt, core_opk, h])

@[simp] theorem addExtra_core (a0 : Fin 4) (a1 : ℕ) (s : State) : (addExtra a0 a1 s).core = s.core :=
  core_of_mask (addExtra_mask coreMask a0 a1 s rfl)

@[simp] theorem trigger_le (a0 : Fin 4) (a1 : ℕ) (a2 : ℕ × Byte × ℕ) (s : State) (c : Core) (h : Core.Le c s.core) : Core.Le c (trigger a0 a1 a2 s).core := by
  simp only [trigger]
  repeat' (first | with_reducible exact h | with_reducible apply enterPost_le | with_reducible apply withStat_le | with_reducible apply le_iteS | split | (simp only [core_ite]; split) | simp | simp [core_mk, core_now, core_pending, core_sram, core_gen, core_proof, core_inUse, core_bootCnt, core_tokCnt, core_opk, h])

theorem foldl_le {α : Type} (f : State → α → State) (hf : ∀ c s a, Core.Le c s.core → Core.Le c (f s a).core) (l : List α) (s : State)
    (c : Core) (h : Core.Le c s.core) : Core.Le c (l.foldl f s).core := by
  induction l generalizing s with
  | nil => exact h
  | cons x l ih => exact ih _ (hf _ _ _ h)

@[simp] theorem eventTriggers_le (e : LogEntry) (r : Nat) (s : State) (c : Core) (h : Core.Le c s.core) :
    Core.Le c (eventTriggers e r s).core := by
  refine foldl_le _ (fun c s a k => ?_) _ _ _ h
  split <;> simp [k]

@[simp] theorem State.updPins_core (s : State) (a1 : Pins → Pins) : (State.updPins s a1).core = s.core :=
  core_of_mask (State.updPins_mask coreMask s a1 rfl)

@[simp] theorem pulseStart_core (a0 : Fin 24) (s : State) : (pulseStart a0 s).core = s.core :=
  core_of_mask (pulseStart_mask coreMask a0 s rfl)

@[simp] theorem eventPulses_core (a0 : LogEntry) (s : State) : (eventPulses a0 s).core = s.core :=
  core_of_mask (eventPulses_mask coreMask a0 s rfl)

@[simp] theorem logAppend_le (a0 : LogEntry) (s : State) (c : Core) (h : Core.Le c s.core) : Core.Le c (logAppend a0 s).core := by
  simp only [logAppend]
  repeat' (first | with_reducible exact h | with_reducible apply withStat_le | with_reducible apply ramPut_le | with_reducible apply le_iteS | split | (simp only [core_ite]; split) | simp | simp [core_mk, core_now, core_pending, core_sram, core_gen, core_proof, core_inUse, core_bootCnt, core_tokCnt, core_opk, h])

@[simp] theorem appendHead_le (s : State) (c : Core) (h : Core.Le c s.core) : Core.Le c (appendHead s).core := by
  simp only [appendHead]
  repeat' (first | with_reducible exact h | with_reducible apply eventTriggers_le | with_reducible apply logAppend_le | with_reducible apply withStat_le | with_reducible apply le_iteS | split | (simp only [core_ite]; split) | simp | simp [core_mk, core_now, core_pending, core_sram, core_gen, core_proof, core_inUse, core_bootCnt, core_tokCnt, core_opk, h])

@[simp] theorem crumbTrigger_le (a0 : Fin 4) (s : State) (c : Core) (h : Core.Le c s.core) : Core.Le c (crumbTrigger a0 s).core := by
  simp only [crumbTrigger]
  repeat' (first | with_reducible exact h | with_reducible apply withStat_le | with_reducible apply trigger_le | with_reducible apply le_iteS | split | (simp only [core_ite]; split) | simp | simp [core_mk, core_now, core_pending, core_sram, core_gen, core_proof, core_inUse, core_bootCnt, core_tokCnt, core_opk, h])

@[simp] theorem slotLock_core (a0 : Fin 16) (s : State) : (slotLock a0 s).core = s.core :=
  core_of_mask (slotLock_mask coreMask a0 s rfl)

@[simp] theorem slotUnlock_core (a0 : Fin 16) (s : State) : (slotUnlock a0 s).core = s.core :=
  core_of_mask (slotUnlock_mask coreMask a0 s rfl)

@[simp] theorem slotRelease_core (a0 : Fin 16) (s : State) : (slotRelease a0 s).core = s.core :=
  core_of_mask (slotRelease_mask coreMask a0 s rfl)

@[simp] theorem crumbHold_core (a0 : Bool) (s : State) : (crumbHold a0 s).core = s.core :=
  core_of_mask (crumbHold_mask coreMask a0 s rfl)

@[simp] theorem crumbCtlWrite_le (a0 : W16) (s : State) (c : Core) (h : Core.Le c s.core) : Core.Le c (crumbCtlWrite a0 s).core := by
  simp only [crumbCtlWrite]
  repeat' (first | with_reducible exact h | with_reducible apply crumbTrigger_le | with_reducible apply withStat_le | with_reducible apply le_iteS | split | (simp only [core_ite]; split) | simp | simp [core_mk, core_now, core_pending, core_sram, core_gen, core_proof, core_inUse, core_bootCnt, core_tokCnt, core_opk, h])

@[simp] theorem sealRecord_le (a0 : Fin 4) (a1 : Fin 16) (s : State) (c : Core) (h : Core.Le c s.core) : Core.Le c (sealRecord a0 a1 s).core := by
  simp only [sealRecord]
  repeat' (first | with_reducible exact h | with_reducible apply withStat_le | with_reducible apply ramPut_le | with_reducible apply le_iteS | split | (simp only [core_ite]; split) | simp | simp [core_mk, core_now, core_pending, core_sram, core_gen, core_proof, core_inUse, core_bootCnt, core_tokCnt, core_opk, h])

@[simp] theorem captureSample_le (a0 : Fin 4) (s : State) (c : Core) (h : Core.Le c s.core) : Core.Le c (captureSample a0 s).core := by
  simp only [captureSample]
  repeat' (first | with_reducible exact h | with_reducible apply sealRecord_le | with_reducible apply enterPost_le | with_reducible apply withStat_le | with_reducible apply trigger_le | with_reducible apply le_iteS | split | (simp only [core_ite]; split) | simp | simp [core_mk, core_now, core_pending, core_sram, core_gen, core_proof, core_inUse, core_bootCnt, core_tokCnt, core_opk, h])

@[simp] theorem compressSlot_le (a0 : Fin 16) (a1 : CrbCap) (s : State) (c : Core) (h : Core.Le c s.core) : Core.Le c (compressSlot a0 a1 s).core := by
  simp only [compressSlot]
  repeat' (first | with_reducible exact h | with_reducible apply withStat_le | with_reducible apply ramPut_le | with_reducible apply le_iteS | split | (simp only [core_ite]; split) | simp | simp [core_mk, core_now, core_pending, core_sram, core_gen, core_proof, core_inUse, core_bootCnt, core_tokCnt, core_opk, h])

@[simp] theorem signSlot_le (a0 : Fin 16) (a1 : CrbCap) (s : State) (c : Core) (h : Core.Le c s.core) : Core.Le c (signSlot a0 a1 s).core := by
  simp only [signSlot]
  repeat' (first | with_reducible exact h | with_reducible apply withStat_le | with_reducible apply ramPut_le | with_reducible apply le_iteS | split | (simp only [core_ite]; split) | simp | simp [core_mk, core_now, core_pending, core_sram, core_gen, core_proof, core_inUse, core_bootCnt, core_tokCnt, core_opk, h])

@[simp] theorem recordSigned_le (a0 : Fin 16) (s : State) (c : Core) (h : Core.Le c s.core) : Core.Le c (recordSigned a0 s).core := by
  simp only [recordSigned]
  repeat' (first | with_reducible exact h | with_reducible apply signSlot_le | with_reducible apply withStat_le | with_reducible apply le_iteS | split | (simp only [core_ite]; split) | simp | simp [core_mk, core_now, core_pending, core_sram, core_gen, core_proof, core_inUse, core_bootCnt, core_tokCnt, core_opk, h])

@[simp] theorem crbBoot_core (a0 : Bool) (s : State) : (crbBoot a0 s).core = s.core :=
  core_of_mask (crbBoot_mask coreMask a0 s rfl rfl)

@[simp] theorem revertWords_le (p : Nat → Bool) (s : State) (c : Core) (h : Core.Le c s.core) : Core.Le c (revertWords p s).core := by
  simp only [revertWords, core_updPar]
  exact foldl_le _ (fun c s a k => by simp [k]) _ _ _ h

@[simp] theorem revertWrite_le (a0 : W16) (s : State) (c : Core) (h : Core.Le c s.core) : Core.Le c (revertWrite a0 s).core := by
  simp only [revertWrite]
  repeat' (first | with_reducible exact h | with_reducible apply revertWords_le | with_reducible apply withStat_le | with_reducible apply le_iteS | split | (simp only [core_ite]; split) | simp | simp [core_mk, core_now, core_pending, core_sram, core_gen, core_proof, core_inUse, core_bootCnt, core_tokCnt, core_opk, h])

@[simp] theorem writeL_core (a0 : ℕ) (s : State) : (writeL a0 s).core = s.core :=
  core_of_mask (writeL_mask coreMask a0 s rfl)

@[simp] theorem reportRefusal_core (a0 : Byte) (a1 : W16) (s : State) : (reportRefusal a0 a1 s).core = s.core :=
  core_of_mask (reportRefusal_mask coreMask a0 a1 s rfl rfl)

@[simp] theorem refuseL_core (a0 : Fail) (s : State) : (refuseL a0 s).core = s.core :=
  core_of_mask (refuseL_mask coreMask a0 s rfl rfl)

@[simp] theorem crossedL_core (a0 : ℕ) (s : State) : (crossedL a0 s).core = s.core :=
  core_of_mask (crossedL_mask coreMask a0 s rfl rfl)

@[simp] theorem crossL_le (a0 : ℕ) (s : State) (c : Core) (h : Core.Le c s.core) : Core.Le c (crossL a0 s).core := by
  simp only [crossL]
  repeat' (first | with_reducible exact h | with_reducible apply withStat_le | with_reducible apply le_iteS | split | (simp only [core_ite]; split) | simp | simp [core_mk, core_now, core_pending, core_sram, core_gen, core_proof, core_inUse, core_bootCnt, core_tokCnt, core_opk, h])

@[simp] theorem pinFreq_le (n : Fin 16) (s : State) (c : Core) (h : Core.Le c s.core) : Core.Le c (pinFreq n s).core := by
  simp [pinFreq, h]

theorem forLoops_le (f : Fin 16 → State → State) (hf : ∀ n s c, Core.Le c s.core → Core.Le c (f n s).core) (l : List (Fin 16)) (s : State)
    (c : Core) (h : Core.Le c s.core) : Core.Le c (forLoops f l s).core := by
  induction l generalizing s with
  | nil => exact h
  | cons n l ih => exact ih _ (hf _ _ _ h)

@[simp] theorem commitRequest_le (s : State) (c : Core) (h : Core.Le c s.core) : Core.Le c (commitRequest s).core := by
  simp only [commitRequest]
  split
  · exact h
  · exact forLoops_le _ (fun n s c k => pinFreq_le n s c k) _ _ _ h

@[simp] theorem commitWrite_le (a0 : W16) (s : State) (c : Core) (h : Core.Le c s.core) : Core.Le c (commitWrite a0 s).core := by
  simp only [commitWrite]
  repeat' (first | with_reducible exact h | with_reducible apply commitRequest_le | with_reducible apply withStat_le | with_reducible apply le_iteS | split | (simp only [core_ite]; split) | simp | simp [core_mk, core_now, core_pending, core_sram, core_gen, core_proof, core_inUse, core_bootCnt, core_tokCnt, core_opk, h])

@[simp] theorem busyEnd_core (s : State) : (busyEnd s).core = s.core :=
  core_of_mask (busyEnd_mask coreMask s rfl rfl rfl)

@[simp] theorem commitDone_core (a0 : Byte) (s : State) : (commitDone a0 s).core = s.core :=
  core_of_mask (commitDone_mask coreMask a0 s rfl rfl rfl)

@[simp] theorem spendUnlock_core (a0 : List (ℕ × W16)) (s : State) : (spendUnlock a0 s).core = s.core :=
  core_of_mask (spendUnlock_mask coreMask a0 s rfl)

@[simp] theorem commitApplied_le (s : State) (c : Core) (h : Core.Le c s.core) : Core.Le c (commitApplied s).core := by
  simp only [commitApplied, commitDone_core, spendUnlock_core, core_updPar]
  exact ⟨h.now, h.pending, fun k => ⟨(h.canon k).1, (h.canon k).2.1, overlay_wf _ _ (h.canon k).2.2⟩, h.boot, h.tok, h.opk⟩

@[simp] theorem judgeCapture_core (s : State) : (judgeCapture s).core = s.core :=
  core_of_mask (judgeCapture_mask coreMask s rfl rfl rfl)

@[simp] theorem loopTook_core (a0 : Fin 16) (a1 : State) (s : State) : (loopTook a0 a1 s).core = s.core :=
  core_of_mask (loopTook_mask coreMask a0 a1 s rfl rfl)

@[simp] theorem chewTook_core (s : State) : (chewTook s).core = s.core :=
  core_of_mask (chewTook_mask coreMask s rfl rfl rfl rfl)

@[simp] theorem surveyTook_core (a0 : State) (s : State) : (surveyTook a0 s).core = s.core :=
  core_of_mask (surveyTook_mask coreMask a0 s rfl)

@[simp] theorem protTook_core (a0 : State) (s : State) : (protTook a0 s).core = s.core :=
  core_of_mask (protTook_mask coreMask a0 s rfl rfl rfl)

@[simp] theorem pulsesTook_core (s : State) : (pulsesTook s).core = s.core :=
  core_of_mask (pulsesTook_mask coreMask s rfl)

@[simp] theorem stbTook_core (a0 : State) (s : State) : (stbTook a0 s).core = s.core :=
  core_of_mask (stbTook_mask coreMask a0 s rfl rfl)

@[simp] theorem pageTook_core (a0 : ℕ) (a1 : State) (s : State) : (pageTook a0 a1 s).core = s.core :=
  core_of_mask (pageTook_mask coreMask a0 a1 s rfl rfl rfl rfl rfl rfl rfl rfl rfl rfl rfl rfl)

@[simp] theorem commitApply_le (a0 : Taker) (s : State) (c : Core) (h : Core.Le c s.core) : Core.Le c (commitApply a0 s).core := by
  simp only [commitApply]
  repeat' (first | with_reducible exact h | with_reducible apply commitApplied_le | with_reducible apply withStat_le | with_reducible apply le_iteS | split | (simp only [core_ite]; split) | simp | simp [core_mk, core_now, core_pending, core_sram, core_gen, core_proof, core_inUse, core_bootCnt, core_tokCnt, core_opk, h])

@[simp] theorem endUnlock_core (s : State) : (endUnlock s).core = s.core :=
  core_of_mask (endUnlock_mask coreMask s rfl)

@[simp] theorem tokenAccept_le (b : List Byte) (s : State) (c : Core) (h : Core.Le c s.core) (k : s.idn.tokCnt ≤ tokenCount b) :
    Core.Le c (tokenAccept b s).core := by
  have e : Core.Le c { s.core with tokCnt := tokenCount b } :=
    ⟨h.now, h.pending, h.canon, h.boot, Nat.le_trans h.tok k, h.opk⟩
  simp only [tokenAccept]
  (repeat' split) <;> simp only [endUnlock_core, core_updIdn]
  · exact e
  · exact e
  · exact ⟨e.now, e.pending, e.canon, e.boot, e.tok, List.IsPrefix.trans e.opk (List.prefix_append _ _)⟩

@[simp] theorem fillOut_core (a0 : List Byte) (s : State) : (fillOut a0 s).core = s.core :=
  core_of_mask (fillOut_mask coreMask a0 s rfl)

@[simp] theorem tokenResult_core (a0 : ℕ) (s : State) : (tokenResult a0 s).core = s.core :=
  core_of_mask (tokenResult_mask coreMask a0 s rfl rfl)

theorem tokenCheck_count (s : State) (x : Bool) (b : List Byte) (h : s.tokenCheck x b = 0) : s.idn.tokCnt ≤ tokenCount b := by
  unfold State.tokenCheck at h
  (repeat' split at h) <;> first | omega | simp_all

@[simp] theorem tokenOutcome_le (i : IdnCmd) (s : State) (c : Core) (h : Core.Le c s.core) : Core.Le c (tokenOutcome i s).core := by
  simp only [tokenOutcome]
  split
  · split
    · next k => simp [h, tokenCheck_count _ _ _ k]
    · simp [h]
  · (repeat' split) <;> simp [h]
  · simp [h]
  · split
    · simp [h]
    · split
      · simp [h]
      · next k =>
        split
        · have e : s.core.opk = [] := Classical.not_not.mp k
          simp only [tokenResult_core, core_updIdn]
          exact ⟨h.now, h.pending, h.canon, h.boot, h.tok, by
            have := h.opk; rw [e] at this; rw [List.prefix_nil.mp this]; exact List.nil_prefix⟩
        · simp [h]
  · split <;> simp [h]

@[simp] theorem tokenDone_le (s : State) (c : Core) (h : Core.Le c s.core) : Core.Le c (tokenDone s).core := by
  simp only [tokenDone]
  repeat' (first | with_reducible exact h | with_reducible apply tokenOutcome_le | with_reducible apply withStat_le | with_reducible apply le_iteS | split | (simp only [core_ite]; split) | simp | simp [core_mk, core_now, core_pending, core_sram, core_gen, core_proof, core_inUse, core_bootCnt, core_tokCnt, core_opk, h])

@[simp] theorem tokenStart_core (a0 : IdnCmd) (s : State) : (tokenStart a0 s).core = s.core :=
  core_of_mask (tokenStart_mask coreMask a0 s rfl)

@[simp] theorem tokenClearIn_core (s : State) : (tokenClearIn s).core = s.core :=
  core_of_mask (tokenClearIn_mask coreMask s rfl)

@[simp] theorem tokenDrop_core (s : State) : (tokenDrop s).core = s.core :=
  core_of_mask (tokenDrop_mask coreMask s rfl rfl)

@[simp] theorem tokenRewind_core (s : State) : (tokenRewind s).core = s.core :=
  core_of_mask (tokenRewind_mask coreMask s rfl)

@[simp] theorem tokenCtlWrite_core (a0 : W16) (s : State) : (tokenCtlWrite a0 s).core = s.core :=
  core_of_mask (tokenCtlWrite_mask coreMask a0 s rfl rfl)

@[simp] theorem portWrite_core (a0 : W16) (s : State) : (portWrite a0 s).core = s.core :=
  core_of_mask (portWrite_mask coreMask a0 s rfl)

@[simp] theorem portRead_core (s : State) : (portRead s).core = s.core :=
  core_of_mask (portRead_mask coreMask s rfl rfl)

@[simp] theorem idnBoot_core (s : State) : (idnBoot s).core = s.core :=
  core_of_mask (idnBoot_mask coreMask s rfl)

@[simp] theorem setReason_core (a0 : Bool) (a1 : ℕ) (s : State) : (setReason a0 a1 s).core = s.core :=
  core_of_mask (setReason_mask coreMask a0 a1 s rfl)

@[simp] theorem bootTake_le (k : Nat) (b : List Byte) (u : List (Nat × W16) × Bool) (s : State) (c : Core) (h : Core.Le c s.core)
    (w : sparseWf paramReset u.1 = true) : Core.Le c (bootTake k b u s).core := by
  simp only [bootTake, core_mk, core_updPar]
  exact ⟨h.now, h.pending, fun k => ⟨(h.canon k).1, (h.canon k).2.1, w⟩, h.boot, h.tok, h.opk⟩

@[simp] theorem countTrial_core (a0 : Bool) (s : State) : (countTrial a0 s).core = s.core :=
  core_of_mask (countTrial_mask coreMask a0 s rfl)

@[simp] theorem countTrials_core (a0 : List (ℕ × W16)) (a1 : List Bool) (s : State) : (countTrials a0 a1 s).core = s.core :=
  core_of_mask (countTrials_mask coreMask a0 a1 s rfl)

@[simp] theorem tryMtp_le (base : List (Nat × W16)) (l : List Bool) (s : State) (c : Core) (h : Core.Le c s.core)
    (w : sparseWf paramReset base = true) : Core.Le c (tryMtp base l s).core := by
  induction l generalizing s with
  | nil => exact h
  | cons b l ih =>
    simp only [tryMtp]
    split
    · next k => simp [h, imageTry_wf _ _ _ _ k w]
    · exact ih _ (by simp [h])

@[simp] theorem findCands_core (s : State) : (findCands s).core = s.core :=
  core_of_mask (findCands_mask coreMask s rfl)

@[simp] theorem noCandidate_core (a0 : Bool) (s : State) : (noCandidate a0 s).core = s.core :=
  core_of_mask (noCandidate_mask coreMask a0 s rfl)

@[simp] theorem loadMtp_le (base : List (Nat × W16)) (s : State) (c : Core) (h : Core.Le c s.core)
    (w : sparseWf paramReset base = true) : Core.Le c (loadMtp base s).core := by
  simp only [loadMtp]
  exact tryMtp_le _ _ _ _ (by simp [h]) w

@[simp] theorem loadEeprom_le (base : List (Nat × W16)) (d : Option (List Byte)) (s : State) (c : Core) (h : Core.Le c s.core)
    (w : sparseWf paramReset base = true) : Core.Le c (loadEeprom base d s).core := by
  simp only [loadEeprom]
  split
  · simp [h]
  · split
    · simp [h]
    · split
      · next k => simp [h, imageTry_wf _ _ _ _ k w]
      · simp [h]

@[simp] theorem bootLoad_le (d : Option (List Byte)) (s : State) (c : Core) (h : Core.Le c s.core) :
    Core.Le c (bootLoad d s).core := by
  have w := planUse_wf s.peers.plan
  simp only [bootLoad]
  repeat' (first | with_reducible exact h | with_reducible exact w | with_reducible apply loadMtp_le | with_reducible apply loadEeprom_le | split | (simp only [core_updPar]; apply le_proof) | (simp only [core_mk, core_updPar, core_updPower]; exact le_inUse _ _ _ w h) | simp)

@[simp] theorem kennelTake_core (a0 : Option W16) (s : State) : (kennelTake a0 s).core = s.core :=
  core_of_mask (kennelTake_mask coreMask a0 s rfl rfl rfl rfl)

@[simp] theorem lp15Stop_core (s : State) : (lp15Stop s).core = s.core :=
  core_of_mask (lp15Stop_mask coreMask s rfl rfl rfl rfl)

@[simp] theorem lp15Configured_core (s : State) : (lp15Configured s).core = s.core :=
  core_of_mask (lp15Configured_mask coreMask s rfl rfl rfl)

@[simp] theorem lp15Ready_core (s : State) : (lp15Ready s).core = s.core :=
  core_of_mask (lp15Ready_mask coreMask s rfl rfl rfl rfl rfl rfl)

@[simp] theorem failAttempt_core (a0 : BitVec 3) (s : State) : (failAttempt a0 s).core = s.core :=
  core_of_mask (failAttempt_mask coreMask a0 s rfl rfl rfl rfl)

@[simp] theorem tryAttempt_core (a0 : W16) (s : State) : (tryAttempt a0 s).core = s.core :=
  core_of_mask (tryAttempt_mask coreMask a0 s rfl rfl rfl rfl rfl rfl)

@[simp] theorem readKv_core (a0 : BitVec 2) (s : State) : (readKv a0 s).core = s.core :=
  core_of_mask (readKv_mask coreMask a0 s rfl)

@[simp] theorem vhvRise_core (a0 : BitVec 2) (s : State) : (vhvRise a0 s).core = s.core :=
  core_of_mask (vhvRise_mask coreMask a0 s rfl rfl rfl)

@[simp] theorem pinsOff_core (a0 : Fin 64 → Bool) (s : State) : (pinsOff a0 s).core = s.core :=
  core_of_mask (pinsOff_mask coreMask a0 s rfl)

@[simp] theorem vhvFall_core (s : State) : (vhvFall s).core = s.core :=
  core_of_mask (vhvFall_mask coreMask s rfl rfl rfl rfl)

@[simp] theorem vhvOvlo_core (s : State) : (vhvOvlo s).core = s.core :=
  core_of_mask (vhvOvlo_mask coreMask s rfl rfl rfl rfl)

@[simp] theorem resetLoops_core (a0 : Bool) (s : State) : (resetLoops a0 s).core = s.core :=
  core_of_mask (resetLoops_mask coreMask a0 s rfl rfl)

@[simp] theorem resetUnits_core (s : State) : (resetUnits s).core = s.core :=
  core_of_mask (resetUnits_mask coreMask s rfl rfl rfl rfl rfl rfl rfl rfl rfl rfl rfl rfl rfl rfl rfl rfl rfl rfl)

@[simp] theorem keepQueue_le (l : List (LogEntry × Nat)) (s : State) (c : Core) (h : Core.Le c s.core) :
    Core.Le c (keepQueue l s).core := by
  induction l generalizing s with
  | nil => exact h
  | cons x l ih => simp only [keepQueue]; split <;> exact ih _ (by simp [h])

@[simp] theorem countBoot_le (s : State) (c : Core) (h : Core.Le c s.core) : Core.Le c (countBoot s).core := by
  refine ⟨h.now, h.pending, h.canon, ?_, h.tok, h.opk⟩
  have := h.boot
  simp only [countBoot, core_updPower]
  by_cases k : s.power.bootCnt = 0xFFFFFFFF
  · rw [if_pos k]; exact this
  · rw [if_neg k]
    change c.bootCnt ≤ s.core.bootCnt + 1
    rw [BitVec.le_def] at this ⊢
    have hk : s.core.bootCnt.toNat ≠ 0xFFFFFFFF := fun e => k (BitVec.eq_of_toNat_eq (x := s.core.bootCnt) (y := 0xFFFFFFFF#32) e)
    have hb : s.core.bootCnt.toNat < 4294967296 := s.core.bootCnt.isLt
    rw [BitVec.toNat_add]
    change c.bootCnt.toNat ≤ (s.core.bootCnt.toNat + 1) % 4294967296
    omega

@[simp] theorem fullReset_le (a0 : BitVec 6) (s : State) (c : Core) (h : Core.Le c s.core) : Core.Le c (fullReset a0 s).core := by
  simp only [fullReset]
  repeat' (first | with_reducible exact h | with_reducible apply countBoot_le | with_reducible apply keepQueue_le | with_reducible apply withStat_le | with_reducible apply le_iteS | split | (simp only [core_ite]; split) | simp | simp [core_mk, core_now, core_pending, core_sram, core_gen, core_proof, core_inUse, core_bootCnt, core_tokCnt, core_opk, h])

@[simp] theorem bootReady_core (s : State) : (bootReady s).core = s.core :=
  core_of_mask (bootReady_mask coreMask s rfl)

@[simp] theorem vauxValid_core (a0 : BitVec 2) (s : State) : (vauxValid a0 s).core = s.core :=
  core_of_mask (vauxValid_mask coreMask a0 s rfl rfl rfl)

@[simp] theorem tokenCut_le (s : State) (c : Core) (h : Core.Le c s.core) : Core.Le c (tokenCut s).core := by
  simp only [tokenCut]
  split
  · next k =>
    split
    · simp only [core_updIdn, freeBool_core]
      exact ⟨h.now, h.pending, h.canon, h.boot, Nat.le_trans h.tok (tokenCheck_count _ _ _ k.2.2), h.opk⟩
    · simp [h]
  · exact h

@[simp] theorem bootCut_le (s : State) (c : Core) (h : Core.Le c s.core) : Core.Le c (bootCut s).core := by
  simp only [bootCut]
  repeat' (first | with_reducible exact h | with_reducible apply countBoot_le | with_reducible apply withStat_le | with_reducible apply le_iteS | split | (simp only [core_ite]; split) | simp | simp [core_mk, core_now, core_pending, core_sram, core_gen, core_proof, core_inUse, core_bootCnt, core_tokCnt, core_opk, h])

@[simp] theorem vauxLoss_le (a : Bool) (s : State) (c : Core) (h : Core.Le c s.core) : Core.Le c (vauxLoss a s).core := by
  have e (x : Core) (k : Core.Le c x) : Core.Le c { x with proof := [], inUse := [] } :=
    ⟨k.now, k.pending, fun y => ⟨(k.canon y).1, rfl, rfl⟩, k.boot, k.tok, k.opk⟩
  simp only [vauxLoss]
  apply le_iteS <;> simp only [core_updPower, core_mk] <;>
    refine e (resetLoops false (resetUnits (freeWords 16 (ramLose (nvmLoss (bootCut (tokenCut s))))).2.freeWord.2)).core ?_ <;>
    simp <;> exact ramLose_le _ _ (by simp [h])

@[simp] theorem resetLow_le (s : State) (c : Core) (h : Core.Le c s.core) : Core.Le c (resetLow s).core := by
  simp only [resetLow]
  repeat' (first | with_reducible exact h | with_reducible apply fullReset_le | with_reducible apply withStat_le | with_reducible apply le_iteS | split | (simp only [core_ite]; split) | simp | simp [core_mk, core_now, core_pending, core_sram, core_gen, core_proof, core_inUse, core_bootCnt, core_tokCnt, core_opk, h])

@[simp] theorem warmRequest_core (a0 : BitVec 6) (s : State) : (warmRequest a0 s).core = s.core :=
  core_of_mask (warmRequest_mask coreMask a0 s rfl)

@[simp] theorem resetWrite_core (a0 : W16) (s : State) : (resetWrite a0 s).core = s.core :=
  core_of_mask (resetWrite_mask coreMask a0 s rfl)

@[simp] theorem warmTry_le (s : State) (c : Core) (h : Core.Le c s.core) : Core.Le c (warmTry s).core := by
  simp only [warmTry]
  repeat' (first | with_reducible exact h | with_reducible apply fullReset_le | with_reducible apply withStat_le | with_reducible apply le_iteS | split | (simp only [core_ite]; split) | simp | simp [core_mk, core_now, core_pending, core_sram, core_gen, core_proof, core_inUse, core_bootCnt, core_tokCnt, core_opk, h])

@[simp] theorem bootStart_le (p : BitVec 3) (b : BitVec 2) (s : State) (c : Core) (h : Core.Le c s.core) :
    Core.Le c (bootStart p b s).core := by
  simp only [bootStart, idnBoot_core, fchBoot_core, svcBoot_core, crbBoot_core, findCands_core, State.updPrt_core, updPhases_core, core_mk]
  exact ⟨h.now, h.pending, fun k => ⟨(h.canon k).1, (h.canon k).2.1, planUse_wf _⟩, h.boot, h.tok, h.opk⟩

@[simp] theorem bootCounted_le (s : State) (c : Core) (h : Core.Le c s.core) : Core.Le c (bootCounted s).core := by
  simp only [bootCounted]
  repeat' (first | with_reducible exact h | with_reducible apply countBoot_le | with_reducible apply withStat_le | with_reducible apply le_iteS | split | (simp only [core_ite]; split) | simp | simp [core_mk, core_now, core_pending, core_sram, core_gen, core_proof, core_inUse, core_bootCnt, core_tokCnt, core_opk, h])

@[simp] theorem bootCopies_core (s : State) : (bootCopies s).core = s.core :=
  core_of_mask (bootCopies_mask coreMask s rfl)

@[simp] theorem bootLoop_core (a0 : Bool) (a1 : Fin 16) (s : State) : (bootLoop a0 a1 s).core = s.core :=
  core_of_mask (bootLoop_mask coreMask a0 a1 s rfl)

@[simp] theorem bootNvm_core (s : State) : (bootNvm s).core = s.core :=
  core_of_mask (bootNvm_mask coreMask s rfl rfl)

@[simp] theorem bootUnits_core (s : State) : (bootUnits s).core = s.core :=
  core_of_mask (bootUnits_mask coreMask s rfl rfl rfl rfl rfl rfl rfl rfl rfl rfl rfl rfl rfl rfl rfl rfl)

@[simp] theorem bootComplete_le (a0 : Option (List Byte)) (s : State) (c : Core) (h : Core.Le c s.core) : Core.Le c (bootComplete a0 s).core := by
  simp only [bootComplete]
  repeat' (first | with_reducible exact h | with_reducible apply bootLoad_le | with_reducible apply withStat_le | with_reducible apply le_iteS | split | (simp only [core_ite]; split) | simp | simp [core_mk, core_now, core_pending, core_sram, core_gen, core_proof, core_inUse, core_bootCnt, core_tokCnt, core_opk, h])

@[simp] theorem killSeenNow_core (s : State) : (killSeenNow s).core = s.core :=
  core_of_mask (killSeenNow_mask coreMask s rfl rfl)

@[simp] theorem killFall_le (s : State) (c : Core) (h : Core.Le c s.core) : Core.Le c (killFall s).core := by
  simp only [killFall]
  repeat' (first | with_reducible exact h | with_reducible apply chewDisarm_le | with_reducible apply withStat_le | with_reducible apply le_iteS | split | (simp only [core_ite]; split) | simp | simp [core_mk, core_now, core_pending, core_sram, core_gen, core_proof, core_inUse, core_bootCnt, core_tokCnt, core_opk, h])

@[simp] theorem killRises_core (s : State) : (killRises s).core = s.core :=
  core_of_mask (killRises_mask coreMask s rfl)

@[simp] theorem tapLoad_core (a0 : BitVec 4) (a1 : BitVec 357) (s : State) : (tapLoad a0 a1 s).core = s.core :=
  core_of_mask (tapLoad_mask coreMask a0 a1 s rfl rfl rfl rfl rfl rfl rfl rfl rfl rfl rfl)

@[simp] theorem State.answer_core (s : State) (a1 : W16) : (State.answer s a1).core = s.core :=
  core_of_mask (State.answer_mask coreMask s a1 rfl)

@[simp] theorem causeClear_core (a0 : W16) (s : State) : (causeClear a0 s).core = s.core :=
  core_of_mask (causeClear_mask coreMask a0 s rfl)

@[simp] theorem wordWrite_le (a0 : ℕ) (a1 : W16) (s : State) (c : Core) (h : Core.Le c s.core) : Core.Le c (wordWrite a0 a1 s).core := by
  simp only [wordWrite]
  repeat' (first | with_reducible exact h | with_reducible apply revertWrite_le | with_reducible apply calWrite_le | with_reducible apply chwWrite_le | with_reducible apply swpWrite_le | with_reducible apply withStat_le | with_reducible apply le_iteS | split | (simp only [core_ite]; split) | simp | simp [core_mk, core_now, core_pending, core_sram, core_gen, core_proof, core_inUse, core_bootCnt, core_tokCnt, core_opk, h])

@[simp] theorem writeParam_le (a0 : ℕ) (a1 : W16) (s : State) (c : Core) (h : Core.Le c s.core) : Core.Le c (writeParam a0 a1 s).core := by
  simp only [writeParam]
  repeat' (first | with_reducible exact h | with_reducible apply wordWrite_le | with_reducible apply withStat_le | with_reducible apply le_iteS | split | (simp only [core_ite]; split) | simp | simp [core_mk, core_now, core_pending, core_sram, core_gen, core_proof, core_inUse, core_bootCnt, core_tokCnt, core_opk, h])

@[simp] theorem stepPaddr_core (s : State) : (stepPaddr s).core = s.core :=
  core_of_mask (stepPaddr_mask coreMask s rfl)

@[simp] theorem pdataIncRead_core (s : State) : (pdataIncRead s).core = s.core :=
  core_of_mask (pdataIncRead_mask coreMask s rfl)

@[simp] theorem pdataIncWrite_le (a0 : W16) (s : State) (c : Core) (h : Core.Le c s.core) : Core.Le c (pdataIncWrite a0 s).core := by
  simp only [pdataIncWrite]
  repeat' (first | with_reducible exact h | with_reducible apply writeParam_le | with_reducible apply withStat_le | with_reducible apply le_iteS | split | (simp only [core_ite]; split) | simp | simp [core_mk, core_now, core_pending, core_sram, core_gen, core_proof, core_inUse, core_bootCnt, core_tokCnt, core_opk, h])

@[simp] theorem irqClear_core (a0 : W16) (s : State) : (irqClear a0 s).core = s.core :=
  core_of_mask (irqClear_mask coreMask a0 s rfl)

@[simp] theorem irqEnable_core (a0 : W16) (s : State) : (irqEnable a0 s).core = s.core :=
  core_of_mask (irqEnable_mask coreMask a0 s rfl)

@[simp] theorem fltLoopWrite_core (a0 : W16) (s : State) : (fltLoopWrite a0 s).core = s.core :=
  core_of_mask (fltLoopWrite_mask coreMask a0 s rfl)

@[simp] theorem killStatWrite_core (a0 : W16) (s : State) : (killStatWrite a0 s).core = s.core :=
  core_of_mask (killStatWrite_mask coreMask a0 s rfl)

@[simp] theorem loopOnSet_core (a0 : W16) (s : State) : (loopOnSet a0 s).core = s.core :=
  core_of_mask (loopOnSet_mask coreMask a0 s rfl rfl rfl)

@[simp] theorem loopOnWrite_core (a0 : W16) (s : State) : (loopOnWrite a0 s).core = s.core :=
  core_of_mask (loopOnWrite_mask coreMask a0 s rfl rfl rfl)

@[simp] theorem State.updLog_core (s : State) (a1 : EvtLog → EvtLog) : (State.updLog s a1).core = s.core :=
  core_of_mask (State.updLog_mask coreMask s a1 rfl)

@[simp] theorem evtPopRead_core (s : State) : (evtPopRead s).core = s.core :=
  core_of_mask (evtPopRead_mask coreMask s rfl rfl)

@[simp] theorem evtPopRewind_core (s : State) : (evtPopRewind s).core = s.core :=
  core_of_mask (evtPopRewind_mask coreMask s rfl)

@[simp] theorem evtCountWrite_core (a0 : W16) (s : State) : (evtCountWrite a0 s).core = s.core :=
  core_of_mask (evtCountWrite_mask coreMask a0 s rfl)

@[simp] theorem wdogRestart_core (s : State) : (wdogRestart s).core = s.core :=
  core_of_mask (wdogRestart_mask coreMask s rfl)

@[simp] theorem wdogAction_core (s : State) : (wdogAction s).core = s.core :=
  core_of_mask (wdogAction_mask coreMask s rfl rfl rfl rfl rfl rfl)

@[simp] theorem wdogExpire_le (s : State) (c : Core) (h : Core.Le c s.core) : Core.Le c (wdogExpire s).core := by
  simp only [wdogExpire]
  repeat' (first | with_reducible exact h | with_reducible apply chewDisarm_le | with_reducible apply withStat_le | with_reducible apply le_iteS | split | (simp only [core_ite]; split) | simp | simp [core_mk, core_now, core_pending, core_sram, core_gen, core_proof, core_inUse, core_bootCnt, core_tokCnt, core_opk, h])

@[simp] theorem wdogCfgWrite_core (a0 : Bool) (a1 : W16) (s : State) : (wdogCfgWrite a0 a1 s).core = s.core :=
  core_of_mask (wdogCfgWrite_mask coreMask a0 a1 s rfl)

@[simp] theorem wdogWrite_le (a0 : W16) (s : State) (c : Core) (h : Core.Le c s.core) : Core.Le c (wdogWrite a0 s).core := by
  simp only [wdogWrite]
  repeat' (first | with_reducible exact h | with_reducible apply wdogExpire_le | with_reducible apply withStat_le | with_reducible apply le_iteS | split | (simp only [core_ite]; split) | simp | simp [core_mk, core_now, core_pending, core_sram, core_gen, core_proof, core_inUse, core_bootCnt, core_tokCnt, core_opk, h])

@[simp] theorem timeLowRead_core (a0 : Bool) (s : State) : (timeLowRead a0 s).core = s.core :=
  core_of_mask (timeLowRead_mask coreMask a0 s rfl)

@[simp] theorem writeSlot_le (a0 : Bool) (a1 : ℕ) (a2 : W16) (s : State) (c : Core) (h : Core.Le c s.core) : Core.Le c (writeSlot a0 a1 a2 s).core := by
  simp only [writeSlot]
  repeat' (first | with_reducible exact h | with_reducible apply pdataIncWrite_le | with_reducible apply crumbCtlWrite_le | with_reducible apply handlerWrite_le | with_reducible apply commitWrite_le | with_reducible apply writeParam_le | with_reducible apply wdogWrite_le | with_reducible apply withStat_le | with_reducible apply le_iteS | split | (simp only [core_ite]; split) | simp | simp [core_mk, core_now, core_pending, core_sram, core_gen, core_proof, core_inUse, core_bootCnt, core_tokCnt, core_opk, h])

end Sys2Proof.Machine
end

