-- ==== Sys2Proof/Laws/Rows.lean ====
section
/-! SUPPORT. What the four shapes of a row answer: `gated`, `strobed` and `always` answer a next state, and keep `Core.Le`
from the state at the command's time when their effect does. -/

namespace Sys2Proof.Machine

open Sys2Proof

@[simp] theorem atTime_core (t : Nat) (s : State) : (s.atTime t).core = { s.core with now := max s.now t } := id rfl

/-- A gated row answers its effect where its condition holds. -/
theorem gated_pos (t : Nat) (g : State → Bool) (f : State → State) (s : State) (h : g (s.atTime t) = true) :
    gated t g f s = .next (f (s.atTime t)) := by simp [gated, h]

/-- A gated row answers the state at its time where its condition fails. -/
theorem gated_neg (t : Nat) (g : State → Bool) (f : State → State) (s : State) (h : g (s.atTime t) = false) :
    gated t g f s = .next (s.atTime t) := by simp [gated, h]

/-- A strobed row answers its effect where the window is open and its condition holds. -/
theorem strobed_pos (t : Nat) (g : State → Bool) (f : State → State) (s : State) (w : s.window = true)
    (h : g (s.atStrobe t) = true) : strobed t g f s = .next (f (s.atStrobe t)) := by
  have w' : (s.atTime t).window = true := w
  have w'' : (s.atStrobe t).window = true := w
  have e : (if (s.atTime t).window = true then { s.atTime t with win := { (s.atTime t).win with kicked := false } } else s.atTime t)
      = s.atStrobe t := by rw [if_pos w']; rfl
  simp only [strobed, e, w'', h, Bool.and_self, if_true]

theorem gated_le (t : Nat) (g : State → Bool) (f : State → State) (s s' : State)
    (hf : ∀ c s, Core.Le c s.core → Core.Le c (f s).core) (h : gated t g f s = .next s') : Core.Le (s.atTime t).core s'.core := by
  simp only [gated] at h
  injection h with h
  subst h
  split
  · exact hf _ _ (Core.Le.rfl _)
  · exact Core.Le.rfl _

theorem always_le (t : Nat) (f : State → State) (s s' : State)
    (hf : ∀ c s, Core.Le c s.core → Core.Le c (f s).core) (h : always t f s = .next s') : Core.Le (s.atTime t).core s'.core := by
  simp only [always] at h
  injection h with h
  subst h
  exact hf _ _ (Core.Le.rfl _)

theorem strobed_le (t : Nat) (g : State → Bool) (f : State → State) (s s' : State)
    (hf : ∀ c s, Core.Le c s.core → Core.Le c (f s).core) (h : strobed t g f s = .next s') : Core.Le (s.atTime t).core s'.core := by
  simp only [strobed] at h
  injection h with h
  subst h
  split <;> split <;> first | exact hf _ _ (Core.Le.rfl _) | exact Core.Le.rfl _

theorem writeStrobe_le (t : Nat) (f : Bool → State → State) (s s' : State)
    (hf : ∀ k c s, Core.Le c s.core → Core.Le c (f k s).core) (h : writeStrobe t f s = .next s') :
    Core.Le (s.atTime t).core s'.core := by
  simp only [writeStrobe] at h
  injection h with h
  subst h
  split
  · exact hf _ _ _ (Core.Le.rfl _)
  · exact Core.Le.rfl _

theorem State.updCrb_keep (s : State) (f : Crb → Crb) (h : (f s.crb).sram = s.crb.sram) (k : (f s.crb).gen = s.crb.gen) :
    (s.updCrb f).core = s.core := by
  rw [core_updCrb, h, k]; rfl

theorem readSlotByte_core (i : Fin 16) (o : Nat) (s : State) : (readSlotByte i o s).2.core = s.core := by
  simp only [readSlotByte]
  (repeat' split) <;> rfl

@[simp] theorem readCrumbByte_core (a : Nat) (s : State) : (readCrumbByte a s).2.core = s.core := by
  unfold readCrumbByte
  (repeat' split) <;> first | rfl | exact readSlotByte_core _ _ _

@[simp] theorem crumbRead_core (s : State) : (crumbRead s).2.core = s.core :=
  (State.updCrb_keep _ _ rfl rfl).trans (by simp)

/-! ### Frames of the row shapes -/

theorem gated_mask (m : Part → Bool) (t : Nat) (g : State → Bool) (f : State → State) (s u : State)
    (hf : ∀ s, (f s).mask m = s.mask m) (h : gated t g f s = .next u) : u.mask m = (s.atTime t).mask m := by
  simp only [gated] at h
  injection h with h
  subst h
  split
  · exact hf _
  · rfl

theorem always_mask (m : Part → Bool) (t : Nat) (f : State → State) (s u : State)
    (hf : ∀ s, (f s).mask m = s.mask m) (h : always t f s = .next u) : u.mask m = (s.atTime t).mask m := by
  simp only [always] at h
  injection h with h
  subst h
  exact hf _

theorem strobed_mask (m : Part → Bool) (t : Nat) (g : State → Bool) (f : State → State) (s u : State) (h_win : m .win = true)
    (hf : ∀ s, (f s).mask m = s.mask m) (h : strobed t g f s = .next u) : u.mask m = (s.atTime t).mask m := by
  have k (s : State) : State.mask m { s with win := { s.win with kicked := false } } = s.mask m := by simp [Win.mask, h_win]
  simp only [strobed] at h
  injection h with h
  subst h
  split <;> split
  · exact (hf _).trans (k _)
  · exact k _
  · exact hf _
  · rfl

theorem writeStrobe_mask (m : Part → Bool) (t : Nat) (f : Bool → State → State) (s u : State) (h_win : m .win = true)
    (hf : ∀ k s, (f k s).mask m = s.mask m) (h : writeStrobe t f s = .next u) : u.mask m = (s.atTime t).mask m := by
  simp only [writeStrobe] at h
  injection h with h
  subst h
  split
  · exact (hf _ _).trans (by simp [Win.mask, h_win])
  · rfl

theorem readSlotByte_mask (m : Part → Bool) (i : Fin 16) (o : Nat) (s : State) (h_free : m .free = true) :
    (readSlotByte i o s).2.mask m = s.mask m := by
  simp only [readSlotByte]
  (repeat' split) <;> simp [h_free]

@[simp] theorem readCrumbByte_mask (m : Part → Bool) (a : Nat) (s : State) (h_free : m .free = true) :
    (readCrumbByte a s).2.mask m = s.mask m := by
  unfold readCrumbByte
  (repeat' split) <;> first | rfl | exact readSlotByte_mask _ _ _ _ h_free

@[simp] theorem crumbRead_mask (m : Part → Bool) (s : State) (h_free : m .free = true) (h_crb : m .crb = true) :
    (crumbRead s).2.mask m = s.mask m := by
  simp [crumbRead, Crb.mask, h_crb, h_free]

end Sys2Proof.Machine
end

