-- ==== Sys2Proof/Laws/State.lean ====
section
/-! SUPPORT. One lemma for each field of the state and each update of it: what the update leaves, and, for an update of a whole
group, what it writes. -/

namespace Sys2Proof.Machine

open Sys2Proof

/-! ### updPower -/

@[simp] theorem updPower_now (s : State) (f : Power → Power) : (s.updPower f).now = s.now := rfl
@[simp] theorem updPower_freeCount (s : State) (f : Power → Power) : (s.updPower f).freeCount = s.freeCount := rfl
@[simp] theorem updPower_pending (s : State) (f : Power → Power) : (s.updPower f).pending = s.pending := rfl
@[simp] theorem updPower_power (s : State) (f : Power → Power) : (s.updPower f).power = f s.power := rfl
@[simp] theorem updPower_win (s : State) (f : Power → Power) : (s.updPower f).win = s.win := rfl
@[simp] theorem updPower_log (s : State) (f : Power → Power) : (s.updPower f).log = s.log := rfl
@[simp] theorem updPower_par (s : State) (f : Power → Power) : (s.updPower f).par = s.par := rfl
@[simp] theorem updPower_nvm (s : State) (f : Power → Power) : (s.updPower f).nvm = s.nvm := rfl
@[simp] theorem updPower_loops (s : State) (f : Power → Power) : (s.updPower f).loops = s.loops := rfl
@[simp] theorem updPower_phases (s : State) (f : Power → Power) : (s.updPower f).phases = s.phases := rfl
@[simp] theorem updPower_vsc (s : State) (f : Power → Power) : (s.updPower f).vsc = s.vsc := rfl
@[simp] theorem updPower_isc (s : State) (f : Power → Power) : (s.updPower f).isc = s.isc := rfl
@[simp] theorem updPower_lanes (s : State) (f : Power → Power) : (s.updPower f).lanes = s.lanes := rfl
@[simp] theorem updPower_grid (s : State) (f : Power → Power) : (s.updPower f).grid = s.grid := rfl
@[simp] theorem updPower_svc (s : State) (f : Power → Power) : (s.updPower f).svc = s.svc := rfl
@[simp] theorem updPower_snap (s : State) (f : Power → Power) : (s.updPower f).snap = s.snap := rfl
@[simp] theorem updPower_stb (s : State) (f : Power → Power) : (s.updPower f).stb = s.stb := rfl
@[simp] theorem updPower_prot (s : State) (f : Power → Power) : (s.updPower f).prot = s.prot := rfl
@[simp] theorem updPower_acp (s : State) (f : Power → Power) : (s.updPower f).acp = s.acp := rfl
@[simp] theorem updPower_peers (s : State) (f : Power → Power) : (s.updPower f).peers = s.peers := rfl
@[simp] theorem updPower_lsh (s : State) (f : Power → Power) : (s.updPower f).lsh = s.lsh := rfl
@[simp] theorem updPower_swp (s : State) (f : Power → Power) : (s.updPower f).swp = s.swp := rfl
@[simp] theorem updPower_damp (s : State) (f : Power → Power) : (s.updPower f).damp = s.damp := rfl
@[simp] theorem updPower_gsp (s : State) (f : Power → Power) : (s.updPower f).gsp = s.gsp := rfl
@[simp] theorem updPower_fch (s : State) (f : Power → Power) : (s.updPower f).fch = s.fch := rfl
@[simp] theorem updPower_crb (s : State) (f : Power → Power) : (s.updPower f).crb = s.crb := rfl
@[simp] theorem updPower_idn (s : State) (f : Power → Power) : (s.updPower f).idn = s.idn := rfl
@[simp] theorem updPower_chw (s : State) (f : Power → Power) : (s.updPower f).chw = s.chw := rfl
@[simp] theorem updPower_pins (s : State) (f : Power → Power) : (s.updPower f).pins = s.pins := rfl

/-! ### updWin -/

@[simp] theorem updWin_now (s : State) (f : Win → Win) : (s.updWin f).now = s.now := rfl
@[simp] theorem updWin_freeCount (s : State) (f : Win → Win) : (s.updWin f).freeCount = s.freeCount := rfl
@[simp] theorem updWin_pending (s : State) (f : Win → Win) : (s.updWin f).pending = s.pending := rfl
@[simp] theorem updWin_power (s : State) (f : Win → Win) : (s.updWin f).power = s.power := rfl
@[simp] theorem updWin_win (s : State) (f : Win → Win) : (s.updWin f).win = f s.win := rfl
@[simp] theorem updWin_log (s : State) (f : Win → Win) : (s.updWin f).log = s.log := rfl
@[simp] theorem updWin_par (s : State) (f : Win → Win) : (s.updWin f).par = s.par := rfl
@[simp] theorem updWin_nvm (s : State) (f : Win → Win) : (s.updWin f).nvm = s.nvm := rfl
@[simp] theorem updWin_loops (s : State) (f : Win → Win) : (s.updWin f).loops = s.loops := rfl
@[simp] theorem updWin_phases (s : State) (f : Win → Win) : (s.updWin f).phases = s.phases := rfl
@[simp] theorem updWin_vsc (s : State) (f : Win → Win) : (s.updWin f).vsc = s.vsc := rfl
@[simp] theorem updWin_isc (s : State) (f : Win → Win) : (s.updWin f).isc = s.isc := rfl
@[simp] theorem updWin_lanes (s : State) (f : Win → Win) : (s.updWin f).lanes = s.lanes := rfl
@[simp] theorem updWin_grid (s : State) (f : Win → Win) : (s.updWin f).grid = s.grid := rfl
@[simp] theorem updWin_svc (s : State) (f : Win → Win) : (s.updWin f).svc = s.svc := rfl
@[simp] theorem updWin_snap (s : State) (f : Win → Win) : (s.updWin f).snap = s.snap := rfl
@[simp] theorem updWin_stb (s : State) (f : Win → Win) : (s.updWin f).stb = s.stb := rfl
@[simp] theorem updWin_prot (s : State) (f : Win → Win) : (s.updWin f).prot = s.prot := rfl
@[simp] theorem updWin_acp (s : State) (f : Win → Win) : (s.updWin f).acp = s.acp := rfl
@[simp] theorem updWin_peers (s : State) (f : Win → Win) : (s.updWin f).peers = s.peers := rfl
@[simp] theorem updWin_lsh (s : State) (f : Win → Win) : (s.updWin f).lsh = s.lsh := rfl
@[simp] theorem updWin_swp (s : State) (f : Win → Win) : (s.updWin f).swp = s.swp := rfl
@[simp] theorem updWin_damp (s : State) (f : Win → Win) : (s.updWin f).damp = s.damp := rfl
@[simp] theorem updWin_gsp (s : State) (f : Win → Win) : (s.updWin f).gsp = s.gsp := rfl
@[simp] theorem updWin_fch (s : State) (f : Win → Win) : (s.updWin f).fch = s.fch := rfl
@[simp] theorem updWin_crb (s : State) (f : Win → Win) : (s.updWin f).crb = s.crb := rfl
@[simp] theorem updWin_idn (s : State) (f : Win → Win) : (s.updWin f).idn = s.idn := rfl
@[simp] theorem updWin_chw (s : State) (f : Win → Win) : (s.updWin f).chw = s.chw := rfl
@[simp] theorem updWin_pins (s : State) (f : Win → Win) : (s.updWin f).pins = s.pins := rfl

/-! ### updLog -/

@[simp] theorem updLog_now (s : State) (f : EvtLog → EvtLog) : (s.updLog f).now = s.now := rfl
@[simp] theorem updLog_freeCount (s : State) (f : EvtLog → EvtLog) : (s.updLog f).freeCount = s.freeCount := rfl
@[simp] theorem updLog_pending (s : State) (f : EvtLog → EvtLog) : (s.updLog f).pending = s.pending := rfl
@[simp] theorem updLog_power (s : State) (f : EvtLog → EvtLog) : (s.updLog f).power = s.power := rfl
@[simp] theorem updLog_win (s : State) (f : EvtLog → EvtLog) : (s.updLog f).win = s.win := rfl
@[simp] theorem updLog_log (s : State) (f : EvtLog → EvtLog) : (s.updLog f).log = f s.log := rfl
@[simp] theorem updLog_par (s : State) (f : EvtLog → EvtLog) : (s.updLog f).par = s.par := rfl
@[simp] theorem updLog_nvm (s : State) (f : EvtLog → EvtLog) : (s.updLog f).nvm = s.nvm := rfl
@[simp] theorem updLog_loops (s : State) (f : EvtLog → EvtLog) : (s.updLog f).loops = s.loops := rfl
@[simp] theorem updLog_phases (s : State) (f : EvtLog → EvtLog) : (s.updLog f).phases = s.phases := rfl
@[simp] theorem updLog_vsc (s : State) (f : EvtLog → EvtLog) : (s.updLog f).vsc = s.vsc := rfl
@[simp] theorem updLog_isc (s : State) (f : EvtLog → EvtLog) : (s.updLog f).isc = s.isc := rfl
@[simp] theorem updLog_lanes (s : State) (f : EvtLog → EvtLog) : (s.updLog f).lanes = s.lanes := rfl
@[simp] theorem updLog_grid (s : State) (f : EvtLog → EvtLog) : (s.updLog f).grid = s.grid := rfl
@[simp] theorem updLog_svc (s : State) (f : EvtLog → EvtLog) : (s.updLog f).svc = s.svc := rfl
@[simp] theorem updLog_snap (s : State) (f : EvtLog → EvtLog) : (s.updLog f).snap = s.snap := rfl
@[simp] theorem updLog_stb (s : State) (f : EvtLog → EvtLog) : (s.updLog f).stb = s.stb := rfl
@[simp] theorem updLog_prot (s : State) (f : EvtLog → EvtLog) : (s.updLog f).prot = s.prot := rfl
@[simp] theorem updLog_acp (s : State) (f : EvtLog → EvtLog) : (s.updLog f).acp = s.acp := rfl
@[simp] theorem updLog_peers (s : State) (f : EvtLog → EvtLog) : (s.updLog f).peers = s.peers := rfl
@[simp] theorem updLog_lsh (s : State) (f : EvtLog → EvtLog) : (s.updLog f).lsh = s.lsh := rfl
@[simp] theorem updLog_swp (s : State) (f : EvtLog → EvtLog) : (s.updLog f).swp = s.swp := rfl
@[simp] theorem updLog_damp (s : State) (f : EvtLog → EvtLog) : (s.updLog f).damp = s.damp := rfl
@[simp] theorem updLog_gsp (s : State) (f : EvtLog → EvtLog) : (s.updLog f).gsp = s.gsp := rfl
@[simp] theorem updLog_fch (s : State) (f : EvtLog → EvtLog) : (s.updLog f).fch = s.fch := rfl
@[simp] theorem updLog_crb (s : State) (f : EvtLog → EvtLog) : (s.updLog f).crb = s.crb := rfl
@[simp] theorem updLog_idn (s : State) (f : EvtLog → EvtLog) : (s.updLog f).idn = s.idn := rfl
@[simp] theorem updLog_chw (s : State) (f : EvtLog → EvtLog) : (s.updLog f).chw = s.chw := rfl
@[simp] theorem updLog_pins (s : State) (f : EvtLog → EvtLog) : (s.updLog f).pins = s.pins := rfl

/-! ### updPar -/

@[simp] theorem updPar_now (s : State) (f : Params → Params) : (s.updPar f).now = s.now := rfl
@[simp] theorem updPar_freeCount (s : State) (f : Params → Params) : (s.updPar f).freeCount = s.freeCount := rfl
@[simp] theorem updPar_pending (s : State) (f : Params → Params) : (s.updPar f).pending = s.pending := rfl
@[simp] theorem updPar_power (s : State) (f : Params → Params) : (s.updPar f).power = s.power := rfl
@[simp] theorem updPar_win (s : State) (f : Params → Params) : (s.updPar f).win = s.win := rfl
@[simp] theorem updPar_log (s : State) (f : Params → Params) : (s.updPar f).log = s.log := rfl
@[simp] theorem updPar_par (s : State) (f : Params → Params) : (s.updPar f).par = f s.par := rfl
@[simp] theorem updPar_nvm (s : State) (f : Params → Params) : (s.updPar f).nvm = s.nvm := rfl
@[simp] theorem updPar_loops (s : State) (f : Params → Params) : (s.updPar f).loops = s.loops := rfl
@[simp] theorem updPar_phases (s : State) (f : Params → Params) : (s.updPar f).phases = s.phases := rfl
@[simp] theorem updPar_vsc (s : State) (f : Params → Params) : (s.updPar f).vsc = s.vsc := rfl
@[simp] theorem updPar_isc (s : State) (f : Params → Params) : (s.updPar f).isc = s.isc := rfl
@[simp] theorem updPar_lanes (s : State) (f : Params → Params) : (s.updPar f).lanes = s.lanes := rfl
@[simp] theorem updPar_grid (s : State) (f : Params → Params) : (s.updPar f).grid = s.grid := rfl
@[simp] theorem updPar_svc (s : State) (f : Params → Params) : (s.updPar f).svc = s.svc := rfl
@[simp] theorem updPar_snap (s : State) (f : Params → Params) : (s.updPar f).snap = s.snap := rfl
@[simp] theorem updPar_stb (s : State) (f : Params → Params) : (s.updPar f).stb = s.stb := rfl
@[simp] theorem updPar_prot (s : State) (f : Params → Params) : (s.updPar f).prot = s.prot := rfl
@[simp] theorem updPar_acp (s : State) (f : Params → Params) : (s.updPar f).acp = s.acp := rfl
@[simp] theorem updPar_peers (s : State) (f : Params → Params) : (s.updPar f).peers = s.peers := rfl
@[simp] theorem updPar_lsh (s : State) (f : Params → Params) : (s.updPar f).lsh = s.lsh := rfl
@[simp] theorem updPar_swp (s : State) (f : Params → Params) : (s.updPar f).swp = s.swp := rfl
@[simp] theorem updPar_damp (s : State) (f : Params → Params) : (s.updPar f).damp = s.damp := rfl
@[simp] theorem updPar_gsp (s : State) (f : Params → Params) : (s.updPar f).gsp = s.gsp := rfl
@[simp] theorem updPar_fch (s : State) (f : Params → Params) : (s.updPar f).fch = s.fch := rfl
@[simp] theorem updPar_crb (s : State) (f : Params → Params) : (s.updPar f).crb = s.crb := rfl
@[simp] theorem updPar_idn (s : State) (f : Params → Params) : (s.updPar f).idn = s.idn := rfl
@[simp] theorem updPar_chw (s : State) (f : Params → Params) : (s.updPar f).chw = s.chw := rfl
@[simp] theorem updPar_pins (s : State) (f : Params → Params) : (s.updPar f).pins = s.pins := rfl

/-! ### updNvm -/

@[simp] theorem updNvm_now (s : State) (f : Nvm → Nvm) : (s.updNvm f).now = s.now := rfl
@[simp] theorem updNvm_freeCount (s : State) (f : Nvm → Nvm) : (s.updNvm f).freeCount = s.freeCount := rfl
@[simp] theorem updNvm_pending (s : State) (f : Nvm → Nvm) : (s.updNvm f).pending = s.pending := rfl
@[simp] theorem updNvm_power (s : State) (f : Nvm → Nvm) : (s.updNvm f).power = s.power := rfl
@[simp] theorem updNvm_win (s : State) (f : Nvm → Nvm) : (s.updNvm f).win = s.win := rfl
@[simp] theorem updNvm_log (s : State) (f : Nvm → Nvm) : (s.updNvm f).log = s.log := rfl
@[simp] theorem updNvm_par (s : State) (f : Nvm → Nvm) : (s.updNvm f).par = s.par := rfl
@[simp] theorem updNvm_nvm (s : State) (f : Nvm → Nvm) : (s.updNvm f).nvm = f s.nvm := rfl
@[simp] theorem updNvm_loops (s : State) (f : Nvm → Nvm) : (s.updNvm f).loops = s.loops := rfl
@[simp] theorem updNvm_phases (s : State) (f : Nvm → Nvm) : (s.updNvm f).phases = s.phases := rfl
@[simp] theorem updNvm_vsc (s : State) (f : Nvm → Nvm) : (s.updNvm f).vsc = s.vsc := rfl
@[simp] theorem updNvm_isc (s : State) (f : Nvm → Nvm) : (s.updNvm f).isc = s.isc := rfl
@[simp] theorem updNvm_lanes (s : State) (f : Nvm → Nvm) : (s.updNvm f).lanes = s.lanes := rfl
@[simp] theorem updNvm_grid (s : State) (f : Nvm → Nvm) : (s.updNvm f).grid = s.grid := rfl
@[simp] theorem updNvm_svc (s : State) (f : Nvm → Nvm) : (s.updNvm f).svc = s.svc := rfl
@[simp] theorem updNvm_snap (s : State) (f : Nvm → Nvm) : (s.updNvm f).snap = s.snap := rfl
@[simp] theorem updNvm_stb (s : State) (f : Nvm → Nvm) : (s.updNvm f).stb = s.stb := rfl
@[simp] theorem updNvm_prot (s : State) (f : Nvm → Nvm) : (s.updNvm f).prot = s.prot := rfl
@[simp] theorem updNvm_acp (s : State) (f : Nvm → Nvm) : (s.updNvm f).acp = s.acp := rfl
@[simp] theorem updNvm_peers (s : State) (f : Nvm → Nvm) : (s.updNvm f).peers = s.peers := rfl
@[simp] theorem updNvm_lsh (s : State) (f : Nvm → Nvm) : (s.updNvm f).lsh = s.lsh := rfl
@[simp] theorem updNvm_swp (s : State) (f : Nvm → Nvm) : (s.updNvm f).swp = s.swp := rfl
@[simp] theorem updNvm_damp (s : State) (f : Nvm → Nvm) : (s.updNvm f).damp = s.damp := rfl
@[simp] theorem updNvm_gsp (s : State) (f : Nvm → Nvm) : (s.updNvm f).gsp = s.gsp := rfl
@[simp] theorem updNvm_fch (s : State) (f : Nvm → Nvm) : (s.updNvm f).fch = s.fch := rfl
@[simp] theorem updNvm_crb (s : State) (f : Nvm → Nvm) : (s.updNvm f).crb = s.crb := rfl
@[simp] theorem updNvm_idn (s : State) (f : Nvm → Nvm) : (s.updNvm f).idn = s.idn := rfl
@[simp] theorem updNvm_chw (s : State) (f : Nvm → Nvm) : (s.updNvm f).chw = s.chw := rfl
@[simp] theorem updNvm_pins (s : State) (f : Nvm → Nvm) : (s.updNvm f).pins = s.pins := rfl

/-! ### setLoop -/

@[simp] theorem setLoop_now (s : State) (n : Fin 16) (l : LoopState) : (s.setLoop n l).now = s.now := rfl
@[simp] theorem setLoop_freeCount (s : State) (n : Fin 16) (l : LoopState) : (s.setLoop n l).freeCount = s.freeCount := rfl
@[simp] theorem setLoop_pending (s : State) (n : Fin 16) (l : LoopState) : (s.setLoop n l).pending = s.pending := rfl
@[simp] theorem setLoop_power (s : State) (n : Fin 16) (l : LoopState) : (s.setLoop n l).power = s.power := rfl
@[simp] theorem setLoop_win (s : State) (n : Fin 16) (l : LoopState) : (s.setLoop n l).win = s.win := rfl
@[simp] theorem setLoop_log (s : State) (n : Fin 16) (l : LoopState) : (s.setLoop n l).log = s.log := rfl
@[simp] theorem setLoop_par (s : State) (n : Fin 16) (l : LoopState) : (s.setLoop n l).par = s.par := rfl
@[simp] theorem setLoop_nvm (s : State) (n : Fin 16) (l : LoopState) : (s.setLoop n l).nvm = s.nvm := rfl
@[simp] theorem setLoop_phases (s : State) (n : Fin 16) (l : LoopState) : (s.setLoop n l).phases = s.phases := rfl
@[simp] theorem setLoop_vsc (s : State) (n : Fin 16) (l : LoopState) : (s.setLoop n l).vsc = s.vsc := rfl
@[simp] theorem setLoop_isc (s : State) (n : Fin 16) (l : LoopState) : (s.setLoop n l).isc = s.isc := rfl
@[simp] theorem setLoop_lanes (s : State) (n : Fin 16) (l : LoopState) : (s.setLoop n l).lanes = s.lanes := rfl
@[simp] theorem setLoop_grid (s : State) (n : Fin 16) (l : LoopState) : (s.setLoop n l).grid = s.grid := rfl
@[simp] theorem setLoop_svc (s : State) (n : Fin 16) (l : LoopState) : (s.setLoop n l).svc = s.svc := rfl
@[simp] theorem setLoop_snap (s : State) (n : Fin 16) (l : LoopState) : (s.setLoop n l).snap = s.snap := rfl
@[simp] theorem setLoop_stb (s : State) (n : Fin 16) (l : LoopState) : (s.setLoop n l).stb = s.stb := rfl
@[simp] theorem setLoop_prot (s : State) (n : Fin 16) (l : LoopState) : (s.setLoop n l).prot = s.prot := rfl
@[simp] theorem setLoop_acp (s : State) (n : Fin 16) (l : LoopState) : (s.setLoop n l).acp = s.acp := rfl
@[simp] theorem setLoop_peers (s : State) (n : Fin 16) (l : LoopState) : (s.setLoop n l).peers = s.peers := rfl
@[simp] theorem setLoop_lsh (s : State) (n : Fin 16) (l : LoopState) : (s.setLoop n l).lsh = s.lsh := rfl
@[simp] theorem setLoop_swp (s : State) (n : Fin 16) (l : LoopState) : (s.setLoop n l).swp = s.swp := rfl
@[simp] theorem setLoop_damp (s : State) (n : Fin 16) (l : LoopState) : (s.setLoop n l).damp = s.damp := rfl
@[simp] theorem setLoop_gsp (s : State) (n : Fin 16) (l : LoopState) : (s.setLoop n l).gsp = s.gsp := rfl
@[simp] theorem setLoop_fch (s : State) (n : Fin 16) (l : LoopState) : (s.setLoop n l).fch = s.fch := rfl
@[simp] theorem setLoop_crb (s : State) (n : Fin 16) (l : LoopState) : (s.setLoop n l).crb = s.crb := rfl
@[simp] theorem setLoop_idn (s : State) (n : Fin 16) (l : LoopState) : (s.setLoop n l).idn = s.idn := rfl
@[simp] theorem setLoop_chw (s : State) (n : Fin 16) (l : LoopState) : (s.setLoop n l).chw = s.chw := rfl
@[simp] theorem setLoop_pins (s : State) (n : Fin 16) (l : LoopState) : (s.setLoop n l).pins = s.pins := rfl

/-! ### updLoop -/

@[simp] theorem updLoop_now (s : State) (n : Fin 16) (f : LoopState → LoopState) : (s.updLoop n f).now = s.now := rfl
@[simp] theorem updLoop_freeCount (s : State) (n : Fin 16) (f : LoopState → LoopState) : (s.updLoop n f).freeCount = s.freeCount := rfl
@[simp] theorem updLoop_pending (s : State) (n : Fin 16) (f : LoopState → LoopState) : (s.updLoop n f).pending = s.pending := rfl
@[simp] theorem updLoop_power (s : State) (n : Fin 16) (f : LoopState → LoopState) : (s.updLoop n f).power = s.power := rfl
@[simp] theorem updLoop_win (s : State) (n : Fin 16) (f : LoopState → LoopState) : (s.updLoop n f).win = s.win := rfl
@[simp] theorem updLoop_log (s : State) (n : Fin 16) (f : LoopState → LoopState) : (s.updLoop n f).log = s.log := rfl
@[simp] theorem updLoop_par (s : State) (n : Fin 16) (f : LoopState → LoopState) : (s.updLoop n f).par = s.par := rfl
@[simp] theorem updLoop_nvm (s : State) (n : Fin 16) (f : LoopState → LoopState) : (s.updLoop n f).nvm = s.nvm := rfl
@[simp] theorem updLoop_phases (s : State) (n : Fin 16) (f : LoopState → LoopState) : (s.updLoop n f).phases = s.phases := rfl
@[simp] theorem updLoop_vsc (s : State) (n : Fin 16) (f : LoopState → LoopState) : (s.updLoop n f).vsc = s.vsc := rfl
@[simp] theorem updLoop_isc (s : State) (n : Fin 16) (f : LoopState → LoopState) : (s.updLoop n f).isc = s.isc := rfl
@[simp] theorem updLoop_lanes (s : State) (n : Fin 16) (f : LoopState → LoopState) : (s.updLoop n f).lanes = s.lanes := rfl
@[simp] theorem updLoop_grid (s : State) (n : Fin 16) (f : LoopState → LoopState) : (s.updLoop n f).grid = s.grid := rfl
@[simp] theorem updLoop_svc (s : State) (n : Fin 16) (f : LoopState → LoopState) : (s.updLoop n f).svc = s.svc := rfl
@[simp] theorem updLoop_snap (s : State) (n : Fin 16) (f : LoopState → LoopState) : (s.updLoop n f).snap = s.snap := rfl
@[simp] theorem updLoop_stb (s : State) (n : Fin 16) (f : LoopState → LoopState) : (s.updLoop n f).stb = s.stb := rfl
@[simp] theorem updLoop_prot (s : State) (n : Fin 16) (f : LoopState → LoopState) : (s.updLoop n f).prot = s.prot := rfl
@[simp] theorem updLoop_acp (s : State) (n : Fin 16) (f : LoopState → LoopState) : (s.updLoop n f).acp = s.acp := rfl
@[simp] theorem updLoop_peers (s : State) (n : Fin 16) (f : LoopState → LoopState) : (s.updLoop n f).peers = s.peers := rfl
@[simp] theorem updLoop_lsh (s : State) (n : Fin 16) (f : LoopState → LoopState) : (s.updLoop n f).lsh = s.lsh := rfl
@[simp] theorem updLoop_swp (s : State) (n : Fin 16) (f : LoopState → LoopState) : (s.updLoop n f).swp = s.swp := rfl
@[simp] theorem updLoop_damp (s : State) (n : Fin 16) (f : LoopState → LoopState) : (s.updLoop n f).damp = s.damp := rfl
@[simp] theorem updLoop_gsp (s : State) (n : Fin 16) (f : LoopState → LoopState) : (s.updLoop n f).gsp = s.gsp := rfl
@[simp] theorem updLoop_fch (s : State) (n : Fin 16) (f : LoopState → LoopState) : (s.updLoop n f).fch = s.fch := rfl
@[simp] theorem updLoop_crb (s : State) (n : Fin 16) (f : LoopState → LoopState) : (s.updLoop n f).crb = s.crb := rfl
@[simp] theorem updLoop_idn (s : State) (n : Fin 16) (f : LoopState → LoopState) : (s.updLoop n f).idn = s.idn := rfl
@[simp] theorem updLoop_chw (s : State) (n : Fin 16) (f : LoopState → LoopState) : (s.updLoop n f).chw = s.chw := rfl
@[simp] theorem updLoop_pins (s : State) (n : Fin 16) (f : LoopState → LoopState) : (s.updLoop n f).pins = s.pins := rfl

/-! ### setPhase -/

@[simp] theorem setPhase_now (s : State) (m : Fin 64) (p : PhaseState) : (s.setPhase m p).now = s.now := rfl
@[simp] theorem setPhase_freeCount (s : State) (m : Fin 64) (p : PhaseState) : (s.setPhase m p).freeCount = s.freeCount := rfl
@[simp] theorem setPhase_pending (s : State) (m : Fin 64) (p : PhaseState) : (s.setPhase m p).pending = s.pending := rfl
@[simp] theorem setPhase_power (s : State) (m : Fin 64) (p : PhaseState) : (s.setPhase m p).power = s.power := rfl
@[simp] theorem setPhase_win (s : State) (m : Fin 64) (p : PhaseState) : (s.setPhase m p).win = s.win := rfl
@[simp] theorem setPhase_log (s : State) (m : Fin 64) (p : PhaseState) : (s.setPhase m p).log = s.log := rfl
@[simp] theorem setPhase_par (s : State) (m : Fin 64) (p : PhaseState) : (s.setPhase m p).par = s.par := rfl
@[simp] theorem setPhase_nvm (s : State) (m : Fin 64) (p : PhaseState) : (s.setPhase m p).nvm = s.nvm := rfl
@[simp] theorem setPhase_loops (s : State) (m : Fin 64) (p : PhaseState) : (s.setPhase m p).loops = s.loops := rfl
@[simp] theorem setPhase_vsc (s : State) (m : Fin 64) (p : PhaseState) : (s.setPhase m p).vsc = s.vsc := rfl
@[simp] theorem setPhase_isc (s : State) (m : Fin 64) (p : PhaseState) : (s.setPhase m p).isc = s.isc := rfl
@[simp] theorem setPhase_lanes (s : State) (m : Fin 64) (p : PhaseState) : (s.setPhase m p).lanes = s.lanes := rfl
@[simp] theorem setPhase_grid (s : State) (m : Fin 64) (p : PhaseState) : (s.setPhase m p).grid = s.grid := rfl
@[simp] theorem setPhase_svc (s : State) (m : Fin 64) (p : PhaseState) : (s.setPhase m p).svc = s.svc := rfl
@[simp] theorem setPhase_snap (s : State) (m : Fin 64) (p : PhaseState) : (s.setPhase m p).snap = s.snap := rfl
@[simp] theorem setPhase_stb (s : State) (m : Fin 64) (p : PhaseState) : (s.setPhase m p).stb = s.stb := rfl
@[simp] theorem setPhase_prot (s : State) (m : Fin 64) (p : PhaseState) : (s.setPhase m p).prot = s.prot := rfl
@[simp] theorem setPhase_acp (s : State) (m : Fin 64) (p : PhaseState) : (s.setPhase m p).acp = s.acp := rfl
@[simp] theorem setPhase_peers (s : State) (m : Fin 64) (p : PhaseState) : (s.setPhase m p).peers = s.peers := rfl
@[simp] theorem setPhase_lsh (s : State) (m : Fin 64) (p : PhaseState) : (s.setPhase m p).lsh = s.lsh := rfl
@[simp] theorem setPhase_swp (s : State) (m : Fin 64) (p : PhaseState) : (s.setPhase m p).swp = s.swp := rfl
@[simp] theorem setPhase_damp (s : State) (m : Fin 64) (p : PhaseState) : (s.setPhase m p).damp = s.damp := rfl
@[simp] theorem setPhase_gsp (s : State) (m : Fin 64) (p : PhaseState) : (s.setPhase m p).gsp = s.gsp := rfl
@[simp] theorem setPhase_fch (s : State) (m : Fin 64) (p : PhaseState) : (s.setPhase m p).fch = s.fch := rfl
@[simp] theorem setPhase_crb (s : State) (m : Fin 64) (p : PhaseState) : (s.setPhase m p).crb = s.crb := rfl
@[simp] theorem setPhase_idn (s : State) (m : Fin 64) (p : PhaseState) : (s.setPhase m p).idn = s.idn := rfl
@[simp] theorem setPhase_chw (s : State) (m : Fin 64) (p : PhaseState) : (s.setPhase m p).chw = s.chw := rfl
@[simp] theorem setPhase_pins (s : State) (m : Fin 64) (p : PhaseState) : (s.setPhase m p).pins = s.pins := rfl

/-! ### updPhase -/

@[simp] theorem updPhase_now (s : State) (m : Fin 64) (f : PhaseState → PhaseState) : (s.updPhase m f).now = s.now := rfl
@[simp] theorem updPhase_freeCount (s : State) (m : Fin 64) (f : PhaseState → PhaseState) : (s.updPhase m f).freeCount = s.freeCount := rfl
@[simp] theorem updPhase_pending (s : State) (m : Fin 64) (f : PhaseState → PhaseState) : (s.updPhase m f).pending = s.pending := rfl
@[simp] theorem updPhase_power (s : State) (m : Fin 64) (f : PhaseState → PhaseState) : (s.updPhase m f).power = s.power := rfl
@[simp] theorem updPhase_win (s : State) (m : Fin 64) (f : PhaseState → PhaseState) : (s.updPhase m f).win = s.win := rfl
@[simp] theorem updPhase_log (s : State) (m : Fin 64) (f : PhaseState → PhaseState) : (s.updPhase m f).log = s.log := rfl
@[simp] theorem updPhase_par (s : State) (m : Fin 64) (f : PhaseState → PhaseState) : (s.updPhase m f).par = s.par := rfl
@[simp] theorem updPhase_nvm (s : State) (m : Fin 64) (f : PhaseState → PhaseState) : (s.updPhase m f).nvm = s.nvm := rfl
@[simp] theorem updPhase_loops (s : State) (m : Fin 64) (f : PhaseState → PhaseState) : (s.updPhase m f).loops = s.loops := rfl
@[simp] theorem updPhase_vsc (s : State) (m : Fin 64) (f : PhaseState → PhaseState) : (s.updPhase m f).vsc = s.vsc := rfl
@[simp] theorem updPhase_isc (s : State) (m : Fin 64) (f : PhaseState → PhaseState) : (s.updPhase m f).isc = s.isc := rfl
@[simp] theorem updPhase_lanes (s : State) (m : Fin 64) (f : PhaseState → PhaseState) : (s.updPhase m f).lanes = s.lanes := rfl
@[simp] theorem updPhase_grid (s : State) (m : Fin 64) (f : PhaseState → PhaseState) : (s.updPhase m f).grid = s.grid := rfl
@[simp] theorem updPhase_svc (s : State) (m : Fin 64) (f : PhaseState → PhaseState) : (s.updPhase m f).svc = s.svc := rfl
@[simp] theorem updPhase_snap (s : State) (m : Fin 64) (f : PhaseState → PhaseState) : (s.updPhase m f).snap = s.snap := rfl
@[simp] theorem updPhase_stb (s : State) (m : Fin 64) (f : PhaseState → PhaseState) : (s.updPhase m f).stb = s.stb := rfl
@[simp] theorem updPhase_prot (s : State) (m : Fin 64) (f : PhaseState → PhaseState) : (s.updPhase m f).prot = s.prot := rfl
@[simp] theorem updPhase_acp (s : State) (m : Fin 64) (f : PhaseState → PhaseState) : (s.updPhase m f).acp = s.acp := rfl
@[simp] theorem updPhase_peers (s : State) (m : Fin 64) (f : PhaseState → PhaseState) : (s.updPhase m f).peers = s.peers := rfl
@[simp] theorem updPhase_lsh (s : State) (m : Fin 64) (f : PhaseState → PhaseState) : (s.updPhase m f).lsh = s.lsh := rfl
@[simp] theorem updPhase_swp (s : State) (m : Fin 64) (f : PhaseState → PhaseState) : (s.updPhase m f).swp = s.swp := rfl
@[simp] theorem updPhase_damp (s : State) (m : Fin 64) (f : PhaseState → PhaseState) : (s.updPhase m f).damp = s.damp := rfl
@[simp] theorem updPhase_gsp (s : State) (m : Fin 64) (f : PhaseState → PhaseState) : (s.updPhase m f).gsp = s.gsp := rfl
@[simp] theorem updPhase_fch (s : State) (m : Fin 64) (f : PhaseState → PhaseState) : (s.updPhase m f).fch = s.fch := rfl
@[simp] theorem updPhase_crb (s : State) (m : Fin 64) (f : PhaseState → PhaseState) : (s.updPhase m f).crb = s.crb := rfl
@[simp] theorem updPhase_idn (s : State) (m : Fin 64) (f : PhaseState → PhaseState) : (s.updPhase m f).idn = s.idn := rfl
@[simp] theorem updPhase_chw (s : State) (m : Fin 64) (f : PhaseState → PhaseState) : (s.updPhase m f).chw = s.chw := rfl
@[simp] theorem updPhase_pins (s : State) (m : Fin 64) (f : PhaseState → PhaseState) : (s.updPhase m f).pins = s.pins := rfl

/-! ### updSense -/

@[simp] theorem updSense_now (s : State) (n : Fin 16) (f : LoopSense → LoopSense) : (s.updSense n f).now = s.now := rfl
@[simp] theorem updSense_freeCount (s : State) (n : Fin 16) (f : LoopSense → LoopSense) : (s.updSense n f).freeCount = s.freeCount := rfl
@[simp] theorem updSense_pending (s : State) (n : Fin 16) (f : LoopSense → LoopSense) : (s.updSense n f).pending = s.pending := rfl
@[simp] theorem updSense_power (s : State) (n : Fin 16) (f : LoopSense → LoopSense) : (s.updSense n f).power = s.power := rfl
@[simp] theorem updSense_win (s : State) (n : Fin 16) (f : LoopSense → LoopSense) : (s.updSense n f).win = s.win := rfl
@[simp] theorem updSense_log (s : State) (n : Fin 16) (f : LoopSense → LoopSense) : (s.updSense n f).log = s.log := rfl
@[simp] theorem updSense_par (s : State) (n : Fin 16) (f : LoopSense → LoopSense) : (s.updSense n f).par = s.par := rfl
@[simp] theorem updSense_nvm (s : State) (n : Fin 16) (f : LoopSense → LoopSense) : (s.updSense n f).nvm = s.nvm := rfl
@[simp] theorem updSense_phases (s : State) (n : Fin 16) (f : LoopSense → LoopSense) : (s.updSense n f).phases = s.phases := rfl
@[simp] theorem updSense_vsc (s : State) (n : Fin 16) (f : LoopSense → LoopSense) : (s.updSense n f).vsc = s.vsc := rfl
@[simp] theorem updSense_isc (s : State) (n : Fin 16) (f : LoopSense → LoopSense) : (s.updSense n f).isc = s.isc := rfl
@[simp] theorem updSense_lanes (s : State) (n : Fin 16) (f : LoopSense → LoopSense) : (s.updSense n f).lanes = s.lanes := rfl
@[simp] theorem updSense_grid (s : State) (n : Fin 16) (f : LoopSense → LoopSense) : (s.updSense n f).grid = s.grid := rfl
@[simp] theorem updSense_svc (s : State) (n : Fin 16) (f : LoopSense → LoopSense) : (s.updSense n f).svc = s.svc := rfl
@[simp] theorem updSense_snap (s : State) (n : Fin 16) (f : LoopSense → LoopSense) : (s.updSense n f).snap = s.snap := rfl
@[simp] theorem updSense_stb (s : State) (n : Fin 16) (f : LoopSense → LoopSense) : (s.updSense n f).stb = s.stb := rfl
@[simp] theorem updSense_prot (s : State) (n : Fin 16) (f : LoopSense → LoopSense) : (s.updSense n f).prot = s.prot := rfl
@[simp] theorem updSense_acp (s : State) (n : Fin 16) (f : LoopSense → LoopSense) : (s.updSense n f).acp = s.acp := rfl
@[simp] theorem updSense_peers (s : State) (n : Fin 16) (f : LoopSense → LoopSense) : (s.updSense n f).peers = s.peers := rfl
@[simp] theorem updSense_lsh (s : State) (n : Fin 16) (f : LoopSense → LoopSense) : (s.updSense n f).lsh = s.lsh := rfl
@[simp] theorem updSense_swp (s : State) (n : Fin 16) (f : LoopSense → LoopSense) : (s.updSense n f).swp = s.swp := rfl
@[simp] theorem updSense_damp (s : State) (n : Fin 16) (f : LoopSense → LoopSense) : (s.updSense n f).damp = s.damp := rfl
@[simp] theorem updSense_gsp (s : State) (n : Fin 16) (f : LoopSense → LoopSense) : (s.updSense n f).gsp = s.gsp := rfl
@[simp] theorem updSense_fch (s : State) (n : Fin 16) (f : LoopSense → LoopSense) : (s.updSense n f).fch = s.fch := rfl
@[simp] theorem updSense_crb (s : State) (n : Fin 16) (f : LoopSense → LoopSense) : (s.updSense n f).crb = s.crb := rfl
@[simp] theorem updSense_idn (s : State) (n : Fin 16) (f : LoopSense → LoopSense) : (s.updSense n f).idn = s.idn := rfl
@[simp] theorem updSense_chw (s : State) (n : Fin 16) (f : LoopSense → LoopSense) : (s.updSense n f).chw = s.chw := rfl
@[simp] theorem updSense_pins (s : State) (n : Fin 16) (f : LoopSense → LoopSense) : (s.updSense n f).pins = s.pins := rfl

/-! ### updEng -/

@[simp] theorem updEng_now (s : State) (n : Fin 16) (f : LoopEng → LoopEng) : (s.updEng n f).now = s.now := rfl
@[simp] theorem updEng_freeCount (s : State) (n : Fin 16) (f : LoopEng → LoopEng) : (s.updEng n f).freeCount = s.freeCount := rfl
@[simp] theorem updEng_pending (s : State) (n : Fin 16) (f : LoopEng → LoopEng) : (s.updEng n f).pending = s.pending := rfl
@[simp] theorem updEng_power (s : State) (n : Fin 16) (f : LoopEng → LoopEng) : (s.updEng n f).power = s.power := rfl
@[simp] theorem updEng_win (s : State) (n : Fin 16) (f : LoopEng → LoopEng) : (s.updEng n f).win = s.win := rfl
@[simp] theorem updEng_log (s : State) (n : Fin 16) (f : LoopEng → LoopEng) : (s.updEng n f).log = s.log := rfl
@[simp] theorem updEng_par (s : State) (n : Fin 16) (f : LoopEng → LoopEng) : (s.updEng n f).par = s.par := rfl
@[simp] theorem updEng_nvm (s : State) (n : Fin 16) (f : LoopEng → LoopEng) : (s.updEng n f).nvm = s.nvm := rfl
@[simp] theorem updEng_phases (s : State) (n : Fin 16) (f : LoopEng → LoopEng) : (s.updEng n f).phases = s.phases := rfl
@[simp] theorem updEng_vsc (s : State) (n : Fin 16) (f : LoopEng → LoopEng) : (s.updEng n f).vsc = s.vsc := rfl
@[simp] theorem updEng_isc (s : State) (n : Fin 16) (f : LoopEng → LoopEng) : (s.updEng n f).isc = s.isc := rfl
@[simp] theorem updEng_lanes (s : State) (n : Fin 16) (f : LoopEng → LoopEng) : (s.updEng n f).lanes = s.lanes := rfl
@[simp] theorem updEng_grid (s : State) (n : Fin 16) (f : LoopEng → LoopEng) : (s.updEng n f).grid = s.grid := rfl
@[simp] theorem updEng_svc (s : State) (n : Fin 16) (f : LoopEng → LoopEng) : (s.updEng n f).svc = s.svc := rfl
@[simp] theorem updEng_snap (s : State) (n : Fin 16) (f : LoopEng → LoopEng) : (s.updEng n f).snap = s.snap := rfl
@[simp] theorem updEng_stb (s : State) (n : Fin 16) (f : LoopEng → LoopEng) : (s.updEng n f).stb = s.stb := rfl
@[simp] theorem updEng_prot (s : State) (n : Fin 16) (f : LoopEng → LoopEng) : (s.updEng n f).prot = s.prot := rfl
@[simp] theorem updEng_acp (s : State) (n : Fin 16) (f : LoopEng → LoopEng) : (s.updEng n f).acp = s.acp := rfl
@[simp] theorem updEng_peers (s : State) (n : Fin 16) (f : LoopEng → LoopEng) : (s.updEng n f).peers = s.peers := rfl
@[simp] theorem updEng_lsh (s : State) (n : Fin 16) (f : LoopEng → LoopEng) : (s.updEng n f).lsh = s.lsh := rfl
@[simp] theorem updEng_swp (s : State) (n : Fin 16) (f : LoopEng → LoopEng) : (s.updEng n f).swp = s.swp := rfl
@[simp] theorem updEng_damp (s : State) (n : Fin 16) (f : LoopEng → LoopEng) : (s.updEng n f).damp = s.damp := rfl
@[simp] theorem updEng_gsp (s : State) (n : Fin 16) (f : LoopEng → LoopEng) : (s.updEng n f).gsp = s.gsp := rfl
@[simp] theorem updEng_fch (s : State) (n : Fin 16) (f : LoopEng → LoopEng) : (s.updEng n f).fch = s.fch := rfl
@[simp] theorem updEng_crb (s : State) (n : Fin 16) (f : LoopEng → LoopEng) : (s.updEng n f).crb = s.crb := rfl
@[simp] theorem updEng_idn (s : State) (n : Fin 16) (f : LoopEng → LoopEng) : (s.updEng n f).idn = s.idn := rfl
@[simp] theorem updEng_chw (s : State) (n : Fin 16) (f : LoopEng → LoopEng) : (s.updEng n f).chw = s.chw := rfl
@[simp] theorem updEng_pins (s : State) (n : Fin 16) (f : LoopEng → LoopEng) : (s.updEng n f).pins = s.pins := rfl

/-! ### updMod -/

@[simp] theorem updMod_now (s : State) (n : Fin 16) (f : LoopMod → LoopMod) : (s.updMod n f).now = s.now := rfl
@[simp] theorem updMod_freeCount (s : State) (n : Fin 16) (f : LoopMod → LoopMod) : (s.updMod n f).freeCount = s.freeCount := rfl
@[simp] theorem updMod_pending (s : State) (n : Fin 16) (f : LoopMod → LoopMod) : (s.updMod n f).pending = s.pending := rfl
@[simp] theorem updMod_power (s : State) (n : Fin 16) (f : LoopMod → LoopMod) : (s.updMod n f).power = s.power := rfl
@[simp] theorem updMod_win (s : State) (n : Fin 16) (f : LoopMod → LoopMod) : (s.updMod n f).win = s.win := rfl
@[simp] theorem updMod_log (s : State) (n : Fin 16) (f : LoopMod → LoopMod) : (s.updMod n f).log = s.log := rfl
@[simp] theorem updMod_par (s : State) (n : Fin 16) (f : LoopMod → LoopMod) : (s.updMod n f).par = s.par := rfl
@[simp] theorem updMod_nvm (s : State) (n : Fin 16) (f : LoopMod → LoopMod) : (s.updMod n f).nvm = s.nvm := rfl
@[simp] theorem updMod_phases (s : State) (n : Fin 16) (f : LoopMod → LoopMod) : (s.updMod n f).phases = s.phases := rfl
@[simp] theorem updMod_vsc (s : State) (n : Fin 16) (f : LoopMod → LoopMod) : (s.updMod n f).vsc = s.vsc := rfl
@[simp] theorem updMod_isc (s : State) (n : Fin 16) (f : LoopMod → LoopMod) : (s.updMod n f).isc = s.isc := rfl
@[simp] theorem updMod_lanes (s : State) (n : Fin 16) (f : LoopMod → LoopMod) : (s.updMod n f).lanes = s.lanes := rfl
@[simp] theorem updMod_grid (s : State) (n : Fin 16) (f : LoopMod → LoopMod) : (s.updMod n f).grid = s.grid := rfl
@[simp] theorem updMod_svc (s : State) (n : Fin 16) (f : LoopMod → LoopMod) : (s.updMod n f).svc = s.svc := rfl
@[simp] theorem updMod_snap (s : State) (n : Fin 16) (f : LoopMod → LoopMod) : (s.updMod n f).snap = s.snap := rfl
@[simp] theorem updMod_stb (s : State) (n : Fin 16) (f : LoopMod → LoopMod) : (s.updMod n f).stb = s.stb := rfl
@[simp] theorem updMod_prot (s : State) (n : Fin 16) (f : LoopMod → LoopMod) : (s.updMod n f).prot = s.prot := rfl
@[simp] theorem updMod_acp (s : State) (n : Fin 16) (f : LoopMod → LoopMod) : (s.updMod n f).acp = s.acp := rfl
@[simp] theorem updMod_peers (s : State) (n : Fin 16) (f : LoopMod → LoopMod) : (s.updMod n f).peers = s.peers := rfl
@[simp] theorem updMod_lsh (s : State) (n : Fin 16) (f : LoopMod → LoopMod) : (s.updMod n f).lsh = s.lsh := rfl
@[simp] theorem updMod_swp (s : State) (n : Fin 16) (f : LoopMod → LoopMod) : (s.updMod n f).swp = s.swp := rfl
@[simp] theorem updMod_damp (s : State) (n : Fin 16) (f : LoopMod → LoopMod) : (s.updMod n f).damp = s.damp := rfl
@[simp] theorem updMod_gsp (s : State) (n : Fin 16) (f : LoopMod → LoopMod) : (s.updMod n f).gsp = s.gsp := rfl
@[simp] theorem updMod_fch (s : State) (n : Fin 16) (f : LoopMod → LoopMod) : (s.updMod n f).fch = s.fch := rfl
@[simp] theorem updMod_crb (s : State) (n : Fin 16) (f : LoopMod → LoopMod) : (s.updMod n f).crb = s.crb := rfl
@[simp] theorem updMod_idn (s : State) (n : Fin 16) (f : LoopMod → LoopMod) : (s.updMod n f).idn = s.idn := rfl
@[simp] theorem updMod_chw (s : State) (n : Fin 16) (f : LoopMod → LoopMod) : (s.updMod n f).chw = s.chw := rfl
@[simp] theorem updMod_pins (s : State) (n : Fin 16) (f : LoopMod → LoopMod) : (s.updMod n f).pins = s.pins := rfl

/-! ### updSp -/

@[simp] theorem updSp_now (s : State) (n : Fin 16) (f : LoopSp → LoopSp) : (s.updSp n f).now = s.now := rfl
@[simp] theorem updSp_freeCount (s : State) (n : Fin 16) (f : LoopSp → LoopSp) : (s.updSp n f).freeCount = s.freeCount := rfl
@[simp] theorem updSp_pending (s : State) (n : Fin 16) (f : LoopSp → LoopSp) : (s.updSp n f).pending = s.pending := rfl
@[simp] theorem updSp_power (s : State) (n : Fin 16) (f : LoopSp → LoopSp) : (s.updSp n f).power = s.power := rfl
@[simp] theorem updSp_win (s : State) (n : Fin 16) (f : LoopSp → LoopSp) : (s.updSp n f).win = s.win := rfl
@[simp] theorem updSp_log (s : State) (n : Fin 16) (f : LoopSp → LoopSp) : (s.updSp n f).log = s.log := rfl
@[simp] theorem updSp_par (s : State) (n : Fin 16) (f : LoopSp → LoopSp) : (s.updSp n f).par = s.par := rfl
@[simp] theorem updSp_nvm (s : State) (n : Fin 16) (f : LoopSp → LoopSp) : (s.updSp n f).nvm = s.nvm := rfl
@[simp] theorem updSp_phases (s : State) (n : Fin 16) (f : LoopSp → LoopSp) : (s.updSp n f).phases = s.phases := rfl
@[simp] theorem updSp_vsc (s : State) (n : Fin 16) (f : LoopSp → LoopSp) : (s.updSp n f).vsc = s.vsc := rfl
@[simp] theorem updSp_isc (s : State) (n : Fin 16) (f : LoopSp → LoopSp) : (s.updSp n f).isc = s.isc := rfl
@[simp] theorem updSp_lanes (s : State) (n : Fin 16) (f : LoopSp → LoopSp) : (s.updSp n f).lanes = s.lanes := rfl
@[simp] theorem updSp_grid (s : State) (n : Fin 16) (f : LoopSp → LoopSp) : (s.updSp n f).grid = s.grid := rfl
@[simp] theorem updSp_svc (s : State) (n : Fin 16) (f : LoopSp → LoopSp) : (s.updSp n f).svc = s.svc := rfl
@[simp] theorem updSp_snap (s : State) (n : Fin 16) (f : LoopSp → LoopSp) : (s.updSp n f).snap = s.snap := rfl
@[simp] theorem updSp_stb (s : State) (n : Fin 16) (f : LoopSp → LoopSp) : (s.updSp n f).stb = s.stb := rfl
@[simp] theorem updSp_prot (s : State) (n : Fin 16) (f : LoopSp → LoopSp) : (s.updSp n f).prot = s.prot := rfl
@[simp] theorem updSp_acp (s : State) (n : Fin 16) (f : LoopSp → LoopSp) : (s.updSp n f).acp = s.acp := rfl
@[simp] theorem updSp_peers (s : State) (n : Fin 16) (f : LoopSp → LoopSp) : (s.updSp n f).peers = s.peers := rfl
@[simp] theorem updSp_lsh (s : State) (n : Fin 16) (f : LoopSp → LoopSp) : (s.updSp n f).lsh = s.lsh := rfl
@[simp] theorem updSp_swp (s : State) (n : Fin 16) (f : LoopSp → LoopSp) : (s.updSp n f).swp = s.swp := rfl
@[simp] theorem updSp_damp (s : State) (n : Fin 16) (f : LoopSp → LoopSp) : (s.updSp n f).damp = s.damp := rfl
@[simp] theorem updSp_gsp (s : State) (n : Fin 16) (f : LoopSp → LoopSp) : (s.updSp n f).gsp = s.gsp := rfl
@[simp] theorem updSp_fch (s : State) (n : Fin 16) (f : LoopSp → LoopSp) : (s.updSp n f).fch = s.fch := rfl
@[simp] theorem updSp_crb (s : State) (n : Fin 16) (f : LoopSp → LoopSp) : (s.updSp n f).crb = s.crb := rfl
@[simp] theorem updSp_idn (s : State) (n : Fin 16) (f : LoopSp → LoopSp) : (s.updSp n f).idn = s.idn := rfl
@[simp] theorem updSp_chw (s : State) (n : Fin 16) (f : LoopSp → LoopSp) : (s.updSp n f).chw = s.chw := rfl
@[simp] theorem updSp_pins (s : State) (n : Fin 16) (f : LoopSp → LoopSp) : (s.updSp n f).pins = s.pins := rfl

/-! ### updAcp -/

@[simp] theorem updAcp_now (s : State) (n : Fin 16) (f : LoopAcp → LoopAcp) : (s.updAcp n f).now = s.now := rfl
@[simp] theorem updAcp_freeCount (s : State) (n : Fin 16) (f : LoopAcp → LoopAcp) : (s.updAcp n f).freeCount = s.freeCount := rfl
@[simp] theorem updAcp_pending (s : State) (n : Fin 16) (f : LoopAcp → LoopAcp) : (s.updAcp n f).pending = s.pending := rfl
@[simp] theorem updAcp_power (s : State) (n : Fin 16) (f : LoopAcp → LoopAcp) : (s.updAcp n f).power = s.power := rfl
@[simp] theorem updAcp_win (s : State) (n : Fin 16) (f : LoopAcp → LoopAcp) : (s.updAcp n f).win = s.win := rfl
@[simp] theorem updAcp_log (s : State) (n : Fin 16) (f : LoopAcp → LoopAcp) : (s.updAcp n f).log = s.log := rfl
@[simp] theorem updAcp_par (s : State) (n : Fin 16) (f : LoopAcp → LoopAcp) : (s.updAcp n f).par = s.par := rfl
@[simp] theorem updAcp_nvm (s : State) (n : Fin 16) (f : LoopAcp → LoopAcp) : (s.updAcp n f).nvm = s.nvm := rfl
@[simp] theorem updAcp_phases (s : State) (n : Fin 16) (f : LoopAcp → LoopAcp) : (s.updAcp n f).phases = s.phases := rfl
@[simp] theorem updAcp_vsc (s : State) (n : Fin 16) (f : LoopAcp → LoopAcp) : (s.updAcp n f).vsc = s.vsc := rfl
@[simp] theorem updAcp_isc (s : State) (n : Fin 16) (f : LoopAcp → LoopAcp) : (s.updAcp n f).isc = s.isc := rfl
@[simp] theorem updAcp_lanes (s : State) (n : Fin 16) (f : LoopAcp → LoopAcp) : (s.updAcp n f).lanes = s.lanes := rfl
@[simp] theorem updAcp_grid (s : State) (n : Fin 16) (f : LoopAcp → LoopAcp) : (s.updAcp n f).grid = s.grid := rfl
@[simp] theorem updAcp_svc (s : State) (n : Fin 16) (f : LoopAcp → LoopAcp) : (s.updAcp n f).svc = s.svc := rfl
@[simp] theorem updAcp_snap (s : State) (n : Fin 16) (f : LoopAcp → LoopAcp) : (s.updAcp n f).snap = s.snap := rfl
@[simp] theorem updAcp_stb (s : State) (n : Fin 16) (f : LoopAcp → LoopAcp) : (s.updAcp n f).stb = s.stb := rfl
@[simp] theorem updAcp_prot (s : State) (n : Fin 16) (f : LoopAcp → LoopAcp) : (s.updAcp n f).prot = s.prot := rfl
@[simp] theorem updAcp_acp (s : State) (n : Fin 16) (f : LoopAcp → LoopAcp) : (s.updAcp n f).acp = s.acp := rfl
@[simp] theorem updAcp_peers (s : State) (n : Fin 16) (f : LoopAcp → LoopAcp) : (s.updAcp n f).peers = s.peers := rfl
@[simp] theorem updAcp_lsh (s : State) (n : Fin 16) (f : LoopAcp → LoopAcp) : (s.updAcp n f).lsh = s.lsh := rfl
@[simp] theorem updAcp_swp (s : State) (n : Fin 16) (f : LoopAcp → LoopAcp) : (s.updAcp n f).swp = s.swp := rfl
@[simp] theorem updAcp_damp (s : State) (n : Fin 16) (f : LoopAcp → LoopAcp) : (s.updAcp n f).damp = s.damp := rfl
@[simp] theorem updAcp_gsp (s : State) (n : Fin 16) (f : LoopAcp → LoopAcp) : (s.updAcp n f).gsp = s.gsp := rfl
@[simp] theorem updAcp_fch (s : State) (n : Fin 16) (f : LoopAcp → LoopAcp) : (s.updAcp n f).fch = s.fch := rfl
@[simp] theorem updAcp_crb (s : State) (n : Fin 16) (f : LoopAcp → LoopAcp) : (s.updAcp n f).crb = s.crb := rfl
@[simp] theorem updAcp_idn (s : State) (n : Fin 16) (f : LoopAcp → LoopAcp) : (s.updAcp n f).idn = s.idn := rfl
@[simp] theorem updAcp_chw (s : State) (n : Fin 16) (f : LoopAcp → LoopAcp) : (s.updAcp n f).chw = s.chw := rfl
@[simp] theorem updAcp_pins (s : State) (n : Fin 16) (f : LoopAcp → LoopAcp) : (s.updAcp n f).pins = s.pins := rfl

/-! ### updLyr -/

@[simp] theorem updLyr_now (s : State) (n : Fin 16) (f : LoopLyr → LoopLyr) : (s.updLyr n f).now = s.now := rfl
@[simp] theorem updLyr_freeCount (s : State) (n : Fin 16) (f : LoopLyr → LoopLyr) : (s.updLyr n f).freeCount = s.freeCount := rfl
@[simp] theorem updLyr_pending (s : State) (n : Fin 16) (f : LoopLyr → LoopLyr) : (s.updLyr n f).pending = s.pending := rfl
@[simp] theorem updLyr_power (s : State) (n : Fin 16) (f : LoopLyr → LoopLyr) : (s.updLyr n f).power = s.power := rfl
@[simp] theorem updLyr_win (s : State) (n : Fin 16) (f : LoopLyr → LoopLyr) : (s.updLyr n f).win = s.win := rfl
@[simp] theorem updLyr_log (s : State) (n : Fin 16) (f : LoopLyr → LoopLyr) : (s.updLyr n f).log = s.log := rfl
@[simp] theorem updLyr_par (s : State) (n : Fin 16) (f : LoopLyr → LoopLyr) : (s.updLyr n f).par = s.par := rfl
@[simp] theorem updLyr_nvm (s : State) (n : Fin 16) (f : LoopLyr → LoopLyr) : (s.updLyr n f).nvm = s.nvm := rfl
@[simp] theorem updLyr_phases (s : State) (n : Fin 16) (f : LoopLyr → LoopLyr) : (s.updLyr n f).phases = s.phases := rfl
@[simp] theorem updLyr_vsc (s : State) (n : Fin 16) (f : LoopLyr → LoopLyr) : (s.updLyr n f).vsc = s.vsc := rfl
@[simp] theorem updLyr_isc (s : State) (n : Fin 16) (f : LoopLyr → LoopLyr) : (s.updLyr n f).isc = s.isc := rfl
@[simp] theorem updLyr_lanes (s : State) (n : Fin 16) (f : LoopLyr → LoopLyr) : (s.updLyr n f).lanes = s.lanes := rfl
@[simp] theorem updLyr_grid (s : State) (n : Fin 16) (f : LoopLyr → LoopLyr) : (s.updLyr n f).grid = s.grid := rfl
@[simp] theorem updLyr_svc (s : State) (n : Fin 16) (f : LoopLyr → LoopLyr) : (s.updLyr n f).svc = s.svc := rfl
@[simp] theorem updLyr_snap (s : State) (n : Fin 16) (f : LoopLyr → LoopLyr) : (s.updLyr n f).snap = s.snap := rfl
@[simp] theorem updLyr_stb (s : State) (n : Fin 16) (f : LoopLyr → LoopLyr) : (s.updLyr n f).stb = s.stb := rfl
@[simp] theorem updLyr_prot (s : State) (n : Fin 16) (f : LoopLyr → LoopLyr) : (s.updLyr n f).prot = s.prot := rfl
@[simp] theorem updLyr_acp (s : State) (n : Fin 16) (f : LoopLyr → LoopLyr) : (s.updLyr n f).acp = s.acp := rfl
@[simp] theorem updLyr_peers (s : State) (n : Fin 16) (f : LoopLyr → LoopLyr) : (s.updLyr n f).peers = s.peers := rfl
@[simp] theorem updLyr_lsh (s : State) (n : Fin 16) (f : LoopLyr → LoopLyr) : (s.updLyr n f).lsh = s.lsh := rfl
@[simp] theorem updLyr_swp (s : State) (n : Fin 16) (f : LoopLyr → LoopLyr) : (s.updLyr n f).swp = s.swp := rfl
@[simp] theorem updLyr_damp (s : State) (n : Fin 16) (f : LoopLyr → LoopLyr) : (s.updLyr n f).damp = s.damp := rfl
@[simp] theorem updLyr_gsp (s : State) (n : Fin 16) (f : LoopLyr → LoopLyr) : (s.updLyr n f).gsp = s.gsp := rfl
@[simp] theorem updLyr_fch (s : State) (n : Fin 16) (f : LoopLyr → LoopLyr) : (s.updLyr n f).fch = s.fch := rfl
@[simp] theorem updLyr_crb (s : State) (n : Fin 16) (f : LoopLyr → LoopLyr) : (s.updLyr n f).crb = s.crb := rfl
@[simp] theorem updLyr_idn (s : State) (n : Fin 16) (f : LoopLyr → LoopLyr) : (s.updLyr n f).idn = s.idn := rfl
@[simp] theorem updLyr_chw (s : State) (n : Fin 16) (f : LoopLyr → LoopLyr) : (s.updLyr n f).chw = s.chw := rfl
@[simp] theorem updLyr_pins (s : State) (n : Fin 16) (f : LoopLyr → LoopLyr) : (s.updLyr n f).pins = s.pins := rfl

/-! ### updPrt -/

@[simp] theorem updPrt_now (s : State) (n : Fin 16) (f : LoopPrt → LoopPrt) : (s.updPrt n f).now = s.now := rfl
@[simp] theorem updPrt_freeCount (s : State) (n : Fin 16) (f : LoopPrt → LoopPrt) : (s.updPrt n f).freeCount = s.freeCount := rfl
@[simp] theorem updPrt_pending (s : State) (n : Fin 16) (f : LoopPrt → LoopPrt) : (s.updPrt n f).pending = s.pending := rfl
@[simp] theorem updPrt_power (s : State) (n : Fin 16) (f : LoopPrt → LoopPrt) : (s.updPrt n f).power = s.power := rfl
@[simp] theorem updPrt_win (s : State) (n : Fin 16) (f : LoopPrt → LoopPrt) : (s.updPrt n f).win = s.win := rfl
@[simp] theorem updPrt_log (s : State) (n : Fin 16) (f : LoopPrt → LoopPrt) : (s.updPrt n f).log = s.log := rfl
@[simp] theorem updPrt_par (s : State) (n : Fin 16) (f : LoopPrt → LoopPrt) : (s.updPrt n f).par = s.par := rfl
@[simp] theorem updPrt_nvm (s : State) (n : Fin 16) (f : LoopPrt → LoopPrt) : (s.updPrt n f).nvm = s.nvm := rfl
@[simp] theorem updPrt_phases (s : State) (n : Fin 16) (f : LoopPrt → LoopPrt) : (s.updPrt n f).phases = s.phases := rfl
@[simp] theorem updPrt_vsc (s : State) (n : Fin 16) (f : LoopPrt → LoopPrt) : (s.updPrt n f).vsc = s.vsc := rfl
@[simp] theorem updPrt_isc (s : State) (n : Fin 16) (f : LoopPrt → LoopPrt) : (s.updPrt n f).isc = s.isc := rfl
@[simp] theorem updPrt_lanes (s : State) (n : Fin 16) (f : LoopPrt → LoopPrt) : (s.updPrt n f).lanes = s.lanes := rfl
@[simp] theorem updPrt_grid (s : State) (n : Fin 16) (f : LoopPrt → LoopPrt) : (s.updPrt n f).grid = s.grid := rfl
@[simp] theorem updPrt_svc (s : State) (n : Fin 16) (f : LoopPrt → LoopPrt) : (s.updPrt n f).svc = s.svc := rfl
@[simp] theorem updPrt_snap (s : State) (n : Fin 16) (f : LoopPrt → LoopPrt) : (s.updPrt n f).snap = s.snap := rfl
@[simp] theorem updPrt_stb (s : State) (n : Fin 16) (f : LoopPrt → LoopPrt) : (s.updPrt n f).stb = s.stb := rfl
@[simp] theorem updPrt_prot (s : State) (n : Fin 16) (f : LoopPrt → LoopPrt) : (s.updPrt n f).prot = s.prot := rfl
@[simp] theorem updPrt_acp (s : State) (n : Fin 16) (f : LoopPrt → LoopPrt) : (s.updPrt n f).acp = s.acp := rfl
@[simp] theorem updPrt_peers (s : State) (n : Fin 16) (f : LoopPrt → LoopPrt) : (s.updPrt n f).peers = s.peers := rfl
@[simp] theorem updPrt_lsh (s : State) (n : Fin 16) (f : LoopPrt → LoopPrt) : (s.updPrt n f).lsh = s.lsh := rfl
@[simp] theorem updPrt_swp (s : State) (n : Fin 16) (f : LoopPrt → LoopPrt) : (s.updPrt n f).swp = s.swp := rfl
@[simp] theorem updPrt_damp (s : State) (n : Fin 16) (f : LoopPrt → LoopPrt) : (s.updPrt n f).damp = s.damp := rfl
@[simp] theorem updPrt_gsp (s : State) (n : Fin 16) (f : LoopPrt → LoopPrt) : (s.updPrt n f).gsp = s.gsp := rfl
@[simp] theorem updPrt_fch (s : State) (n : Fin 16) (f : LoopPrt → LoopPrt) : (s.updPrt n f).fch = s.fch := rfl
@[simp] theorem updPrt_crb (s : State) (n : Fin 16) (f : LoopPrt → LoopPrt) : (s.updPrt n f).crb = s.crb := rfl
@[simp] theorem updPrt_idn (s : State) (n : Fin 16) (f : LoopPrt → LoopPrt) : (s.updPrt n f).idn = s.idn := rfl
@[simp] theorem updPrt_chw (s : State) (n : Fin 16) (f : LoopPrt → LoopPrt) : (s.updPrt n f).chw = s.chw := rfl
@[simp] theorem updPrt_pins (s : State) (n : Fin 16) (f : LoopPrt → LoopPrt) : (s.updPrt n f).pins = s.pins := rfl

/-! ### updSvc -/

@[simp] theorem updSvc_now (s : State) (f : Svc → Svc) : (s.updSvc f).now = s.now := rfl
@[simp] theorem updSvc_freeCount (s : State) (f : Svc → Svc) : (s.updSvc f).freeCount = s.freeCount := rfl
@[simp] theorem updSvc_pending (s : State) (f : Svc → Svc) : (s.updSvc f).pending = s.pending := rfl
@[simp] theorem updSvc_power (s : State) (f : Svc → Svc) : (s.updSvc f).power = s.power := rfl
@[simp] theorem updSvc_win (s : State) (f : Svc → Svc) : (s.updSvc f).win = s.win := rfl
@[simp] theorem updSvc_log (s : State) (f : Svc → Svc) : (s.updSvc f).log = s.log := rfl
@[simp] theorem updSvc_par (s : State) (f : Svc → Svc) : (s.updSvc f).par = s.par := rfl
@[simp] theorem updSvc_nvm (s : State) (f : Svc → Svc) : (s.updSvc f).nvm = s.nvm := rfl
@[simp] theorem updSvc_loops (s : State) (f : Svc → Svc) : (s.updSvc f).loops = s.loops := rfl
@[simp] theorem updSvc_phases (s : State) (f : Svc → Svc) : (s.updSvc f).phases = s.phases := rfl
@[simp] theorem updSvc_vsc (s : State) (f : Svc → Svc) : (s.updSvc f).vsc = s.vsc := rfl
@[simp] theorem updSvc_isc (s : State) (f : Svc → Svc) : (s.updSvc f).isc = s.isc := rfl
@[simp] theorem updSvc_lanes (s : State) (f : Svc → Svc) : (s.updSvc f).lanes = s.lanes := rfl
@[simp] theorem updSvc_grid (s : State) (f : Svc → Svc) : (s.updSvc f).grid = s.grid := rfl
@[simp] theorem updSvc_svc (s : State) (f : Svc → Svc) : (s.updSvc f).svc = f s.svc := rfl
@[simp] theorem updSvc_snap (s : State) (f : Svc → Svc) : (s.updSvc f).snap = s.snap := rfl
@[simp] theorem updSvc_stb (s : State) (f : Svc → Svc) : (s.updSvc f).stb = s.stb := rfl
@[simp] theorem updSvc_prot (s : State) (f : Svc → Svc) : (s.updSvc f).prot = s.prot := rfl
@[simp] theorem updSvc_acp (s : State) (f : Svc → Svc) : (s.updSvc f).acp = s.acp := rfl
@[simp] theorem updSvc_peers (s : State) (f : Svc → Svc) : (s.updSvc f).peers = s.peers := rfl
@[simp] theorem updSvc_lsh (s : State) (f : Svc → Svc) : (s.updSvc f).lsh = s.lsh := rfl
@[simp] theorem updSvc_swp (s : State) (f : Svc → Svc) : (s.updSvc f).swp = s.swp := rfl
@[simp] theorem updSvc_damp (s : State) (f : Svc → Svc) : (s.updSvc f).damp = s.damp := rfl
@[simp] theorem updSvc_gsp (s : State) (f : Svc → Svc) : (s.updSvc f).gsp = s.gsp := rfl
@[simp] theorem updSvc_fch (s : State) (f : Svc → Svc) : (s.updSvc f).fch = s.fch := rfl
@[simp] theorem updSvc_crb (s : State) (f : Svc → Svc) : (s.updSvc f).crb = s.crb := rfl
@[simp] theorem updSvc_idn (s : State) (f : Svc → Svc) : (s.updSvc f).idn = s.idn := rfl
@[simp] theorem updSvc_chw (s : State) (f : Svc → Svc) : (s.updSvc f).chw = s.chw := rfl
@[simp] theorem updSvc_pins (s : State) (f : Svc → Svc) : (s.updSvc f).pins = s.pins := rfl

/-! ### updCal -/

@[simp] theorem updCal_now (s : State) (f : Cal → Cal) : (s.updCal f).now = s.now := rfl
@[simp] theorem updCal_freeCount (s : State) (f : Cal → Cal) : (s.updCal f).freeCount = s.freeCount := rfl
@[simp] theorem updCal_pending (s : State) (f : Cal → Cal) : (s.updCal f).pending = s.pending := rfl
@[simp] theorem updCal_power (s : State) (f : Cal → Cal) : (s.updCal f).power = s.power := rfl
@[simp] theorem updCal_win (s : State) (f : Cal → Cal) : (s.updCal f).win = s.win := rfl
@[simp] theorem updCal_log (s : State) (f : Cal → Cal) : (s.updCal f).log = s.log := rfl
@[simp] theorem updCal_par (s : State) (f : Cal → Cal) : (s.updCal f).par = s.par := rfl
@[simp] theorem updCal_nvm (s : State) (f : Cal → Cal) : (s.updCal f).nvm = s.nvm := rfl
@[simp] theorem updCal_loops (s : State) (f : Cal → Cal) : (s.updCal f).loops = s.loops := rfl
@[simp] theorem updCal_phases (s : State) (f : Cal → Cal) : (s.updCal f).phases = s.phases := rfl
@[simp] theorem updCal_vsc (s : State) (f : Cal → Cal) : (s.updCal f).vsc = s.vsc := rfl
@[simp] theorem updCal_isc (s : State) (f : Cal → Cal) : (s.updCal f).isc = s.isc := rfl
@[simp] theorem updCal_lanes (s : State) (f : Cal → Cal) : (s.updCal f).lanes = s.lanes := rfl
@[simp] theorem updCal_grid (s : State) (f : Cal → Cal) : (s.updCal f).grid = s.grid := rfl
@[simp] theorem updCal_snap (s : State) (f : Cal → Cal) : (s.updCal f).snap = s.snap := rfl
@[simp] theorem updCal_stb (s : State) (f : Cal → Cal) : (s.updCal f).stb = s.stb := rfl
@[simp] theorem updCal_prot (s : State) (f : Cal → Cal) : (s.updCal f).prot = s.prot := rfl
@[simp] theorem updCal_acp (s : State) (f : Cal → Cal) : (s.updCal f).acp = s.acp := rfl
@[simp] theorem updCal_peers (s : State) (f : Cal → Cal) : (s.updCal f).peers = s.peers := rfl
@[simp] theorem updCal_lsh (s : State) (f : Cal → Cal) : (s.updCal f).lsh = s.lsh := rfl
@[simp] theorem updCal_swp (s : State) (f : Cal → Cal) : (s.updCal f).swp = s.swp := rfl
@[simp] theorem updCal_damp (s : State) (f : Cal → Cal) : (s.updCal f).damp = s.damp := rfl
@[simp] theorem updCal_gsp (s : State) (f : Cal → Cal) : (s.updCal f).gsp = s.gsp := rfl
@[simp] theorem updCal_fch (s : State) (f : Cal → Cal) : (s.updCal f).fch = s.fch := rfl
@[simp] theorem updCal_crb (s : State) (f : Cal → Cal) : (s.updCal f).crb = s.crb := rfl
@[simp] theorem updCal_idn (s : State) (f : Cal → Cal) : (s.updCal f).idn = s.idn := rfl
@[simp] theorem updCal_chw (s : State) (f : Cal → Cal) : (s.updCal f).chw = s.chw := rfl
@[simp] theorem updCal_pins (s : State) (f : Cal → Cal) : (s.updCal f).pins = s.pins := rfl

/-! ### updPort -/

@[simp] theorem updPort_now (s : State) (p : Fin 8) (f : AcpPort → AcpPort) : (s.updPort p f).now = s.now := rfl
@[simp] theorem updPort_freeCount (s : State) (p : Fin 8) (f : AcpPort → AcpPort) : (s.updPort p f).freeCount = s.freeCount := rfl
@[simp] theorem updPort_pending (s : State) (p : Fin 8) (f : AcpPort → AcpPort) : (s.updPort p f).pending = s.pending := rfl
@[simp] theorem updPort_power (s : State) (p : Fin 8) (f : AcpPort → AcpPort) : (s.updPort p f).power = s.power := rfl
@[simp] theorem updPort_win (s : State) (p : Fin 8) (f : AcpPort → AcpPort) : (s.updPort p f).win = s.win := rfl
@[simp] theorem updPort_log (s : State) (p : Fin 8) (f : AcpPort → AcpPort) : (s.updPort p f).log = s.log := rfl
@[simp] theorem updPort_par (s : State) (p : Fin 8) (f : AcpPort → AcpPort) : (s.updPort p f).par = s.par := rfl
@[simp] theorem updPort_nvm (s : State) (p : Fin 8) (f : AcpPort → AcpPort) : (s.updPort p f).nvm = s.nvm := rfl
@[simp] theorem updPort_loops (s : State) (p : Fin 8) (f : AcpPort → AcpPort) : (s.updPort p f).loops = s.loops := rfl
@[simp] theorem updPort_phases (s : State) (p : Fin 8) (f : AcpPort → AcpPort) : (s.updPort p f).phases = s.phases := rfl
@[simp] theorem updPort_vsc (s : State) (p : Fin 8) (f : AcpPort → AcpPort) : (s.updPort p f).vsc = s.vsc := rfl
@[simp] theorem updPort_isc (s : State) (p : Fin 8) (f : AcpPort → AcpPort) : (s.updPort p f).isc = s.isc := rfl
@[simp] theorem updPort_lanes (s : State) (p : Fin 8) (f : AcpPort → AcpPort) : (s.updPort p f).lanes = s.lanes := rfl
@[simp] theorem updPort_grid (s : State) (p : Fin 8) (f : AcpPort → AcpPort) : (s.updPort p f).grid = s.grid := rfl
@[simp] theorem updPort_svc (s : State) (p : Fin 8) (f : AcpPort → AcpPort) : (s.updPort p f).svc = s.svc := rfl
@[simp] theorem updPort_snap (s : State) (p : Fin 8) (f : AcpPort → AcpPort) : (s.updPort p f).snap = s.snap := rfl
@[simp] theorem updPort_stb (s : State) (p : Fin 8) (f : AcpPort → AcpPort) : (s.updPort p f).stb = s.stb := rfl
@[simp] theorem updPort_prot (s : State) (p : Fin 8) (f : AcpPort → AcpPort) : (s.updPort p f).prot = s.prot := rfl
@[simp] theorem updPort_peers (s : State) (p : Fin 8) (f : AcpPort → AcpPort) : (s.updPort p f).peers = s.peers := rfl
@[simp] theorem updPort_lsh (s : State) (p : Fin 8) (f : AcpPort → AcpPort) : (s.updPort p f).lsh = s.lsh := rfl
@[simp] theorem updPort_swp (s : State) (p : Fin 8) (f : AcpPort → AcpPort) : (s.updPort p f).swp = s.swp := rfl
@[simp] theorem updPort_damp (s : State) (p : Fin 8) (f : AcpPort → AcpPort) : (s.updPort p f).damp = s.damp := rfl
@[simp] theorem updPort_gsp (s : State) (p : Fin 8) (f : AcpPort → AcpPort) : (s.updPort p f).gsp = s.gsp := rfl
@[simp] theorem updPort_fch (s : State) (p : Fin 8) (f : AcpPort → AcpPort) : (s.updPort p f).fch = s.fch := rfl
@[simp] theorem updPort_crb (s : State) (p : Fin 8) (f : AcpPort → AcpPort) : (s.updPort p f).crb = s.crb := rfl
@[simp] theorem updPort_idn (s : State) (p : Fin 8) (f : AcpPort → AcpPort) : (s.updPort p f).idn = s.idn := rfl
@[simp] theorem updPort_chw (s : State) (p : Fin 8) (f : AcpPort → AcpPort) : (s.updPort p f).chw = s.chw := rfl
@[simp] theorem updPort_pins (s : State) (p : Fin 8) (f : AcpPort → AcpPort) : (s.updPort p f).pins = s.pins := rfl

/-! ### updPeers -/

@[simp] theorem updPeers_now (s : State) (f : Peers → Peers) : (s.updPeers f).now = s.now := rfl
@[simp] theorem updPeers_freeCount (s : State) (f : Peers → Peers) : (s.updPeers f).freeCount = s.freeCount := rfl
@[simp] theorem updPeers_pending (s : State) (f : Peers → Peers) : (s.updPeers f).pending = s.pending := rfl
@[simp] theorem updPeers_power (s : State) (f : Peers → Peers) : (s.updPeers f).power = s.power := rfl
@[simp] theorem updPeers_win (s : State) (f : Peers → Peers) : (s.updPeers f).win = s.win := rfl
@[simp] theorem updPeers_log (s : State) (f : Peers → Peers) : (s.updPeers f).log = s.log := rfl
@[simp] theorem updPeers_par (s : State) (f : Peers → Peers) : (s.updPeers f).par = s.par := rfl
@[simp] theorem updPeers_nvm (s : State) (f : Peers → Peers) : (s.updPeers f).nvm = s.nvm := rfl
@[simp] theorem updPeers_loops (s : State) (f : Peers → Peers) : (s.updPeers f).loops = s.loops := rfl
@[simp] theorem updPeers_phases (s : State) (f : Peers → Peers) : (s.updPeers f).phases = s.phases := rfl
@[simp] theorem updPeers_vsc (s : State) (f : Peers → Peers) : (s.updPeers f).vsc = s.vsc := rfl
@[simp] theorem updPeers_isc (s : State) (f : Peers → Peers) : (s.updPeers f).isc = s.isc := rfl
@[simp] theorem updPeers_lanes (s : State) (f : Peers → Peers) : (s.updPeers f).lanes = s.lanes := rfl
@[simp] theorem updPeers_grid (s : State) (f : Peers → Peers) : (s.updPeers f).grid = s.grid := rfl
@[simp] theorem updPeers_svc (s : State) (f : Peers → Peers) : (s.updPeers f).svc = s.svc := rfl
@[simp] theorem updPeers_snap (s : State) (f : Peers → Peers) : (s.updPeers f).snap = s.snap := rfl
@[simp] theorem updPeers_stb (s : State) (f : Peers → Peers) : (s.updPeers f).stb = s.stb := rfl
@[simp] theorem updPeers_prot (s : State) (f : Peers → Peers) : (s.updPeers f).prot = s.prot := rfl
@[simp] theorem updPeers_acp (s : State) (f : Peers → Peers) : (s.updPeers f).acp = s.acp := rfl
@[simp] theorem updPeers_peers (s : State) (f : Peers → Peers) : (s.updPeers f).peers = f s.peers := rfl
@[simp] theorem updPeers_lsh (s : State) (f : Peers → Peers) : (s.updPeers f).lsh = s.lsh := rfl
@[simp] theorem updPeers_swp (s : State) (f : Peers → Peers) : (s.updPeers f).swp = s.swp := rfl
@[simp] theorem updPeers_damp (s : State) (f : Peers → Peers) : (s.updPeers f).damp = s.damp := rfl
@[simp] theorem updPeers_gsp (s : State) (f : Peers → Peers) : (s.updPeers f).gsp = s.gsp := rfl
@[simp] theorem updPeers_fch (s : State) (f : Peers → Peers) : (s.updPeers f).fch = s.fch := rfl
@[simp] theorem updPeers_crb (s : State) (f : Peers → Peers) : (s.updPeers f).crb = s.crb := rfl
@[simp] theorem updPeers_idn (s : State) (f : Peers → Peers) : (s.updPeers f).idn = s.idn := rfl
@[simp] theorem updPeers_chw (s : State) (f : Peers → Peers) : (s.updPeers f).chw = s.chw := rfl
@[simp] theorem updPeers_pins (s : State) (f : Peers → Peers) : (s.updPeers f).pins = s.pins := rfl

/-! ### updPeer -/

@[simp] theorem updPeer_now (s : State) (p : Fin 8) (f : Peer → Peer) : (s.updPeer p f).now = s.now := rfl
@[simp] theorem updPeer_freeCount (s : State) (p : Fin 8) (f : Peer → Peer) : (s.updPeer p f).freeCount = s.freeCount := rfl
@[simp] theorem updPeer_pending (s : State) (p : Fin 8) (f : Peer → Peer) : (s.updPeer p f).pending = s.pending := rfl
@[simp] theorem updPeer_power (s : State) (p : Fin 8) (f : Peer → Peer) : (s.updPeer p f).power = s.power := rfl
@[simp] theorem updPeer_win (s : State) (p : Fin 8) (f : Peer → Peer) : (s.updPeer p f).win = s.win := rfl
@[simp] theorem updPeer_log (s : State) (p : Fin 8) (f : Peer → Peer) : (s.updPeer p f).log = s.log := rfl
@[simp] theorem updPeer_par (s : State) (p : Fin 8) (f : Peer → Peer) : (s.updPeer p f).par = s.par := rfl
@[simp] theorem updPeer_nvm (s : State) (p : Fin 8) (f : Peer → Peer) : (s.updPeer p f).nvm = s.nvm := rfl
@[simp] theorem updPeer_loops (s : State) (p : Fin 8) (f : Peer → Peer) : (s.updPeer p f).loops = s.loops := rfl
@[simp] theorem updPeer_phases (s : State) (p : Fin 8) (f : Peer → Peer) : (s.updPeer p f).phases = s.phases := rfl
@[simp] theorem updPeer_vsc (s : State) (p : Fin 8) (f : Peer → Peer) : (s.updPeer p f).vsc = s.vsc := rfl
@[simp] theorem updPeer_isc (s : State) (p : Fin 8) (f : Peer → Peer) : (s.updPeer p f).isc = s.isc := rfl
@[simp] theorem updPeer_lanes (s : State) (p : Fin 8) (f : Peer → Peer) : (s.updPeer p f).lanes = s.lanes := rfl
@[simp] theorem updPeer_grid (s : State) (p : Fin 8) (f : Peer → Peer) : (s.updPeer p f).grid = s.grid := rfl
@[simp] theorem updPeer_svc (s : State) (p : Fin 8) (f : Peer → Peer) : (s.updPeer p f).svc = s.svc := rfl
@[simp] theorem updPeer_snap (s : State) (p : Fin 8) (f : Peer → Peer) : (s.updPeer p f).snap = s.snap := rfl
@[simp] theorem updPeer_stb (s : State) (p : Fin 8) (f : Peer → Peer) : (s.updPeer p f).stb = s.stb := rfl
@[simp] theorem updPeer_prot (s : State) (p : Fin 8) (f : Peer → Peer) : (s.updPeer p f).prot = s.prot := rfl
@[simp] theorem updPeer_acp (s : State) (p : Fin 8) (f : Peer → Peer) : (s.updPeer p f).acp = s.acp := rfl
@[simp] theorem updPeer_lsh (s : State) (p : Fin 8) (f : Peer → Peer) : (s.updPeer p f).lsh = s.lsh := rfl
@[simp] theorem updPeer_swp (s : State) (p : Fin 8) (f : Peer → Peer) : (s.updPeer p f).swp = s.swp := rfl
@[simp] theorem updPeer_damp (s : State) (p : Fin 8) (f : Peer → Peer) : (s.updPeer p f).damp = s.damp := rfl
@[simp] theorem updPeer_gsp (s : State) (p : Fin 8) (f : Peer → Peer) : (s.updPeer p f).gsp = s.gsp := rfl
@[simp] theorem updPeer_fch (s : State) (p : Fin 8) (f : Peer → Peer) : (s.updPeer p f).fch = s.fch := rfl
@[simp] theorem updPeer_crb (s : State) (p : Fin 8) (f : Peer → Peer) : (s.updPeer p f).crb = s.crb := rfl
@[simp] theorem updPeer_idn (s : State) (p : Fin 8) (f : Peer → Peer) : (s.updPeer p f).idn = s.idn := rfl
@[simp] theorem updPeer_chw (s : State) (p : Fin 8) (f : Peer → Peer) : (s.updPeer p f).chw = s.chw := rfl
@[simp] theorem updPeer_pins (s : State) (p : Fin 8) (f : Peer → Peer) : (s.updPeer p f).pins = s.pins := rfl

/-! ### updTok -/

@[simp] theorem updTok_now (s : State) (f : Token → Token) : (s.updTok f).now = s.now := rfl
@[simp] theorem updTok_freeCount (s : State) (f : Token → Token) : (s.updTok f).freeCount = s.freeCount := rfl
@[simp] theorem updTok_pending (s : State) (f : Token → Token) : (s.updTok f).pending = s.pending := rfl
@[simp] theorem updTok_power (s : State) (f : Token → Token) : (s.updTok f).power = s.power := rfl
@[simp] theorem updTok_win (s : State) (f : Token → Token) : (s.updTok f).win = s.win := rfl
@[simp] theorem updTok_log (s : State) (f : Token → Token) : (s.updTok f).log = s.log := rfl
@[simp] theorem updTok_par (s : State) (f : Token → Token) : (s.updTok f).par = s.par := rfl
@[simp] theorem updTok_nvm (s : State) (f : Token → Token) : (s.updTok f).nvm = s.nvm := rfl
@[simp] theorem updTok_loops (s : State) (f : Token → Token) : (s.updTok f).loops = s.loops := rfl
@[simp] theorem updTok_phases (s : State) (f : Token → Token) : (s.updTok f).phases = s.phases := rfl
@[simp] theorem updTok_vsc (s : State) (f : Token → Token) : (s.updTok f).vsc = s.vsc := rfl
@[simp] theorem updTok_isc (s : State) (f : Token → Token) : (s.updTok f).isc = s.isc := rfl
@[simp] theorem updTok_lanes (s : State) (f : Token → Token) : (s.updTok f).lanes = s.lanes := rfl
@[simp] theorem updTok_grid (s : State) (f : Token → Token) : (s.updTok f).grid = s.grid := rfl
@[simp] theorem updTok_svc (s : State) (f : Token → Token) : (s.updTok f).svc = s.svc := rfl
@[simp] theorem updTok_snap (s : State) (f : Token → Token) : (s.updTok f).snap = s.snap := rfl
@[simp] theorem updTok_stb (s : State) (f : Token → Token) : (s.updTok f).stb = s.stb := rfl
@[simp] theorem updTok_prot (s : State) (f : Token → Token) : (s.updTok f).prot = s.prot := rfl
@[simp] theorem updTok_acp (s : State) (f : Token → Token) : (s.updTok f).acp = s.acp := rfl
@[simp] theorem updTok_lsh (s : State) (f : Token → Token) : (s.updTok f).lsh = s.lsh := rfl
@[simp] theorem updTok_swp (s : State) (f : Token → Token) : (s.updTok f).swp = s.swp := rfl
@[simp] theorem updTok_damp (s : State) (f : Token → Token) : (s.updTok f).damp = s.damp := rfl
@[simp] theorem updTok_gsp (s : State) (f : Token → Token) : (s.updTok f).gsp = s.gsp := rfl
@[simp] theorem updTok_fch (s : State) (f : Token → Token) : (s.updTok f).fch = s.fch := rfl
@[simp] theorem updTok_crb (s : State) (f : Token → Token) : (s.updTok f).crb = s.crb := rfl
@[simp] theorem updTok_idn (s : State) (f : Token → Token) : (s.updTok f).idn = s.idn := rfl
@[simp] theorem updTok_chw (s : State) (f : Token → Token) : (s.updTok f).chw = s.chw := rfl
@[simp] theorem updTok_pins (s : State) (f : Token → Token) : (s.updTok f).pins = s.pins := rfl

/-! ### updLsh -/

@[simp] theorem updLsh_now (s : State) (f : Lsh → Lsh) : (s.updLsh f).now = s.now := rfl
@[simp] theorem updLsh_freeCount (s : State) (f : Lsh → Lsh) : (s.updLsh f).freeCount = s.freeCount := rfl
@[simp] theorem updLsh_pending (s : State) (f : Lsh → Lsh) : (s.updLsh f).pending = s.pending := rfl
@[simp] theorem updLsh_power (s : State) (f : Lsh → Lsh) : (s.updLsh f).power = s.power := rfl
@[simp] theorem updLsh_win (s : State) (f : Lsh → Lsh) : (s.updLsh f).win = s.win := rfl
@[simp] theorem updLsh_log (s : State) (f : Lsh → Lsh) : (s.updLsh f).log = s.log := rfl
@[simp] theorem updLsh_par (s : State) (f : Lsh → Lsh) : (s.updLsh f).par = s.par := rfl
@[simp] theorem updLsh_nvm (s : State) (f : Lsh → Lsh) : (s.updLsh f).nvm = s.nvm := rfl
@[simp] theorem updLsh_loops (s : State) (f : Lsh → Lsh) : (s.updLsh f).loops = s.loops := rfl
@[simp] theorem updLsh_phases (s : State) (f : Lsh → Lsh) : (s.updLsh f).phases = s.phases := rfl
@[simp] theorem updLsh_vsc (s : State) (f : Lsh → Lsh) : (s.updLsh f).vsc = s.vsc := rfl
@[simp] theorem updLsh_isc (s : State) (f : Lsh → Lsh) : (s.updLsh f).isc = s.isc := rfl
@[simp] theorem updLsh_lanes (s : State) (f : Lsh → Lsh) : (s.updLsh f).lanes = s.lanes := rfl
@[simp] theorem updLsh_grid (s : State) (f : Lsh → Lsh) : (s.updLsh f).grid = s.grid := rfl
@[simp] theorem updLsh_svc (s : State) (f : Lsh → Lsh) : (s.updLsh f).svc = s.svc := rfl
@[simp] theorem updLsh_snap (s : State) (f : Lsh → Lsh) : (s.updLsh f).snap = s.snap := rfl
@[simp] theorem updLsh_stb (s : State) (f : Lsh → Lsh) : (s.updLsh f).stb = s.stb := rfl
@[simp] theorem updLsh_prot (s : State) (f : Lsh → Lsh) : (s.updLsh f).prot = s.prot := rfl
@[simp] theorem updLsh_acp (s : State) (f : Lsh → Lsh) : (s.updLsh f).acp = s.acp := rfl
@[simp] theorem updLsh_peers (s : State) (f : Lsh → Lsh) : (s.updLsh f).peers = s.peers := rfl
@[simp] theorem updLsh_lsh (s : State) (f : Lsh → Lsh) : (s.updLsh f).lsh = f s.lsh := rfl
@[simp] theorem updLsh_swp (s : State) (f : Lsh → Lsh) : (s.updLsh f).swp = s.swp := rfl
@[simp] theorem updLsh_damp (s : State) (f : Lsh → Lsh) : (s.updLsh f).damp = s.damp := rfl
@[simp] theorem updLsh_gsp (s : State) (f : Lsh → Lsh) : (s.updLsh f).gsp = s.gsp := rfl
@[simp] theorem updLsh_fch (s : State) (f : Lsh → Lsh) : (s.updLsh f).fch = s.fch := rfl
@[simp] theorem updLsh_crb (s : State) (f : Lsh → Lsh) : (s.updLsh f).crb = s.crb := rfl
@[simp] theorem updLsh_idn (s : State) (f : Lsh → Lsh) : (s.updLsh f).idn = s.idn := rfl
@[simp] theorem updLsh_chw (s : State) (f : Lsh → Lsh) : (s.updLsh f).chw = s.chw := rfl
@[simp] theorem updLsh_pins (s : State) (f : Lsh → Lsh) : (s.updLsh f).pins = s.pins := rfl

/-! ### updSwp -/

@[simp] theorem updSwp_now (s : State) (f : Swp → Swp) : (s.updSwp f).now = s.now := rfl
@[simp] theorem updSwp_freeCount (s : State) (f : Swp → Swp) : (s.updSwp f).freeCount = s.freeCount := rfl
@[simp] theorem updSwp_pending (s : State) (f : Swp → Swp) : (s.updSwp f).pending = s.pending := rfl
@[simp] theorem updSwp_power (s : State) (f : Swp → Swp) : (s.updSwp f).power = s.power := rfl
@[simp] theorem updSwp_win (s : State) (f : Swp → Swp) : (s.updSwp f).win = s.win := rfl
@[simp] theorem updSwp_log (s : State) (f : Swp → Swp) : (s.updSwp f).log = s.log := rfl
@[simp] theorem updSwp_par (s : State) (f : Swp → Swp) : (s.updSwp f).par = s.par := rfl
@[simp] theorem updSwp_nvm (s : State) (f : Swp → Swp) : (s.updSwp f).nvm = s.nvm := rfl
@[simp] theorem updSwp_loops (s : State) (f : Swp → Swp) : (s.updSwp f).loops = s.loops := rfl
@[simp] theorem updSwp_phases (s : State) (f : Swp → Swp) : (s.updSwp f).phases = s.phases := rfl
@[simp] theorem updSwp_vsc (s : State) (f : Swp → Swp) : (s.updSwp f).vsc = s.vsc := rfl
@[simp] theorem updSwp_isc (s : State) (f : Swp → Swp) : (s.updSwp f).isc = s.isc := rfl
@[simp] theorem updSwp_lanes (s : State) (f : Swp → Swp) : (s.updSwp f).lanes = s.lanes := rfl
@[simp] theorem updSwp_grid (s : State) (f : Swp → Swp) : (s.updSwp f).grid = s.grid := rfl
@[simp] theorem updSwp_svc (s : State) (f : Swp → Swp) : (s.updSwp f).svc = s.svc := rfl
@[simp] theorem updSwp_snap (s : State) (f : Swp → Swp) : (s.updSwp f).snap = s.snap := rfl
@[simp] theorem updSwp_stb (s : State) (f : Swp → Swp) : (s.updSwp f).stb = s.stb := rfl
@[simp] theorem updSwp_prot (s : State) (f : Swp → Swp) : (s.updSwp f).prot = s.prot := rfl
@[simp] theorem updSwp_acp (s : State) (f : Swp → Swp) : (s.updSwp f).acp = s.acp := rfl
@[simp] theorem updSwp_peers (s : State) (f : Swp → Swp) : (s.updSwp f).peers = s.peers := rfl
@[simp] theorem updSwp_lsh (s : State) (f : Swp → Swp) : (s.updSwp f).lsh = s.lsh := rfl
@[simp] theorem updSwp_swp (s : State) (f : Swp → Swp) : (s.updSwp f).swp = f s.swp := rfl
@[simp] theorem updSwp_damp (s : State) (f : Swp → Swp) : (s.updSwp f).damp = s.damp := rfl
@[simp] theorem updSwp_gsp (s : State) (f : Swp → Swp) : (s.updSwp f).gsp = s.gsp := rfl
@[simp] theorem updSwp_fch (s : State) (f : Swp → Swp) : (s.updSwp f).fch = s.fch := rfl
@[simp] theorem updSwp_crb (s : State) (f : Swp → Swp) : (s.updSwp f).crb = s.crb := rfl
@[simp] theorem updSwp_idn (s : State) (f : Swp → Swp) : (s.updSwp f).idn = s.idn := rfl
@[simp] theorem updSwp_chw (s : State) (f : Swp → Swp) : (s.updSwp f).chw = s.chw := rfl
@[simp] theorem updSwp_pins (s : State) (f : Swp → Swp) : (s.updSwp f).pins = s.pins := rfl

/-! ### updDamp -/

@[simp] theorem updDamp_now (s : State) (f : Damp → Damp) : (s.updDamp f).now = s.now := rfl
@[simp] theorem updDamp_freeCount (s : State) (f : Damp → Damp) : (s.updDamp f).freeCount = s.freeCount := rfl
@[simp] theorem updDamp_pending (s : State) (f : Damp → Damp) : (s.updDamp f).pending = s.pending := rfl
@[simp] theorem updDamp_power (s : State) (f : Damp → Damp) : (s.updDamp f).power = s.power := rfl
@[simp] theorem updDamp_win (s : State) (f : Damp → Damp) : (s.updDamp f).win = s.win := rfl
@[simp] theorem updDamp_log (s : State) (f : Damp → Damp) : (s.updDamp f).log = s.log := rfl
@[simp] theorem updDamp_par (s : State) (f : Damp → Damp) : (s.updDamp f).par = s.par := rfl
@[simp] theorem updDamp_nvm (s : State) (f : Damp → Damp) : (s.updDamp f).nvm = s.nvm := rfl
@[simp] theorem updDamp_loops (s : State) (f : Damp → Damp) : (s.updDamp f).loops = s.loops := rfl
@[simp] theorem updDamp_phases (s : State) (f : Damp → Damp) : (s.updDamp f).phases = s.phases := rfl
@[simp] theorem updDamp_vsc (s : State) (f : Damp → Damp) : (s.updDamp f).vsc = s.vsc := rfl
@[simp] theorem updDamp_isc (s : State) (f : Damp → Damp) : (s.updDamp f).isc = s.isc := rfl
@[simp] theorem updDamp_lanes (s : State) (f : Damp → Damp) : (s.updDamp f).lanes = s.lanes := rfl
@[simp] theorem updDamp_grid (s : State) (f : Damp → Damp) : (s.updDamp f).grid = s.grid := rfl
@[simp] theorem updDamp_svc (s : State) (f : Damp → Damp) : (s.updDamp f).svc = s.svc := rfl
@[simp] theorem updDamp_snap (s : State) (f : Damp → Damp) : (s.updDamp f).snap = s.snap := rfl
@[simp] theorem updDamp_stb (s : State) (f : Damp → Damp) : (s.updDamp f).stb = s.stb := rfl
@[simp] theorem updDamp_prot (s : State) (f : Damp → Damp) : (s.updDamp f).prot = s.prot := rfl
@[simp] theorem updDamp_acp (s : State) (f : Damp → Damp) : (s.updDamp f).acp = s.acp := rfl
@[simp] theorem updDamp_peers (s : State) (f : Damp → Damp) : (s.updDamp f).peers = s.peers := rfl
@[simp] theorem updDamp_lsh (s : State) (f : Damp → Damp) : (s.updDamp f).lsh = s.lsh := rfl
@[simp] theorem updDamp_swp (s : State) (f : Damp → Damp) : (s.updDamp f).swp = s.swp := rfl
@[simp] theorem updDamp_damp (s : State) (f : Damp → Damp) : (s.updDamp f).damp = f s.damp := rfl
@[simp] theorem updDamp_gsp (s : State) (f : Damp → Damp) : (s.updDamp f).gsp = s.gsp := rfl
@[simp] theorem updDamp_fch (s : State) (f : Damp → Damp) : (s.updDamp f).fch = s.fch := rfl
@[simp] theorem updDamp_crb (s : State) (f : Damp → Damp) : (s.updDamp f).crb = s.crb := rfl
@[simp] theorem updDamp_idn (s : State) (f : Damp → Damp) : (s.updDamp f).idn = s.idn := rfl
@[simp] theorem updDamp_chw (s : State) (f : Damp → Damp) : (s.updDamp f).chw = s.chw := rfl
@[simp] theorem updDamp_pins (s : State) (f : Damp → Damp) : (s.updDamp f).pins = s.pins := rfl

/-! ### updGsp -/

@[simp] theorem updGsp_now (s : State) (f : Gsp → Gsp) : (s.updGsp f).now = s.now := rfl
@[simp] theorem updGsp_freeCount (s : State) (f : Gsp → Gsp) : (s.updGsp f).freeCount = s.freeCount := rfl
@[simp] theorem updGsp_pending (s : State) (f : Gsp → Gsp) : (s.updGsp f).pending = s.pending := rfl
@[simp] theorem updGsp_power (s : State) (f : Gsp → Gsp) : (s.updGsp f).power = s.power := rfl
@[simp] theorem updGsp_win (s : State) (f : Gsp → Gsp) : (s.updGsp f).win = s.win := rfl
@[simp] theorem updGsp_log (s : State) (f : Gsp → Gsp) : (s.updGsp f).log = s.log := rfl
@[simp] theorem updGsp_par (s : State) (f : Gsp → Gsp) : (s.updGsp f).par = s.par := rfl
@[simp] theorem updGsp_nvm (s : State) (f : Gsp → Gsp) : (s.updGsp f).nvm = s.nvm := rfl
@[simp] theorem updGsp_loops (s : State) (f : Gsp → Gsp) : (s.updGsp f).loops = s.loops := rfl
@[simp] theorem updGsp_phases (s : State) (f : Gsp → Gsp) : (s.updGsp f).phases = s.phases := rfl
@[simp] theorem updGsp_vsc (s : State) (f : Gsp → Gsp) : (s.updGsp f).vsc = s.vsc := rfl
@[simp] theorem updGsp_isc (s : State) (f : Gsp → Gsp) : (s.updGsp f).isc = s.isc := rfl
@[simp] theorem updGsp_lanes (s : State) (f : Gsp → Gsp) : (s.updGsp f).lanes = s.lanes := rfl
@[simp] theorem updGsp_grid (s : State) (f : Gsp → Gsp) : (s.updGsp f).grid = s.grid := rfl
@[simp] theorem updGsp_svc (s : State) (f : Gsp → Gsp) : (s.updGsp f).svc = s.svc := rfl
@[simp] theorem updGsp_snap (s : State) (f : Gsp → Gsp) : (s.updGsp f).snap = s.snap := rfl
@[simp] theorem updGsp_stb (s : State) (f : Gsp → Gsp) : (s.updGsp f).stb = s.stb := rfl
@[simp] theorem updGsp_prot (s : State) (f : Gsp → Gsp) : (s.updGsp f).prot = s.prot := rfl
@[simp] theorem updGsp_acp (s : State) (f : Gsp → Gsp) : (s.updGsp f).acp = s.acp := rfl
@[simp] theorem updGsp_peers (s : State) (f : Gsp → Gsp) : (s.updGsp f).peers = s.peers := rfl
@[simp] theorem updGsp_lsh (s : State) (f : Gsp → Gsp) : (s.updGsp f).lsh = s.lsh := rfl
@[simp] theorem updGsp_swp (s : State) (f : Gsp → Gsp) : (s.updGsp f).swp = s.swp := rfl
@[simp] theorem updGsp_damp (s : State) (f : Gsp → Gsp) : (s.updGsp f).damp = s.damp := rfl
@[simp] theorem updGsp_gsp (s : State) (f : Gsp → Gsp) : (s.updGsp f).gsp = f s.gsp := rfl
@[simp] theorem updGsp_fch (s : State) (f : Gsp → Gsp) : (s.updGsp f).fch = s.fch := rfl
@[simp] theorem updGsp_crb (s : State) (f : Gsp → Gsp) : (s.updGsp f).crb = s.crb := rfl
@[simp] theorem updGsp_idn (s : State) (f : Gsp → Gsp) : (s.updGsp f).idn = s.idn := rfl
@[simp] theorem updGsp_chw (s : State) (f : Gsp → Gsp) : (s.updGsp f).chw = s.chw := rfl
@[simp] theorem updGsp_pins (s : State) (f : Gsp → Gsp) : (s.updGsp f).pins = s.pins := rfl

/-! ### updFch -/

@[simp] theorem updFch_now (s : State) (f : Fch → Fch) : (s.updFch f).now = s.now := rfl
@[simp] theorem updFch_freeCount (s : State) (f : Fch → Fch) : (s.updFch f).freeCount = s.freeCount := rfl
@[simp] theorem updFch_pending (s : State) (f : Fch → Fch) : (s.updFch f).pending = s.pending := rfl
@[simp] theorem updFch_power (s : State) (f : Fch → Fch) : (s.updFch f).power = s.power := rfl
@[simp] theorem updFch_win (s : State) (f : Fch → Fch) : (s.updFch f).win = s.win := rfl
@[simp] theorem updFch_log (s : State) (f : Fch → Fch) : (s.updFch f).log = s.log := rfl
@[simp] theorem updFch_par (s : State) (f : Fch → Fch) : (s.updFch f).par = s.par := rfl
@[simp] theorem updFch_nvm (s : State) (f : Fch → Fch) : (s.updFch f).nvm = s.nvm := rfl
@[simp] theorem updFch_loops (s : State) (f : Fch → Fch) : (s.updFch f).loops = s.loops := rfl
@[simp] theorem updFch_phases (s : State) (f : Fch → Fch) : (s.updFch f).phases = s.phases := rfl
@[simp] theorem updFch_vsc (s : State) (f : Fch → Fch) : (s.updFch f).vsc = s.vsc := rfl
@[simp] theorem updFch_isc (s : State) (f : Fch → Fch) : (s.updFch f).isc = s.isc := rfl
@[simp] theorem updFch_lanes (s : State) (f : Fch → Fch) : (s.updFch f).lanes = s.lanes := rfl
@[simp] theorem updFch_grid (s : State) (f : Fch → Fch) : (s.updFch f).grid = s.grid := rfl
@[simp] theorem updFch_svc (s : State) (f : Fch → Fch) : (s.updFch f).svc = s.svc := rfl
@[simp] theorem updFch_snap (s : State) (f : Fch → Fch) : (s.updFch f).snap = s.snap := rfl
@[simp] theorem updFch_stb (s : State) (f : Fch → Fch) : (s.updFch f).stb = s.stb := rfl
@[simp] theorem updFch_prot (s : State) (f : Fch → Fch) : (s.updFch f).prot = s.prot := rfl
@[simp] theorem updFch_acp (s : State) (f : Fch → Fch) : (s.updFch f).acp = s.acp := rfl
@[simp] theorem updFch_peers (s : State) (f : Fch → Fch) : (s.updFch f).peers = s.peers := rfl
@[simp] theorem updFch_lsh (s : State) (f : Fch → Fch) : (s.updFch f).lsh = s.lsh := rfl
@[simp] theorem updFch_swp (s : State) (f : Fch → Fch) : (s.updFch f).swp = s.swp := rfl
@[simp] theorem updFch_damp (s : State) (f : Fch → Fch) : (s.updFch f).damp = s.damp := rfl
@[simp] theorem updFch_gsp (s : State) (f : Fch → Fch) : (s.updFch f).gsp = s.gsp := rfl
@[simp] theorem updFch_fch (s : State) (f : Fch → Fch) : (s.updFch f).fch = f s.fch := rfl
@[simp] theorem updFch_crb (s : State) (f : Fch → Fch) : (s.updFch f).crb = s.crb := rfl
@[simp] theorem updFch_idn (s : State) (f : Fch → Fch) : (s.updFch f).idn = s.idn := rfl
@[simp] theorem updFch_chw (s : State) (f : Fch → Fch) : (s.updFch f).chw = s.chw := rfl
@[simp] theorem updFch_pins (s : State) (f : Fch → Fch) : (s.updFch f).pins = s.pins := rfl

/-! ### updEntry -/

@[simp] theorem updEntry_now (s : State) (e : Fin 32) (f : FchEntry → FchEntry) : (s.updEntry e f).now = s.now := rfl
@[simp] theorem updEntry_freeCount (s : State) (e : Fin 32) (f : FchEntry → FchEntry) : (s.updEntry e f).freeCount = s.freeCount := rfl
@[simp] theorem updEntry_pending (s : State) (e : Fin 32) (f : FchEntry → FchEntry) : (s.updEntry e f).pending = s.pending := rfl
@[simp] theorem updEntry_power (s : State) (e : Fin 32) (f : FchEntry → FchEntry) : (s.updEntry e f).power = s.power := rfl
@[simp] theorem updEntry_win (s : State) (e : Fin 32) (f : FchEntry → FchEntry) : (s.updEntry e f).win = s.win := rfl
@[simp] theorem updEntry_log (s : State) (e : Fin 32) (f : FchEntry → FchEntry) : (s.updEntry e f).log = s.log := rfl
@[simp] theorem updEntry_par (s : State) (e : Fin 32) (f : FchEntry → FchEntry) : (s.updEntry e f).par = s.par := rfl
@[simp] theorem updEntry_nvm (s : State) (e : Fin 32) (f : FchEntry → FchEntry) : (s.updEntry e f).nvm = s.nvm := rfl
@[simp] theorem updEntry_loops (s : State) (e : Fin 32) (f : FchEntry → FchEntry) : (s.updEntry e f).loops = s.loops := rfl
@[simp] theorem updEntry_phases (s : State) (e : Fin 32) (f : FchEntry → FchEntry) : (s.updEntry e f).phases = s.phases := rfl
@[simp] theorem updEntry_vsc (s : State) (e : Fin 32) (f : FchEntry → FchEntry) : (s.updEntry e f).vsc = s.vsc := rfl
@[simp] theorem updEntry_isc (s : State) (e : Fin 32) (f : FchEntry → FchEntry) : (s.updEntry e f).isc = s.isc := rfl
@[simp] theorem updEntry_lanes (s : State) (e : Fin 32) (f : FchEntry → FchEntry) : (s.updEntry e f).lanes = s.lanes := rfl
@[simp] theorem updEntry_grid (s : State) (e : Fin 32) (f : FchEntry → FchEntry) : (s.updEntry e f).grid = s.grid := rfl
@[simp] theorem updEntry_svc (s : State) (e : Fin 32) (f : FchEntry → FchEntry) : (s.updEntry e f).svc = s.svc := rfl
@[simp] theorem updEntry_snap (s : State) (e : Fin 32) (f : FchEntry → FchEntry) : (s.updEntry e f).snap = s.snap := rfl
@[simp] theorem updEntry_stb (s : State) (e : Fin 32) (f : FchEntry → FchEntry) : (s.updEntry e f).stb = s.stb := rfl
@[simp] theorem updEntry_prot (s : State) (e : Fin 32) (f : FchEntry → FchEntry) : (s.updEntry e f).prot = s.prot := rfl
@[simp] theorem updEntry_acp (s : State) (e : Fin 32) (f : FchEntry → FchEntry) : (s.updEntry e f).acp = s.acp := rfl
@[simp] theorem updEntry_peers (s : State) (e : Fin 32) (f : FchEntry → FchEntry) : (s.updEntry e f).peers = s.peers := rfl
@[simp] theorem updEntry_lsh (s : State) (e : Fin 32) (f : FchEntry → FchEntry) : (s.updEntry e f).lsh = s.lsh := rfl
@[simp] theorem updEntry_swp (s : State) (e : Fin 32) (f : FchEntry → FchEntry) : (s.updEntry e f).swp = s.swp := rfl
@[simp] theorem updEntry_damp (s : State) (e : Fin 32) (f : FchEntry → FchEntry) : (s.updEntry e f).damp = s.damp := rfl
@[simp] theorem updEntry_gsp (s : State) (e : Fin 32) (f : FchEntry → FchEntry) : (s.updEntry e f).gsp = s.gsp := rfl
@[simp] theorem updEntry_crb (s : State) (e : Fin 32) (f : FchEntry → FchEntry) : (s.updEntry e f).crb = s.crb := rfl
@[simp] theorem updEntry_idn (s : State) (e : Fin 32) (f : FchEntry → FchEntry) : (s.updEntry e f).idn = s.idn := rfl
@[simp] theorem updEntry_chw (s : State) (e : Fin 32) (f : FchEntry → FchEntry) : (s.updEntry e f).chw = s.chw := rfl
@[simp] theorem updEntry_pins (s : State) (e : Fin 32) (f : FchEntry → FchEntry) : (s.updEntry e f).pins = s.pins := rfl

/-! ### updCrb -/

@[simp] theorem updCrb_now (s : State) (f : Crb → Crb) : (s.updCrb f).now = s.now := rfl
@[simp] theorem updCrb_freeCount (s : State) (f : Crb → Crb) : (s.updCrb f).freeCount = s.freeCount := rfl
@[simp] theorem updCrb_pending (s : State) (f : Crb → Crb) : (s.updCrb f).pending = s.pending := rfl
@[simp] theorem updCrb_power (s : State) (f : Crb → Crb) : (s.updCrb f).power = s.power := rfl
@[simp] theorem updCrb_win (s : State) (f : Crb → Crb) : (s.updCrb f).win = s.win := rfl
@[simp] theorem updCrb_log (s : State) (f : Crb → Crb) : (s.updCrb f).log = s.log := rfl
@[simp] theorem updCrb_par (s : State) (f : Crb → Crb) : (s.updCrb f).par = s.par := rfl
@[simp] theorem updCrb_nvm (s : State) (f : Crb → Crb) : (s.updCrb f).nvm = s.nvm := rfl
@[simp] theorem updCrb_loops (s : State) (f : Crb → Crb) : (s.updCrb f).loops = s.loops := rfl
@[simp] theorem updCrb_phases (s : State) (f : Crb → Crb) : (s.updCrb f).phases = s.phases := rfl
@[simp] theorem updCrb_vsc (s : State) (f : Crb → Crb) : (s.updCrb f).vsc = s.vsc := rfl
@[simp] theorem updCrb_isc (s : State) (f : Crb → Crb) : (s.updCrb f).isc = s.isc := rfl
@[simp] theorem updCrb_lanes (s : State) (f : Crb → Crb) : (s.updCrb f).lanes = s.lanes := rfl
@[simp] theorem updCrb_grid (s : State) (f : Crb → Crb) : (s.updCrb f).grid = s.grid := rfl
@[simp] theorem updCrb_svc (s : State) (f : Crb → Crb) : (s.updCrb f).svc = s.svc := rfl
@[simp] theorem updCrb_snap (s : State) (f : Crb → Crb) : (s.updCrb f).snap = s.snap := rfl
@[simp] theorem updCrb_stb (s : State) (f : Crb → Crb) : (s.updCrb f).stb = s.stb := rfl
@[simp] theorem updCrb_prot (s : State) (f : Crb → Crb) : (s.updCrb f).prot = s.prot := rfl
@[simp] theorem updCrb_acp (s : State) (f : Crb → Crb) : (s.updCrb f).acp = s.acp := rfl
@[simp] theorem updCrb_peers (s : State) (f : Crb → Crb) : (s.updCrb f).peers = s.peers := rfl
@[simp] theorem updCrb_lsh (s : State) (f : Crb → Crb) : (s.updCrb f).lsh = s.lsh := rfl
@[simp] theorem updCrb_swp (s : State) (f : Crb → Crb) : (s.updCrb f).swp = s.swp := rfl
@[simp] theorem updCrb_damp (s : State) (f : Crb → Crb) : (s.updCrb f).damp = s.damp := rfl
@[simp] theorem updCrb_gsp (s : State) (f : Crb → Crb) : (s.updCrb f).gsp = s.gsp := rfl
@[simp] theorem updCrb_fch (s : State) (f : Crb → Crb) : (s.updCrb f).fch = s.fch := rfl
@[simp] theorem updCrb_crb (s : State) (f : Crb → Crb) : (s.updCrb f).crb = f s.crb := rfl
@[simp] theorem updCrb_idn (s : State) (f : Crb → Crb) : (s.updCrb f).idn = s.idn := rfl
@[simp] theorem updCrb_chw (s : State) (f : Crb → Crb) : (s.updCrb f).chw = s.chw := rfl
@[simp] theorem updCrb_pins (s : State) (f : Crb → Crb) : (s.updCrb f).pins = s.pins := rfl

/-! ### updTpl -/

@[simp] theorem updTpl_now (s : State) (k : Fin 4) (f : CrbTpl → CrbTpl) : (s.updTpl k f).now = s.now := rfl
@[simp] theorem updTpl_freeCount (s : State) (k : Fin 4) (f : CrbTpl → CrbTpl) : (s.updTpl k f).freeCount = s.freeCount := rfl
@[simp] theorem updTpl_pending (s : State) (k : Fin 4) (f : CrbTpl → CrbTpl) : (s.updTpl k f).pending = s.pending := rfl
@[simp] theorem updTpl_power (s : State) (k : Fin 4) (f : CrbTpl → CrbTpl) : (s.updTpl k f).power = s.power := rfl
@[simp] theorem updTpl_win (s : State) (k : Fin 4) (f : CrbTpl → CrbTpl) : (s.updTpl k f).win = s.win := rfl
@[simp] theorem updTpl_log (s : State) (k : Fin 4) (f : CrbTpl → CrbTpl) : (s.updTpl k f).log = s.log := rfl
@[simp] theorem updTpl_par (s : State) (k : Fin 4) (f : CrbTpl → CrbTpl) : (s.updTpl k f).par = s.par := rfl
@[simp] theorem updTpl_nvm (s : State) (k : Fin 4) (f : CrbTpl → CrbTpl) : (s.updTpl k f).nvm = s.nvm := rfl
@[simp] theorem updTpl_loops (s : State) (k : Fin 4) (f : CrbTpl → CrbTpl) : (s.updTpl k f).loops = s.loops := rfl
@[simp] theorem updTpl_phases (s : State) (k : Fin 4) (f : CrbTpl → CrbTpl) : (s.updTpl k f).phases = s.phases := rfl
@[simp] theorem updTpl_vsc (s : State) (k : Fin 4) (f : CrbTpl → CrbTpl) : (s.updTpl k f).vsc = s.vsc := rfl
@[simp] theorem updTpl_isc (s : State) (k : Fin 4) (f : CrbTpl → CrbTpl) : (s.updTpl k f).isc = s.isc := rfl
@[simp] theorem updTpl_lanes (s : State) (k : Fin 4) (f : CrbTpl → CrbTpl) : (s.updTpl k f).lanes = s.lanes := rfl
@[simp] theorem updTpl_grid (s : State) (k : Fin 4) (f : CrbTpl → CrbTpl) : (s.updTpl k f).grid = s.grid := rfl
@[simp] theorem updTpl_svc (s : State) (k : Fin 4) (f : CrbTpl → CrbTpl) : (s.updTpl k f).svc = s.svc := rfl
@[simp] theorem updTpl_snap (s : State) (k : Fin 4) (f : CrbTpl → CrbTpl) : (s.updTpl k f).snap = s.snap := rfl
@[simp] theorem updTpl_stb (s : State) (k : Fin 4) (f : CrbTpl → CrbTpl) : (s.updTpl k f).stb = s.stb := rfl
@[simp] theorem updTpl_prot (s : State) (k : Fin 4) (f : CrbTpl → CrbTpl) : (s.updTpl k f).prot = s.prot := rfl
@[simp] theorem updTpl_acp (s : State) (k : Fin 4) (f : CrbTpl → CrbTpl) : (s.updTpl k f).acp = s.acp := rfl
@[simp] theorem updTpl_peers (s : State) (k : Fin 4) (f : CrbTpl → CrbTpl) : (s.updTpl k f).peers = s.peers := rfl
@[simp] theorem updTpl_lsh (s : State) (k : Fin 4) (f : CrbTpl → CrbTpl) : (s.updTpl k f).lsh = s.lsh := rfl
@[simp] theorem updTpl_swp (s : State) (k : Fin 4) (f : CrbTpl → CrbTpl) : (s.updTpl k f).swp = s.swp := rfl
@[simp] theorem updTpl_damp (s : State) (k : Fin 4) (f : CrbTpl → CrbTpl) : (s.updTpl k f).damp = s.damp := rfl
@[simp] theorem updTpl_gsp (s : State) (k : Fin 4) (f : CrbTpl → CrbTpl) : (s.updTpl k f).gsp = s.gsp := rfl
@[simp] theorem updTpl_fch (s : State) (k : Fin 4) (f : CrbTpl → CrbTpl) : (s.updTpl k f).fch = s.fch := rfl
@[simp] theorem updTpl_idn (s : State) (k : Fin 4) (f : CrbTpl → CrbTpl) : (s.updTpl k f).idn = s.idn := rfl
@[simp] theorem updTpl_chw (s : State) (k : Fin 4) (f : CrbTpl → CrbTpl) : (s.updTpl k f).chw = s.chw := rfl
@[simp] theorem updTpl_pins (s : State) (k : Fin 4) (f : CrbTpl → CrbTpl) : (s.updTpl k f).pins = s.pins := rfl

/-! ### updCrbSlot -/

@[simp] theorem updCrbSlot_now (s : State) (i : Fin 16) (f : CrbSlot → CrbSlot) : (s.updCrbSlot i f).now = s.now := rfl
@[simp] theorem updCrbSlot_freeCount (s : State) (i : Fin 16) (f : CrbSlot → CrbSlot) : (s.updCrbSlot i f).freeCount = s.freeCount := rfl
@[simp] theorem updCrbSlot_pending (s : State) (i : Fin 16) (f : CrbSlot → CrbSlot) : (s.updCrbSlot i f).pending = s.pending := rfl
@[simp] theorem updCrbSlot_power (s : State) (i : Fin 16) (f : CrbSlot → CrbSlot) : (s.updCrbSlot i f).power = s.power := rfl
@[simp] theorem updCrbSlot_win (s : State) (i : Fin 16) (f : CrbSlot → CrbSlot) : (s.updCrbSlot i f).win = s.win := rfl
@[simp] theorem updCrbSlot_log (s : State) (i : Fin 16) (f : CrbSlot → CrbSlot) : (s.updCrbSlot i f).log = s.log := rfl
@[simp] theorem updCrbSlot_par (s : State) (i : Fin 16) (f : CrbSlot → CrbSlot) : (s.updCrbSlot i f).par = s.par := rfl
@[simp] theorem updCrbSlot_nvm (s : State) (i : Fin 16) (f : CrbSlot → CrbSlot) : (s.updCrbSlot i f).nvm = s.nvm := rfl
@[simp] theorem updCrbSlot_loops (s : State) (i : Fin 16) (f : CrbSlot → CrbSlot) : (s.updCrbSlot i f).loops = s.loops := rfl
@[simp] theorem updCrbSlot_phases (s : State) (i : Fin 16) (f : CrbSlot → CrbSlot) : (s.updCrbSlot i f).phases = s.phases := rfl
@[simp] theorem updCrbSlot_vsc (s : State) (i : Fin 16) (f : CrbSlot → CrbSlot) : (s.updCrbSlot i f).vsc = s.vsc := rfl
@[simp] theorem updCrbSlot_isc (s : State) (i : Fin 16) (f : CrbSlot → CrbSlot) : (s.updCrbSlot i f).isc = s.isc := rfl
@[simp] theorem updCrbSlot_lanes (s : State) (i : Fin 16) (f : CrbSlot → CrbSlot) : (s.updCrbSlot i f).lanes = s.lanes := rfl
@[simp] theorem updCrbSlot_grid (s : State) (i : Fin 16) (f : CrbSlot → CrbSlot) : (s.updCrbSlot i f).grid = s.grid := rfl
@[simp] theorem updCrbSlot_svc (s : State) (i : Fin 16) (f : CrbSlot → CrbSlot) : (s.updCrbSlot i f).svc = s.svc := rfl
@[simp] theorem updCrbSlot_snap (s : State) (i : Fin 16) (f : CrbSlot → CrbSlot) : (s.updCrbSlot i f).snap = s.snap := rfl
@[simp] theorem updCrbSlot_stb (s : State) (i : Fin 16) (f : CrbSlot → CrbSlot) : (s.updCrbSlot i f).stb = s.stb := rfl
@[simp] theorem updCrbSlot_prot (s : State) (i : Fin 16) (f : CrbSlot → CrbSlot) : (s.updCrbSlot i f).prot = s.prot := rfl
@[simp] theorem updCrbSlot_acp (s : State) (i : Fin 16) (f : CrbSlot → CrbSlot) : (s.updCrbSlot i f).acp = s.acp := rfl
@[simp] theorem updCrbSlot_peers (s : State) (i : Fin 16) (f : CrbSlot → CrbSlot) : (s.updCrbSlot i f).peers = s.peers := rfl
@[simp] theorem updCrbSlot_lsh (s : State) (i : Fin 16) (f : CrbSlot → CrbSlot) : (s.updCrbSlot i f).lsh = s.lsh := rfl
@[simp] theorem updCrbSlot_swp (s : State) (i : Fin 16) (f : CrbSlot → CrbSlot) : (s.updCrbSlot i f).swp = s.swp := rfl
@[simp] theorem updCrbSlot_damp (s : State) (i : Fin 16) (f : CrbSlot → CrbSlot) : (s.updCrbSlot i f).damp = s.damp := rfl
@[simp] theorem updCrbSlot_gsp (s : State) (i : Fin 16) (f : CrbSlot → CrbSlot) : (s.updCrbSlot i f).gsp = s.gsp := rfl
@[simp] theorem updCrbSlot_fch (s : State) (i : Fin 16) (f : CrbSlot → CrbSlot) : (s.updCrbSlot i f).fch = s.fch := rfl
@[simp] theorem updCrbSlot_idn (s : State) (i : Fin 16) (f : CrbSlot → CrbSlot) : (s.updCrbSlot i f).idn = s.idn := rfl
@[simp] theorem updCrbSlot_chw (s : State) (i : Fin 16) (f : CrbSlot → CrbSlot) : (s.updCrbSlot i f).chw = s.chw := rfl
@[simp] theorem updCrbSlot_pins (s : State) (i : Fin 16) (f : CrbSlot → CrbSlot) : (s.updCrbSlot i f).pins = s.pins := rfl

/-! ### updIdn -/

@[simp] theorem updIdn_now (s : State) (f : Idn → Idn) : (s.updIdn f).now = s.now := rfl
@[simp] theorem updIdn_freeCount (s : State) (f : Idn → Idn) : (s.updIdn f).freeCount = s.freeCount := rfl
@[simp] theorem updIdn_pending (s : State) (f : Idn → Idn) : (s.updIdn f).pending = s.pending := rfl
@[simp] theorem updIdn_power (s : State) (f : Idn → Idn) : (s.updIdn f).power = s.power := rfl
@[simp] theorem updIdn_win (s : State) (f : Idn → Idn) : (s.updIdn f).win = s.win := rfl
@[simp] theorem updIdn_log (s : State) (f : Idn → Idn) : (s.updIdn f).log = s.log := rfl
@[simp] theorem updIdn_par (s : State) (f : Idn → Idn) : (s.updIdn f).par = s.par := rfl
@[simp] theorem updIdn_nvm (s : State) (f : Idn → Idn) : (s.updIdn f).nvm = s.nvm := rfl
@[simp] theorem updIdn_loops (s : State) (f : Idn → Idn) : (s.updIdn f).loops = s.loops := rfl
@[simp] theorem updIdn_phases (s : State) (f : Idn → Idn) : (s.updIdn f).phases = s.phases := rfl
@[simp] theorem updIdn_vsc (s : State) (f : Idn → Idn) : (s.updIdn f).vsc = s.vsc := rfl
@[simp] theorem updIdn_isc (s : State) (f : Idn → Idn) : (s.updIdn f).isc = s.isc := rfl
@[simp] theorem updIdn_lanes (s : State) (f : Idn → Idn) : (s.updIdn f).lanes = s.lanes := rfl
@[simp] theorem updIdn_grid (s : State) (f : Idn → Idn) : (s.updIdn f).grid = s.grid := rfl
@[simp] theorem updIdn_svc (s : State) (f : Idn → Idn) : (s.updIdn f).svc = s.svc := rfl
@[simp] theorem updIdn_snap (s : State) (f : Idn → Idn) : (s.updIdn f).snap = s.snap := rfl
@[simp] theorem updIdn_stb (s : State) (f : Idn → Idn) : (s.updIdn f).stb = s.stb := rfl
@[simp] theorem updIdn_prot (s : State) (f : Idn → Idn) : (s.updIdn f).prot = s.prot := rfl
@[simp] theorem updIdn_acp (s : State) (f : Idn → Idn) : (s.updIdn f).acp = s.acp := rfl
@[simp] theorem updIdn_peers (s : State) (f : Idn → Idn) : (s.updIdn f).peers = s.peers := rfl
@[simp] theorem updIdn_lsh (s : State) (f : Idn → Idn) : (s.updIdn f).lsh = s.lsh := rfl
@[simp] theorem updIdn_swp (s : State) (f : Idn → Idn) : (s.updIdn f).swp = s.swp := rfl
@[simp] theorem updIdn_damp (s : State) (f : Idn → Idn) : (s.updIdn f).damp = s.damp := rfl
@[simp] theorem updIdn_gsp (s : State) (f : Idn → Idn) : (s.updIdn f).gsp = s.gsp := rfl
@[simp] theorem updIdn_fch (s : State) (f : Idn → Idn) : (s.updIdn f).fch = s.fch := rfl
@[simp] theorem updIdn_crb (s : State) (f : Idn → Idn) : (s.updIdn f).crb = s.crb := rfl
@[simp] theorem updIdn_idn (s : State) (f : Idn → Idn) : (s.updIdn f).idn = f s.idn := rfl
@[simp] theorem updIdn_chw (s : State) (f : Idn → Idn) : (s.updIdn f).chw = s.chw := rfl
@[simp] theorem updIdn_pins (s : State) (f : Idn → Idn) : (s.updIdn f).pins = s.pins := rfl

/-! ### updChw -/

@[simp] theorem updChw_now (s : State) (f : Chw → Chw) : (s.updChw f).now = s.now := rfl
@[simp] theorem updChw_freeCount (s : State) (f : Chw → Chw) : (s.updChw f).freeCount = s.freeCount := rfl
@[simp] theorem updChw_pending (s : State) (f : Chw → Chw) : (s.updChw f).pending = s.pending := rfl
@[simp] theorem updChw_power (s : State) (f : Chw → Chw) : (s.updChw f).power = s.power := rfl
@[simp] theorem updChw_win (s : State) (f : Chw → Chw) : (s.updChw f).win = s.win := rfl
@[simp] theorem updChw_log (s : State) (f : Chw → Chw) : (s.updChw f).log = s.log := rfl
@[simp] theorem updChw_par (s : State) (f : Chw → Chw) : (s.updChw f).par = s.par := rfl
@[simp] theorem updChw_nvm (s : State) (f : Chw → Chw) : (s.updChw f).nvm = s.nvm := rfl
@[simp] theorem updChw_loops (s : State) (f : Chw → Chw) : (s.updChw f).loops = s.loops := rfl
@[simp] theorem updChw_phases (s : State) (f : Chw → Chw) : (s.updChw f).phases = s.phases := rfl
@[simp] theorem updChw_vsc (s : State) (f : Chw → Chw) : (s.updChw f).vsc = s.vsc := rfl
@[simp] theorem updChw_isc (s : State) (f : Chw → Chw) : (s.updChw f).isc = s.isc := rfl
@[simp] theorem updChw_lanes (s : State) (f : Chw → Chw) : (s.updChw f).lanes = s.lanes := rfl
@[simp] theorem updChw_grid (s : State) (f : Chw → Chw) : (s.updChw f).grid = s.grid := rfl
@[simp] theorem updChw_svc (s : State) (f : Chw → Chw) : (s.updChw f).svc = s.svc := rfl
@[simp] theorem updChw_snap (s : State) (f : Chw → Chw) : (s.updChw f).snap = s.snap := rfl
@[simp] theorem updChw_stb (s : State) (f : Chw → Chw) : (s.updChw f).stb = s.stb := rfl
@[simp] theorem updChw_prot (s : State) (f : Chw → Chw) : (s.updChw f).prot = s.prot := rfl
@[simp] theorem updChw_acp (s : State) (f : Chw → Chw) : (s.updChw f).acp = s.acp := rfl
@[simp] theorem updChw_peers (s : State) (f : Chw → Chw) : (s.updChw f).peers = s.peers := rfl
@[simp] theorem updChw_lsh (s : State) (f : Chw → Chw) : (s.updChw f).lsh = s.lsh := rfl
@[simp] theorem updChw_swp (s : State) (f : Chw → Chw) : (s.updChw f).swp = s.swp := rfl
@[simp] theorem updChw_damp (s : State) (f : Chw → Chw) : (s.updChw f).damp = s.damp := rfl
@[simp] theorem updChw_gsp (s : State) (f : Chw → Chw) : (s.updChw f).gsp = s.gsp := rfl
@[simp] theorem updChw_fch (s : State) (f : Chw → Chw) : (s.updChw f).fch = s.fch := rfl
@[simp] theorem updChw_crb (s : State) (f : Chw → Chw) : (s.updChw f).crb = s.crb := rfl
@[simp] theorem updChw_idn (s : State) (f : Chw → Chw) : (s.updChw f).idn = s.idn := rfl
@[simp] theorem updChw_chw (s : State) (f : Chw → Chw) : (s.updChw f).chw = f s.chw := rfl
@[simp] theorem updChw_pins (s : State) (f : Chw → Chw) : (s.updChw f).pins = s.pins := rfl

/-! ### updPins -/

@[simp] theorem updPins_now (s : State) (f : Pins → Pins) : (s.updPins f).now = s.now := rfl
@[simp] theorem updPins_freeCount (s : State) (f : Pins → Pins) : (s.updPins f).freeCount = s.freeCount := rfl
@[simp] theorem updPins_pending (s : State) (f : Pins → Pins) : (s.updPins f).pending = s.pending := rfl
@[simp] theorem updPins_power (s : State) (f : Pins → Pins) : (s.updPins f).power = s.power := rfl
@[simp] theorem updPins_win (s : State) (f : Pins → Pins) : (s.updPins f).win = s.win := rfl
@[simp] theorem updPins_log (s : State) (f : Pins → Pins) : (s.updPins f).log = s.log := rfl
@[simp] theorem updPins_par (s : State) (f : Pins → Pins) : (s.updPins f).par = s.par := rfl
@[simp] theorem updPins_nvm (s : State) (f : Pins → Pins) : (s.updPins f).nvm = s.nvm := rfl
@[simp] theorem updPins_loops (s : State) (f : Pins → Pins) : (s.updPins f).loops = s.loops := rfl
@[simp] theorem updPins_phases (s : State) (f : Pins → Pins) : (s.updPins f).phases = s.phases := rfl
@[simp] theorem updPins_vsc (s : State) (f : Pins → Pins) : (s.updPins f).vsc = s.vsc := rfl
@[simp] theorem updPins_isc (s : State) (f : Pins → Pins) : (s.updPins f).isc = s.isc := rfl
@[simp] theorem updPins_lanes (s : State) (f : Pins → Pins) : (s.updPins f).lanes = s.lanes := rfl
@[simp] theorem updPins_grid (s : State) (f : Pins → Pins) : (s.updPins f).grid = s.grid := rfl
@[simp] theorem updPins_svc (s : State) (f : Pins → Pins) : (s.updPins f).svc = s.svc := rfl
@[simp] theorem updPins_snap (s : State) (f : Pins → Pins) : (s.updPins f).snap = s.snap := rfl
@[simp] theorem updPins_stb (s : State) (f : Pins → Pins) : (s.updPins f).stb = s.stb := rfl
@[simp] theorem updPins_prot (s : State) (f : Pins → Pins) : (s.updPins f).prot = s.prot := rfl
@[simp] theorem updPins_acp (s : State) (f : Pins → Pins) : (s.updPins f).acp = s.acp := rfl
@[simp] theorem updPins_peers (s : State) (f : Pins → Pins) : (s.updPins f).peers = s.peers := rfl
@[simp] theorem updPins_lsh (s : State) (f : Pins → Pins) : (s.updPins f).lsh = s.lsh := rfl
@[simp] theorem updPins_swp (s : State) (f : Pins → Pins) : (s.updPins f).swp = s.swp := rfl
@[simp] theorem updPins_damp (s : State) (f : Pins → Pins) : (s.updPins f).damp = s.damp := rfl
@[simp] theorem updPins_gsp (s : State) (f : Pins → Pins) : (s.updPins f).gsp = s.gsp := rfl
@[simp] theorem updPins_fch (s : State) (f : Pins → Pins) : (s.updPins f).fch = s.fch := rfl
@[simp] theorem updPins_crb (s : State) (f : Pins → Pins) : (s.updPins f).crb = s.crb := rfl
@[simp] theorem updPins_idn (s : State) (f : Pins → Pins) : (s.updPins f).idn = s.idn := rfl
@[simp] theorem updPins_chw (s : State) (f : Pins → Pins) : (s.updPins f).chw = s.chw := rfl
@[simp] theorem updPins_pins (s : State) (f : Pins → Pins) : (s.updPins f).pins = f s.pins := rfl

/-! ### updLane -/

@[simp] theorem updLane_now (s : State) (n : Fin 16) (f : Lane → Lane) : (s.updLane n f).now = s.now := rfl
@[simp] theorem updLane_freeCount (s : State) (n : Fin 16) (f : Lane → Lane) : (s.updLane n f).freeCount = s.freeCount := rfl
@[simp] theorem updLane_pending (s : State) (n : Fin 16) (f : Lane → Lane) : (s.updLane n f).pending = s.pending := rfl
@[simp] theorem updLane_power (s : State) (n : Fin 16) (f : Lane → Lane) : (s.updLane n f).power = s.power := rfl
@[simp] theorem updLane_win (s : State) (n : Fin 16) (f : Lane → Lane) : (s.updLane n f).win = s.win := rfl
@[simp] theorem updLane_log (s : State) (n : Fin 16) (f : Lane → Lane) : (s.updLane n f).log = s.log := rfl
@[simp] theorem updLane_par (s : State) (n : Fin 16) (f : Lane → Lane) : (s.updLane n f).par = s.par := rfl
@[simp] theorem updLane_nvm (s : State) (n : Fin 16) (f : Lane → Lane) : (s.updLane n f).nvm = s.nvm := rfl
@[simp] theorem updLane_loops (s : State) (n : Fin 16) (f : Lane → Lane) : (s.updLane n f).loops = s.loops := rfl
@[simp] theorem updLane_phases (s : State) (n : Fin 16) (f : Lane → Lane) : (s.updLane n f).phases = s.phases := rfl
@[simp] theorem updLane_vsc (s : State) (n : Fin 16) (f : Lane → Lane) : (s.updLane n f).vsc = s.vsc := rfl
@[simp] theorem updLane_isc (s : State) (n : Fin 16) (f : Lane → Lane) : (s.updLane n f).isc = s.isc := rfl
@[simp] theorem updLane_grid (s : State) (n : Fin 16) (f : Lane → Lane) : (s.updLane n f).grid = s.grid := rfl
@[simp] theorem updLane_svc (s : State) (n : Fin 16) (f : Lane → Lane) : (s.updLane n f).svc = s.svc := rfl
@[simp] theorem updLane_snap (s : State) (n : Fin 16) (f : Lane → Lane) : (s.updLane n f).snap = s.snap := rfl
@[simp] theorem updLane_stb (s : State) (n : Fin 16) (f : Lane → Lane) : (s.updLane n f).stb = s.stb := rfl
@[simp] theorem updLane_prot (s : State) (n : Fin 16) (f : Lane → Lane) : (s.updLane n f).prot = s.prot := rfl
@[simp] theorem updLane_acp (s : State) (n : Fin 16) (f : Lane → Lane) : (s.updLane n f).acp = s.acp := rfl
@[simp] theorem updLane_peers (s : State) (n : Fin 16) (f : Lane → Lane) : (s.updLane n f).peers = s.peers := rfl
@[simp] theorem updLane_lsh (s : State) (n : Fin 16) (f : Lane → Lane) : (s.updLane n f).lsh = s.lsh := rfl
@[simp] theorem updLane_swp (s : State) (n : Fin 16) (f : Lane → Lane) : (s.updLane n f).swp = s.swp := rfl
@[simp] theorem updLane_damp (s : State) (n : Fin 16) (f : Lane → Lane) : (s.updLane n f).damp = s.damp := rfl
@[simp] theorem updLane_gsp (s : State) (n : Fin 16) (f : Lane → Lane) : (s.updLane n f).gsp = s.gsp := rfl
@[simp] theorem updLane_fch (s : State) (n : Fin 16) (f : Lane → Lane) : (s.updLane n f).fch = s.fch := rfl
@[simp] theorem updLane_crb (s : State) (n : Fin 16) (f : Lane → Lane) : (s.updLane n f).crb = s.crb := rfl
@[simp] theorem updLane_idn (s : State) (n : Fin 16) (f : Lane → Lane) : (s.updLane n f).idn = s.idn := rfl
@[simp] theorem updLane_chw (s : State) (n : Fin 16) (f : Lane → Lane) : (s.updLane n f).chw = s.chw := rfl
@[simp] theorem updLane_pins (s : State) (n : Fin 16) (f : Lane → Lane) : (s.updLane n f).pins = s.pins := rfl

/-! ### updSlot -/

@[simp] theorem updSlot_now (s : State) (b : Bool) (f : ImgSlot → ImgSlot) : (s.updSlot b f).now = s.now := rfl
@[simp] theorem updSlot_freeCount (s : State) (b : Bool) (f : ImgSlot → ImgSlot) : (s.updSlot b f).freeCount = s.freeCount := rfl
@[simp] theorem updSlot_pending (s : State) (b : Bool) (f : ImgSlot → ImgSlot) : (s.updSlot b f).pending = s.pending := rfl
@[simp] theorem updSlot_power (s : State) (b : Bool) (f : ImgSlot → ImgSlot) : (s.updSlot b f).power = s.power := rfl
@[simp] theorem updSlot_win (s : State) (b : Bool) (f : ImgSlot → ImgSlot) : (s.updSlot b f).win = s.win := rfl
@[simp] theorem updSlot_log (s : State) (b : Bool) (f : ImgSlot → ImgSlot) : (s.updSlot b f).log = s.log := rfl
@[simp] theorem updSlot_par (s : State) (b : Bool) (f : ImgSlot → ImgSlot) : (s.updSlot b f).par = s.par := rfl
@[simp] theorem updSlot_loops (s : State) (b : Bool) (f : ImgSlot → ImgSlot) : (s.updSlot b f).loops = s.loops := rfl
@[simp] theorem updSlot_phases (s : State) (b : Bool) (f : ImgSlot → ImgSlot) : (s.updSlot b f).phases = s.phases := rfl
@[simp] theorem updSlot_vsc (s : State) (b : Bool) (f : ImgSlot → ImgSlot) : (s.updSlot b f).vsc = s.vsc := rfl
@[simp] theorem updSlot_isc (s : State) (b : Bool) (f : ImgSlot → ImgSlot) : (s.updSlot b f).isc = s.isc := rfl
@[simp] theorem updSlot_lanes (s : State) (b : Bool) (f : ImgSlot → ImgSlot) : (s.updSlot b f).lanes = s.lanes := rfl
@[simp] theorem updSlot_grid (s : State) (b : Bool) (f : ImgSlot → ImgSlot) : (s.updSlot b f).grid = s.grid := rfl
@[simp] theorem updSlot_svc (s : State) (b : Bool) (f : ImgSlot → ImgSlot) : (s.updSlot b f).svc = s.svc := rfl
@[simp] theorem updSlot_snap (s : State) (b : Bool) (f : ImgSlot → ImgSlot) : (s.updSlot b f).snap = s.snap := rfl
@[simp] theorem updSlot_stb (s : State) (b : Bool) (f : ImgSlot → ImgSlot) : (s.updSlot b f).stb = s.stb := rfl
@[simp] theorem updSlot_prot (s : State) (b : Bool) (f : ImgSlot → ImgSlot) : (s.updSlot b f).prot = s.prot := rfl
@[simp] theorem updSlot_acp (s : State) (b : Bool) (f : ImgSlot → ImgSlot) : (s.updSlot b f).acp = s.acp := rfl
@[simp] theorem updSlot_peers (s : State) (b : Bool) (f : ImgSlot → ImgSlot) : (s.updSlot b f).peers = s.peers := rfl
@[simp] theorem updSlot_lsh (s : State) (b : Bool) (f : ImgSlot → ImgSlot) : (s.updSlot b f).lsh = s.lsh := rfl
@[simp] theorem updSlot_swp (s : State) (b : Bool) (f : ImgSlot → ImgSlot) : (s.updSlot b f).swp = s.swp := rfl
@[simp] theorem updSlot_damp (s : State) (b : Bool) (f : ImgSlot → ImgSlot) : (s.updSlot b f).damp = s.damp := rfl
@[simp] theorem updSlot_gsp (s : State) (b : Bool) (f : ImgSlot → ImgSlot) : (s.updSlot b f).gsp = s.gsp := rfl
@[simp] theorem updSlot_fch (s : State) (b : Bool) (f : ImgSlot → ImgSlot) : (s.updSlot b f).fch = s.fch := rfl
@[simp] theorem updSlot_crb (s : State) (b : Bool) (f : ImgSlot → ImgSlot) : (s.updSlot b f).crb = s.crb := rfl
@[simp] theorem updSlot_idn (s : State) (b : Bool) (f : ImgSlot → ImgSlot) : (s.updSlot b f).idn = s.idn := rfl
@[simp] theorem updSlot_chw (s : State) (b : Bool) (f : ImgSlot → ImgSlot) : (s.updSlot b f).chw = s.chw := rfl
@[simp] theorem updSlot_pins (s : State) (b : Bool) (f : ImgSlot → ImgSlot) : (s.updSlot b f).pins = s.pins := rfl

/-! ### setProof -/

@[simp] theorem setProof_now (s : State) (a : Nat) (v : W16) : (s.setProof a v).now = s.now := rfl
@[simp] theorem setProof_freeCount (s : State) (a : Nat) (v : W16) : (s.setProof a v).freeCount = s.freeCount := rfl
@[simp] theorem setProof_pending (s : State) (a : Nat) (v : W16) : (s.setProof a v).pending = s.pending := rfl
@[simp] theorem setProof_power (s : State) (a : Nat) (v : W16) : (s.setProof a v).power = s.power := rfl
@[simp] theorem setProof_win (s : State) (a : Nat) (v : W16) : (s.setProof a v).win = s.win := rfl
@[simp] theorem setProof_log (s : State) (a : Nat) (v : W16) : (s.setProof a v).log = s.log := rfl
@[simp] theorem setProof_nvm (s : State) (a : Nat) (v : W16) : (s.setProof a v).nvm = s.nvm := rfl
@[simp] theorem setProof_loops (s : State) (a : Nat) (v : W16) : (s.setProof a v).loops = s.loops := rfl
@[simp] theorem setProof_phases (s : State) (a : Nat) (v : W16) : (s.setProof a v).phases = s.phases := rfl
@[simp] theorem setProof_vsc (s : State) (a : Nat) (v : W16) : (s.setProof a v).vsc = s.vsc := rfl
@[simp] theorem setProof_isc (s : State) (a : Nat) (v : W16) : (s.setProof a v).isc = s.isc := rfl
@[simp] theorem setProof_lanes (s : State) (a : Nat) (v : W16) : (s.setProof a v).lanes = s.lanes := rfl
@[simp] theorem setProof_grid (s : State) (a : Nat) (v : W16) : (s.setProof a v).grid = s.grid := rfl
@[simp] theorem setProof_svc (s : State) (a : Nat) (v : W16) : (s.setProof a v).svc = s.svc := rfl
@[simp] theorem setProof_snap (s : State) (a : Nat) (v : W16) : (s.setProof a v).snap = s.snap := rfl
@[simp] theorem setProof_stb (s : State) (a : Nat) (v : W16) : (s.setProof a v).stb = s.stb := rfl
@[simp] theorem setProof_prot (s : State) (a : Nat) (v : W16) : (s.setProof a v).prot = s.prot := rfl
@[simp] theorem setProof_acp (s : State) (a : Nat) (v : W16) : (s.setProof a v).acp = s.acp := rfl
@[simp] theorem setProof_peers (s : State) (a : Nat) (v : W16) : (s.setProof a v).peers = s.peers := rfl
@[simp] theorem setProof_lsh (s : State) (a : Nat) (v : W16) : (s.setProof a v).lsh = s.lsh := rfl
@[simp] theorem setProof_swp (s : State) (a : Nat) (v : W16) : (s.setProof a v).swp = s.swp := rfl
@[simp] theorem setProof_damp (s : State) (a : Nat) (v : W16) : (s.setProof a v).damp = s.damp := rfl
@[simp] theorem setProof_gsp (s : State) (a : Nat) (v : W16) : (s.setProof a v).gsp = s.gsp := rfl
@[simp] theorem setProof_fch (s : State) (a : Nat) (v : W16) : (s.setProof a v).fch = s.fch := rfl
@[simp] theorem setProof_crb (s : State) (a : Nat) (v : W16) : (s.setProof a v).crb = s.crb := rfl
@[simp] theorem setProof_idn (s : State) (a : Nat) (v : W16) : (s.setProof a v).idn = s.idn := rfl
@[simp] theorem setProof_chw (s : State) (a : Nat) (v : W16) : (s.setProof a v).chw = s.chw := rfl
@[simp] theorem setProof_pins (s : State) (a : Nat) (v : W16) : (s.setProof a v).pins = s.pins := rfl

/-! ### setUse -/

@[simp] theorem setUse_now (s : State) (a : Nat) (v : W16) : (s.setUse a v).now = s.now := rfl
@[simp] theorem setUse_freeCount (s : State) (a : Nat) (v : W16) : (s.setUse a v).freeCount = s.freeCount := rfl
@[simp] theorem setUse_pending (s : State) (a : Nat) (v : W16) : (s.setUse a v).pending = s.pending := rfl
@[simp] theorem setUse_power (s : State) (a : Nat) (v : W16) : (s.setUse a v).power = s.power := rfl
@[simp] theorem setUse_win (s : State) (a : Nat) (v : W16) : (s.setUse a v).win = s.win := rfl
@[simp] theorem setUse_log (s : State) (a : Nat) (v : W16) : (s.setUse a v).log = s.log := rfl
@[simp] theorem setUse_nvm (s : State) (a : Nat) (v : W16) : (s.setUse a v).nvm = s.nvm := rfl
@[simp] theorem setUse_loops (s : State) (a : Nat) (v : W16) : (s.setUse a v).loops = s.loops := rfl
@[simp] theorem setUse_phases (s : State) (a : Nat) (v : W16) : (s.setUse a v).phases = s.phases := rfl
@[simp] theorem setUse_vsc (s : State) (a : Nat) (v : W16) : (s.setUse a v).vsc = s.vsc := rfl
@[simp] theorem setUse_isc (s : State) (a : Nat) (v : W16) : (s.setUse a v).isc = s.isc := rfl
@[simp] theorem setUse_lanes (s : State) (a : Nat) (v : W16) : (s.setUse a v).lanes = s.lanes := rfl
@[simp] theorem setUse_grid (s : State) (a : Nat) (v : W16) : (s.setUse a v).grid = s.grid := rfl
@[simp] theorem setUse_svc (s : State) (a : Nat) (v : W16) : (s.setUse a v).svc = s.svc := rfl
@[simp] theorem setUse_snap (s : State) (a : Nat) (v : W16) : (s.setUse a v).snap = s.snap := rfl
@[simp] theorem setUse_stb (s : State) (a : Nat) (v : W16) : (s.setUse a v).stb = s.stb := rfl
@[simp] theorem setUse_prot (s : State) (a : Nat) (v : W16) : (s.setUse a v).prot = s.prot := rfl
@[simp] theorem setUse_acp (s : State) (a : Nat) (v : W16) : (s.setUse a v).acp = s.acp := rfl
@[simp] theorem setUse_peers (s : State) (a : Nat) (v : W16) : (s.setUse a v).peers = s.peers := rfl
@[simp] theorem setUse_lsh (s : State) (a : Nat) (v : W16) : (s.setUse a v).lsh = s.lsh := rfl
@[simp] theorem setUse_swp (s : State) (a : Nat) (v : W16) : (s.setUse a v).swp = s.swp := rfl
@[simp] theorem setUse_damp (s : State) (a : Nat) (v : W16) : (s.setUse a v).damp = s.damp := rfl
@[simp] theorem setUse_gsp (s : State) (a : Nat) (v : W16) : (s.setUse a v).gsp = s.gsp := rfl
@[simp] theorem setUse_fch (s : State) (a : Nat) (v : W16) : (s.setUse a v).fch = s.fch := rfl
@[simp] theorem setUse_crb (s : State) (a : Nat) (v : W16) : (s.setUse a v).crb = s.crb := rfl
@[simp] theorem setUse_idn (s : State) (a : Nat) (v : W16) : (s.setUse a v).idn = s.idn := rfl
@[simp] theorem setUse_chw (s : State) (a : Nat) (v : W16) : (s.setUse a v).chw = s.chw := rfl
@[simp] theorem setUse_pins (s : State) (a : Nat) (v : W16) : (s.setUse a v).pins = s.pins := rfl

/-! ### irq -/

@[simp] theorem irq_now (s : State) (i : Nat) : (s.irq i).now = s.now := rfl
@[simp] theorem irq_freeCount (s : State) (i : Nat) : (s.irq i).freeCount = s.freeCount := rfl
@[simp] theorem irq_pending (s : State) (i : Nat) : (s.irq i).pending = s.pending := rfl
@[simp] theorem irq_power (s : State) (i : Nat) : (s.irq i).power = s.power := rfl
@[simp] theorem irq_log (s : State) (i : Nat) : (s.irq i).log = s.log := rfl
@[simp] theorem irq_par (s : State) (i : Nat) : (s.irq i).par = s.par := rfl
@[simp] theorem irq_nvm (s : State) (i : Nat) : (s.irq i).nvm = s.nvm := rfl
@[simp] theorem irq_loops (s : State) (i : Nat) : (s.irq i).loops = s.loops := rfl
@[simp] theorem irq_phases (s : State) (i : Nat) : (s.irq i).phases = s.phases := rfl
@[simp] theorem irq_vsc (s : State) (i : Nat) : (s.irq i).vsc = s.vsc := rfl
@[simp] theorem irq_isc (s : State) (i : Nat) : (s.irq i).isc = s.isc := rfl
@[simp] theorem irq_lanes (s : State) (i : Nat) : (s.irq i).lanes = s.lanes := rfl
@[simp] theorem irq_grid (s : State) (i : Nat) : (s.irq i).grid = s.grid := rfl
@[simp] theorem irq_svc (s : State) (i : Nat) : (s.irq i).svc = s.svc := rfl
@[simp] theorem irq_snap (s : State) (i : Nat) : (s.irq i).snap = s.snap := rfl
@[simp] theorem irq_stb (s : State) (i : Nat) : (s.irq i).stb = s.stb := rfl
@[simp] theorem irq_prot (s : State) (i : Nat) : (s.irq i).prot = s.prot := rfl
@[simp] theorem irq_acp (s : State) (i : Nat) : (s.irq i).acp = s.acp := rfl
@[simp] theorem irq_peers (s : State) (i : Nat) : (s.irq i).peers = s.peers := rfl
@[simp] theorem irq_lsh (s : State) (i : Nat) : (s.irq i).lsh = s.lsh := rfl
@[simp] theorem irq_swp (s : State) (i : Nat) : (s.irq i).swp = s.swp := rfl
@[simp] theorem irq_damp (s : State) (i : Nat) : (s.irq i).damp = s.damp := rfl
@[simp] theorem irq_gsp (s : State) (i : Nat) : (s.irq i).gsp = s.gsp := rfl
@[simp] theorem irq_fch (s : State) (i : Nat) : (s.irq i).fch = s.fch := rfl
@[simp] theorem irq_crb (s : State) (i : Nat) : (s.irq i).crb = s.crb := rfl
@[simp] theorem irq_idn (s : State) (i : Nat) : (s.irq i).idn = s.idn := rfl
@[simp] theorem irq_chw (s : State) (i : Nat) : (s.irq i).chw = s.chw := rfl
@[simp] theorem irq_pins (s : State) (i : Nat) : (s.irq i).pins = s.pins := rfl

/-! ### The time -/

@[simp] theorem atTime_now (t : Nat) (s : State) : (s.atTime t).now = max s.now t := rfl
@[simp] theorem atTime_freeCount (t : Nat) (s : State) : (s.atTime t).freeCount = s.freeCount := rfl
@[simp] theorem atTime_pending (t : Nat) (s : State) : (s.atTime t).pending = s.pending := rfl
@[simp] theorem atTime_power (t : Nat) (s : State) : (s.atTime t).power = s.power := rfl
@[simp] theorem atTime_win (t : Nat) (s : State) : (s.atTime t).win = s.win := rfl
@[simp] theorem atTime_log (t : Nat) (s : State) : (s.atTime t).log = s.log := rfl
@[simp] theorem atTime_par (t : Nat) (s : State) : (s.atTime t).par = s.par := rfl
@[simp] theorem atTime_nvm (t : Nat) (s : State) : (s.atTime t).nvm = s.nvm := rfl
@[simp] theorem atTime_loops (t : Nat) (s : State) : (s.atTime t).loops = s.loops := rfl
@[simp] theorem atTime_phases (t : Nat) (s : State) : (s.atTime t).phases = s.phases := rfl
@[simp] theorem atTime_vsc (t : Nat) (s : State) : (s.atTime t).vsc = s.vsc := rfl
@[simp] theorem atTime_isc (t : Nat) (s : State) : (s.atTime t).isc = s.isc := rfl
@[simp] theorem atTime_lanes (t : Nat) (s : State) : (s.atTime t).lanes = s.lanes := rfl
@[simp] theorem atTime_grid (t : Nat) (s : State) : (s.atTime t).grid = s.grid := rfl
@[simp] theorem atTime_svc (t : Nat) (s : State) : (s.atTime t).svc = s.svc := rfl
@[simp] theorem atTime_snap (t : Nat) (s : State) : (s.atTime t).snap = s.snap := rfl
@[simp] theorem atTime_stb (t : Nat) (s : State) : (s.atTime t).stb = s.stb := rfl
@[simp] theorem atTime_prot (t : Nat) (s : State) : (s.atTime t).prot = s.prot := rfl
@[simp] theorem atTime_acp (t : Nat) (s : State) : (s.atTime t).acp = s.acp := rfl
@[simp] theorem atTime_peers (t : Nat) (s : State) : (s.atTime t).peers = s.peers := rfl
@[simp] theorem atTime_lsh (t : Nat) (s : State) : (s.atTime t).lsh = s.lsh := rfl
@[simp] theorem atTime_swp (t : Nat) (s : State) : (s.atTime t).swp = s.swp := rfl
@[simp] theorem atTime_damp (t : Nat) (s : State) : (s.atTime t).damp = s.damp := rfl
@[simp] theorem atTime_gsp (t : Nat) (s : State) : (s.atTime t).gsp = s.gsp := rfl
@[simp] theorem atTime_fch (t : Nat) (s : State) : (s.atTime t).fch = s.fch := rfl
@[simp] theorem atTime_crb (t : Nat) (s : State) : (s.atTime t).crb = s.crb := rfl
@[simp] theorem atTime_idn (t : Nat) (s : State) : (s.atTime t).idn = s.idn := rfl
@[simp] theorem atTime_chw (t : Nat) (s : State) : (s.atTime t).chw = s.chw := rfl
@[simp] theorem atTime_pins (t : Nat) (s : State) : (s.atTime t).pins = s.pins := rfl

end Sys2Proof.Machine
end

