-- ==== Sys2Proof/Laws/Access.lean ====
section
/-! SUPPORT. Reading one loop, phase, port or slot after an update: the one updated reads as updated, every other as before. And what
reads the same at the time of a command. -/

namespace Sys2Proof.Machine

open Sys2Proof

@[simp] theorem loop_updLoop (s : State) (n : Fin 16) (f : LoopState → LoopState) : (s.updLoop n f).loop n = f (s.loop n) := by simp [State.loop, State.updLoop, State.setLoop]
theorem loop_updLoop_ne (s : State) (n m : Fin 16) (f : LoopState → LoopState) (h : n ≠ m) : (s.updLoop n f).loop m = s.loop m := by
  have h' : n.val ≠ m.val := fun e => h (Fin.ext e)
  simp [State.loop, State.updLoop, State.setLoop, h']
@[simp] theorem phase_updPhase (s : State) (n : Fin 64) (f : PhaseState → PhaseState) : (s.updPhase n f).phase n = (f (s.phase n)).settle s.now := by simp [State.phase, State.updPhase, State.setPhase]
theorem phase_updPhase_ne (s : State) (n m : Fin 64) (f : PhaseState → PhaseState) (h : n ≠ m) : (s.updPhase n f).phase m = s.phase m := by
  have h' : n.val ≠ m.val := fun e => h (Fin.ext e)
  simp [State.phase, State.updPhase, State.setPhase, h']
@[simp] theorem peer_updPeer (s : State) (n : Fin 8) (f : Peer → Peer) : (s.updPeer n f).peer n = f (s.peer n) := by simp [State.peer, State.updPeer, State.updPeers]
theorem peer_updPeer_ne (s : State) (n m : Fin 8) (f : Peer → Peer) (h : n ≠ m) : (s.updPeer n f).peer m = s.peer m := by
  have h' : n.val ≠ m.val := fun e => h (Fin.ext e)
  simp [State.peer, State.updPeer, State.updPeers, h']
@[simp] theorem tpl_updTpl (s : State) (n : Fin 4) (f : CrbTpl → CrbTpl) : (s.updTpl n f).tpl n = f (s.tpl n) := by simp [State.tpl, State.updTpl, State.updCrb]
theorem tpl_updTpl_ne (s : State) (n m : Fin 4) (f : CrbTpl → CrbTpl) (h : n ≠ m) : (s.updTpl n f).tpl m = s.tpl m := by
  have h' : n.val ≠ m.val := fun e => h (Fin.ext e)
  simp [State.tpl, State.updTpl, State.updCrb, h']
@[simp] theorem slot_updCrbSlot (s : State) (n : Fin 16) (f : CrbSlot → CrbSlot) : (s.updCrbSlot n f).slot n = f (s.slot n) := by simp [State.slot, State.updCrbSlot, State.updCrb]
theorem slot_updCrbSlot_ne (s : State) (n m : Fin 16) (f : CrbSlot → CrbSlot) (h : n ≠ m) : (s.updCrbSlot n f).slot m = s.slot m := by
  have h' : n.val ≠ m.val := fun e => h (Fin.ext e)
  simp [State.slot, State.updCrbSlot, State.updCrb, h']
@[simp] theorem loop_setLoop (s : State) (n : Fin 16) (l : LoopState) : (s.setLoop n l).loop n = l := by simp [State.loop, State.setLoop]
@[simp] theorem phase_setPhase (s : State) (m : Fin 64) (p : PhaseState) : (s.setPhase m p).phase m = p.settle s.now := by simp [State.phase, State.setPhase]
@[simp] theorem loop_updSense (s : State) (n : Fin 16) (f : LoopSense → LoopSense) : (s.updSense n f).loop n = { s.loop n with sense := f (s.loop n).sense } := by
  simp [State.updSense]
theorem loop_updSense_ne (s : State) (n m : Fin 16) (f : LoopSense → LoopSense) (h : n ≠ m) : (s.updSense n f).loop m = s.loop m := by
  simp [State.updSense, loop_updLoop_ne _ _ _ _ h]
@[simp] theorem loop_updEng (s : State) (n : Fin 16) (f : LoopEng → LoopEng) : (s.updEng n f).loop n = { s.loop n with eng := f (s.loop n).eng } := by
  simp [State.updEng]
theorem loop_updEng_ne (s : State) (n m : Fin 16) (f : LoopEng → LoopEng) (h : n ≠ m) : (s.updEng n f).loop m = s.loop m := by
  simp [State.updEng, loop_updLoop_ne _ _ _ _ h]
@[simp] theorem loop_updMod (s : State) (n : Fin 16) (f : LoopMod → LoopMod) : (s.updMod n f).loop n = { s.loop n with mod := f (s.loop n).mod } := by
  simp [State.updMod]
theorem loop_updMod_ne (s : State) (n m : Fin 16) (f : LoopMod → LoopMod) (h : n ≠ m) : (s.updMod n f).loop m = s.loop m := by
  simp [State.updMod, loop_updLoop_ne _ _ _ _ h]
@[simp] theorem loop_updSp (s : State) (n : Fin 16) (f : LoopSp → LoopSp) : (s.updSp n f).loop n = { s.loop n with sp := f (s.loop n).sp } := by
  simp [State.updSp]
theorem loop_updSp_ne (s : State) (n m : Fin 16) (f : LoopSp → LoopSp) (h : n ≠ m) : (s.updSp n f).loop m = s.loop m := by
  simp [State.updSp, loop_updLoop_ne _ _ _ _ h]
@[simp] theorem loop_updAcp (s : State) (n : Fin 16) (f : LoopAcp → LoopAcp) : (s.updAcp n f).loop n = { s.loop n with acp := f (s.loop n).acp } := by
  simp [State.updAcp]
theorem loop_updAcp_ne (s : State) (n m : Fin 16) (f : LoopAcp → LoopAcp) (h : n ≠ m) : (s.updAcp n f).loop m = s.loop m := by
  simp [State.updAcp, loop_updLoop_ne _ _ _ _ h]
@[simp] theorem loop_updLyr (s : State) (n : Fin 16) (f : LoopLyr → LoopLyr) : (s.updLyr n f).loop n = { s.loop n with lyr := f (s.loop n).lyr } := by
  simp [State.updLyr]
theorem loop_updLyr_ne (s : State) (n m : Fin 16) (f : LoopLyr → LoopLyr) (h : n ≠ m) : (s.updLyr n f).loop m = s.loop m := by
  simp [State.updLyr, loop_updLoop_ne _ _ _ _ h]
@[simp] theorem loop_updPrt (s : State) (n : Fin 16) (f : LoopPrt → LoopPrt) : (s.updPrt n f).loop n = { s.loop n with prt := f (s.loop n).prt } := by
  simp [State.updPrt]
theorem loop_updPrt_ne (s : State) (n m : Fin 16) (f : LoopPrt → LoopPrt) (h : n ≠ m) : (s.updPrt n f).loop m = s.loop m := by
  simp [State.updPrt, loop_updLoop_ne _ _ _ _ h]
@[simp] theorem loop_updPower (s : State) (f : Power → Power) (k : Fin 16) : (s.updPower f).loop k = s.loop k := rfl
@[simp] theorem phase_updPower (s : State) (f : Power → Power) (k : Fin 64) : (s.updPower f).phase k = s.phase k := rfl
@[simp] theorem loop_updWin (s : State) (f : Win → Win) (k : Fin 16) : (s.updWin f).loop k = s.loop k := rfl
@[simp] theorem phase_updWin (s : State) (f : Win → Win) (k : Fin 64) : (s.updWin f).phase k = s.phase k := rfl
@[simp] theorem loop_updLog (s : State) (f : EvtLog → EvtLog) (k : Fin 16) : (s.updLog f).loop k = s.loop k := rfl
@[simp] theorem phase_updLog (s : State) (f : EvtLog → EvtLog) (k : Fin 64) : (s.updLog f).phase k = s.phase k := rfl
@[simp] theorem loop_updPar (s : State) (f : Params → Params) (k : Fin 16) : (s.updPar f).loop k = s.loop k := rfl
@[simp] theorem phase_updPar (s : State) (f : Params → Params) (k : Fin 64) : (s.updPar f).phase k = s.phase k := rfl
@[simp] theorem loop_updNvm (s : State) (f : Nvm → Nvm) (k : Fin 16) : (s.updNvm f).loop k = s.loop k := rfl
@[simp] theorem phase_updNvm (s : State) (f : Nvm → Nvm) (k : Fin 64) : (s.updNvm f).phase k = s.phase k := rfl
@[simp] theorem loop_updSvc (s : State) (f : Svc → Svc) (k : Fin 16) : (s.updSvc f).loop k = s.loop k := rfl
@[simp] theorem phase_updSvc (s : State) (f : Svc → Svc) (k : Fin 64) : (s.updSvc f).phase k = s.phase k := rfl
@[simp] theorem loop_updCal (s : State) (f : Cal → Cal) (k : Fin 16) : (s.updCal f).loop k = s.loop k := rfl
@[simp] theorem phase_updCal (s : State) (f : Cal → Cal) (k : Fin 64) : (s.updCal f).phase k = s.phase k := rfl
@[simp] theorem loop_updPort (s : State) (p : Fin 8) (f : AcpPort → AcpPort) (k : Fin 16) : (s.updPort p f).loop k = s.loop k := rfl
@[simp] theorem phase_updPort (s : State) (p : Fin 8) (f : AcpPort → AcpPort) (k : Fin 64) : (s.updPort p f).phase k = s.phase k := rfl
@[simp] theorem loop_updPeers (s : State) (f : Peers → Peers) (k : Fin 16) : (s.updPeers f).loop k = s.loop k := rfl
@[simp] theorem phase_updPeers (s : State) (f : Peers → Peers) (k : Fin 64) : (s.updPeers f).phase k = s.phase k := rfl
@[simp] theorem loop_updPeer (s : State) (p : Fin 8) (f : Peer → Peer) (k : Fin 16) : (s.updPeer p f).loop k = s.loop k := rfl
@[simp] theorem phase_updPeer (s : State) (p : Fin 8) (f : Peer → Peer) (k : Fin 64) : (s.updPeer p f).phase k = s.phase k := rfl
@[simp] theorem loop_updTok (s : State) (f : Token → Token) (k : Fin 16) : (s.updTok f).loop k = s.loop k := rfl
@[simp] theorem phase_updTok (s : State) (f : Token → Token) (k : Fin 64) : (s.updTok f).phase k = s.phase k := rfl
@[simp] theorem loop_updLsh (s : State) (f : Lsh → Lsh) (k : Fin 16) : (s.updLsh f).loop k = s.loop k := rfl
@[simp] theorem phase_updLsh (s : State) (f : Lsh → Lsh) (k : Fin 64) : (s.updLsh f).phase k = s.phase k := rfl
@[simp] theorem loop_updSwp (s : State) (f : Swp → Swp) (k : Fin 16) : (s.updSwp f).loop k = s.loop k := rfl
@[simp] theorem phase_updSwp (s : State) (f : Swp → Swp) (k : Fin 64) : (s.updSwp f).phase k = s.phase k := rfl
@[simp] theorem loop_updDamp (s : State) (f : Damp → Damp) (k : Fin 16) : (s.updDamp f).loop k = s.loop k := rfl
@[simp] theorem phase_updDamp (s : State) (f : Damp → Damp) (k : Fin 64) : (s.updDamp f).phase k = s.phase k := rfl
@[simp] theorem loop_updGsp (s : State) (f : Gsp → Gsp) (k : Fin 16) : (s.updGsp f).loop k = s.loop k := rfl
@[simp] theorem phase_updGsp (s : State) (f : Gsp → Gsp) (k : Fin 64) : (s.updGsp f).phase k = s.phase k := rfl
@[simp] theorem loop_updFch (s : State) (f : Fch → Fch) (k : Fin 16) : (s.updFch f).loop k = s.loop k := rfl
@[simp] theorem phase_updFch (s : State) (f : Fch → Fch) (k : Fin 64) : (s.updFch f).phase k = s.phase k := rfl
@[simp] theorem loop_updEntry (s : State) (e : Fin 32) (f : FchEntry → FchEntry) (k : Fin 16) : (s.updEntry e f).loop k = s.loop k := rfl
@[simp] theorem phase_updEntry (s : State) (e : Fin 32) (f : FchEntry → FchEntry) (k : Fin 64) : (s.updEntry e f).phase k = s.phase k := rfl
@[simp] theorem loop_updCrb (s : State) (f : Crb → Crb) (k : Fin 16) : (s.updCrb f).loop k = s.loop k := rfl
@[simp] theorem phase_updCrb (s : State) (f : Crb → Crb) (k : Fin 64) : (s.updCrb f).phase k = s.phase k := rfl
@[simp] theorem loop_updTpl (s : State) (j : Fin 4) (f : CrbTpl → CrbTpl) (k : Fin 16) : (s.updTpl j f).loop k = s.loop k := rfl
@[simp] theorem phase_updTpl (s : State) (j : Fin 4) (f : CrbTpl → CrbTpl) (k : Fin 64) : (s.updTpl j f).phase k = s.phase k := rfl
@[simp] theorem loop_updCrbSlot (s : State) (i : Fin 16) (f : CrbSlot → CrbSlot) (k : Fin 16) : (s.updCrbSlot i f).loop k = s.loop k := rfl
@[simp] theorem phase_updCrbSlot (s : State) (i : Fin 16) (f : CrbSlot → CrbSlot) (k : Fin 64) : (s.updCrbSlot i f).phase k = s.phase k := rfl
@[simp] theorem loop_updIdn (s : State) (f : Idn → Idn) (k : Fin 16) : (s.updIdn f).loop k = s.loop k := rfl
@[simp] theorem phase_updIdn (s : State) (f : Idn → Idn) (k : Fin 64) : (s.updIdn f).phase k = s.phase k := rfl
@[simp] theorem loop_updChw (s : State) (f : Chw → Chw) (k : Fin 16) : (s.updChw f).loop k = s.loop k := rfl
@[simp] theorem phase_updChw (s : State) (f : Chw → Chw) (k : Fin 64) : (s.updChw f).phase k = s.phase k := rfl
@[simp] theorem loop_updPins (s : State) (f : Pins → Pins) (k : Fin 16) : (s.updPins f).loop k = s.loop k := rfl
@[simp] theorem phase_updPins (s : State) (f : Pins → Pins) (k : Fin 64) : (s.updPins f).phase k = s.phase k := rfl
@[simp] theorem loop_updLane (s : State) (n : Fin 16) (f : Lane → Lane) (k : Fin 16) : (s.updLane n f).loop k = s.loop k := rfl
@[simp] theorem phase_updLane (s : State) (n : Fin 16) (f : Lane → Lane) (k : Fin 64) : (s.updLane n f).phase k = s.phase k := rfl
@[simp] theorem loop_updSlot (s : State) (b : Bool) (f : ImgSlot → ImgSlot) (k : Fin 16) : (s.updSlot b f).loop k = s.loop k := rfl
@[simp] theorem phase_updSlot (s : State) (b : Bool) (f : ImgSlot → ImgSlot) (k : Fin 64) : (s.updSlot b f).phase k = s.phase k := rfl
@[simp] theorem loop_irq (s : State) (i : Nat) (k : Fin 16) : (s.irq i).loop k = s.loop k := rfl
@[simp] theorem phase_irq (s : State) (i : Nat) (k : Fin 64) : (s.irq i).phase k = s.phase k := rfl
@[simp] theorem phase_updLoop (s : State) (n : Fin 16) (f : LoopState → LoopState) (k : Fin 64) : (s.updLoop n f).phase k = s.phase k := rfl
@[simp] theorem phase_updSense (s : State) (n : Fin 16) (f : LoopSense → LoopSense) (k : Fin 64) : (s.updSense n f).phase k = s.phase k := rfl
@[simp] theorem phase_updEng (s : State) (n : Fin 16) (f : LoopEng → LoopEng) (k : Fin 64) : (s.updEng n f).phase k = s.phase k := rfl
@[simp] theorem phase_updMod (s : State) (n : Fin 16) (f : LoopMod → LoopMod) (k : Fin 64) : (s.updMod n f).phase k = s.phase k := rfl
@[simp] theorem phase_updSp (s : State) (n : Fin 16) (f : LoopSp → LoopSp) (k : Fin 64) : (s.updSp n f).phase k = s.phase k := rfl
@[simp] theorem phase_updAcp (s : State) (n : Fin 16) (f : LoopAcp → LoopAcp) (k : Fin 64) : (s.updAcp n f).phase k = s.phase k := rfl
@[simp] theorem phase_updLyr (s : State) (n : Fin 16) (f : LoopLyr → LoopLyr) (k : Fin 64) : (s.updLyr n f).phase k = s.phase k := rfl
@[simp] theorem phase_updPrt (s : State) (n : Fin 16) (f : LoopPrt → LoopPrt) (k : Fin 64) : (s.updPrt n f).phase k = s.phase k := rfl
@[simp] theorem loop_updPhase (s : State) (m : Fin 64) (f : PhaseState → PhaseState) (k : Fin 16) : (s.updPhase m f).loop k = s.loop k := rfl

/-! ### What the time of a command and its strobe leave -/

@[simp] theorem port_atTime (s : State) (t : Nat) (p : Fin 8) : (s.atTime t).port p = s.port p := rfl
@[simp] theorem acpW_atTime (s : State) (t : Nat) (p : Fin 8) (k : Nat) : (s.atTime t).acpW p k = s.acpW p k := rfl
@[simp] theorem acpOn_atTime (s : State) (t : Nat) (p : Fin 8) : (s.atTime t).acpOn p = s.acpOn p := rfl
@[simp] theorem portOf_atTime (s : State) (t : Nat) (n : Fin 16) : (s.atTime t).portOf n = s.portOf n := rfl
@[simp] theorem acpTarget_atTime (s : State) (t : Nat) (n : Fin 16) : (s.atTime t).acpTarget n = s.acpTarget n := rfl
@[simp] theorem atTarget_atTime (s : State) (t : Nat) (n : Fin 16) : (s.atTime t).atTarget n = s.atTarget n := rfl
@[simp] theorem chwW_atTime (s : State) (t : Nat) (i : Nat) : (s.atTime t).chwW i = s.chwW i := rfl
@[simp] theorem busy_atTime (s : State) (t : Nat) : (s.atTime t).busy = s.busy  := rfl
@[simp] theorem tpl_atTime (s : State) (t : Nat) (k : Fin 4) : (s.atTime t).tpl k = s.tpl k := rfl
@[simp] theorem slot_atTime (s : State) (t : Nat) (i : Fin 16) : (s.atTime t).slot i = s.slot i := rfl
@[simp] theorem tplPeriod_atTime (s : State) (t : Nat) (k : Fin 4) : (s.atTime t).tplPeriod k = s.tplPeriod k := rfl
@[simp] theorem laneOn_atTime (s : State) (t : Nat) (n : Fin 16) : (s.atTime t).laneOn n = s.laneOn n := rfl
@[simp] theorem checkNow_atTime (s : State) (t : Nat) (n : Fin 16) : (s.atTime t).checkNow n = s.checkNow n := rfl
@[simp] theorem stepping_atTime (s : State) (t : Nat) (n : Fin 16) : (s.atTime t).stepping n = s.stepping n := rfl
@[simp] theorem fchEn_atTime (s : State) (t : Nat) : (s.atTime t).fchEn = s.fchEn  := rfl
@[simp] theorem busFree_atTime (s : State) (t : Nat) : (s.atTime t).busFree = s.busFree  := rfl
@[simp] theorem rehearsing_atTime (s : State) (t : Nat) : (s.atTime t).rehearsing = s.rehearsing  := rfl
@[simp] theorem summarySigned_atTime (s : State) (t : Nat) : (s.atTime t).summarySigned = s.summarySigned  := rfl
@[simp] theorem mayRehearse_atTime (s : State) (t : Nat) : (s.atTime t).mayRehearse = s.mayRehearse  := rfl
@[simp] theorem tokenServed_atTime (s : State) (t : Nat) : (s.atTime t).tokenServed = s.tokenServed  := rfl
@[simp] theorem tokenIdle_atTime (s : State) (t : Nat) : (s.atTime t).tokenIdle = s.tokenIdle  := rfl
@[simp] theorem lyrCtl_atTime (s : State) (t : Nat) (n : Fin 16) : (s.atTime t).lyrCtl n = s.lyrCtl n := rfl
@[simp] theorem lyrOn_atTime (s : State) (t : Nat) (n : Fin 16) : (s.atTime t).lyrOn n = s.lyrOn n := rfl
@[simp] theorem lyrSrc_atTime (s : State) (t : Nat) (n : Fin 16) : (s.atTime t).lyrSrc n = s.lyrSrc n := rfl
@[simp] theorem lyrNom_atTime (s : State) (t : Nat) (n : Fin 16) : (s.atTime t).lyrNom n = s.lyrNom n := rfl
@[simp] theorem lyrWin_atTime (s : State) (t : Nat) (n : Fin 16) : (s.atTime t).lyrWin n = s.lyrWin n := rfl
@[simp] theorem lyrP_atTime (s : State) (t : Nat) (n : Fin 16) : (s.atTime t).lyrP n = s.lyrP n := rfl
@[simp] theorem chunkDue_atTime (s : State) (t : Nat) (n : Fin 16) : (s.atTime t).chunkDue n = s.chunkDue n := rfl
@[simp] theorem frameCount_atTime (s : State) (t : Nat) : (s.atTime t).frameCount = s.frameCount  := rfl
@[simp] theorem holdoff_atTime (s : State) (t : Nat) : (s.atTime t).holdoff = s.holdoff  := rfl
@[simp] theorem bitStart_atTime (s : State) (t : Nat) (b : Nat) : (s.atTime t).bitStart b = s.bitStart b := rfl
@[simp] theorem slotBit_atTime (s : State) (t : Nat) : (s.atTime t).slotBit = s.slotBit  := rfl
@[simp] theorem burstAt_atTime (s : State) (t : Nat) : (s.atTime t).burstAt = s.burstAt  := rfl
@[simp] theorem enabled_atTime (s : State) (t : Nat) (n : Fin 16) : (s.atTime t).enabled n = s.enabled n := rfl
@[simp] theorem runEnabled_atTime (s : State) (t : Nat) (n : Fin 16) : (s.atTime t).runEnabled n = s.runEnabled n := rfl
@[simp] theorem isHeel_atTime (s : State) (t : Nat) (n : Fin 16) : (s.atTime t).isHeel n = s.isHeel n := rfl
@[simp] theorem follows_atTime (s : State) (t : Nat) (n : Fin 16) : (s.atTime t).follows n = s.follows n := rfl
@[simp] theorem psEnHigh_atTime (s : State) (t : Nat) (n : Fin 16) : (s.atTime t).psEnHigh n = s.psEnHigh n := rfl
@[simp] theorem setptLoops_atTime (s : State) (t : Nat) (k : Fin 4) : (s.atTime t).setptLoops k = s.setptLoops k := rfl
@[simp] theorem frameDue_atTime (s : State) (t : Nat) : (s.atTime t).frameDue = s.frameDue  := rfl
@[simp] theorem nvmOpen_atTime (s : State) (t : Nat) : (s.atTime t).nvmOpen = s.nvmOpen  := rfl
@[simp] theorem mtpIdle_atTime (s : State) (t : Nat) : (s.atTime t).mtpIdle = s.mtpIdle  := rfl
@[simp] theorem window_atTime (s : State) (t : Nat) : (s.atTime t).window = s.window  := rfl
@[simp] theorem busAnswers_atTime (s : State) (t : Nat) : (s.atTime t).busAnswers = s.busAnswers  := rfl
@[simp] theorem lp_atTime (s : State) (t : Nat) (n : Fin 16) (i : Nat) : (s.atTime t).lp n i = s.lp n i := rfl
@[simp] theorem pg_atTime (s : State) (t : Nat) (p i : Nat) : (s.atTime t).pg p i = s.pg p i := rfl
@[simp] theorem ph_atTime (s : State) (t : Nat) (n : Fin 16) (m : Fin 64) (k : Nat) : (s.atTime t).ph n m k = s.ph n m k := rfl
@[simp] theorem loop_atTime (s : State) (t : Nat) (n : Fin 16) : (s.atTime t).loop n = s.loop n := rfl
@[simp] theorem st_atTime (s : State) (t : Nat) (n : Fin 16) : (s.atTime t).st n = s.st n := rfl
@[simp] theorem loopOf_atTime (s : State) (t : Nat) (m : Fin 64) : (s.atTime t).loopOf m = s.loopOf m := rfl
@[simp] theorem selfBias_atTime (s : State) (t : Nat) : (s.atTime t).selfBias = s.selfBias  := rfl
@[simp] theorem kennel15_atTime (s : State) (t : Nat) (n : Fin 16) : (s.atTime t).kennel15 n = s.kennel15 n := rfl
@[simp] theorem up_atTime (s : State) (t : Nat) : (s.atTime t).up = s.up  := rfl
@[simp] theorem acpBound_atTime (s : State) (t : Nat) (n : Fin 16) : (s.atTime t).acpBound n = s.acpBound n := rfl
@[simp] theorem blankTime_atTime (s : State) (t : Nat) (n : Fin 16) (m : Fin 64) : (s.atTime t).blankTime n m = s.blankTime n m := rfl
@[simp] theorem zeroCross_atTime (s : State) (t : Nat) (n : Fin 16) (m : Fin 64) : (s.atTime t).zeroCross n m = s.zeroCross n m := rfl
@[simp] theorem swLoop_atTime (s : State) (t : Nat) (m : Fin 64) : (s.atTime t).swLoop m = s.swLoop m := rfl
@[simp] theorem faultSelected_atTime (s : State) (t : Nat) : (s.atTime t).faultSelected = s.faultSelected  := rfl
@[simp] theorem pos_atTime (s : State) (t : Nat) : (s.atTime t).pos = s.pos  := rfl
@[simp] theorem framePeriod_atTime (s : State) (t : Nat) : (s.atTime t).framePeriod = s.framePeriod  := rfl
@[simp] theorem peer_atTime (s : State) (t : Nat) (p : Fin 8) : (s.atTime t).peer p = s.peer p := rfl
@[simp] theorem own_atTime (s : State) (t : Nat) : (s.atTime t).own = s.own  := rfl
@[simp] theorem linked_atTime (s : State) (t : Nat) : (s.atTime t).linked = s.linked  := rfl
@[simp] theorem synced_atTime (s : State) (t : Nat) : (s.atTime t).synced = s.synced  := rfl
@[simp] theorem acqCount_atTime (s : State) (t : Nat) (n : Fin 16) : (s.atTime t).acqCount n = s.acqCount n := rfl
@[simp] theorem booted_atTime (s : State) (t : Nat) : (s.atTime t).booted = s.booted  := rfl
@[simp] theorem chalQueued_atTime (s : State) (t : Nat) (p : Fin 8) : (s.atTime t).chalQueued p = s.chalQueued p := rfl
@[simp] theorem planDigest_atTime (s : State) (t : Nat) : (s.atTime t).planDigest = s.planDigest  := rfl
@[simp] theorem handlerOpen_atTime (s : State) (t : Nat) (id : Byte) : (s.atTime t).handlerOpen id = s.handlerOpen id := rfl
@[simp] theorem idnOk_atTime (s : State) (t : Nat) : (s.atTime t).idnOk = s.idnOk  := rfl
@[simp] theorem svcRuns_atTime (s : State) (t : Nat) : (s.atTime t).svcRuns = s.svcRuns  := rfl
@[simp] theorem urgentGap_atTime (s : State) (t : Nat) : (s.atTime t).urgentGap = s.urgentGap  := rfl
@[simp] theorem svcEntry_atTime (s : State) (t : Nat) (e : Nat) : (s.atTime t).svcEntry e = s.svcEntry e := rfl
@[simp] theorem urgentOf_atTime (s : State) (t : Nat) (src : UrgSrc) : (s.atTime t).urgentOf src = s.urgentOf src := rfl
@[simp] theorem swpNcyc_atTime (s : State) (t : Nat) : (s.atTime t).swpNcyc = s.swpNcyc  := rfl
@[simp] theorem swpSettle_atTime (s : State) (t : Nat) : (s.atTime t).swpSettle = s.swpSettle  := rfl
@[simp] theorem sweeping_atTime (s : State) (t : Nat) : (s.atTime t).sweeping = s.sweeping  := rfl
@[simp] theorem swpSteps_atTime (s : State) (t : Nat) : (s.atTime t).swpSteps = s.swpSteps  := rfl
@[simp] theorem sweepTime_atTime (s : State) (t : Nat) (at_ : Nat) : (s.atTime t).sweepTime at_ = s.sweepTime at_ := rfl
@[simp] theorem stepTime_atTime (s : State) (t : Nat) (at_ : Nat) : (s.atTime t).stepTime at_ = s.stepTime at_ := rfl
@[simp] theorem periods_atTime (s : State) (t : Nat) (k : Nat) : (s.atTime t).periods k = s.periods k := rfl
@[simp] theorem swpM_atTime (s : State) (t : Nat) : (s.atTime t).swpM = s.swpM  := rfl
@[simp] theorem leadMask_atTime (s : State) (t : Nat) : (s.atTime t).leadMask = s.leadMask  := rfl
@[simp] theorem sweepDue_atTime (s : State) (t : Nat) : (s.atTime t).sweepDue = s.sweepDue  := rfl
@[simp] theorem nextStep_atTime (s : State) (t : Nat) : (s.atTime t).nextStep = s.nextStep  := rfl
@[simp] theorem syncPeriod_atTime (s : State) (t : Nat) : (s.atTime t).syncPeriod = s.syncPeriod  := rfl
@[simp] theorem vinArmed_atTime (s : State) (t : Nat) (n : Fin 16) : (s.atTime t).vinArmed n = s.vinArmed n := rfl
@[simp] theorem otLimit_atTime (s : State) (t : Nat) (k : Fin 6) : (s.atTime t).otLimit k = s.otLimit k := rfl
@[simp] theorem otLow_atTime (s : State) (t : Nat) (k : Fin 6) : (s.atTime t).otLow k = s.otLow k := rfl
@[simp] theorem wdogEn_atTime (s : State) (t : Nat) : (s.atTime t).wdogEn = s.wdogEn  := rfl

@[simp] theorem atStrobe_now (t : Nat) (s : State) : (s.atStrobe t).now = max s.now t := rfl
@[simp] theorem atStrobe_freeCount (t : Nat) (s : State) : (s.atStrobe t).freeCount = s.freeCount := rfl
@[simp] theorem atStrobe_pending (t : Nat) (s : State) : (s.atStrobe t).pending = s.pending := rfl
@[simp] theorem atStrobe_power (t : Nat) (s : State) : (s.atStrobe t).power = s.power := rfl
@[simp] theorem atStrobe_win (t : Nat) (s : State) : (s.atStrobe t).win = { s.win with kicked := false } := rfl
@[simp] theorem atStrobe_log (t : Nat) (s : State) : (s.atStrobe t).log = s.log := rfl
@[simp] theorem atStrobe_par (t : Nat) (s : State) : (s.atStrobe t).par = s.par := rfl
@[simp] theorem atStrobe_nvm (t : Nat) (s : State) : (s.atStrobe t).nvm = s.nvm := rfl
@[simp] theorem atStrobe_loops (t : Nat) (s : State) : (s.atStrobe t).loops = s.loops := rfl
@[simp] theorem atStrobe_phases (t : Nat) (s : State) : (s.atStrobe t).phases = s.phases := rfl
@[simp] theorem atStrobe_vsc (t : Nat) (s : State) : (s.atStrobe t).vsc = s.vsc := rfl
@[simp] theorem atStrobe_isc (t : Nat) (s : State) : (s.atStrobe t).isc = s.isc := rfl
@[simp] theorem atStrobe_lanes (t : Nat) (s : State) : (s.atStrobe t).lanes = s.lanes := rfl
@[simp] theorem atStrobe_grid (t : Nat) (s : State) : (s.atStrobe t).grid = s.grid := rfl
@[simp] theorem atStrobe_svc (t : Nat) (s : State) : (s.atStrobe t).svc = s.svc := rfl
@[simp] theorem atStrobe_snap (t : Nat) (s : State) : (s.atStrobe t).snap = s.snap := rfl
@[simp] theorem atStrobe_stb (t : Nat) (s : State) : (s.atStrobe t).stb = s.stb := rfl
@[simp] theorem atStrobe_prot (t : Nat) (s : State) : (s.atStrobe t).prot = s.prot := rfl
@[simp] theorem atStrobe_acp (t : Nat) (s : State) : (s.atStrobe t).acp = s.acp := rfl
@[simp] theorem atStrobe_peers (t : Nat) (s : State) : (s.atStrobe t).peers = s.peers := rfl
@[simp] theorem atStrobe_lsh (t : Nat) (s : State) : (s.atStrobe t).lsh = s.lsh := rfl
@[simp] theorem atStrobe_swp (t : Nat) (s : State) : (s.atStrobe t).swp = s.swp := rfl
@[simp] theorem atStrobe_damp (t : Nat) (s : State) : (s.atStrobe t).damp = s.damp := rfl
@[simp] theorem atStrobe_gsp (t : Nat) (s : State) : (s.atStrobe t).gsp = s.gsp := rfl
@[simp] theorem atStrobe_fch (t : Nat) (s : State) : (s.atStrobe t).fch = s.fch := rfl
@[simp] theorem atStrobe_crb (t : Nat) (s : State) : (s.atStrobe t).crb = s.crb := rfl
@[simp] theorem atStrobe_idn (t : Nat) (s : State) : (s.atStrobe t).idn = s.idn := rfl
@[simp] theorem atStrobe_chw (t : Nat) (s : State) : (s.atStrobe t).chw = s.chw := rfl
@[simp] theorem atStrobe_pins (t : Nat) (s : State) : (s.atStrobe t).pins = s.pins := rfl
@[simp] theorem tpl_atStrobe (s : State) (t : Nat) (k : Fin 4) : (s.atStrobe t).tpl k = s.tpl k := rfl
@[simp] theorem slot_atStrobe (s : State) (t : Nat) (i : Fin 16) : (s.atStrobe t).slot i = s.slot i := rfl
@[simp] theorem window_atStrobe (s : State) (t : Nat) : (s.atStrobe t).window  = s.window  := rfl
@[simp] theorem busAnswers_atStrobe (s : State) (t : Nat) : (s.atStrobe t).busAnswers  = s.busAnswers  := rfl
@[simp] theorem lp_atStrobe (s : State) (t : Nat) (n : Fin 16) (i : Nat) : (s.atStrobe t).lp n i = s.lp n i := rfl
@[simp] theorem pg_atStrobe (s : State) (t : Nat) (p i : Nat) : (s.atStrobe t).pg p i = s.pg p i := rfl
@[simp] theorem ph_atStrobe (s : State) (t : Nat) (n : Fin 16) (m : Fin 64) (k : Nat) : (s.atStrobe t).ph n m k = s.ph n m k := rfl
@[simp] theorem loop_atStrobe (s : State) (t : Nat) (n : Fin 16) : (s.atStrobe t).loop n = s.loop n := rfl
@[simp] theorem st_atStrobe (s : State) (t : Nat) (n : Fin 16) : (s.atStrobe t).st n = s.st n := rfl
@[simp] theorem up_atStrobe (s : State) (t : Nat) : (s.atStrobe t).up  = s.up  := rfl
@[simp] theorem peer_atStrobe (s : State) (t : Nat) (p : Fin 8) : (s.atStrobe t).peer p = s.peer p := rfl

end Sys2Proof.Machine
end

