-- ==== Sys2Proof/Laws/Frame.lean ====
section
/-! SUPPORT. From a frame to one field: where two states agree under a mask that leaves a part, they agree on its fields. With the
`f_mask` lemma of an operation this says which fields the operation leaves. -/

namespace Sys2Proof.Machine

open Sys2Proof

/-- The mask that leaves one part. -/
def Part.but (a p : Part) : Bool := decide (p ≠ a)
/-- The mask that leaves the parts of the power state. -/
def Part.butPower (p : Part) : Bool := decide (p ≠ .g ∧ p ≠ .bootCnt ∧ p ≠ .power)
/-- The mask that leaves the parts of the window. -/
def Part.butWin (p : Part) : Bool := decide (p ≠ .irq ∧ p ≠ .win)
/-- The mask that leaves the parts of the parameters. -/
def Part.butPar (p : Part) : Bool := decide (p ≠ .proof ∧ p ≠ .inUse ∧ p ≠ .par)

theorem log_of_mask {s s' : State} (h : s.mask (Part.but .log) = s'.mask (Part.but .log)) : s.log = s'.log := by
  have e := congrArg State.log h; exact e
theorem nvm_of_mask {s s' : State} (h : s.mask (Part.but .nvm) = s'.mask (Part.but .nvm)) : s.nvm = s'.nvm := by
  have e := congrArg State.nvm h; exact e
theorem loops_of_mask {s s' : State} (h : s.mask (Part.but .loops) = s'.mask (Part.but .loops)) : s.loops = s'.loops := by
  have e := congrArg State.loops h; exact e
theorem phases_of_mask {s s' : State} (h : s.mask (Part.but .phases) = s'.mask (Part.but .phases)) : s.phases = s'.phases := by
  have e := congrArg State.phases h; exact e
theorem lanes_of_mask {s s' : State} (h : s.mask (Part.but .lanes) = s'.mask (Part.but .lanes)) : s.lanes = s'.lanes := by
  have e := congrArg State.lanes h; exact e
theorem svc_of_mask {s s' : State} (h : s.mask (Part.but .svc) = s'.mask (Part.but .svc)) : s.svc = s'.svc := by
  have e := congrArg State.svc h; exact e
theorem snap_of_mask {s s' : State} (h : s.mask (Part.but .snap) = s'.mask (Part.but .snap)) : s.snap = s'.snap := by
  have e := congrArg State.snap h; exact e
theorem stb_of_mask {s s' : State} (h : s.mask (Part.but .stb) = s'.mask (Part.but .stb)) : s.stb = s'.stb := by
  have e := congrArg State.stb h; exact e
theorem prot_of_mask {s s' : State} (h : s.mask (Part.but .prot) = s'.mask (Part.but .prot)) : s.prot = s'.prot := by
  have e := congrArg State.prot h; exact e
theorem acp_of_mask {s s' : State} (h : s.mask (Part.but .acp) = s'.mask (Part.but .acp)) : s.acp = s'.acp := by
  have e := congrArg State.acp h; exact e
theorem peers_of_mask {s s' : State} (h : s.mask (Part.but .peers) = s'.mask (Part.but .peers)) : s.peers = s'.peers := by
  have e := congrArg State.peers h; exact e
theorem lsh_of_mask {s s' : State} (h : s.mask (Part.but .lsh) = s'.mask (Part.but .lsh)) : s.lsh = s'.lsh := by
  have e := congrArg State.lsh h; exact e
theorem swp_of_mask {s s' : State} (h : s.mask (Part.but .swp) = s'.mask (Part.but .swp)) : s.swp = s'.swp := by
  have e := congrArg State.swp h; exact e
theorem damp_of_mask {s s' : State} (h : s.mask (Part.but .damp) = s'.mask (Part.but .damp)) : s.damp = s'.damp := by
  have e := congrArg State.damp h; exact e
theorem gsp_of_mask {s s' : State} (h : s.mask (Part.but .gsp) = s'.mask (Part.but .gsp)) : s.gsp = s'.gsp := by
  have e := congrArg State.gsp h; exact e
theorem fch_of_mask {s s' : State} (h : s.mask (Part.but .fch) = s'.mask (Part.but .fch)) : s.fch = s'.fch := by
  have e := congrArg State.fch h; exact e
theorem chw_of_mask {s s' : State} (h : s.mask (Part.but .chw) = s'.mask (Part.but .chw)) : s.chw = s'.chw := by
  have e := congrArg State.chw h; exact e
theorem pins_of_mask {s s' : State} (h : s.mask (Part.but .pins) = s'.mask (Part.but .pins)) : s.pins = s'.pins := by
  have e := congrArg State.pins h; exact e
theorem now_of_mask {s s' : State} (h : s.mask (fun _ => true) = s'.mask (fun _ => true)) : s.now = s'.now := by
  have e := congrArg State.now h; exact e
theorem pending_of_mask {s s' : State} (h : s.mask (fun _ => true) = s'.mask (fun _ => true)) : s.pending = s'.pending := by
  have e := congrArg State.pending h; exact e
theorem free_of_mask {s s' : State} (h : s.mask (Part.but .free) = s'.mask (Part.but .free)) : s.freeCount = s'.freeCount := by
  have e := congrArg State.freeCount h; exact e
theorem grid_of_mask {s s' : State} (h : s.mask (Part.but .grid) = s'.mask (Part.but .grid)) : s.grid = s'.grid := by
  have e := congrArg State.grid h; exact e
theorem vsc_of_mask {s s' : State} (h : s.mask (Part.but .conv) = s'.mask (Part.but .conv)) : s.vsc = s'.vsc := by
  have e := congrArg State.vsc h; exact e
theorem isc_of_mask {s s' : State} (h : s.mask (Part.but .conv) = s'.mask (Part.but .conv)) : s.isc = s'.isc := by
  have e := congrArg State.isc h; exact e
theorem power_of_mask {s s' : State} (h : s.mask Part.butPower = s'.mask Part.butPower) : s.power = s'.power := by
  have e := congrArg State.power h; exact e
theorem g_of_mask {s s' : State} (h : s.mask (Part.but .g) = s'.mask (Part.but .g)) : s.power.g = s'.power.g := by
  have e := congrArg (fun x : State => x.power.g) h; exact e
theorem bootCnt_of_mask {s s' : State} (h : s.mask (Part.but .bootCnt) = s'.mask (Part.but .bootCnt)) : s.power.bootCnt = s'.power.bootCnt := by
  have e := congrArg (fun x : State => x.power.bootCnt) h; exact e
theorem irq_of_mask {s s' : State} (h : s.mask (Part.but .irq) = s'.mask (Part.but .irq)) : s.win.irq = s'.win.irq := by
  have e := congrArg (fun x : State => x.win.irq) h; exact e
theorem win_of_mask {s s' : State} (h : s.mask Part.butWin = s'.mask Part.butWin) : s.win = s'.win := by
  have e := congrArg State.win h; exact e
theorem par_of_mask {s s' : State} (h : s.mask Part.butPar = s'.mask Part.butPar) : s.par = s'.par := by
  have e := congrArg State.par h; exact e
theorem proof_of_mask {s s' : State} (h : s.mask (Part.but .proof) = s'.mask (Part.but .proof)) : s.par.proof = s'.par.proof := by
  have e := congrArg (fun x : State => x.par.proof) h; exact e
theorem inUse_of_mask {s s' : State} (h : s.mask (Part.but .inUse) = s'.mask (Part.but .inUse)) : s.par.inUse = s'.par.inUse := by
  have e := congrArg (fun x : State => x.par.inUse) h; exact e
/-- The fields of the power state but the global state and the boot counter. -/
theorem supply_of_mask {s s' : State} (h : s.mask (Part.but .power) = s'.mask (Part.but .power)) :
    { s.power with g := .unpowered, bootCnt := 0 } = { s'.power with g := .unpowered, bootCnt := 0 } := by
  have e := congrArg (fun x : State => { x.power with g := .unpowered, bootCnt := 0 }) h; exact e

/-- The fields of the window but W_IRQ. -/
theorem ports_of_mask {s s' : State} (h : s.mask (Part.but .win) = s'.mask (Part.but .win)) :
    { s.win with irq := 0 } = { s'.win with irq := 0 } := by
  have e := congrArg (fun x : State => { x.win with irq := 0 }) h; exact e

/-- One loop. -/
theorem loop_of_mask {s s' : State} (h : s.mask (Part.but .loops) = s'.mask (Part.but .loops)) (n : Fin 16) :
    s.loop n = s'.loop n := congrArg (fun v : Vector LoopState 16 => v[n]) (loops_of_mask h)

/-- One phase. -/
theorem phase_of_mask {s s' : State} (h : s.mask (Part.but .phases) = s'.mask (Part.but .phases)) (m : Fin 64) :
    s.phase m = s'.phase m := by
  have e := congrArg (fun x : State => x.phase m) h; exact e

/-- The state of one loop. -/
theorem st_of_mask {s s' : State} (h : s.mask (Part.but .loops) = s'.mask (Part.but .loops)) (n : Fin 16) :
    s.st n = s'.st n := congrArg (fun l : LoopState => l.sp.st) (loop_of_mask h n)

end Sys2Proof.Machine
end

