-- ==== Sys2Proof/Tests/Slice0.lean ====
section
/-! SUPPORT. Small tests of the model, and for every statement with hypotheses a state and operands that meet them. Expected values
are read from the rules that the comments name. -/

set_option linter.all false
set_option maxRecDepth 4000
set_option Elab.async false

namespace Sys2Proof.Tests

open Sys2Proof Sys2Proof.Machine

/-! ### Every check of WellFormed refuses an ill-formed command and lets a well-formed one pass -/

theorem test_codes_refused : (Instr.acquisitionEnd 0 0 [1, 2, 3] none).codesOk = false := by decide
theorem test_codes_accepted : (Instr.acquisitionEnd 0 0 [1, 2] none).wellFormed = true := by decide
theorem test_readings_refused : (Instr.svcVisitEnd 0 [65536] false).readingsOk = false := by decide
theorem test_no_readings_refused : (Instr.svcVisitEnd 0 [] false).readingsOk = false := by decide
theorem test_urgent_reading_refused : (Instr.urgentDone 0 65536 false).readingsOk = false := by decide
theorem test_setpt_refused : (Instr.setptUpdate 0 0 false [(4096, 4095)]).setptOk = false := by decide
theorem test_unit_refused : (Instr.commitApply 0 true 16).unitOk = false := by decide
theorem test_attempt_refused : (Instr.recoveryAttempt 0 (Config.us 1101) true true).attemptOk = false := by decide
theorem test_vhv_refused : (Instr.vhvRiseOvlo 0 100001).vhvOk = false := by decide
theorem test_type_refused : (Instr.reservedTypeMessage 0 0 3 0 0).typeOk = false := by decide

/-! ### States for the witnesses -/

/-- A device in READY with every supply valid. -/
def wUp : State := State.reset.updPower fun p => { p with g := .ready, vaux := true, pll := true, vhvOn := true, kv := some 0, vauxLost := false }
/-- The same device in BOOT. -/
def wBoot : State := wUp.updPower fun p => { p with g := .boot }
/-- A device in its reset state. -/
def wRst : State := wUp.updPower fun p => { p with g := .reset }
/-- A device in KENNEL, VHV on. -/
def wKen : State := State.reset.updPower fun p => { p with g := .kennel, vhvOn := true, kv := some 1 }
/-- The words of an image without records. -/
def wImage : List W16 := [0x5946, 0x4352, 0x0001, 0x0000, 0x0040, 0x0000, 0x0001, 0x0000, 0x0000, 0x6416, 0x0000, 0x0000, 0x0000, 0x0000, 0x0000, 0x0000, 0x6A31, 0xF5EC, 0x2A89, 0x33D4, 0x71C0, 0xD629, 0x464A, 0x6E76, 0xC1D2, 0x2BEF, 0x5310, 0x8CD0, 0x95BC, 0x10C1, 0xDF47, 0xFB4D]
/-- A device in READY with PH0 mapped to LP0. -/
def wMap : State := { wUp with par := { wUp.par with inUse := [(0x101E, 0x0040), (0x2000, 0x0010)] } }
/-- The same device with LP0 in a state that runs, PH0 switching. -/
def wRun (st : LoopSt) : State :=
  ((wMap.updSp 0 fun p => { p with st := st }).updMod 0 fun m => { m with sw := [0], fc := 500 }).settleRun
/-- A device in RUN whose LP0 regulates and is bound to port 0 at address 0. -/
def wAcp : State :=
  let s : State := { wRun .regulate with
    par := { wMap.par with inUse := [(0x1003, 1), (0x101E, 0x0040), (0x102B, 1), (0x2000, 0x0010), (0x2800, 0x001F)] } }
  s.updPort 0 fun x => { x with link := .up }
/-- A valid ACP request of an opcode and a payload to address 0. -/
def wReq (op v : Nat) : W32 :=
  let f : W32 := BitVec.ofNat 32 (op * 2 ^ 25 + v * 256)
  f + BitVec.ofNat 32 (acpCrc f).toNat
/-- A device in READY with one over-temperature entry set. -/
def wOt (c : Bool) (v : W16) : State :=
  let e : OtEntry := { cond := c, last := some v }
  { wUp with prot := { wUp.prot with ot := wUp.prot.ot.set 0 e } }
/-- A device in READY whose Leash link is in a state. -/
def wLsh (l : LshLink) : State := { wUp with lsh := { wUp.lsh with link := l } }
/-- The same, taking part in sweeps. -/
def wSwp : State :=
  { wLsh .follow with par := { wUp.par with inUse := [(0x3200, 0x0001)] } }
/-- A device in READY with the Fetch port up and its first entry enabled. -/
def wFch : State :=
  { wUp with
    par := { wUp.par with inUse := [(0x3401, 1), (0x3460, 1)] }
    fch := { wUp.fch with port := .up } }
/-- The same with a poll of the first entry under way. -/
def wPoll : State :=
  { wFch.updEntry 0 (fun x => { x with st := .none }) with fch := { (wFch.updEntry 0 fun x => { x with st := .none }).fch with cur := some 0 } }
/-- A sealed capture without samples. -/
def wCap : CrbCap := { tpl := 0, mode := 0, q := 0, lock := false, first := 0, count := 1, preAct := 0, extra := [], samples := [] }
/-- The bytes of a point of P-256. -/
def wKey : List Byte := [107, 23, 209, 242, 225, 44, 66, 71, 248, 188, 230, 229, 99, 164, 64, 242, 119, 3, 125, 129, 45, 235, 51, 160, 244, 161, 57, 69, 216, 152, 194, 150, 79, 227, 66, 226, 254, 26, 127, 155, 142, 231, 235, 74, 124, 15, 158, 22, 43, 206, 51, 87, 107, 49, 94, 206, 203, 182, 64, 104, 55, 191, 81, 245]
/-- A device in READY with the Chew page unlocked, armed or not. -/
def wChew (armed : Bool) : State :=
  { wUp with
    par := { wUp.par with inUse := [(0x3B00, 1), (0x3B02, 9)] }
    idn := { wUp.idn with unlock := some { ranges := [(0x3B00, 0x3BFF)], life := 0, from_ := 0 } }
    chw := { wUp.chw with armed := armed } }

/-! ### The hypotheses of every statement are met -/

theorem witness_EmptyQueueIdles : State.reset.pending = [] := by decide
theorem witness_RatingsStop : (100000 < 100001) ∧ (Instr.pllLock 0).wellFormed = true := by decide
theorem witness_CanonicalFormKept : ∃ u, step { wUp with pending := [.killNFall 5] } = .next u ∧ ({ wUp with pending := [.killNFall 5] } : State).canonical = true ∧ u.power.g = .killed := ⟨_, rfl, by decide +kernel, by decide +kernel⟩
theorem witness_CommandFrame : ∃ u, exec (.killNFall 5) wUp = .next u ∧ u.power.g = .killed := ⟨_, rfl, by decide +kernel⟩
theorem witness_TimeAndCounters : ∃ u, exec (.killNFall 5) wUp = .next u ∧ u.now = 5 := ⟨_, rfl, by decide +kernel⟩
theorem witness_TimeAndCounters_2 : ∃ u, exec (.bootCounterIncrement 0) (wBoot.updPower fun p => { p with cntPend := true }) = .next u ∧ u.power.bootCnt = 1 := ⟨_, rfl, by decide +kernel⟩
theorem witness_StoresFrame : ∃ u, exec (.refWarm 5) wUp = .next u ∧ ∀ p ∈ [Part.sram, .proof, .inUse, .loops, .phases, .acp, .log], p ∉ partsOf (.refWarm 5) := ⟨_, rfl, by decide +kernel⟩
theorem witness_ValuesInUseCross : ∃ u, exec (.bootCounterIncrement 0) (wBoot.updPower fun p => { p with cntPend := true }) = .next u ∧ u.power.bootCnt ≠ wBoot.power.bootCnt := ⟨_, rfl, by decide +kernel⟩
theorem witness_TokenCounterLimit : (∃ u, exec (.killNFall 5) wUp = .next u ∧ wUp.idn.tokCnt < 2 ^ 32) ∧ ({ wUp with idn := { wUp.idn with tokCnt := 0xFFFFFFFF } } : State).idn.tokCnt = 0xFFFFFFFF := ⟨⟨_, rfl, by decide +kernel⟩, by decide +kernel⟩
theorem witness_InterruptFlagsStay : ∃ u, exec (.killNFall 5) (wUp.updWin fun w => { w with irq := 4 }) = .next u ∧ u.power.vaux = true ∧ u.power.g ≠ .reset ∧ bitAt (wUp.updWin fun w => { w with irq := 4 }).win.irq 2 = true ∧ wUp.window = true := ⟨_, rfl, by decide +kernel⟩
theorem witness_KilledStays : ∃ u, exec (.resetNRelease 5) (wUp.updPower fun p => { p with g := .killed }) = .next u ∧ (wUp.updPower fun p => { p with g := .killed }).power.g = .killed ∧ u.power.g = .killed := ⟨_, rfl, by decide +kernel⟩
theorem witness_LoopsApart : ∃ u, exec (.hiccupCountClear 5 3) wUp = .next u ∧ loopOf (.hiccupCountClear 5 3) = some 3 := ⟨_, rfl, rfl⟩
theorem witness_SamplesApart : (∃ u, exec (.sampleBoundary 512000 0) wUp = .next u) ∧ (∃ u, exec (.acquisitionEnd 512000 0 [] none) wUp = .next u) ∧ (1 : Fin 16) ≠ 0 := ⟨⟨_, rfl⟩, ⟨_, rfl⟩, by decide⟩
theorem witness_PhasesAndPortsApart : ∃ u, exec (.ocpTrip 5 3) wUp = .next u ∧ phaseOf (.ocpTrip 5 3) = some 3 := ⟨_, rfl, rfl⟩
theorem witness_PhasesAndPortsApart_2 : ∃ u, exec (.dioLowClear 5 3) wUp = .next u ∧ portOf (.dioLowClear 5 3) = some 3 := ⟨_, rfl, rfl⟩
theorem witness_SramFrame : ∃ u, exec (.killNFall 5) wUp = .next u ∧ wUp.canonical = true ∧ placesBytes (.killNFall 5) = false := ⟨_, rfl, by decide +kernel⟩
theorem witness_LogBytes : ({ wUp with log := { wUp.log with queue := [({ w0 := 0x1234 }, 0)] } } : State).canonical = true ∧ ({ wUp with log := { wUp.log with queue := [({ w0 := 0x1234 }, 0)] } } : State).up = true ∧ ({ wUp with log := { wUp.log with queue := [({ w0 := 0x1234 }, 0)] } } : State).log.queue = ({ w0 := 0x1234 }, 0) :: [] := by decide +kernel
theorem witness_RecordBytes : (wUp.updCrbSlot 3 fun x => { x with st := .seal, comp := false, cap := some wCap }).canonical = true ∧ (wUp.updCrbSlot 3 fun x => { x with st := .seal, comp := false, cap := some wCap }).up = true ∧ ((wUp.updCrbSlot 3 fun x => { x with st := .seal, comp := false, cap := some wCap }).slot 3).st = .seal ∧ ((wUp.updCrbSlot 3 fun x => { x with st := .seal, comp := false, cap := some wCap }).slot 3).comp = false ∧ ((wUp.updCrbSlot 3 fun x => { x with st := .seal, comp := false, cap := some wCap }).slot 3).cap = some wCap := by decide +kernel
theorem witness_PowerEntryCommands_0 : ((State.reset : State).power.vhvOn = false) ∧ ((State.reset : State).power.kv = none) ∧ ((State.reset : State).power.vaux = false) ∧ ((State.reset : State).power.g = .unpowered) ∧ ((1 : BitVec 2) = 0 ∨ (1 : BitVec 2) = 1) := by decide +kernel
theorem witness_PowerEntryCommands_1 : (((wKen.updPower fun p => { p with wait := .due 5 }) : State).power.wait = .due (5 : Nat)) ∧ ((5 : Nat) ≤ max ((wKen.updPower fun p => { p with wait := .due 5 }) : State).now (5 : Nat)) ∧ (((wKen.updPower fun p => { p with wait := .due 5 }) : State).power.vaux = false) ∧ (((wKen.updPower fun p => { p with wait := .due 5 }) : State).power.killN = true) ∧ (((wKen.updPower fun p => { p with wait := .due 5 }) : State).power.vhvOvlo = false) := by decide +kernel
theorem witness_PowerEntryCommands_2 : (((wKen.updPower fun p => { p with attempt := some 0 }) : State).power.attempt = some (0 : Nat)) ∧ ((0 : Nat) + Config.ms 50 ≤ max ((wKen.updPower fun p => { p with attempt := some 0 }) : State).now (Config.ms 50 : Nat)) := by decide +kernel
theorem witness_PowerEntryCommands_3 : (((wKen.updPower fun p => { p with attempt := some 0, law15 := .kennel }) : State).power.attempt = some (0 : Nat)) ∧ (((wKen.updPower fun p => { p with attempt := some 0, law15 := .kennel }) : State).power.law15 = .kennel) := by decide +kernel
theorem witness_PowerEntryCommands_4 : ((wKen : State).power.vhvOn = true) ∧ ((wKen : State).power.kv ≠ some 3) ∧ ((wKen : State).power.vaux = false) := by decide +kernel
theorem witness_PowerEntryCommands_5 : ((80000 : Nat) ≤ 100000) ∧ (((wKen.updPower fun p => { p with attempt := some 0 }) : State).power.vhvOn = true) ∧ (((wKen.updPower fun p => { p with attempt := some 0 }) : State).power.kv ≠ some 3) ∧ (((wKen.updPower fun p => { p with attempt := some 0 }) : State).power.attempt = some (0 : Nat)) := by decide +kernel
theorem witness_PowerEntryCommands_6 : (((wKen.updPower fun p => { p with vhvOvlo := true, wait := .ovloRelease }) : State).power.vhvOvlo = true) ∧ (((wKen.updPower fun p => { p with vhvOvlo := true, wait := .ovloRelease }) : State).power.wait = .ovloRelease) ∧ (((wKen.updPower fun p => { p with vhvOvlo := true, wait := .ovloRelease }) : State).power.vaux = false) ∧ (((wKen.updPower fun p => { p with vhvOvlo := true, wait := .ovloRelease }) : State).power.killN = true) := by decide +kernel
theorem witness_PowerEntryCommands_7 : (((wKen.updPower fun p => { p with wait := .retry 7 }) : State).power.wait = .retry (7 : Nat)) ∧ ((7 : Nat) ≤ max ((wKen.updPower fun p => { p with wait := .retry 7 }) : State).now (9 : Nat)) := by decide +kernel
theorem witness_PowerEntryCommands_8 : (((wKen.updPower fun p => { p with law15 := .kennel }) : State).power.attempt = none) ∧ (((wKen.updPower fun p => { p with law15 := .kennel }) : State).power.law15 = .kennel) ∧ ((((wKen.updPower fun p => { p with law15 := .kennel }) : State).loop 15).prt.latch = false) := by decide +kernel
theorem witness_PowerEntryCommands_9 : ((80000 : Nat) ≤ 100000) ∧ (((wKen.updPower fun p => { p with law15 := .kennel }) : State).power.vhvOn = true) ∧ (((wKen.updPower fun p => { p with law15 := .kennel }) : State).power.kv ≠ some 3) ∧ (((wKen.updPower fun p => { p with law15 := .kennel }) : State).power.attempt = none) ∧ (((wKen.updPower fun p => { p with law15 := .kennel }) : State).power.law15 = .kennel) ∧ ((((wKen.updPower fun p => { p with law15 := .kennel }) : State).loop 15).prt.latch = false) := by decide +kernel
theorem witness_PowerEntryCommands_10 : (((wUp.updPower fun p => { p with vhvOn := true, kv := some 1 }) : State).power.vhvOn = true) ∧ (((wUp.updPower fun p => { p with vhvOn := true, kv := some 1 }) : State).power.kv ≠ some 3) ∧ (((wUp.updPower fun p => { p with vhvOn := true, kv := some 1 }) : State).power.vaux = true) := by decide +kernel
theorem witness_PowerEntryCommands_11 : ((State.reset : State).power.vaux = false) := by decide +kernel
theorem witness_PowerEntryCommands_12 : ((wUp : State).power.vaux = true) := by decide +kernel
theorem witness_PowerEntryCommands_13 : (((wKen.updPower fun p => { p with vauxHold := true }) : State).power.vauxHold = true) ∧ (((wKen.updPower fun p => { p with vauxHold := true }) : State).power.vaux = false) := by decide +kernel
theorem witness_PowerEntryCommands_14 : (((wRst.updPower fun p => { p with pll := false }) : State).power.vaux = true) ∧ (((wRst.updPower fun p => { p with pll := false }) : State).power.pll = false) ∧ (((wRst.updPower fun p => { p with pll := false }) : State).power.coreUv = false) := by decide +kernel
theorem witness_ResetCommands_0 : ((wUp : State).power.vaux = true) := by decide +kernel
theorem witness_ResetCommands_2 : ((wUp : State).window = true) ∧ ((wUp : State).power.vaux = true) ∧ ((wUp : State).power.warmPend = none) ∧ (((wUp : State).atTime (0 : Nat)).readOnly = false) ∧ ((wUp : State).log.queue = []) := by decide +kernel
theorem witness_ResetCommands_3 : ((wUp : State).power.vaux = true) ∧ ((wUp : State).power.coreUv = false) := by decide +kernel
theorem witness_ResetCommands_4 : (((wRst.updPower fun p => { p with coreUv := true }) : State).power.coreUv = true) := by decide +kernel
theorem witness_ResetCommands_5 : (((wUp.updPower fun p => { p with law15Pend := true, law15 := .configured }) : State).power.law15Pend = true) ∧ (((wUp.updPower fun p => { p with law15Pend := true, law15 := .configured }) : State).power.law15 = .configured) ∧ ((((wUp.updPower fun p => { p with law15Pend := true, law15 := .configured }) : State).atTime (96000 : Nat)).isBoundary 15 = true) := by decide +kernel
theorem witness_ResetCommands_6 : (((wRst.updPower fun p => { p with bootPend := true }) : State).power.bootPend = true) := by decide +kernel
theorem witness_ResetCommands_7 : (((wBoot.updPower fun p => { p with cntPend := true }) : State).power.g = .boot) ∧ (((wBoot.updPower fun p => { p with cntPend := true }) : State).power.cntPend = true) ∧ (((wBoot.updPower fun p => { p with cntPend := true }) : State).mtpIdle = true) := by decide +kernel
theorem witness_ResetCommands_8 : (((wBoot.updPower fun p => { p with kv := some 3 }) : State).power.g = .boot) ∧ (((wBoot.updPower fun p => { p with kv := some 3 }) : State).power.cntPend = false) ∧ (((wBoot.updPower fun p => { p with kv := some 3 }) : State).power.killN = true) ∧ (((wBoot.updPower fun p => { p with kv := some 3 }) : State).win.killEdges = 0) ∧ (((wBoot.updPower fun p => { p with kv := some 3 }) : State).pins.tapHold = false) ∧ (((wBoot.updPower fun p => { p with kv := some 3 }) : State).power.kv = some 3 ∨ ((wBoot.updPower fun p => { p with kv := some 3 }) : State).power.law15 ≠ .stopped ∨ ((wBoot.updPower fun p => { p with kv := some 3 }) : State).anyOn = false) := by decide +kernel
theorem witness_ResetCommands_9 : (((wUp.updPower fun p => { p with law15Pend := true, law15 := .kennel }) : State).power.law15Pend = true) ∧ (((wUp.updPower fun p => { p with law15Pend := true, law15 := .kennel }) : State).power.law15 = .kennel) ∧ (((wUp.updPower fun p => { p with law15Pend := true, law15 := .kennel }) : State).up = true) ∧ ((((wUp.updPower fun p => { p with law15Pend := true, law15 := .kennel }) : State).atTime (Config.us 10 : Nat)).isBoundary 15 = true) := by decide +kernel
theorem witness_KillCommands_0 : ((wUp : State).power.killN = true) ∧ ((wUp : State).kennelRail = true) ∧ ((wUp : State).up = true) := by decide +kernel
theorem witness_KillCommands_1 : ((wUp.updPower fun p => { p with killN := false } : State).power.killN = false) := by decide +kernel
theorem witness_KillCommands_2 : ((wUp.updPower fun p => { p with g := .killed, killRise := some 0, kv := some 3 } : State).power.g = .killed) ∧ ((wUp.updPower fun p => { p with g := .killed, killRise := some 0, kv := some 3 } : State).power.killN = true) ∧ ((wUp.updPower fun p => { p with g := .killed, killRise := some 0, kv := some 3 } : State).pins.tapHold = false) ∧ ((wUp.updPower fun p => { p with g := .killed, killRise := some 0, kv := some 3 } : State).power.killRise = some (0 : Nat)) ∧ ((0 : Nat) + Config.ms 10 ≤ max (wUp.updPower fun p => { p with g := .killed, killRise := some 0, kv := some 3 } : State).now (Config.ms 10 : Nat)) := by decide +kernel
theorem witness_WindowPortCommands_0 : ((wUp : State).power.vaux = true) ∧ ((wUp : State).power.vddioH = true) := by decide +kernel
theorem witness_WindowPortCommands_1 : ((wUp : State).busAnswers = true) := by decide +kernel
theorem witness_WindowPortCommands_2 : ((wUp.updWin fun x => { x with addr := 0x4E } : State).window = true) ∧ ((wUp.updWin fun x => { x with addr := 0x4E } : State).win.addr = 0x4E) := by decide +kernel
theorem witness_WindowPortCommands_3 : ((wUp : State).busAnswers = true) := by decide +kernel
theorem witness_WindowPortCommands_4 : ((wUp : State).window = true) := by decide +kernel
theorem witness_WindowPortCommands_5 : ((wBoot : State).power.g = .boot) ∧ ((wBoot : State).power.vddioH = true) ∧ ((wBoot : State).power.vaux = true) := by decide +kernel
theorem witness_WindowPortCommands_6 : ((wUp.updWin fun x => { x with paddr := 0x1001 } : State).window = true) ∧ (paramInfo (wUp.updWin fun x => { x with paddr := 0x1001 } : State).win.paddr.toNat = some ({ mask := 0xFFFF, cls := .B, access := .rw, reset := 64000 } : ParamInfo)) ∧ (({ mask := 0xFFFF, cls := .B, access := .rw, reset := 64000 } : ParamInfo).access = Access.rw) ∧ (({ mask := 0xFFFF, cls := .B, access := .rw, reset := 64000 } : ParamInfo).cls ≠ CommitClass.L) := by decide +kernel
theorem witness_WindowPortCommands_7 : ((wUp.updWin fun x => { x with paddr := 0x1000 } : State).window = true) ∧ (paramInfo (wUp.updWin fun x => { x with paddr := 0x1000 } : State).win.paddr.toNat = some ({ mask := 0xFFFF, cls := .L, access := .rw, reset := 0 } : ParamInfo)) ∧ (({ mask := 0xFFFF, cls := .L, access := .rw, reset := 0 } : ParamInfo).access = Access.rw) ∧ (({ mask := 0xFFFF, cls := .L, access := .rw, reset := 0 } : ParamInfo).cls = CommitClass.L) := by decide +kernel
theorem witness_WindowPortCommands_8 : ((wUp.updWin fun x => { x with paddr := 0x0000 } : State).window = true) ∧ ((match paramInfo (wUp.updWin fun x => { x with paddr := 0x0000 } : State).win.paddr.toNat with | some p => decide (p.access = Access.ro) | none => true) = true) := by decide +kernel
theorem witness_WindowPortCommands_9 : ((wUp : State).window = true) := by decide +kernel
theorem witness_WindowPortCommands_10 : ((wUp : State).window = true) := by decide +kernel
theorem witness_WindowPortCommands_11 : ((wBoot : State).power.g = .boot) ∧ ((wBoot : State).power.vddioH = true) ∧ ((wBoot : State).power.vaux = true) := by decide +kernel
theorem witness_WindowPortCommands_12 : ((wUp : State).up = true) ∧ ((wUp : State).power.bootTime + Config.us (((wUp : State).log.wraps + 1) * 2 ^ 32) ≤ max (wUp : State).now (Config.us (2 ^ 32) : Nat)) ∧ ((wUp : State).log.queue.length < 64) := by decide +kernel
theorem witness_WindowFlagCommands_0 : ((wUp : State).window = true) := by decide +kernel
theorem witness_WindowFlagCommands_1 : ((wUp : State).window = true) := by decide +kernel
theorem witness_WindowFlagCommands_2 : ((wUp : State).window = true) ∧ (bitAt (0x8000 : W16) 15 = true) := by decide +kernel
theorem witness_WindowFlagCommands_3 : ((wUp : State).window = true) ∧ (bitAt (2 : W16) 1 = true) := by decide +kernel
theorem witness_WindowFlagCommands_4 : ((wUp : State).window = true) ∧ (((wUp : State).atTime (0 : Nat)).readOnly = false) := by decide +kernel
theorem witness_WindowFlagCommands_5 : ((wUp.updPar fun p => { p with inUse := sparseSet paramReset p.inUse 0x3023 1 } : State).window = true) ∧ (((wUp.updPar fun p => { p with inUse := sparseSet paramReset p.inUse 0x3023 1 } : State).atTime (0 : Nat)).readOnly = true) := by decide +kernel
theorem witness_WindowFlagCommands_6 : (({ wUp with log := { wUp.log with count := 2 } } : State).window = true) ∧ (0 < ({ wUp with log := { wUp.log with count := 2 } } : State).log.count) := by decide +kernel
theorem witness_WindowFlagCommands_7 : ((wUp : State).window = true) ∧ ((wUp : State).log.count = 0) := by decide +kernel
theorem witness_WindowFlagCommands_8 : ((wBoot : State).power.g = .boot) ∧ ((wBoot : State).power.vddioH = true) ∧ ((wBoot : State).power.vaux = true) := by decide +kernel
theorem witness_WindowFlagCommands_9 : ((wUp : State).window = true) := by decide +kernel
theorem witness_WindowFlagCommands_10 : ((wUp : State).window = true) ∧ (bitAt (0x8000 : W16) 15 = true) := by decide +kernel
theorem witness_WatchdogCommands_0 : ((wUp : State).window = true) ∧ (wdogOk ((0x0108 : W16) &&& 0xFF0F) = true) ∧ ((wUp : State).wdogEn = false ∨ (wUp : State).win.kicked = true) := by decide +kernel
theorem witness_WatchdogCommands_1 : ((wUp : State).window = true) ∧ (wdogOk ((0x0008 : W16) &&& 0xFF0F) = false ∨ ((wUp : State).wdogEn = true ∧ (wUp : State).win.kicked = false)) := by decide +kernel
theorem witness_WatchdogCommands_2 : ((wUp.updWin fun x => { x with wdogCfg := 0x0108 } : State).window = true) ∧ ((wUp.updWin fun x => { x with wdogCfg := 0x0108 } : State).wdogEn = true) ∧ ((0 : W16) ≠ (wUp.updWin fun x => { x with wdogCfg := 0x0108 } : State).kickWord) ∧ ((wUp.updWin fun x => { x with wdogCfg := 0x0108 } : State).win.wdogExp = false) ∧ (fld (wUp.updWin fun x => { x with wdogCfg := 0x0108 } : State).win.wdogCfg 2 0 = 0) ∧ ((wUp.updWin fun x => { x with wdogCfg := 0x0108 } : State).chw.armed = false) := by decide +kernel
theorem witness_WatchdogCommands_3 : ((wUp.updWin fun x => { x with wdogCfg := 0x0108 } : State).window = true) ∧ ((wUp.updWin fun x => { x with wdogCfg := 0x0108 } : State).wdogEn = true) ∧ ((0x5AC3 : W16) = (wUp.updWin fun x => { x with wdogCfg := 0x0108 } : State).kickWord) := by decide +kernel
theorem witness_WatchdogCommands_4 : ((wUp.updWin fun x => { x with wdogCfg := 0x0108 } : State).up = true) ∧ ((wUp.updWin fun x => { x with wdogCfg := 0x0108 } : State).power.g ≠ .gasp) ∧ ((wUp.updWin fun x => { x with wdogCfg := 0x0108 } : State).wdogEn = true) ∧ ((wUp.updWin fun x => { x with wdogCfg := 0x0108 } : State).win.wdogExp = false) ∧ (985 * Config.ms (10 * fld (wUp.updWin fun x => { x with wdogCfg := 0x0108 } : State).win.wdogCfg 15 8) ≤ 1000 * (max (wUp.updWin fun x => { x with wdogCfg := 0x0108 } : State).now (Config.ms 10 : Nat) - (wUp.updWin fun x => { x with wdogCfg := 0x0108 } : State).win.wdogFrom)) ∧ (fld (wUp.updWin fun x => { x with wdogCfg := 0x0108 } : State).win.wdogCfg 2 0 = 0) ∧ ((wUp.updWin fun x => { x with wdogCfg := 0x0108 } : State).chw.armed = false) := by decide +kernel
theorem witness_CommitCommands_0 : ((wUp : State).window = true) ∧ ((wUp : State).busy = false) ∧ ((0x00FF : W16) = 0x00FF) := by decide +kernel
theorem witness_CommitCommands_1 : ((wUp : State).window = true) ∧ ((wUp : State).busy = false) ∧ ((0x10 : W16).toNat ≤ 0x3F) := by decide +kernel
theorem witness_CommitCommands_2 : ((wUp : State).window = true) ∧ ((wUp : State).busy = true ∨ (0x3F < (0x0100 : W16).toNat ∧ (0x0100 : W16) ≠ 0x00FF)) := by decide +kernel
theorem witness_CommitCommands_3 : ((wUp.updPar fun p => { p with waitL := [(0x1000, 0)] } : State).up = true) ∧ ((wUp.updPar fun p => { p with waitL := [(0x1000, 0)] } : State).busy = false) ∧ ((wUp.updPar fun p => { p with waitL := [(0x1000, 0)] } : State).par.waitL.lookup (0x1000 : W16).toNat = some (0 : Nat)) ∧ (((wUp.updPar fun p => { p with waitL := [(0x1000, 0)] } : State).atTime (5 : Nat)).mayCross (0x1000 : W16).toNat (0 : Nat) = true) ∧ (((wUp.updPar fun p => { p with waitL := [(0x1000, 0)] } : State).atTime (5 : Nat)).refusalL (0x1000 : W16).toNat = none) := by decide +kernel
theorem witness_CommitCommands_4 : ((wUp : State).window = true) ∧ ((wUp : State).busy = false) := by decide +kernel
theorem witness_CommitCommands_5 : ((wUp.updPar fun p => { p with phase := .capture, set := [(0x1001, 64001)] } : State).up = true) ∧ ((wUp.updPar fun p => { p with phase := .capture, set := [(0x1001, 64001)] } : State).par.phase = .capture) ∧ ((wUp.updPar fun p => { p with phase := .capture, set := [(0x1001, 64001)] } : State).par.pendCode = 0) ∧ ((wUp.updPar fun p => { p with phase := .capture, set := [(0x1001, 64001)] } : State).par.set ≠ []) ∧ (((wUp.updPar fun p => { p with phase := .capture, set := [(0x1001, 64001)] } : State).atTime (3 : Nat)).judge (wUp.updPar fun p => { p with phase := .capture, set := [(0x1001, 64001)] } : State).par.set = some ((20, 4097) : Fail)) := by decide +kernel
theorem witness_CommitCommands_6 : ((wUp.updPar fun p => { p with phase := .capture, set := [(0x1001, 7)] } : State).up = true) ∧ ((wUp.updPar fun p => { p with phase := .capture, set := [(0x1001, 7)] } : State).par.phase = .capture) ∧ ((wUp.updPar fun p => { p with phase := .capture, set := [(0x1001, 7)] } : State).par.pendCode = 0) ∧ ((wUp.updPar fun p => { p with phase := .capture, set := [(0x1001, 7)] } : State).par.set ≠ []) ∧ (((wUp.updPar fun p => { p with phase := .capture, set := [(0x1001, 7)] } : State).atTime (3 : Nat)).judge (wUp.updPar fun p => { p with phase := .capture, set := [(0x1001, 7)] } : State).par.set = none) := by decide +kernel
theorem witness_CommitCommands_7 : ((wUp.updPar fun p => { p with phase := .capture, pendCode := 0x10 } : State).up = true) ∧ ((wUp.updPar fun p => { p with phase := .capture, pendCode := 0x10 } : State).par.phase = .capture) ∧ ((wUp.updPar fun p => { p with phase := .capture, pendCode := 0x10 } : State).par.pendCode ≠ 0) := by decide +kernel
theorem witness_CommitCommands_8 : ((wUp.updPar fun p => { p with phase := .capture } : State).up = true) ∧ ((wUp.updPar fun p => { p with phase := .capture } : State).par.phase = .capture) ∧ ((wUp.updPar fun p => { p with phase := .capture } : State).par.pendCode = 0) ∧ ((wUp.updPar fun p => { p with phase := .capture } : State).par.set = []) ∧ ((wUp.updPar fun p => { p with phase := .capture } : State).par.heldL = none) := by decide +kernel
theorem witness_CommitCommands_9 : ((wUp.updPar fun p => { p with phase := .refused, heldL := some (0x14, 0x1000) } : State).up = true) ∧ ((wUp.updPar fun p => { p with phase := .refused, heldL := some (0x14, 0x1000) } : State).par.phase = .refused) ∧ ((wUp.updPar fun p => { p with phase := .refused, heldL := some (0x14, 0x1000) } : State).par.phaseAt + Config.us 2 ≤ max (wUp.updPar fun p => { p with phase := .refused, heldL := some (0x14, 0x1000) } : State).now (Config.us 2 : Nat)) ∧ ((wUp.updPar fun p => { p with phase := .refused, heldL := some (0x14, 0x1000) } : State).par.heldL = some ((0x14 : Byte), (0x1000 : W16))) := by decide +kernel
theorem witness_CommitCommands_10 : ((wUp.updPar fun p => { p with phase := .refused } : State).up = true) ∧ ((wUp.updPar fun p => { p with phase := .refused } : State).par.phase = .refused) ∧ ((wUp.updPar fun p => { p with phase := .refused } : State).par.phaseAt + Config.us 2 ≤ max (wUp.updPar fun p => { p with phase := .refused } : State).now (Config.us 2 : Nat)) ∧ ((wUp.updPar fun p => { p with phase := .refused } : State).par.heldL = none) := by decide +kernel
theorem witness_CommitCommands_11 : ((wUp.updPar fun p => { p with phase := .apply, takers := [.loop 3], set := [(0x1301, 7)] } : State).up = true) ∧ ((wUp.updPar fun p => { p with phase := .apply, takers := [.loop 3], set := [(0x1301, 7)] } : State).par.phase = .apply) ∧ ((3 : Fin 256).val = (3 : Fin 16).val) ∧ ((wUp.updPar fun p => { p with phase := .apply, takers := [.loop 3], set := [(0x1301, 7)] } : State).par.takers = [.loop (3 : Fin 16)]) ∧ (((wUp.updPar fun p => { p with phase := .apply, takers := [.loop 3], set := [(0x1301, 7)] } : State).atTime (3 : Nat)).mayTake (.loop (3 : Fin 16)) = true) ∧ ((wUp.updPar fun p => { p with phase := .apply, takers := [.loop 3], set := [(0x1301, 7)] } : State).par.heldL = none) := by decide +kernel
theorem witness_CommitCommands_12 : ((wUp.updPar fun p => { p with phase := .apply, takers := [.loop 3, .loop 4], set := [(0x1301, 7)] } : State).up = true) ∧ ((wUp.updPar fun p => { p with phase := .apply, takers := [.loop 3, .loop 4], set := [(0x1301, 7)] } : State).par.phase = .apply) ∧ ((3 : Fin 256).val = (3 : Fin 16).val) ∧ ((wUp.updPar fun p => { p with phase := .apply, takers := [.loop 3, .loop 4], set := [(0x1301, 7)] } : State).par.takers.contains (Taker.loop (3 : Fin 16)) = true) ∧ (((wUp.updPar fun p => { p with phase := .apply, takers := [.loop 3, .loop 4], set := [(0x1301, 7)] } : State).par.takers.filter fun k => decide (k ≠ Taker.loop (3 : Fin 16))) ≠ []) ∧ (((wUp.updPar fun p => { p with phase := .apply, takers := [.loop 3, .loop 4], set := [(0x1301, 7)] } : State).atTime (3 : Nat)).mayTake (.loop (3 : Fin 16)) = true) := by decide +kernel
theorem witness_CommitCommands_13 : ((wUp.updPar fun p => { p with phase := .apply, takers := [.page 2], set := [(0x0201, 7)] } : State).up = true) ∧ ((wUp.updPar fun p => { p with phase := .apply, takers := [.page 2], set := [(0x0201, 7)] } : State).par.phase = .apply) ∧ ((wUp.updPar fun p => { p with phase := .apply, takers := [.page 2], set := [(0x0201, 7)] } : State).par.takers = [Taker.page (2 : Fin 256).val]) ∧ (((wUp.updPar fun p => { p with phase := .apply, takers := [.page 2], set := [(0x0201, 7)] } : State).atTime (3 : Nat)).mayTake (.page (2 : Fin 256).val) = true) ∧ ((wUp.updPar fun p => { p with phase := .apply, takers := [.page 2], set := [(0x0201, 7)] } : State).par.heldL = none) := by decide +kernel
theorem witness_CommitCommands_14 : ((wUp.updPar fun p => { p with timers := [((2, 1), 0)], inUse := [(0x0100, 1), (0x0101, 2)] } : State).up = true) ∧ (bitAt ((wUp.updPar fun p => { p with timers := [((2, 1), 0)], inUse := [(0x0100, 1), (0x0101, 2)] } : State).pg 1 1) (1 : Fin 4).val = true) ∧ (twCount ((wUp.updPar fun p => { p with timers := [((2, 1), 0)], inUse := [(0x0100, 1), (0x0101, 2)] } : State).pg 1 0) ≠ 0) ∧ ((wUp.updPar fun p => { p with timers := [((2, 1), 0)], inUse := [(0x0100, 1), (0x0101, 2)] } : State).par.fired.contains ((2 : Fin 16), (1 : Fin 4)) = false) ∧ ((wUp.updPar fun p => { p with timers := [((2, 1), 0)], inUse := [(0x0100, 1), (0x0101, 2)] } : State).par.timers.lookup ((2 : Fin 16), (1 : Fin 4)) = some (0 : Nat)) ∧ ((0 : Nat) + twDur ((wUp.updPar fun p => { p with timers := [((2, 1), 0)], inUse := [(0x0100, 1), (0x0101, 2)] } : State).pg 1 0) < max (wUp.updPar fun p => { p with timers := [((2, 1), 0)], inUse := [(0x0100, 1), (0x0101, 2)] } : State).now (Config.ms 1 : Nat)) := by decide +kernel
theorem witness_NvmCommands_0 : ((wUp : State).window = true) ∧ ((wUp : State).nvmOpen = true) ∧ (((wUp : State).atTime (0 : Nat)).readOnly = false) ∧ ((wUp : State).topSeq < 0xFFFFFFFF) := by decide +kernel
theorem witness_NvmCommands_1 : ((wUp : State).window = true) ∧ ((wUp : State).nvmOpen = true) ∧ (((wUp : State).atTime (0 : Nat)).readOnly = false) ∧ ((wUp : State).mayOpen false = true) := by decide +kernel
theorem witness_NvmCommands_2 : ((wUp : State).window = true) ∧ ((wUp : State).nvmOpen = true) ∧ (((wUp : State).atTime (0 : Nat)).readOnly = false) ∧ ((wUp : State).mayOpen true = true) := by decide +kernel
theorem witness_NvmCommands_3 : ((wUp.updNvm fun x => { x with loadedTrial := true, loaded := 1, slotA := { x.slotA with st := .trial } } : State).window = true) ∧ ((wUp.updNvm fun x => { x with loadedTrial := true, loaded := 1, slotA := { x.slotA with st := .trial } } : State).nvmOpen = true) ∧ (((wUp.updNvm fun x => { x with loadedTrial := true, loaded := 1, slotA := { x.slotA with st := .trial } } : State).atTime (0 : Nat)).readOnly = false) ∧ ((wUp.updNvm fun x => { x with loadedTrial := true, loaded := 1, slotA := { x.slotA with st := .trial } } : State).mayConfirm = true) := by decide +kernel
theorem witness_NvmCommands_4 : ((wUp : State).window = true) ∧ ((wUp : State).nvmOpen = true) ∧ (((wUp : State).atTime (0 : Nat)).readOnly = false) := by decide +kernel
theorem witness_NvmCommands_5 : ((wUp : State).window = true) ∧ ((wUp : State).nvmOpen = true) ∧ (((wUp : State).atTime (0 : Nat)).readOnly = false) := by decide +kernel
theorem witness_NvmCommands_6 : ((wUp.updPar fun p => { p with inUse := sparseSet paramReset p.inUse 0x3023 1 } : State).window = true) ∧ ((wUp.updPar fun p => { p with inUse := sparseSet paramReset p.inUse 0x3023 1 } : State).nvmOpen = true) ∧ (((wUp.updPar fun p => { p with inUse := sparseSet paramReset p.inUse 0x3023 1 } : State).atTime (0 : Nat)).readOnly = true ∨ (wUp.updPar fun p => { p with inUse := sparseSet paramReset p.inUse 0x3023 1 } : State).topSeq = 0xFFFFFFFF) := by decide +kernel
theorem witness_NvmCommands_7 : ((wUp.updPar fun p => { p with inUse := sparseSet paramReset p.inUse 0x3023 1 } : State).window = true) ∧ ((wUp.updPar fun p => { p with inUse := sparseSet paramReset p.inUse 0x3023 1 } : State).nvmOpen = true) ∧ (((wUp.updPar fun p => { p with inUse := sparseSet paramReset p.inUse 0x3023 1 } : State).atTime (0 : Nat)).readOnly = true ∨ (wUp.updPar fun p => { p with inUse := sparseSet paramReset p.inUse 0x3023 1 } : State).mayOpen false = false) := by decide +kernel
theorem witness_NvmCommands_8 : ((wUp.updPar fun p => { p with inUse := sparseSet paramReset p.inUse 0x3023 1 } : State).window = true) ∧ ((wUp.updPar fun p => { p with inUse := sparseSet paramReset p.inUse 0x3023 1 } : State).nvmOpen = true) ∧ (((wUp.updPar fun p => { p with inUse := sparseSet paramReset p.inUse 0x3023 1 } : State).atTime (0 : Nat)).readOnly = true ∨ (wUp.updPar fun p => { p with inUse := sparseSet paramReset p.inUse 0x3023 1 } : State).mayOpen true = false) := by decide +kernel
theorem witness_NvmCommands_9 : ((wUp.updPar fun p => { p with inUse := sparseSet paramReset p.inUse 0x3023 1 } : State).window = true) ∧ ((wUp.updPar fun p => { p with inUse := sparseSet paramReset p.inUse 0x3023 1 } : State).nvmOpen = true) ∧ (((wUp.updPar fun p => { p with inUse := sparseSet paramReset p.inUse 0x3023 1 } : State).atTime (0 : Nat)).readOnly = true ∨ (wUp.updPar fun p => { p with inUse := sparseSet paramReset p.inUse 0x3023 1 } : State).mayConfirm = false) := by decide +kernel
theorem witness_NvmCommands_10 : ((wUp.updPar fun p => { p with inUse := sparseSet paramReset p.inUse 0x3023 1 } : State).window = true) ∧ ((wUp.updPar fun p => { p with inUse := sparseSet paramReset p.inUse 0x3023 1 } : State).nvmOpen = true) ∧ (((wUp.updPar fun p => { p with inUse := sparseSet paramReset p.inUse 0x3023 1 } : State).atTime (0 : Nat)).readOnly = true) := by decide +kernel
theorem witness_NvmCommands_11 : ((wUp.updPar fun p => { p with inUse := sparseSet paramReset p.inUse 0x3023 1 } : State).window = true) ∧ ((wUp.updPar fun p => { p with inUse := sparseSet paramReset p.inUse 0x3023 1 } : State).nvmOpen = true) ∧ (((wUp.updPar fun p => { p with inUse := sparseSet paramReset p.inUse 0x3023 1 } : State).atTime (0 : Nat)).readOnly = true) := by decide +kernel
theorem witness_NvmCommands_12 : ((wUp.updNvm fun x => { x with op := some .invalidateA, busy := true } : State).nvm.op = some (.invalidateA : NvmOp)) ∧ ((wUp.updNvm fun x => { x with op := some .invalidateA, busy := true } : State).nvm.busy = true) := by decide +kernel
theorem witness_NvmCommands_13 : ((wUp.updNvm fun x => { x with xfer := some false } : State).window = true) ∧ ((wUp.updNvm fun x => { x with xfer := some false } : State).nvm.xfer ≠ none) ∧ ((wUp.updNvm fun x => { x with xfer := some false } : State).nvmBusy = false) ∧ ((wUp.updNvm fun x => { x with xfer := some false } : State).nvm.words.length < 3) := by decide +kernel
theorem witness_NvmCommands_14 : ((wUp.updNvm fun x => { x with xfer := some false, busy := true } : State).window = true) ∧ ((wUp.updNvm fun x => { x with xfer := some false, busy := true } : State).nvm.xfer ≠ none) ∧ ((wUp.updNvm fun x => { x with xfer := some false, busy := true } : State).nvmBusy = true) := by decide +kernel
theorem witness_NvmCommands_15 : ((wUp.updNvm fun x => { x with xfer := some false, busy := true } : State).nvm.xfer ≠ none) ∧ ((wUp.updNvm fun x => { x with xfer := some false, busy := true } : State).nvm.busy = true) ∧ ((wUp.updNvm fun x => { x with xfer := some false, busy := true } : State).nvm.checking = false) := by decide +kernel
theorem witness_NvmCommands_16 : ((wUp.updNvm fun x => { x with xfer := some false } : State).nvm.xfer ≠ none) ∧ ((wUp.updNvm fun x => { x with xfer := some false } : State).nvm.checking = false) ∧ ((wUp.updNvm fun x => { x with xfer := some false } : State).nvm.gapFrom + Config.ms 100 < max (wUp.updNvm fun x => { x with xfer := some false } : State).now (Config.ms 101 : Nat)) := by decide +kernel
theorem witness_NvmCommands_17 : ((wUp.updNvm fun x => { x with xfer := some false, busy := true, checking := true, words := wImage } : State).nvm.xfer = some (false : Bool)) ∧ ((wUp.updNvm fun x => { x with xfer := some false, busy := true, checking := true, words := wImage } : State).nvm.checking = true) ∧ (imgReason (wUp.updNvm fun x => { x with xfer := some false, busy := true, checking := true, words := wImage } : State).opKey ((wUp.updNvm fun x => { x with xfer := some false, busy := true, checking := true, words := wImage } : State).nvm.words.flatMap wordBytes) = none) := by decide +kernel
theorem witness_NvmCommands_18 : ((wUp.updNvm fun x => { x with xfer := some false, busy := true, checking := true, words := [] } : State).nvm.xfer = some (false : Bool)) ∧ ((wUp.updNvm fun x => { x with xfer := some false, busy := true, checking := true, words := [] } : State).nvm.checking = true) ∧ (imgReason (wUp.updNvm fun x => { x with xfer := some false, busy := true, checking := true, words := [] } : State).opKey ((wUp.updNvm fun x => { x with xfer := some false, busy := true, checking := true, words := [] } : State).nvm.words.flatMap wordBytes) = some (3 : Nat)) := by decide +kernel
theorem witness_NvmCommands_19 : ((wUp.updNvm fun x => { x with xfer := some false, busy := true, checking := true, words := [] } : State).nvm.xfer = some (false : Bool)) ∧ ((wUp.updNvm fun x => { x with xfer := some false, busy := true, checking := true, words := [] } : State).nvm.checking = true) := by decide +kernel
theorem witness_SurveyCommands_0 : ((wUp : State).booted = true) ∧ (bitAt ((wUp : State).pg 5 (0x10 + (2 : Fin 4).val)) 0 = false) ∧ (((wUp : State).atTime (5 : Nat)).iscIdle (2 : Fin 4) = true) ∧ ((0 : Fin 3) ≠ 2) ∧ (trimStepOk (0 : Fin 3) (1 : Int) (0 : Nat) = true) := by decide +kernel
theorem witness_SurveyCommands_1 : ((wUp : State).booted = true) ∧ (bitAt ((wUp : State).pg 4 (0x20 + (2 : Fin 4).val)) 0 = false) ∧ ((wUp : State).vscIdle (2 : Fin 4) = true) ∧ (((wUp : State).atTime (5 : Nat)).vscFree (2 : Fin 4) = true) ∧ (((0 : Fin 3) ≠ 2 ∨ 50 ≤ (0 : Nat))) ∧ (trimStepOk (0 : Fin 3) (1 : Int) (0 : Nat) = true) := by decide +kernel
theorem witness_SurveyCommands_2 : (({ wUp with svc := { wUp.svc with phase := .visit }, par := { wUp.par with inUse := [(0x0700, 5), (0x0701, 5)] } } : State).svcRuns = true) ∧ (({ wUp with svc := { wUp.svc with phase := .visit }, par := { wUp.par with inUse := [(0x0700, 5), (0x0701, 5)] } } : State).svc.tail = none) ∧ (({ wUp with svc := { wUp.svc with phase := .visit }, par := { wUp.par with inUse := [(0x0700, 5), (0x0701, 5)] } } : State).svc.phase = .visit) ∧ ((({ wUp with svc := { wUp.svc with phase := .visit }, par := { wUp.par with inUse := [(0x0700, 5), (0x0701, 5)] } } : State).atTime (Config.us 2 : Nat)).visitOver (({ wUp with svc := { wUp.svc with phase := .visit }, par := { wUp.par with inUse := [(0x0700, 5), (0x0701, 5)] } } : State).svcEntry ({ wUp with svc := { wUp.svc with phase := .visit }, par := { wUp.par with inUse := [(0x0700, 5), (0x0701, 5)] } } : State).svc.entry) ([0] : List Nat) = true) ∧ (({ wUp with svc := { wUp.svc with phase := .visit }, par := { wUp.par with inUse := [(0x0700, 5), (0x0701, 5)] } } : State).pg 7 (2 * ({ wUp with svc := { wUp.svc with phase := .visit }, par := { wUp.par with inUse := [(0x0700, 5), (0x0701, 5)] } } : State).svc.entry + 1) ≠ 0) := by decide +kernel
theorem witness_SurveyCommands_3 : (({ wUp with svc := { wUp.svc with phase := .delay } } : State).svcRuns = true) ∧ (({ wUp with svc := { wUp.svc with phase := .delay } } : State).svc.phase = .delay) ∧ (({ wUp with svc := { wUp.svc with phase := .delay } } : State).svc.from_ + Config.us (({ wUp with svc := { wUp.svc with phase := .delay } } : State).pg 7 (2 * ({ wUp with svc := { wUp.svc with phase := .delay } } : State).svc.entry + 1)).toNat ≤ max ({ wUp with svc := { wUp.svc with phase := .delay } } : State).now (5 : Nat)) ∧ (({ wUp with svc := { wUp.svc with phase := .delay } } : State).svc.lastUrg = none) ∧ (({ wUp with svc := { wUp.svc with phase := .delay } } : State).svc.later = none) := by decide +kernel
theorem witness_SurveyCommands_4 : (({ wUp with svc := { wUp.svc with bufFrom := some 0 } } : State).svcRuns = true) ∧ (({ wUp with svc := { wUp.svc with bufFrom := some 0 } } : State).svc.warm = false) ∧ (({ wUp with svc := { wUp.svc with bufFrom := some 0 } } : State).svc.bufFrom = some (0 : Nat)) ∧ ((0 : Nat) + Config.us 400 ≤ max ({ wUp with svc := { wUp.svc with bufFrom := some 0 } } : State).now (Config.us 400 : Nat)) := by decide +kernel
theorem witness_SurveyCommands_5 : ((wUp : State).window = true) ∧ ((wUp : State).up = true) ∧ (bitAt (0x8003 : W16) 15 = true) ∧ ((wUp : State).urgentBusy = false) ∧ (reservedCh (fld (0x8003 : W16) 5 0) = false) := by decide +kernel
theorem witness_SurveyCommands_6 : (({ wUp with svc := { wUp.svc with reqs := [{ src := .host, ch := 3, at_ := 0 }] } } : State).svcRuns = true) ∧ (({ wUp with svc := { wUp.svc with reqs := [{ src := .host, ch := 3, at_ := 0 }] } } : State).svc.run = none) ∧ (({ wUp with svc := { wUp.svc with reqs := [{ src := .host, ch := 3, at_ := 0 }] } } : State).svc.lastUrg = none) ∧ (({ wUp with svc := { wUp.svc with reqs := [{ src := .host, ch := 3, at_ := 0 }] } } : State).swp.st ≠ .running) ∧ (firstReq ({ wUp with svc := { wUp.svc with reqs := [{ src := .host, ch := 3, at_ := 0 }] } } : State).svc.reqs = some ({ src := .host, ch := 3, at_ := 0 } : UrgReq)) := by decide +kernel
theorem witness_SurveyCommands_7 : (({ wUp with svc := { wUp.svc with urgRaw := true, run := some ({ src := .host, ch := 3, at_ := 0 }, 0) } } : State).svcRuns = true) ∧ (({ wUp with svc := { wUp.svc with urgRaw := true, run := some ({ src := .host, ch := 3, at_ := 0 }, 0) } } : State).svc.run = some (({ src := .host, ch := 3, at_ := 0 } : UrgReq), (0 : Nat))) ∧ ((0 : Nat) + ({ src := .host, ch := 3, at_ := 0 } : UrgReq).took ≤ max ({ wUp with svc := { wUp.svc with urgRaw := true, run := some ({ src := .host, ch := 3, at_ := 0 }, 0) } } : State).now (Config.us 1 : Nat)) ∧ (({ src := .host, ch := 3, at_ := 0 } : UrgReq).src = .host) ∧ (({ src := .host, ch := 3, at_ := 0 } : UrgReq).cal = false) ∧ (({ wUp with svc := { wUp.svc with urgRaw := true, run := some ({ src := .host, ch := 3, at_ := 0 }, 0) } } : State).svc.urgRaw = true) ∧ (({ wUp with svc := { wUp.svc with urgRaw := true, run := some ({ src := .host, ch := 3, at_ := 0 }, 0) } } : State).svc.cal.st ≠ .measuring) := by decide +kernel
theorem witness_SurveyCommands_8 : (({ wUp with svc := { wUp.svc with urgRaw := false, run := some ({ src := .host, ch := 3, at_ := 0 }, 0) } } : State).svcRuns = true) ∧ (({ wUp with svc := { wUp.svc with urgRaw := false, run := some ({ src := .host, ch := 3, at_ := 0 }, 0) } } : State).svc.run = some (({ src := .host, ch := 3, at_ := 0 } : UrgReq), (0 : Nat))) ∧ ((0 : Nat) + ({ src := .host, ch := 3, at_ := 0 } : UrgReq).took ≤ max ({ wUp with svc := { wUp.svc with urgRaw := false, run := some ({ src := .host, ch := 3, at_ := 0 }, 0) } } : State).now (Config.us 1 : Nat)) ∧ (({ src := .host, ch := 3, at_ := 0 } : UrgReq).src = .host) ∧ (({ src := .host, ch := 3, at_ := 0 } : UrgReq).cal = false) ∧ (({ wUp with svc := { wUp.svc with urgRaw := false, run := some ({ src := .host, ch := 3, at_ := 0 }, 0) } } : State).svc.urgRaw = false) ∧ (({ wUp with svc := { wUp.svc with urgRaw := false, run := some ({ src := .host, ch := 3, at_ := 0 }, 0) } } : State).svc.cal.st ≠ .measuring) := by decide +kernel
theorem witness_SurveyCommands_9 : (({ wUp with par := { wUp.par with inUse := [(0x0209, 0x0045)] } } : State).up = true) ∧ (bitAt (({ wUp with par := { wUp.par with inUse := [(0x0209, 0x0045)] } } : State).pg 2 9) 6 = true) ∧ (bitAt (({ wUp with par := { wUp.par with inUse := [(0x0209, 0x0045)] } } : State).pg 2 9) 14 = false) ∧ (({ wUp with par := { wUp.par with inUse := [(0x0209, 0x0045)] } } : State).urgentOf .protection = false) ∧ (({ wUp with par := { wUp.par with inUse := [(0x0209, 0x0045)] } } : State).prot.fastAt + twDur (({ wUp with par := { wUp.par with inUse := [(0x0209, 0x0045)] } } : State).pg 2 0x0A) ≤ max ({ wUp with par := { wUp.par with inUse := [(0x0209, 0x0045)] } } : State).now (Config.ms 1000 : Nat)) := by decide +kernel
theorem witness_CalibrationCommands_0 : (({ wUp with svc := { wUp.svc with warm := true } } : State).window = true) ∧ (({ wUp with svc := { wUp.svc with warm := true } } : State).up = true) ∧ (({ wUp with svc := { wUp.svc with warm := true } } : State).svc.cal.st ≠ .measuring) ∧ ((({ wUp with svc := { wUp.svc with warm := true } } : State).atTime (0 : Nat)).calRefused = false) := by decide +kernel
theorem witness_CalibrationCommands_1 : (({ wUp with svc := { wUp.svc with warm := true, cal := { wUp.svc.cal with st := .zeroHeld, zero := some (3, 9) } } } : State).window = true) ∧ (({ wUp with svc := { wUp.svc with warm := true, cal := { wUp.svc.cal with st := .zeroHeld, zero := some (3, 9) } } } : State).up = true) ∧ (({ wUp with svc := { wUp.svc with warm := true, cal := { wUp.svc.cal with st := .zeroHeld, zero := some (3, 9) } } } : State).svc.cal.st ≠ .measuring) ∧ ((({ wUp with svc := { wUp.svc with warm := true, cal := { wUp.svc.cal with st := .zeroHeld, zero := some (3, 9) } } } : State).atTime (0 : Nat)).calRefused = false) ∧ (({ wUp with svc := { wUp.svc with warm := true, cal := { wUp.svc.cal with st := .zeroHeld, zero := some (3, 9) } } } : State).svc.cal.zero = some ((3 : Fin 32).val, (9 : Int))) := by decide +kernel
theorem witness_CalibrationCommands_2 : (({ wUp with svc := { wUp.svc with cal := { wUp.svc.cal with st := .measuring, cnt := 256 } } } : State).svc.cal.st = .measuring) ∧ (({ wUp with svc := { wUp.svc with cal := { wUp.svc.cal with st := .measuring, cnt := 256 } } } : State).svc.cal.cnt = 256) ∧ (({ wUp with svc := { wUp.svc with cal := { wUp.svc.cal with st := .measuring, cnt := 256 } } } : State).svc.cal.full = false) := by decide +kernel
theorem witness_CalibrationCommands_3 : (({ wUp with svc := { wUp.svc with cal := { wUp.svc.cal with st := .done, g := 8000, b := -3, ch := 4 } } } : State).window = true) ∧ (({ wUp with svc := { wUp.svc with cal := { wUp.svc.cal with st := .done, g := 8000, b := -3, ch := 4 } } } : State).up = true) ∧ (({ wUp with svc := { wUp.svc with cal := { wUp.svc.cal with st := .done, g := 8000, b := -3, ch := 4 } } } : State).svc.cal.st = .done) ∧ (({ wUp with svc := { wUp.svc with cal := { wUp.svc.cal with st := .done, g := 8000, b := -3, ch := 4 } } } : State).svc.cal.ch < 32) := by decide +kernel
theorem witness_CalibrationCommands_4 : ((wUp : State).window = true) ∧ ((wUp : State).up = true) := by decide +kernel
theorem witness_EngineCommands_0 : ((wUp : State).laneOn (0 : Fin 16) = true) ∧ (((wUp : State).atTime (512000 : Nat)).isBoundary (0 : Fin 16) = true) ∧ (((wUp : State).atTime (512000 : Nat)).unsampled (0 : Fin 16) = true) := by decide +kernel
theorem witness_EngineCommands_1 : ((wUp.updEng 0 fun g => { g with sampled := true } : State).laneOn (0 : Fin 16) = true) ∧ (((wUp.updEng 0 fun g => { g with sampled := true } : State).loop (0 : Fin 16)).eng.sampled = true) ∧ (([5, 5, 5, 5].take (wUp.acqCount 0) : List Int).length = (wUp.updEng 0 fun g => { g with sampled := true } : State).acqCount (0 : Fin 16)) ∧ (((wUp.updEng 0 fun g => { g with sampled := true } : State).atTime (wUp.acqTime 0 : Nat)).acqEnds (0 : Fin 16) = true) ∧ ((none : Option Int).isSome = (wUp.updEng 0 fun g => { g with sampled := true } : State).checkNow (0 : Fin 16)) := by decide +kernel
theorem witness_EngineCommands_2 : ((wUp : State).window = true) ∧ ((wUp : State).snap.busy = false) := by decide +kernel
theorem witness_EngineCommands_3 : (({ wUp with snap := { wUp.snap with busy := true } } : State).up = true) ∧ (({ wUp with snap := { wUp.snap with busy := true } } : State).snap.busy = true) ∧ (({ wUp with snap := { wUp.snap with busy := true } } : State).stepping ({ wUp with snap := { wUp.snap with busy := true } } : State).snap.loop = false) := by decide +kernel
theorem witness_EngineCommands_4 : ((wUp : State).window = true) := by decide +kernel
theorem witness_EngineCommands_5 : ((wUp : State).window = true) := by decide +kernel
theorem witness_EngineCommands_6 : ((wUp : State).window = true) := by decide +kernel
theorem witness_EngineCommands_7 : ((wUp.updEng 0 fun g => { g with halved := true, restore := true } : State).up = true) ∧ (((wUp.updEng 0 fun g => { g with halved := true, restore := true } : State).loop (0 : Fin 16)).eng.halved = true) ∧ (((wUp.updEng 0 fun g => { g with halved := true, restore := true } : State).loop (0 : Fin 16)).eng.restore = true) ∧ ((wUp.updEng 0 fun g => { g with halved := true, restore := true } : State).grid + seatOf (0 : Fin 16) ≤ max (wUp.updEng 0 fun g => { g with halved := true, restore := true } : State).now (0 : Nat)) ∧ ((max (wUp.updEng 0 fun g => { g with halved := true, restore := true } : State).now (0 : Nat) - (wUp.updEng 0 fun g => { g with halved := true, restore := true } : State).grid - seatOf (0 : Fin 16)) % (Config.gridCycle * 2 ^ fld ((wUp.updEng 0 fun g => { g with halved := true, restore := true } : State).lp (0 : Fin 16) 0x0D) 2 0) = 0) := by decide +kernel
theorem witness_EngineCommands_8 : ((wUp : State).window = true) := by decide +kernel
theorem witness_EngineCommands_9 : ((wUp : State).power.vaux = true) := by decide +kernel
theorem witness_TimebaseCommands_0 : (({ wUp with stb := { wUp.stb with align := true } } : State).booted = true) ∧ (({ wUp with stb := { wUp.stb with align := true } } : State).stb.align = true) := by decide +kernel
theorem witness_TimebaseCommands_1 : ((wUp : State).up = true) ∧ (bitAt ((wUp : State).pg 3 0) 2 = (false : Bool)) := by decide +kernel
theorem witness_TimebaseCommands_2 : (({ wUp with stb := { wUp.stb with siFrom := some 0, siEdge := some (Config.ms 10) } } : State).up = true) ∧ (({ wUp with stb := { wUp.stb with siFrom := some 0, siEdge := some (Config.ms 10) } } : State).stb.siValid = false) ∧ (({ wUp with stb := { wUp.stb with siFrom := some 0, siEdge := some (Config.ms 10) } } : State).stb.siFrom = some (0 : Nat)) ∧ (({ wUp with stb := { wUp.stb with siFrom := some 0, siEdge := some (Config.ms 10) } } : State).stb.siEdge = some (Config.ms 10 : Nat)) ∧ ((0 : Nat) + Config.ms 10 ≤ (Config.ms 10 : Nat)) := by decide +kernel
theorem witness_TimebaseCommands_3 : (({ wUp with stb := { wUp.stb with siEdge := some 0 } } : State).up = true) ∧ (({ wUp with stb := { wUp.stb with siEdge := some 0 } } : State).stb.siEdge = some (0 : Nat)) ∧ ((0 : Nat) + 2 * ({ wUp with stb := { wUp.stb with siEdge := some 0 } } : State).syncPeriod ≤ max ({ wUp with stb := { wUp.stb with siEdge := some 0 } } : State).now (Config.ms 9000 : Nat)) := by decide +kernel
theorem witness_TimebaseCommands_4 : (({ wUp with stb := { wUp.stb with siValid := true, siBad := 4, siEdge := some 0 } } : State).up = true) ∧ (({ wUp with stb := { wUp.stb with siValid := true, siBad := 4, siEdge := some 0 } } : State).stb.siEdge = some (0 : Nat)) ∧ (({ wUp with stb := { wUp.stb with siValid := true, siBad := 4, siEdge := some 0 } } : State).stb.siValid = true) ∧ (4 ≤ ({ wUp with stb := { wUp.stb with siValid := true, siBad := 4, siEdge := some 0 } } : State).stb.siBad) := by decide +kernel
theorem witness_TimebaseCommands_5 : (({ wUp with lsh := { wUp.lsh with link := .follow }, stb := { wUp.stb with lshFrom := some 0 } } : State).up = true) ∧ (({ wUp with lsh := { wUp.lsh with link := .follow }, stb := { wUp.stb with lshFrom := some 0 } } : State).stb.lshValid = false) ∧ (({ wUp with lsh := { wUp.lsh with link := .follow }, stb := { wUp.stb with lshFrom := some 0 } } : State).lsh.link = .follow) ∧ (({ wUp with lsh := { wUp.lsh with link := .follow }, stb := { wUp.stb with lshFrom := some 0 } } : State).stb.lshFrom = some (0 : Nat)) ∧ ((0 : Nat) + Config.ms 10 ≤ max ({ wUp with lsh := { wUp.lsh with link := .follow }, stb := { wUp.stb with lshFrom := some 0 } } : State).now (Config.ms 10 : Nat)) := by decide +kernel
theorem witness_TimebaseCommands_6 : (({ wUp with stb := { wUp.stb with gliding := true } } : State).up = true) ∧ (({ wUp with stb := { wUp.stb with gliding := true } } : State).stb.gliding = true) ∧ (({ wUp with stb := { wUp.stb with gliding := true } } : State).stb.dev = ({ wUp with stb := { wUp.stb with gliding := true } } : State).stb.target) ∧ (({ wUp with stb := { wUp.stb with gliding := true } } : State).stb.src = .osc) ∧ (({ wUp with stb := { wUp.stb with gliding := true } } : State).stb.pull = 0) := by decide +kernel
theorem witness_PhaseCommands_0 : ((wRun .regulate : State).swLoop (0 : Fin 64) = some (0 : Fin 16)) ∧ (((wRun .regulate : State).atTime (0 : Nat)).mayTurnOn (0 : Fin 16) (0 : Fin 64) = true) ∧ (((wRun .regulate : State).loop (0 : Fin 16)).mod.de = false) ∧ ((((wRun .regulate : State).phase (0 : Fin 64)).newRank && ((((wRun .regulate : State).atTime (0 : Nat)).phase (0 : Fin 64)).onAt.isSome || decide (max (wRun .regulate : State).now (0 : Nat) < (((wRun .regulate : State).atTime (0 : Nat)).phase (0 : Fin 64)).offUntil))) = false) := by decide +kernel
theorem witness_PhaseCommands_1 : (((wRun .regulate).updPhase 0 fun p => { p with onAt := some 0, pwm := .high } : State).swLoop (0 : Fin 64) = some (0 : Fin 16)) ∧ (((((wRun .regulate).updPhase 0 fun p => { p with onAt := some 0, pwm := .high } : State).atTime (Config.us 1 : Nat)).phase (0 : Fin 64)).onAt ≠ none) ∧ ((((wRun .regulate).updPhase 0 fun p => { p with onAt := some 0, pwm := .high } : State).phase (0 : Fin 64)).lastOn + ((wRun .regulate).updPhase 0 fun p => { p with onAt := some 0, pwm := .high } : State).blankTime (0 : Fin 16) (0 : Fin 64) ≤ max ((wRun .regulate).updPhase 0 fun p => { p with onAt := some 0, pwm := .high } : State).now (Config.us 1 : Nat)) := by decide +kernel
theorem witness_PhaseCommands_2 : (((wRun .regulate).updPhase 0 fun p => { p with onAt := some 0, pwm := .high } : State).swLoop (0 : Fin 64) = some (0 : Fin 16)) ∧ (((((wRun .regulate).updPhase 0 fun p => { p with onAt := some 0, pwm := .high } : State).atTime (0 : Nat)).phase (0 : Fin 64)).onAt ≠ none) ∧ (max ((wRun .regulate).updPhase 0 fun p => { p with onAt := some 0, pwm := .high } : State).now (0 : Nat) < (((wRun .regulate).updPhase 0 fun p => { p with onAt := some 0, pwm := .high } : State).phase (0 : Fin 64)).lastOn + ((wRun .regulate).updPhase 0 fun p => { p with onAt := some 0, pwm := .high } : State).blankTime (0 : Fin 16) (0 : Fin 64)) := by decide +kernel
theorem witness_PhaseCommands_3 : (((wRun .regulate).updPhase 0 fun p => { p with onAt := some 0, pwm := .high } : State).swLoop (0 : Fin 64) = some (0 : Fin 16)) ∧ (((((wRun .regulate).updPhase 0 fun p => { p with onAt := some 0, pwm := .high } : State).atTime (Config.ms 1 : Nat)).phase (0 : Fin 64)).onAt ≠ none) ∧ (((wRun .regulate).updPhase 0 fun p => { p with onAt := some 0, pwm := .high } : State).kennel15 (0 : Fin 16) = false) ∧ ((((wRun .regulate).updPhase 0 fun p => { p with onAt := some 0, pwm := .high } : State).phase (0 : Fin 64)).lastOn + ((wRun .regulate).updPhase 0 fun p => { p with onAt := some 0, pwm := .high } : State).blankTime (0 : Fin 16) (0 : Fin 64) ≤ max ((wRun .regulate).updPhase 0 fun p => { p with onAt := some 0, pwm := .high } : State).now (Config.ms 1 : Nat)) ∧ ((((wRun .regulate).updPhase 0 fun p => { p with onAt := some 0, pwm := .high } : State).atTime (Config.ms 1 : Nat)).nextTurnOn (0 : Fin 16) (0 : Fin 64) ≤ max ((wRun .regulate).updPhase 0 fun p => { p with onAt := some 0, pwm := .high } : State).now (Config.ms 1 : Nat) + Config.ns 40) := by decide +kernel
theorem witness_PhaseCommands_4 : (((wRun .regulate).updPhase 0 fun p => { p with de := true, pwm := .low } : State).swLoop (0 : Fin 64) ≠ none) ∧ ((((wRun .regulate).updPhase 0 fun p => { p with de := true, pwm := .low } : State).phase (0 : Fin 64)).de = true) ∧ (((((wRun .regulate).updPhase 0 fun p => { p with de := true, pwm := .low } : State).atTime (Config.us 1 : Nat)).phase (0 : Fin 64)).pwm = .low) ∧ (((((wRun .regulate).updPhase 0 fun p => { p with de := true, pwm := .low } : State).atTime (Config.us 1 : Nat)).phase (0 : Fin 64)).onAt = none) ∧ (((((wRun .regulate).updPhase 0 fun p => { p with de := true, pwm := .low } : State).atTime (Config.us 1 : Nat)).phase (0 : Fin 64)).lastOff + Config.ns 20 ≤ max ((wRun .regulate).updPhase 0 fun p => { p with de := true, pwm := .low } : State).now (Config.us 1 : Nat)) := by decide +kernel
theorem witness_SheddingCommands_0 : (((wRun .regulate).updPhase 0 fun p => { p with dueAt := some 0 } : State).swLoop (0 : Fin 64) = some (0 : Fin 16)) ∧ ((((wRun .regulate).updPhase 0 fun p => { p with dueAt := some 0 } : State).atTime (0 : Nat)).iscStarts (0 : Fin 64) = true) := by decide +kernel
theorem witness_SheddingCommands_1 : (({ wRun .regulate with par := { (wRun .regulate).par with inUse := [(0x0024, 1), (0x101E, 0x0040), (0x2000, 0x0010)] } } : State).up = true) ∧ ((({ wRun .regulate with par := { (wRun .regulate).par with inUse := [(0x0024, 1), (0x101E, 0x0040), (0x2000, 0x0010)] } } : State).atTime (Config.ms 100000 : Nat)).estOld (0 : Fin 16) = true) ∧ ((({ wRun .regulate with par := { (wRun .regulate).par with inUse := [(0x0024, 1), (0x101E, 0x0040), (0x2000, 0x0010)] } } : State).loop (0 : Fin 16)).mod.estStale = false) := by decide +kernel
theorem witness_SheddingCommands_2 : (((wMap.updSp 0 fun p => { p with st := .delayOn }).updPhase 0 fun p => { p with pwm := .mid } : State).loopOf (0 : Fin 64) = some (0 : Fin 16)) ∧ ((((wMap.updSp 0 fun p => { p with st := .delayOn }).updPhase 0 fun p => { p with pwm := .mid } : State).atTime (Config.us 48 : Nat)).zeroSource (0 : Fin 16) (0 : Fin 64) = true) ∧ (let v := ((Frac.sum ([(6144 : Int), (6144 : Int), (6144 : Int), (6144 : Int)].map (senseCode (((wMap.updSp 0 fun p => { p with st := .delayOn }).updPhase 0 fun p => { p with pwm := .mid } : State).monitor (0 : Fin 16) (0 : Fin 64))))).mul ⟨1, 4⟩).sub (((wMap.updSp 0 fun p => { p with st := .delayOn }).updPhase 0 fun p => { p with pwm := .mid } : State).zeroLevel (0 : Fin 16) (0 : Fin 64)); (Frac.le ⟨-(if ((wMap.updSp 0 fun p => { p with st := .delayOn }).updPhase 0 fun p => { p with pwm := .mid } : State).monitor (0 : Fin 16) (0 : Fin 64) then 30000 else 3000), 1⟩ v && v.le ⟨(if ((wMap.updSp 0 fun p => { p with st := .delayOn }).updPhase 0 fun p => { p with pwm := .mid } : State).monitor (0 : Fin 16) (0 : Fin 64) then 30000 else 3000), 1⟩) = true) := by decide +kernel
theorem witness_SheddingCommands_3 : (((wMap.updSp 0 fun p => { p with st := .delayOn }).updPhase 0 fun p => { p with pwm := .mid } : State).loopOf (0 : Fin 64) = some (0 : Fin 16)) ∧ ((((wMap.updSp 0 fun p => { p with st := .delayOn }).updPhase 0 fun p => { p with pwm := .mid } : State).atTime (Config.us 48 : Nat)).zeroSource (0 : Fin 16) (0 : Fin 64) = true) ∧ (let v := ((Frac.sum ([(4000000 : Int), (4000000 : Int), (4000000 : Int), (4000000 : Int)].map (senseCode (((wMap.updSp 0 fun p => { p with st := .delayOn }).updPhase 0 fun p => { p with pwm := .mid } : State).monitor (0 : Fin 16) (0 : Fin 64))))).mul ⟨1, 4⟩).sub (((wMap.updSp 0 fun p => { p with st := .delayOn }).updPhase 0 fun p => { p with pwm := .mid } : State).zeroLevel (0 : Fin 16) (0 : Fin 64)); (Frac.le ⟨-(if ((wMap.updSp 0 fun p => { p with st := .delayOn }).updPhase 0 fun p => { p with pwm := .mid } : State).monitor (0 : Fin 16) (0 : Fin 64) then 30000 else 3000), 1⟩ v && v.le ⟨(if ((wMap.updSp 0 fun p => { p with st := .delayOn }).updPhase 0 fun p => { p with pwm := .mid } : State).monitor (0 : Fin 16) (0 : Fin 64) then 30000 else 3000), 1⟩) = false) := by decide +kernel
theorem witness_SheddingCommands_4 : ((wRun .regulate : State).st (0 : Fin 16) = .regulate) ∧ (((wRun .regulate : State).loop (0 : Fin 16)).mod.turnAt + Config.ms (fld ((wRun .regulate : State).lp (0 : Fin 16) 0x23) 7 3) ≤ max (wRun .regulate : State).now (Config.ms 40 : Nat)) := by decide +kernel
theorem witness_SheddingCommands_5 : ((wRun .regulate : State).up = true) ∧ ((wRun .regulate : State).kennel15 (0 : Fin 16) = false) ∧ (0 < ((wRun .regulate : State).loop (0 : Fin 16)).mod.fc) ∧ (carCeil ((wRun .regulate : State).loop (0 : Fin 16)).mod.refDue ≤ max (wRun .regulate : State).now (5 : Nat)) := by decide +kernel
theorem witness_SheddingCommands_6 : ((((wRun .regulate).updMod 0 fun x => { x with blank := some 0, blankOn := true } : State).loop (0 : Fin 16)).mod.blankOn = true) ∧ ((((wRun .regulate).updMod 0 fun x => { x with blank := some 0, blankOn := true } : State).loop (0 : Fin 16)).mod.blankLeft = 0) ∧ ((((wRun .regulate).updMod 0 fun x => { x with blank := some 0, blankOn := true } : State).st (0 : Fin 16)).running = true) ∧ ((((wRun .regulate).updMod 0 fun x => { x with blank := some 0, blankOn := true } : State).loop (0 : Fin 16)).mod.blank = some (0 : Fin 64)) := by decide +kernel
theorem witness_LoopStateCommands_0 : ((({ wMap with par := { wMap.par with inUse := [(0x1003, 0x0008), (0x101E, 0x0040), (0x2000, 0x0010)] }, win := { wMap.win with loopOn := 1 } } : State).atTime (0 : Nat)).mayStart (0 : Fin 16) = true) := by decide +kernel
theorem witness_LoopStateCommands_1 : (({ (wRun .delayOn) with win := { (wRun .delayOn).win with loopOn := 1 } } : State).st (0 : Fin 16) = .delayOn) ∧ ((({ (wRun .delayOn) with win := { (wRun .delayOn).win with loopOn := 1 } } : State).atTime (Config.us 100 : Nat)).isBoundary (0 : Fin 16) = true) ∧ (({ (wRun .delayOn) with win := { (wRun .delayOn).win with loopOn := 1 } } : State).runEnabled (0 : Fin 16) = true) ∧ (({ (wRun .delayOn) with win := { (wRun .delayOn).win with loopOn := 1 } } : State).kennel15 (0 : Fin 16) = false) ∧ ((({ (wRun .delayOn) with win := { (wRun .delayOn).win with loopOn := 1 } } : State).loop (0 : Fin 16)).sp.since + (({ (wRun .delayOn) with win := { (wRun .delayOn).win with loopOn := 1 } } : State).loop (0 : Fin 16)).sp.wait ≤ max ({ (wRun .delayOn) with win := { (wRun .delayOn).win with loopOn := 1 } } : State).now (Config.us 100 : Nat)) := by decide +kernel
theorem witness_LoopStateCommands_2 : (({ (wRun .rampUp) with win := { (wRun .rampUp).win with loopOn := 1 } } : State).st (0 : Fin 16) = .rampUp) ∧ ((({ (wRun .rampUp) with win := { (wRun .rampUp).win with loopOn := 1 } } : State).atTime (Config.us 100 : Nat)).isBoundary (0 : Fin 16) = true) ∧ (({ (wRun .rampUp) with win := { (wRun .rampUp).win with loopOn := 1 } } : State).runEnabled (0 : Fin 16) = true) ∧ (({ (wRun .rampUp) with win := { (wRun .rampUp).win with loopOn := 1 } } : State).kennel15 (0 : Fin 16) = false) ∧ (({ (wRun .rampUp) with win := { (wRun .rampUp).win with loopOn := 1 } } : State).isHeel (0 : Fin 16) = false) ∧ ((({ (wRun .rampUp) with win := { (wRun .rampUp).win with loopOn := 1 } } : State).loop (0 : Fin 16)).sp.startAt + (({ (wRun .rampUp) with win := { (wRun .rampUp).win with loopOn := 1 } } : State).loop (0 : Fin 16)).sp.dur ≤ max ({ (wRun .rampUp) with win := { (wRun .rampUp).win with loopOn := 1 } } : State).now (Config.us 100 : Nat)) := by decide +kernel
theorem witness_LoopStateCommands_3 : ((wRun .transition : State).st (0 : Fin 16) = .transition) ∧ (((wRun .transition : State).atTime (0 : Nat)).isBoundary (0 : Fin 16) = true) ∧ (((wRun .transition : State).loop (0 : Fin 16)).sp.offPending = none) ∧ (((((wRun .transition : State).atTime (0 : Nat)).refNow (0 : Fin 16)).le ⟨((wRun .transition : State).loop (0 : Fin 16)).sp.to_.toNat, 1⟩ && Frac.le ⟨((wRun .transition : State).loop (0 : Fin 16)).sp.to_.toNat, 1⟩ (((wRun .transition : State).atTime (0 : Nat)).refNow (0 : Fin 16))) = true) := by decide +kernel
theorem witness_LoopStateCommands_4 : ((({ (wRun .regulate).updSp 0 (fun p => { p with offPending := some 0 }) with par := { wMap.par with inUse := [(0x1009, 5), (0x101E, 0x0040), (0x2000, 0x0010)] } } : State).st (0 : Fin 16) = .regulate ∨ ({ (wRun .regulate).updSp 0 (fun p => { p with offPending := some 0 }) with par := { wMap.par with inUse := [(0x1009, 5), (0x101E, 0x0040), (0x2000, 0x0010)] } } : State).st (0 : Fin 16) = .transition)) ∧ ((({ (wRun .regulate).updSp 0 (fun p => { p with offPending := some 0 }) with par := { wMap.par with inUse := [(0x1009, 5), (0x101E, 0x0040), (0x2000, 0x0010)] } } : State).atTime (Config.us 10000 : Nat)).isBoundary (0 : Fin 16) = true) ∧ (({ (wRun .regulate).updSp 0 (fun p => { p with offPending := some 0 }) with par := { wMap.par with inUse := [(0x1009, 5), (0x101E, 0x0040), (0x2000, 0x0010)] } } : State).runEnabled (0 : Fin 16) = false) ∧ ((({ (wRun .regulate).updSp 0 (fun p => { p with offPending := some 0 }) with par := { wMap.par with inUse := [(0x1009, 5), (0x101E, 0x0040), (0x2000, 0x0010)] } } : State).loop (0 : Fin 16)).sp.offPending = some (0 : Nat)) ∧ ((0 : Nat) + (({ (wRun .regulate).updSp 0 (fun p => { p with offPending := some 0 }) with par := { wMap.par with inUse := [(0x1009, 5), (0x101E, 0x0040), (0x2000, 0x0010)] } } : State).loop (0 : Fin 16)).sp.wait ≤ max ({ (wRun .regulate).updSp 0 (fun p => { p with offPending := some 0 }) with par := { wMap.par with inUse := [(0x1009, 5), (0x101E, 0x0040), (0x2000, 0x0010)] } } : State).now (Config.us 10000 : Nat)) ∧ (twDur (({ (wRun .regulate).updSp 0 (fun p => { p with offPending := some 0 }) with par := { wMap.par with inUse := [(0x1009, 5), (0x101E, 0x0040), (0x2000, 0x0010)] } } : State).lp (0 : Fin 16) 9) ≠ 0) := by decide +kernel
theorem witness_LoopStateCommands_5 : (((wRun .rampDown).updSp 0 fun p => { p with down := .enable } : State).st (0 : Fin 16) = .rampDown) ∧ ((((wRun .rampDown).updSp 0 fun p => { p with down := .enable } : State).atTime (0 : Nat)).isBoundary (0 : Fin 16) = true) ∧ (((((wRun .rampDown).updSp 0 fun p => { p with down := .enable } : State).atTime (0 : Nat)).refNow (0 : Fin 16)).le ⟨0, 1⟩ = true) ∧ (((((wRun .rampDown).updSp 0 fun p => { p with down := .enable } : State).loop (0 : Fin 16)).sp.down ≠ .heel ∨ (((wRun .rampDown).updSp 0 fun p => { p with down := .enable } : State).atTime (0 : Nat)).heelDone (0 : Fin 16) = true)) := by decide +kernel
theorem witness_LoopStateCommands_6 : ((wRun .delayOff : State).st (0 : Fin 16) = .delayOff) ∧ (((wRun .delayOff : State).atTime (Config.us 10 : Nat)).isBoundary (0 : Fin 16) = true) ∧ (((wRun .delayOff : State).loop (0 : Fin 16)).prt.latch = false) ∧ (((wRun .delayOff : State).loop (0 : Fin 16)).sp.since + Config.us 10 ≤ max (wRun .delayOff : State).now (Config.us 10 : Nat)) := by decide +kernel
theorem witness_LoopStateCommands_7 : ((wUp : State).up = true) ∧ (setptOk (true : Bool) (List.replicate 16 (300000, 600000) : List (Nat × Nat)) = true) := by decide +kernel
theorem witness_LoopStateCommands_8 : ((wUp : State).up = true) ∧ ((wUp : State).pins.setEdge[(1 : Fin 4)] ≤ (0 : Nat)) ∧ ((0 : Nat) + Config.ms 10 ≤ max (wUp : State).now (Config.ms 10 : Nat)) := by decide +kernel
theorem witness_LoopStateCommands_9 : (({ (wRun .regulate) with par := { wMap.par with inUse := [(0x1003, 4), (0x100A, 0x40), (0x101E, 0x0040), (0x2000, 0x0010)] } } : State).up = true) ∧ (({ (wRun .regulate) with par := { wMap.par with inUse := [(0x1003, 4), (0x100A, 0x40), (0x101E, 0x0040), (0x2000, 0x0010)] } } : State).follows (0 : Fin 16) = true) ∧ (((({ (wRun .regulate) with par := { wMap.par with inUse := [(0x1003, 4), (0x100A, 0x40), (0x101E, 0x0040), (0x2000, 0x0010)] } } : State).st (0 : Fin 16)).running || decide (({ (wRun .regulate) with par := { wMap.par with inUse := [(0x1003, 4), (0x100A, 0x40), (0x101E, 0x0040), (0x2000, 0x0010)] } } : State).st (0 : Fin 16) = .delayOn)) = true) ∧ ((({ (wRun .regulate) with par := { wMap.par with inUse := [(0x1003, 4), (0x100A, 0x40), (0x101E, 0x0040), (0x2000, 0x0010)] } } : State).loop (0 : Fin 16)).sp.heelLost = false) ∧ (((({ (wRun .regulate) with par := { wMap.par with inUse := [(0x1003, 4), (0x100A, 0x40), (0x101E, 0x0040), (0x2000, 0x0010)] } } : State).atTime (0 : Nat)).master (0 : Fin 16)).lost = true) ∧ ((({ (wRun .regulate) with par := { wMap.par with inUse := [(0x1003, 4), (0x100A, 0x40), (0x101E, 0x0040), (0x2000, 0x0010)] } } : State).atTime (0 : Nat)).isBoundary (0 : Fin 16) = true) := by decide +kernel
theorem witness_AcpRequestCommands_0 : ((wAcp : State).acpOn (0 : Fin 8) = true) ∧ (fld (wReq 0 7 : W32) 29 25 = 0) ∧ (acpValid (wReq 0 7 : W32) = true) ∧ ((wAcp : State).chw.armed = false) ∧ (((wAcp : State).port (0 : Fin 8)).link = .up) ∧ (((wAcp : State).port (0 : Fin 8)).last = none) ∧ (((wAcp : State).port (0 : Fin 8)).dioLow = false) ∧ ((wReq 0 7 : W32) ≠ 0) ∧ (((wAcp : State).port (0 : Fin 8)).doneAt ≤ max (wAcp : State).now (9 : Nat)) := by decide +kernel
theorem witness_AcpRequestCommands_1 : ((wAcp : State).acpOn (0 : Fin 8) = true) ∧ (fld (wReq 1 1000 : W32) 29 25 = 1) ∧ (acpValid (wReq 1 1000 : W32) = true) ∧ ((wAcp : State).chw.armed = false) ∧ (((wAcp : State).port (0 : Fin 8)).link = .up) ∧ (((wAcp : State).port (0 : Fin 8)).last = none) ∧ (((wAcp : State).port (0 : Fin 8)).dioLow = false) ∧ ((wReq 1 1000 : W32) ≠ 0) ∧ (((wAcp : State).port (0 : Fin 8)).doneAt ≤ max (wAcp : State).now (9 : Nat)) ∧ ((wAcp : State).acpLoop (0 : Fin 8) (fld (wReq 1 1000 : W32) 31 30) = some (0 : Fin 16)) ∧ ((wAcp : State).acpNeeds (0 : Fin 16) 1 = true) ∧ ((wAcp : State).acpRange (0 : Fin 8) (0 : Fin 16) 1 (w16 (fld (wReq 1 1000 : W32) 23 8)) = none) ∧ (((wAcp : State).loop (0 : Fin 16)).acp.moving = false) ∧ (w16 (fld (wReq 1 1000 : W32) 23 8) ≠ (wAcp : State).acpTarget (0 : Fin 16)) := by decide +kernel
theorem witness_AcpRequestCommands_2 : ((wAcp : State).acpOn (0 : Fin 8) = true) ∧ (fld (wReq 2 1 : W32) 29 25 = 2) ∧ (acpValid (wReq 2 1 : W32) = true) ∧ ((wAcp : State).chw.armed = false) ∧ (((wAcp : State).port (0 : Fin 8)).link = .up) ∧ (((wAcp : State).port (0 : Fin 8)).last = none) ∧ (((wAcp : State).port (0 : Fin 8)).dioLow = false) ∧ ((wReq 2 1 : W32) ≠ 0) ∧ (((wAcp : State).port (0 : Fin 8)).doneAt ≤ max (wAcp : State).now (9 : Nat)) ∧ ((wAcp : State).acpLoop (0 : Fin 8) (fld (wReq 2 1 : W32) 31 30) = some (0 : Fin 16)) ∧ (bitAt ((wAcp : State).acpW (0 : Fin 8) 0) 4 = true) ∧ ((wAcp : State).acpNeeds (0 : Fin 16) 2 = true) ∧ ((wAcp : State).acpRange (0 : Fin 8) (0 : Fin 16) 2 (w16 (fld (wReq 2 1 : W32) 23 8)) = none) := by decide +kernel
theorem witness_AcpRequestCommands_3 : ((wAcp : State).acpOn (0 : Fin 8) = true) ∧ (fld (wReq 3 0 : W32) 29 25 = 3) ∧ (acpValid (wReq 3 0 : W32) = true) ∧ ((wAcp : State).chw.armed = false) ∧ (((wAcp : State).port (0 : Fin 8)).link = .up) ∧ (((wAcp : State).port (0 : Fin 8)).last = none) ∧ (((wAcp : State).port (0 : Fin 8)).dioLow = false) ∧ ((wReq 3 0 : W32) ≠ 0) ∧ (((wAcp : State).port (0 : Fin 8)).doneAt ≤ max (wAcp : State).now (9 : Nat)) ∧ ((wAcp : State).acpLoop (0 : Fin 8) (fld (wReq 3 0 : W32) 31 30) = some (0 : Fin 16)) ∧ (bitAt ((wAcp : State).acpW (0 : Fin 8) 0) 2 = true) ∧ ((wAcp : State).acpNeeds (0 : Fin 16) 3 = true) ∧ ((wAcp : State).acpRange (0 : Fin 8) (0 : Fin 16) 3 (w16 (fld (wReq 3 0 : W32) 23 8)) = none) := by decide +kernel
theorem witness_AcpRequestCommands_4 : ((wAcp : State).acpOn (0 : Fin 8) = true) ∧ (fld (wReq 4 100 : W32) 29 25 = 4) ∧ (acpValid (wReq 4 100 : W32) = true) ∧ ((wAcp : State).chw.armed = false) ∧ (((wAcp : State).port (0 : Fin 8)).link = .up) ∧ (((wAcp : State).port (0 : Fin 8)).last = none) ∧ (((wAcp : State).port (0 : Fin 8)).dioLow = false) ∧ ((wReq 4 100 : W32) ≠ 0) ∧ (((wAcp : State).port (0 : Fin 8)).doneAt ≤ max (wAcp : State).now (9 : Nat)) ∧ ((wAcp : State).acpLoop (0 : Fin 8) (fld (wReq 4 100 : W32) 31 30) = some (0 : Fin 16)) ∧ (bitAt ((wAcp : State).acpW (0 : Fin 8) 0) 3 = true) ∧ ((wAcp : State).acpNeeds (0 : Fin 16) 4 = true) ∧ ((wAcp : State).acpRange (0 : Fin 8) (0 : Fin 16) 4 (w16 (fld (wReq 4 100 : W32) 23 8)) = none) := by decide +kernel
theorem witness_AcpRequestCommands_5 : ((wAcp : State).acpOn (0 : Fin 8) = true) ∧ (fld (wReq 5 3 : W32) 29 25 = 5) ∧ (acpValid (wReq 5 3 : W32) = true) ∧ ((wAcp : State).chw.armed = false) ∧ (((wAcp : State).port (0 : Fin 8)).link = .up) ∧ (((wAcp : State).port (0 : Fin 8)).last = none) ∧ (((wAcp : State).port (0 : Fin 8)).dioLow = false) ∧ ((wReq 5 3 : W32) ≠ 0) ∧ (((wAcp : State).port (0 : Fin 8)).doneAt ≤ max (wAcp : State).now (9 : Nat)) ∧ ((wAcp : State).acpLoop (0 : Fin 8) (fld (wReq 5 3 : W32) 31 30) = some (0 : Fin 16)) ∧ ((wAcp : State).lyrOn (0 : Fin 16) = false) := by decide +kernel
theorem witness_AcpRequestCommands_6 : ((wAcp : State).acpOn (0 : Fin 8) = true) ∧ (fld (wReq 6 7 : W32) 29 25 = 6) ∧ (acpValid (wReq 6 7 : W32) = true) ∧ ((wAcp : State).chw.armed = false) ∧ (((wAcp : State).port (0 : Fin 8)).link = .up) ∧ (((wAcp : State).port (0 : Fin 8)).last = none) ∧ (((wAcp : State).port (0 : Fin 8)).dioLow = false) ∧ ((wReq 6 7 : W32) ≠ 0) ∧ (((wAcp : State).port (0 : Fin 8)).doneAt ≤ max (wAcp : State).now (9 : Nat)) ∧ ((wAcp : State).acpLoop (0 : Fin 8) (fld (wReq 6 7 : W32) 31 30) = some (0 : Fin 16)) := by decide +kernel
theorem witness_AcpRequestCommands_7 : ((wAcp : State).acpOn (0 : Fin 8) = true) ∧ (fld (wReq 7 7 : W32) 29 25 = 7) ∧ (acpValid (wReq 7 7 : W32) = true) ∧ ((wAcp : State).chw.armed = false) ∧ (((wAcp : State).port (0 : Fin 8)).link = .up) ∧ (((wAcp : State).port (0 : Fin 8)).last = none) ∧ (((wAcp : State).port (0 : Fin 8)).dioLow = false) ∧ ((wReq 7 7 : W32) ≠ 0) ∧ (((wAcp : State).port (0 : Fin 8)).doneAt ≤ max (wAcp : State).now (9 : Nat)) ∧ ((wAcp : State).acpLoop (0 : Fin 8) (fld (wReq 7 7 : W32) 31 30) = some (0 : Fin 16)) := by decide +kernel
theorem witness_AcpRequestCommands_8 : ((wAcp : State).acpOn (0 : Fin 8) = true) ∧ (fld (wReq 8 7 : W32) 29 25 = 8) ∧ (acpValid (wReq 8 7 : W32) = true) ∧ ((wAcp : State).chw.armed = false) ∧ (((wAcp : State).port (0 : Fin 8)).link = .up) ∧ (((wAcp : State).port (0 : Fin 8)).last = none) ∧ (((wAcp : State).port (0 : Fin 8)).dioLow = false) ∧ ((wReq 8 7 : W32) ≠ 0) ∧ (((wAcp : State).port (0 : Fin 8)).doneAt ≤ max (wAcp : State).now (9 : Nat)) ∧ ((wAcp : State).acpLoop (0 : Fin 8) (fld (wReq 8 7 : W32) 31 30) = some (0 : Fin 16)) := by decide +kernel
theorem witness_AcpRequestCommands_9 : ((wAcp : State).acpOn (0 : Fin 8) = true) ∧ (fld (wReq 9 7 : W32) 29 25 = 9) ∧ (acpValid (wReq 9 7 : W32) = true) ∧ ((wAcp : State).chw.armed = false) ∧ (((wAcp : State).port (0 : Fin 8)).link = .up) ∧ (((wAcp : State).port (0 : Fin 8)).last = none) ∧ (((wAcp : State).port (0 : Fin 8)).dioLow = false) ∧ ((wReq 9 7 : W32) ≠ 0) ∧ (((wAcp : State).port (0 : Fin 8)).doneAt ≤ max (wAcp : State).now (9 : Nat)) ∧ ((wAcp : State).acpLoop (0 : Fin 8) (fld (wReq 9 7 : W32) 31 30) = some (0 : Fin 16)) := by decide +kernel
theorem witness_AcpRequestCommands_10 : ((wAcp : State).acpOn (0 : Fin 8) = true) ∧ (fld (wReq 10 7 : W32) 29 25 = 10) ∧ (acpValid (wReq 10 7 : W32) = true) ∧ ((wAcp : State).chw.armed = false) ∧ (((wAcp : State).port (0 : Fin 8)).link = .up) ∧ (((wAcp : State).port (0 : Fin 8)).last = none) ∧ (((wAcp : State).port (0 : Fin 8)).dioLow = false) ∧ ((wReq 10 7 : W32) ≠ 0) ∧ (((wAcp : State).port (0 : Fin 8)).doneAt ≤ max (wAcp : State).now (9 : Nat)) ∧ ((wAcp : State).acpLoop (0 : Fin 8) (fld (wReq 10 7 : W32) 31 30) = some (0 : Fin 16)) := by decide +kernel
theorem witness_AcpRequestCommands_11 : ((wAcp : State).acpOn (0 : Fin 8) = true) ∧ (fld (wReq 11 7 : W32) 29 25 = 11) ∧ (acpValid (wReq 11 7 : W32) = true) ∧ ((wAcp : State).chw.armed = false) ∧ (((wAcp : State).port (0 : Fin 8)).link = .up) ∧ (((wAcp : State).port (0 : Fin 8)).last = none) ∧ (((wAcp : State).port (0 : Fin 8)).dioLow = false) ∧ ((wReq 11 7 : W32) ≠ 0) ∧ (((wAcp : State).port (0 : Fin 8)).doneAt ≤ max (wAcp : State).now (9 : Nat)) ∧ ((wAcp : State).acpLoop (0 : Fin 8) (fld (wReq 11 7 : W32) 31 30) = some (0 : Fin 16)) := by decide +kernel
theorem witness_AcpRequestCommands_12 : ((wAcp : State).acpOn (0 : Fin 8) = true) ∧ (12 ≤ fld (wReq 13 7 : W32) 29 25) ∧ (acpValid (wReq 13 7 : W32) = true) ∧ ((wAcp : State).chw.armed = false) ∧ (((wAcp : State).port (0 : Fin 8)).link = .up) ∧ (((wAcp : State).port (0 : Fin 8)).last = none) ∧ (((wAcp : State).port (0 : Fin 8)).dioLow = false) ∧ ((wReq 13 7 : W32) ≠ 0) ∧ (((wAcp : State).port (0 : Fin 8)).doneAt ≤ max (wAcp : State).now (9 : Nat)) := by decide +kernel
theorem witness_AcpPortCommands_0 : ((wAcp.updPort 0 fun x => { x with report := some (0, true, false), dio := some 0 } : State).acpOn (0 : Fin 8) = true) ∧ (((wAcp.updPort 0 fun x => { x with report := some (0, true, false), dio := some 0 } : State).port (0 : Fin 8)).report = some ((0 : Fin 16), (true : Bool), (false : Bool))) ∧ (((wAcp.updPort 0 fun x => { x with report := some (0, true, false), dio := some 0 } : State).port (0 : Fin 8)).dio ≠ none) ∧ (((wAcp.updPort 0 fun x => { x with report := some (0, true, false), dio := some 0 } : State).port (0 : Fin 8)).doneAt ≤ max (wAcp.updPort 0 fun x => { x with report := some (0, true, false), dio := some 0 } : State).now (0 : Nat)) := by decide +kernel
theorem witness_AcpPortCommands_1 : ((wAcp : State).acpOn (0 : Fin 8) = true) := by decide +kernel
theorem witness_AcpPortCommands_2 : ((wAcp.updPort 0 fun x => { x with dioLow := true } : State).acpOn (0 : Fin 8) = true) ∧ (((wAcp.updPort 0 fun x => { x with dioLow := true } : State).port (0 : Fin 8)).dioLow = true) := by decide +kernel
theorem witness_AcpPortCommands_3 : ((wAcp.updAcp 0 fun x => { x with tgtPend := some (9, 0) } : State).up = true) ∧ (((wAcp.updAcp 0 fun x => { x with tgtPend := some (9, 0) } : State).atTime (512000 : Nat)).isBoundary (0 : Fin 16) = true) ∧ (((wAcp.updAcp 0 fun x => { x with tgtPend := some (9, 0) } : State).loop (0 : Fin 16)).acp.tgtPend = some ((9 : W16), (0 : Nat))) ∧ ((0 : Nat) + Config.ns 500 ≤ max (wAcp.updAcp 0 fun x => { x with tgtPend := some (9, 0) } : State).now (512000 : Nat)) := by decide +kernel
theorem witness_AcpPortCommands_4 : ((wAcp.updAcp 0 fun x => { x with llPend := some (9, 0) } : State).up = true) ∧ (((wAcp.updAcp 0 fun x => { x with llPend := some (9, 0) } : State).atTime (512000 : Nat)).isBoundary (0 : Fin 16) = true) ∧ (((wAcp.updAcp 0 fun x => { x with llPend := some (9, 0) } : State).loop (0 : Fin 16)).acp.llPend = some ((9 : W16), (0 : Nat))) ∧ ((0 : Nat) + Config.ns 500 ≤ max (wAcp.updAcp 0 fun x => { x with llPend := some (9, 0) } : State).now (512000 : Nat)) := by decide +kernel
theorem witness_AcpPortCommands_5 : ((wAcp.updAcp 0 fun x => { x with moving := true, holdFrom := some 0 } : State).up = true) ∧ ((wAcp.updAcp 0 fun x => { x with moving := true, holdFrom := some 0 } : State).acpBound (0 : Fin 16) = true) ∧ (((wAcp.updAcp 0 fun x => { x with moving := true, holdFrom := some 0 } : State).loop (0 : Fin 16)).acp.moving = true) ∧ ((wAcp.updAcp 0 fun x => { x with moving := true, holdFrom := some 0 } : State).atTarget (0 : Fin 16) = true) ∧ (((wAcp.updAcp 0 fun x => { x with moving := true, holdFrom := some 0 } : State).loop (0 : Fin 16)).acp.holdFrom = some (0 : Nat)) ∧ ((0 : Nat) + twDur ((wAcp.updAcp 0 fun x => { x with moving := true, holdFrom := some 0 } : State).acpW ((wAcp.updAcp 0 fun x => { x with moving := true, holdFrom := some 0 } : State).portOf (0 : Fin 16)) 3) ≤ max (wAcp.updAcp 0 fun x => { x with moving := true, holdFrom := some 0 } : State).now (Config.ms 100 : Nat)) := by decide +kernel
theorem witness_AcpPortCommands_6 : ((wAcp : State).up = true) ∧ (bitAt ((wAcp : State).acpW (0 : Fin 8) 0) 0 = true) ∧ (((wAcp : State).port (0 : Fin 8)).link = .up) ∧ (((wAcp : State).port (0 : Fin 8)).linkAt + twDur ((wAcp : State).acpW (0 : Fin 8) 1) ≤ max (wAcp : State).now (Config.ms 90000 : Nat)) := by decide +kernel
theorem witness_AcpPortCommands_7 : (({ wAcp.updAcp 0 (fun x => { x with lossPend := true }) with par := { wMap.par with inUse := [(0x102C, 2)] } } : State).up = true) ∧ ((({ wAcp.updAcp 0 (fun x => { x with lossPend := true }) with par := { wMap.par with inUse := [(0x102C, 2)] } } : State).st (0 : Fin 16)).running = true) ∧ ((({ wAcp.updAcp 0 (fun x => { x with lossPend := true }) with par := { wMap.par with inUse := [(0x102C, 2)] } } : State).loop (0 : Fin 16)).acp.lossPend = true) ∧ ((({ wAcp.updAcp 0 (fun x => { x with lossPend := true }) with par := { wMap.par with inUse := [(0x102C, 2)] } } : State).loop (0 : Fin 16)).acp.moving = false) ∧ (fld (({ wAcp.updAcp 0 (fun x => { x with lossPend := true }) with par := { wMap.par with inUse := [(0x102C, 2)] } } : State).lp (0 : Fin 16) 0x2C) 1 0 = 2) := by decide +kernel
theorem witness_AcpPortCommands_8 : ((wAcp : State).window = true) ∧ (bitAt (0x8001 : W16) 15 = true) := by decide +kernel
theorem witness_LayerCommands_0 : ((wUp : State).up = true) ∧ ((wUp : State).power.vddioL = true) := by decide +kernel
theorem witness_LayerCommands_1 : (({ wUp.updLyr 0 (fun x => { x with st := .locked, n := 101, missRun := 1 }) with par := { wMap.par with inUse := [(0x102E, 3), (0x102F, 0x1063)] } } : State).up = true) ∧ ((({ wUp.updLyr 0 (fun x => { x with st := .locked, n := 101, missRun := 1 }) with par := { wMap.par with inUse := [(0x102E, 3), (0x102F, 0x1063)] } } : State).loop (0 : Fin 16)).lyr.st = .locked) ∧ ((({ wUp.updLyr 0 (fun x => { x with st := .locked, n := 101, missRun := 1 }) with par := { wMap.par with inUse := [(0x102E, 3), (0x102F, 0x1063)] } } : State).lyrSrc (0 : Fin 16) = 1 ∨ ({ wUp.updLyr 0 (fun x => { x with st := .locked, n := 101, missRun := 1 }) with par := { wMap.par with inUse := [(0x102E, 3), (0x102F, 0x1063)] } } : State).lyrSrc (0 : Fin 16) = 2)) ∧ ((({ wUp.updLyr 0 (fun x => { x with st := .locked, n := 101, missRun := 1 }) with par := { wMap.par with inUse := [(0x102E, 3), (0x102F, 0x1063)] } } : State).atTime (0 : Nat)).isBoundary (0 : Fin 16) = true) ∧ ((({ wUp.updLyr 0 (fun x => { x with st := .locked, n := 101, missRun := 1 }) with par := { wMap.par with inUse := [(0x102E, 3), (0x102F, 0x1063)] } } : State).atTime (0 : Nat)).unsampled (0 : Fin 16) = true) ∧ ((({ wUp.updLyr 0 (fun x => { x with st := .locked, n := 101, missRun := 1 }) with par := { wMap.par with inUse := [(0x102E, 3), (0x102F, 0x1063)] } } : State).loop (0 : Fin 16)).lyr.zeroNext = false) ∧ ((({ wUp.updLyr 0 (fun x => { x with st := .locked, n := 101, missRun := 1 }) with par := { wMap.par with inUse := [(0x102E, 3), (0x102F, 0x1063)] } } : State).loop (0 : Fin 16)).lyr.n = ({ wUp.updLyr 0 (fun x => { x with st := .locked, n := 101, missRun := 1 }) with par := { wMap.par with inUse := [(0x102E, 3), (0x102F, 0x1063)] } } : State).lyrP (0 : Fin 16) + ({ wUp.updLyr 0 (fun x => { x with st := .locked, n := 101, missRun := 1 }) with par := { wMap.par with inUse := [(0x102E, 3), (0x102F, 0x1063)] } } : State).lyrWin (0 : Fin 16)) := by decide +kernel
theorem witness_LayerCommands_2 : ((({ wUp.updLyr 0 (fun x => { x with st := .seek, window := List.replicate 128 0 }) with par := { wMap.par with inUse := [(0x102E, 7), (0x102F, 15)] } } : State).loop (0 : Fin 16)).lyr.st = .seek) ∧ (({ wUp.updLyr 0 (fun x => { x with st := .seek, window := List.replicate 128 0 }) with par := { wMap.par with inUse := [(0x102E, 7), (0x102F, 15)] } } : State).lyrSrc (0 : Fin 16) = 3) ∧ (8 * ({ wUp.updLyr 0 (fun x => { x with st := .seek, window := List.replicate 128 0 }) with par := { wMap.par with inUse := [(0x102E, 7), (0x102F, 15)] } } : State).lyrNom (0 : Fin 16) ≤ (({ wUp.updLyr 0 (fun x => { x with st := .seek, window := List.replicate 128 0 }) with par := { wMap.par with inUse := [(0x102E, 7), (0x102F, 15)] } } : State).loop (0 : Fin 16)).lyr.window.length) := by decide +kernel
theorem witness_LayerCommands_3 : ((wUp.updLyr 0 fun x => { x with st := .locked, n := 90, tag := 5, updTag := 2 } : State).chunkDue (0 : Fin 16) = true) := by decide +kernel
theorem witness_FaultRaiseCommands_0 : ((wRun .regulate : State).up = true) ∧ ((wRun .regulate : State).psEnHigh (0 : Fin 16) = true) ∧ ((wRun .regulate : State).kennel15 (0 : Fin 16) = false) ∧ (((wRun .regulate : State).loop (0 : Fin 16)).prt.ov = false) := by decide +kernel
theorem witness_FaultRaiseCommands_1 : (((wRun .regulate).updPrt 0 fun p => { p with uvFrom := some 0 } : State).up = true) ∧ ((((wRun .regulate).updPrt 0 fun p => { p with uvFrom := some 0 } : State).st (0 : Fin 16) = .regulate ∨ ((wRun .regulate).updPrt 0 fun p => { p with uvFrom := some 0 } : State).st (0 : Fin 16) = .transition)) ∧ ((((wRun .regulate).updPrt 0 fun p => { p with uvFrom := some 0 } : State).loop (0 : Fin 16)).prt.uvRaised = false) ∧ ((((wRun .regulate).updPrt 0 fun p => { p with uvFrom := some 0 } : State).loop (0 : Fin 16)).prt.uvFrom = some (0 : Nat)) ∧ ((0 : Nat) + twDur (((wRun .regulate).updPrt 0 fun p => { p with uvFrom := some 0 } : State).pg 2 4) ≤ max ((wRun .regulate).updPrt 0 fun p => { p with uvFrom := some 0 } : State).now (Config.ms 90000 : Nat)) := by decide +kernel
theorem witness_FaultRaiseCommands_2 : (((wRun .regulate).updPrt 0 fun p => { p with octFrom := some 0 } : State).up = true) ∧ ((((wRun .regulate).updPrt 0 fun p => { p with octFrom := some 0 } : State).st (0 : Fin 16)).running = true) ∧ ((((wRun .regulate).updPrt 0 fun p => { p with octFrom := some 0 } : State).loop (0 : Fin 16)).prt.octRaised = false) ∧ ((((wRun .regulate).updPrt 0 fun p => { p with octFrom := some 0 } : State).loop (0 : Fin 16)).prt.octFrom = some (0 : Nat)) ∧ ((0 : Nat) + twDur (((wRun .regulate).updPrt 0 fun p => { p with octFrom := some 0 } : State).pg 2 5) ≤ max ((wRun .regulate).updPrt 0 fun p => { p with octFrom := some 0 } : State).now (Config.ms 90000 : Nat)) := by decide +kernel
theorem witness_FaultRaiseCommands_3 : (((wRun .regulate).updPhase 0 fun p => { p with onAt := some 0, pwm := .high } : State).swLoop (0 : Fin 64) = some (0 : Fin 16)) ∧ (((wRun .regulate).updPhase 0 fun p => { p with onAt := some 0, pwm := .high } : State).kennel15 (0 : Fin 16) = false) ∧ (((((wRun .regulate).updPhase 0 fun p => { p with onAt := some 0, pwm := .high } : State).atTime (Config.us 1 : Nat)).phase (0 : Fin 64)).onAt ≠ none) ∧ ((((wRun .regulate).updPhase 0 fun p => { p with onAt := some 0, pwm := .high } : State).phase (0 : Fin 64)).lastOn + ((wRun .regulate).updPhase 0 fun p => { p with onAt := some 0, pwm := .high } : State).blankTime (0 : Fin 16) (0 : Fin 64) ≤ max ((wRun .regulate).updPhase 0 fun p => { p with onAt := some 0, pwm := .high } : State).now (Config.us 1 : Nat)) ∧ ((((wRun .regulate).updPhase 0 fun p => { p with onAt := some 0, pwm := .high } : State).phase (0 : Fin 64)).ocpTrip = false) := by decide +kernel
theorem witness_FaultRaiseCommands_4 : (({ (wRun .regulate).updPhase 0 (fun p => { p with pwm := .low }) with par := { wMap.par with inUse := [(0x101E, 0x0040), (0x2000, 0x0010), (0x2003, 0x0400)] } } : State).swLoop (0 : Fin 64) = some (0 : Fin 16)) ∧ ((({ (wRun .regulate).updPhase 0 (fun p => { p with pwm := .low }) with par := { wMap.par with inUse := [(0x101E, 0x0040), (0x2000, 0x0010), (0x2003, 0x0400)] } } : State).phase (0 : Fin 64)).de = false) ∧ (((({ (wRun .regulate).updPhase 0 (fun p => { p with pwm := .low }) with par := { wMap.par with inUse := [(0x101E, 0x0040), (0x2000, 0x0010), (0x2003, 0x0400)] } } : State).atTime (Config.us 1 : Nat)).phase (0 : Fin 64)).pwm = .low) ∧ (((({ (wRun .regulate).updPhase 0 (fun p => { p with pwm := .low }) with par := { wMap.par with inUse := [(0x101E, 0x0040), (0x2000, 0x0010), (0x2003, 0x0400)] } } : State).atTime (Config.us 1 : Nat)).phase (0 : Fin 64)).onAt = none) ∧ ((({ (wRun .regulate).updPhase 0 (fun p => { p with pwm := .low }) with par := { wMap.par with inUse := [(0x101E, 0x0040), (0x2000, 0x0010), (0x2003, 0x0400)] } } : State).phase (0 : Fin 64)).negTrip = false) ∧ (({ (wRun .regulate).updPhase 0 (fun p => { p with pwm := .low }) with par := { wMap.par with inUse := [(0x101E, 0x0040), (0x2000, 0x0010), (0x2003, 0x0400)] } } : State).kennel15 (0 : Fin 16) = false) ∧ (fld (({ (wRun .regulate).updPhase 0 (fun p => { p with pwm := .low }) with par := { wMap.par with inUse := [(0x101E, 0x0040), (0x2000, 0x0010), (0x2003, 0x0400)] } } : State).ph (0 : Fin 16) (0 : Fin 64) 3) 15 10 ≠ 0) ∧ (((({ (wRun .regulate).updPhase 0 (fun p => { p with pwm := .low }) with par := { wMap.par with inUse := [(0x101E, 0x0040), (0x2000, 0x0010), (0x2003, 0x0400)] } } : State).atTime (Config.us 1 : Nat)).phase (0 : Fin 64)).lastOff + Config.ns 20 ≤ max ({ (wRun .regulate).updPhase 0 (fun p => { p with pwm := .low }) with par := { wMap.par with inUse := [(0x101E, 0x0040), (0x2000, 0x0010), (0x2003, 0x0400)] } } : State).now (Config.us 1 : Nat)) := by decide +kernel
theorem witness_FaultRaiseCommands_5 : (({ (wRun .regulate).updPrt 0 (fun p => { p with vinUv := false, vinUvFrom := some 0 }) with par := { wMap.par with inUse := [(0x102A, 0x8021)] } } : State).up = true) ∧ (bitAt (({ (wRun .regulate).updPrt 0 (fun p => { p with vinUv := false, vinUvFrom := some 0 }) with par := { wMap.par with inUse := [(0x102A, 0x8021)] } } : State).lp (0 : Fin 16) 0x2A) 15 = true) ∧ ((({ (wRun .regulate).updPrt 0 (fun p => { p with vinUv := false, vinUvFrom := some 0 }) with par := { wMap.par with inUse := [(0x102A, 0x8021)] } } : State).loop (0 : Fin 16)).prt.vinUv = false) ∧ ((({ (wRun .regulate).updPrt 0 (fun p => { p with vinUv := false, vinUvFrom := some 0 }) with par := { wMap.par with inUse := [(0x102A, 0x8021)] } } : State).loop (0 : Fin 16)).prt.vinUvFrom = some (0 : Nat)) ∧ ((0 : Nat) + twDur (({ (wRun .regulate).updPrt 0 (fun p => { p with vinUv := false, vinUvFrom := some 0 }) with par := { wMap.par with inUse := [(0x102A, 0x8021)] } } : State).pg 2 6) ≤ max ({ (wRun .regulate).updPrt 0 (fun p => { p with vinUv := false, vinUvFrom := some 0 }) with par := { wMap.par with inUse := [(0x102A, 0x8021)] } } : State).now (Config.ms 90000 : Nat)) ∧ (({ (wRun .regulate).updPrt 0 (fun p => { p with vinUv := false, vinUvFrom := some 0 }) with par := { wMap.par with inUse := [(0x102A, 0x8021)] } } : State).vinArmed (0 : Fin 16) = true) ∧ ((({ (wRun .regulate).updPrt 0 (fun p => { p with vinUv := false, vinUvFrom := some 0 }) with par := { wMap.par with inUse := [(0x102A, 0x8021)] } } : State).atTime (Config.ms 90000 : Nat)).vinOf (0 : Fin 16) ≠ none) := by decide +kernel
theorem witness_FaultRaiseCommands_6 : (({ (wRun .regulate).updPrt 0 (fun p => { p with vinOvFrom := some 0 }) with par := { wMap.par with inUse := [(0x102A, 0x8021)] } } : State).up = true) ∧ (bitAt (({ (wRun .regulate).updPrt 0 (fun p => { p with vinOvFrom := some 0 }) with par := { wMap.par with inUse := [(0x102A, 0x8021)] } } : State).lp (0 : Fin 16) 0x2A) 15 = true) ∧ ((({ (wRun .regulate).updPrt 0 (fun p => { p with vinOvFrom := some 0 }) with par := { wMap.par with inUse := [(0x102A, 0x8021)] } } : State).loop (0 : Fin 16)).prt.vinOv = false) ∧ ((({ (wRun .regulate).updPrt 0 (fun p => { p with vinOvFrom := some 0 }) with par := { wMap.par with inUse := [(0x102A, 0x8021)] } } : State).loop (0 : Fin 16)).prt.vinOvFrom = some (0 : Nat)) ∧ ((0 : Nat) + twDur (({ (wRun .regulate).updPrt 0 (fun p => { p with vinOvFrom := some 0 }) with par := { wMap.par with inUse := [(0x102A, 0x8021)] } } : State).pg 2 6) ≤ max ({ (wRun .regulate).updPrt 0 (fun p => { p with vinOvFrom := some 0 }) with par := { wMap.par with inUse := [(0x102A, 0x8021)] } } : State).now (Config.ms 90000 : Nat)) ∧ (({ (wRun .regulate).updPrt 0 (fun p => { p with vinOvFrom := some 0 }) with par := { wMap.par with inUse := [(0x102A, 0x8021)] } } : State).vinArmed (0 : Fin 16) = true) ∧ ((({ (wRun .regulate).updPrt 0 (fun p => { p with vinOvFrom := some 0 }) with par := { wMap.par with inUse := [(0x102A, 0x8021)] } } : State).atTime (Config.ms 90000 : Nat)).vinOf (0 : Fin 16) ≠ none) := by decide +kernel
theorem witness_FaultRaiseCommands_7 : ((wOt false 0x7FFF : State).up = true) ∧ ((wOt false 0x7FFF : State).prot.ot[(0 : Fin 6)].cond = false) ∧ (((wOt false 0x7FFF : State).atTime (0 : Nat)).otTemp (0 : Fin 6) = some (0x7FFF : W16)) ∧ ((wOt false 0x7FFF : State).otLimit (0 : Fin 6) ≤ (0x7FFF : W16).toInt) := by decide +kernel
theorem witness_FaultRaiseCommands_8 : ((wOt true 0x8000 : State).up = true) ∧ ((wOt true 0x8000 : State).prot.ot[(0 : Fin 6)].cond = true) ∧ (((wOt true 0x8000 : State).atTime (0 : Nat)).otTemp (0 : Fin 6) = some (0x8000 : W16)) ∧ ((0x8000 : W16).toInt ≤ (wOt true 0x8000 : State).otLow (0 : Fin 6)) := by decide +kernel
theorem witness_FaultActionCommands_0 : (({ (wRun .regulate).raiseFault 0 4 0 [] with par := { wMap.par with inUse := [(0x1027, 0x0800), (0x101E, 0x0040), (0x2000, 0x0010)] } } : State).up = true) ∧ ((({ (wRun .regulate).raiseFault 0 4 0 [] with par := { wMap.par with inUse := [(0x1027, 0x0800), (0x101E, 0x0040), (0x2000, 0x0010)] } } : State).atTime (0 : Nat)).isBoundary (0 : Fin 16) = true) ∧ ((({ (wRun .regulate).raiseFault 0 4 0 [] with par := { wMap.par with inUse := [(0x1027, 0x0800), (0x101E, 0x0040), (0x2000, 0x0010)] } } : State).loop (0 : Fin 16)).prt.raised ≠ []) ∧ ((({ (wRun .regulate).raiseFault 0 4 0 [] with par := { wMap.par with inUse := [(0x1027, 0x0800), (0x101E, 0x0040), (0x2000, 0x0010)] } } : State).st (0 : Fin 16)).running = true) ∧ ((({ (wRun .regulate).raiseFault 0 4 0 [] with par := { wMap.par with inUse := [(0x1027, 0x0800), (0x101E, 0x0040), (0x2000, 0x0010)] } } : State).actions (0 : Fin 16) (sortRaised (({ (wRun .regulate).raiseFault 0 4 0 [] with par := { wMap.par with inUse := [(0x1027, 0x0800), (0x101E, 0x0040), (0x2000, 0x0010)] } } : State).loop (0 : Fin 16)).prt.raised)).foldl (fun (m : Nat) (a : Acted) => max m a.2) 0 = 4) := by decide +kernel
theorem witness_FaultActionCommands_1 : ((wUp : State).window = true) := by decide +kernel
theorem witness_FaultActionCommands_2 : (({ (wRun .hiccupWait) with win := { wUp.win with loopOn := 1 } } : State).up = true) ∧ (({ (wRun .hiccupWait) with win := { wUp.win with loopOn := 1 } } : State).st (0 : Fin 16) = .hiccupWait) ∧ ((({ (wRun .hiccupWait) with win := { wUp.win with loopOn := 1 } } : State).atTime (Config.ms 100 : Nat)).isBoundary (0 : Fin 16) = true) ∧ (({ (wRun .hiccupWait) with win := { wUp.win with loopOn := 1 } } : State).enabled (0 : Fin 16) = true) ∧ ((({ (wRun .hiccupWait) with win := { wUp.win with loopOn := 1 } } : State).atTime (Config.ms 100 : Nat)).heldOff (0 : Fin 16) = false) ∧ ((({ (wRun .hiccupWait) with win := { wUp.win with loopOn := 1 } } : State).loop (0 : Fin 16)).sp.since + Config.ms (fld (({ (wRun .hiccupWait) with win := { wUp.win with loopOn := 1 } } : State).lp (0 : Fin 16) 0x29) 11 0) ≤ max ({ (wRun .hiccupWait) with win := { wUp.win with loopOn := 1 } } : State).now (Config.ms 100 : Nat)) := by decide +kernel
theorem witness_FaultActionCommands_3 : (((wRun .regulate).updPrt 0 fun p => { p with retries := 2 } : State).st (0 : Fin 16) = .regulate) ∧ (0 < (((wRun .regulate).updPrt 0 fun p => { p with retries := 2 } : State).loop (0 : Fin 16)).prt.retries) ∧ ((((wRun .regulate).updPrt 0 fun p => { p with retries := 2 } : State).loop (0 : Fin 16)).sp.since + Config.ms 100 ≤ max ((wRun .regulate).updPrt 0 fun p => { p with retries := 2 } : State).now (Config.ms 100 : Nat)) := by decide +kernel
theorem witness_FaultActionCommands_4 : ((wUp : State).window = true) := by decide +kernel
theorem witness_FaultActionCommands_5 : (({ wUp with prot := { wUp.prot with fltDrive := some 0 } } : State).faultSelected = false) ∧ (({ wUp with prot := { wUp.prot with fltDrive := some 0 } } : State).prot.fltDrive = some (0 : Nat)) ∧ ((0 : Nat) + Config.us 20 ≤ max ({ wUp with prot := { wUp.prot with fltDrive := some 0 } } : State).now (Config.us 20 : Nat)) := by decide +kernel
theorem witness_FaultActionCommands_6 : ((wUp : State).power.vaux = true) ∧ ((wUp : State).prot.fltDrive = none) ∧ ((wUp : State).prot.finOnset = false) ∧ ((wUp : State).up = true) := by decide +kernel
theorem witness_FaultActionCommands_7 : (({ wUp with prot := { wUp.prot with fltLow := true, finOnset := true, finHold := true } } : State).prot.fltDrive = none) ∧ (({ wUp with prot := { wUp.prot with fltLow := true, finOnset := true, finHold := true } } : State).prot.fltLow = true) := by decide +kernel
theorem witness_LeashLinkCommands_0 : (({ wUp with lsh := { wUp.lsh with link := .listen } } : State).up = true) ∧ (({ wUp with lsh := { wUp.lsh with link := .listen } } : State).lsh.link = .listen) := by decide +kernel
theorem witness_LeashLinkCommands_1 : (({ wUp with lsh := { wUp.lsh with link := .follow, missed := 4 } } : State).up = true) ∧ (({ wUp with lsh := { wUp.lsh with link := .follow, missed := 4 } } : State).lsh.link = .follow) ∧ (4 ≤ ({ wUp with lsh := { wUp.lsh with link := .follow, missed := 4 } } : State).lsh.missed) := by decide +kernel
theorem witness_LeashLinkCommands_2 : (({ wUp with lsh := { wUp.lsh with link := .listen }, par := { wUp.par with inUse := [(0x3000, 3)] } } : State).up = true) ∧ (({ wUp with lsh := { wUp.lsh with link := .listen }, par := { wUp.par with inUse := [(0x3000, 3)] } } : State).lsh.link = .listen) ∧ (({ wUp with lsh := { wUp.lsh with link := .listen }, par := { wUp.par with inUse := [(0x3000, 3)] } } : State).lsh.holdFrom + ({ wUp with lsh := { wUp.lsh with link := .listen }, par := { wUp.par with inUse := [(0x3000, 3)] } } : State).holdoff ≤ max ({ wUp with lsh := { wUp.lsh with link := .listen }, par := { wUp.par with inUse := [(0x3000, 3)] } } : State).now (Config.ms 10 : Nat)) ∧ (({ wUp with lsh := { wUp.lsh with link := .listen }, par := { wUp.par with inUse := [(0x3000, 3)] } } : State).tkEn = true) ∧ ((({ wUp with lsh := { wUp.lsh with link := .listen }, par := { wUp.par with inUse := [(0x3000, 3)] } } : State).lsh.err = .active ∨ ({ wUp with lsh := { wUp.lsh with link := .listen }, par := { wUp.par with inUse := [(0x3000, 3)] } } : State).lsh.err = .wary)) ∧ (({ wUp with lsh := { wUp.lsh with link := .listen }, par := { wUp.par with inUse := [(0x3000, 3)] } } : State).lsh.orphan = false) := by decide +kernel
theorem witness_LeashLinkCommands_3 : (({ wUp with lsh := { wUp.lsh with link := .listen }, par := { wUp.par with inUse := [(0x3000, 1)] } } : State).up = true) ∧ (({ wUp with lsh := { wUp.lsh with link := .listen }, par := { wUp.par with inUse := [(0x3000, 1)] } } : State).lsh.link = .listen) ∧ (({ wUp with lsh := { wUp.lsh with link := .listen }, par := { wUp.par with inUse := [(0x3000, 1)] } } : State).lsh.holdFrom + ({ wUp with lsh := { wUp.lsh with link := .listen }, par := { wUp.par with inUse := [(0x3000, 1)] } } : State).holdoff ≤ max ({ wUp with lsh := { wUp.lsh with link := .listen }, par := { wUp.par with inUse := [(0x3000, 1)] } } : State).now (Config.ms 10 : Nat)) ∧ (({ wUp with lsh := { wUp.lsh with link := .listen }, par := { wUp.par with inUse := [(0x3000, 1)] } } : State).tkEn = false) := by decide +kernel
theorem witness_LeashLinkCommands_4 : (({ wUp with stb := { wUp.stb with src := .osc } } : State).booted = true) ∧ (({ wUp with stb := { wUp.stb with src := .osc } } : State).stb.due ≤ max ({ wUp with stb := { wUp.stb with src := .osc } } : State).now (Config.us 10 : Nat)) ∧ (({ wUp with stb := { wUp.stb with src := .osc } } : State).stb.src = .osc) := by decide +kernel
theorem witness_LeashLinkCommands_5 : (({ wUp with lsh := { wUp.lsh with link := .follow, claim := some 0 } } : State).up = true) ∧ (({ wUp with lsh := { wUp.lsh with link := .follow, claim := some 0 } } : State).lsh.link = .follow) ∧ (({ wUp with lsh := { wUp.lsh with link := .follow, claim := some 0 } } : State).lsh.claim = some ({ wUp with lsh := { wUp.lsh with link := .follow, claim := some 0 } } : State).stb.count) := by decide +kernel
theorem witness_LeashLinkCommands_6 : (({ wUp with lsh := { wUp.lsh with link := .follow } } : State).up = true) ∧ (({ wUp with lsh := { wUp.lsh with link := .follow } } : State).lsh.link ≠ .off) ∧ (({ wUp with lsh := { wUp.lsh with link := .follow } } : State).lsh.jabCut = false) := by decide +kernel
theorem witness_LeashLinkCommands_7 : (({ wUp with lsh := { wUp.lsh with link := .follow, nap := true, napAt := some 1, syncAt := some 0 } } : State).up = true) ∧ (({ wUp with lsh := { wUp.lsh with link := .follow, nap := true, napAt := some 1, syncAt := some 0 } } : State).lsh.nap = true) ∧ (({ wUp with lsh := { wUp.lsh with link := .follow, nap := true, napAt := some 1, syncAt := some 0 } } : State).lsh.link = .follow) ∧ (({ wUp with lsh := { wUp.lsh with link := .follow, nap := true, napAt := some 1, syncAt := some 0 } } : State).lsh.napFrame = 0) ∧ (({ wUp with lsh := { wUp.lsh with link := .follow, nap := true, napAt := some 1, syncAt := some 0 } } : State).lsh.napMiss = none) ∧ (({ wUp with lsh := { wUp.lsh with link := .follow, nap := true, napAt := some 1, syncAt := some 0 } } : State).burstAt = some (Config.us 10 : Nat)) ∧ ((Config.us 10 : Nat) ≤ max ({ wUp with lsh := { wUp.lsh with link := .follow, nap := true, napAt := some 1, syncAt := some 0 } } : State).now (Config.us 10 : Nat) + twDur (({ wUp with lsh := { wUp.lsh with link := .follow, nap := true, napAt := some 1, syncAt := some 0 } } : State).pg 0x30 2)) := by decide +kernel
theorem witness_LeashLinkCommands_8 : (({ wUp with lsh := { wUp.lsh with link := .follow, nap := true, napFrame := 1, napAt := some 1, syncAt := some 0 } } : State).up = true) ∧ (({ wUp with lsh := { wUp.lsh with link := .follow, nap := true, napFrame := 1, napAt := some 1, syncAt := some 0 } } : State).lsh.nap = true) ∧ (({ wUp with lsh := { wUp.lsh with link := .follow, nap := true, napFrame := 1, napAt := some 1, syncAt := some 0 } } : State).lsh.link = .follow) ∧ (({ wUp with lsh := { wUp.lsh with link := .follow, nap := true, napFrame := 1, napAt := some 1, syncAt := some 0 } } : State).lsh.napFrame = 1) ∧ (({ wUp with lsh := { wUp.lsh with link := .follow, nap := true, napFrame := 1, napAt := some 1, syncAt := some 0 } } : State).lsh.syncNow = false) ∧ (({ wUp with lsh := { wUp.lsh with link := .follow, nap := true, napFrame := 1, napAt := some 1, syncAt := some 0 } } : State).burstAt = some (Config.us 10 : Nat)) ∧ ((Config.us 10 : Nat) + twDur (({ wUp with lsh := { wUp.lsh with link := .follow, nap := true, napFrame := 1, napAt := some 1, syncAt := some 0 } } : State).pg 0x30 2) ≤ max ({ wUp with lsh := { wUp.lsh with link := .follow, nap := true, napFrame := 1, napAt := some 1, syncAt := some 0 } } : State).now (Config.ms 1000 : Nat)) := by decide +kernel
theorem witness_LeashLinkCommands_9 : (({ wUp with lsh := { wUp.lsh with link := .follow, nap := true, napMiss := some 0 } } : State).up = true) ∧ (({ wUp with lsh := { wUp.lsh with link := .follow, nap := true, napMiss := some 0 } } : State).lsh.nap = true) ∧ (({ wUp with lsh := { wUp.lsh with link := .follow, nap := true, napMiss := some 0 } } : State).lsh.napMiss = some (0 : Nat)) ∧ ((0 : Nat) + napFrames ({ wUp with lsh := { wUp.lsh with link := .follow, nap := true, napMiss := some 0 } } : State).lsh.napInt * ({ wUp with lsh := { wUp.lsh with link := .follow, nap := true, napMiss := some 0 } } : State).framePeriod ≤ max ({ wUp with lsh := { wUp.lsh with link := .follow, nap := true, napMiss := some 0 } } : State).now (Config.ms 1000 : Nat)) := by decide +kernel
theorem witness_LeashLinkCommands_10 : ((wUp : State).window = true) ∧ ((wUp : State).up = true) ∧ (bitAt (1 : W16) 0 = true) := by decide +kernel
theorem witness_LinkMessageCommands_0 : ((wLsh .lead : State).linked = true) ∧ ((2 : Fin 8) ≠ (wLsh .lead : State).own) ∧ ((wLsh .lead : State).chw.armed = false) ∧ ((wLsh .lead : State).chw.held = []) := by decide +kernel
theorem witness_LinkMessageCommands_1 : ((wLsh .lead : State).linked = true) ∧ ((2 : Fin 8) ≠ (wLsh .lead : State).own) ∧ ((wLsh .lead : State).chw.armed = false) ∧ ((wLsh .lead : State).chw.held = []) ∧ ((wLsh .lead : State).lsh.link = .lead) ∧ ((wLsh .lead : State).lsh.handTo = none) := by decide +kernel
theorem witness_LinkMessageCommands_2 : (({ wLsh .follow with lsh := { (wLsh .follow).lsh with tk := 2 } } : State).linked = true) ∧ ((2 : Fin 8) ≠ ({ wLsh .follow with lsh := { (wLsh .follow).lsh with tk := 2 } } : State).own) ∧ (({ wLsh .follow with lsh := { (wLsh .follow).lsh with tk := 2 } } : State).chw.armed = false) ∧ (({ wLsh .follow with lsh := { (wLsh .follow).lsh with tk := 2 } } : State).chw.held = []) ∧ (({ wLsh .follow with lsh := { (wLsh .follow).lsh with tk := 2 } } : State).lsh.link = .follow) ∧ ((2 : Fin 8).val = ({ wLsh .follow with lsh := { (wLsh .follow).lsh with tk := 2 } } : State).lsh.tk) := by decide +kernel
theorem witness_LinkMessageCommands_3 : (({ wLsh .lead with lsh := { (wLsh .lead).lsh with nap := true } } : State).linked = true) ∧ ((2 : Fin 8) ≠ ({ wLsh .lead with lsh := { (wLsh .lead).lsh with nap := true } } : State).own) ∧ (({ wLsh .lead with lsh := { (wLsh .lead).lsh with nap := true } } : State).chw.armed = false) ∧ (({ wLsh .lead with lsh := { (wLsh .lead).lsh with nap := true } } : State).chw.held = []) ∧ (({ wLsh .lead with lsh := { (wLsh .lead).lsh with nap := true } } : State).lsh.link = .lead) ∧ (({ wLsh .lead with lsh := { (wLsh .lead).lsh with nap := true } } : State).lsh.nap = true) := by decide +kernel
theorem witness_LinkMessageCommands_4 : (((wLsh .lead).updPeer 2 fun q => { q with chal := some { cert := true } } : State).linked = true) ∧ ((2 : Fin 8) ≠ ((wLsh .lead).updPeer 2 fun q => { q with chal := some { cert := true } } : State).own) ∧ (((wLsh .lead).updPeer 2 fun q => { q with chal := some { cert := true } } : State).chw.armed = false) ∧ (((wLsh .lead).updPeer 2 fun q => { q with chal := some { cert := true } } : State).chw.held = []) ∧ ((((wLsh .lead).updPeer 2 fun q => { q with chal := some { cert := true } } : State).peer (2 : Fin 8)).chal = some ({ cert := true } : Chal)) ∧ (({ cert := true } : Chal).cert = true) ∧ (fld (0x1234 : W32) 25 16 = 0) := by decide +kernel
theorem witness_LinkMessageCommands_5 : ((wLsh .lead : State).linked = true) ∧ ((2 : Fin 8) ≠ (wLsh .lead : State).own) ∧ ((wLsh .lead : State).chw.armed = false) ∧ ((wLsh .lead : State).chw.held = []) ∧ (fld (0x1234 : W32) 31 29 = (wLsh .lead : State).pos) ∧ (fld (0x1234 : W32) 18 16 = 0) := by decide +kernel
theorem witness_LinkMessageCommands_6 : (((wLsh .lead).updPeer 2 fun q => { q with chal := some {} } : State).linked = true) ∧ ((2 : Fin 8) ≠ ((wLsh .lead).updPeer 2 fun q => { q with chal := some {} } : State).own) ∧ (((wLsh .lead).updPeer 2 fun q => { q with chal := some {} } : State).chw.armed = false) ∧ (((wLsh .lead).updPeer 2 fun q => { q with chal := some {} } : State).chw.held = []) ∧ ((((wLsh .lead).updPeer 2 fun q => { q with chal := some {} } : State).peer (2 : Fin 8)).chal = some ({} : Chal)) ∧ (fld (0x1234 : W32) 31 29 = ((wLsh .lead).updPeer 2 fun q => { q with chal := some {} } : State).pos) ∧ (fld (0x1234 : W32) 28 24 < 31) ∧ (({} : Chal).respIn.length = 2 * fld (0x1234 : W32) 28 24) := by decide +kernel
theorem witness_LinkMessageCommands_7 : ((wLsh .lead : State).linked = true) ∧ ((2 : Fin 8) ≠ (wLsh .lead : State).own) ∧ ((wLsh .lead : State).chw.armed = false) ∧ ((wLsh .lead : State).chw.held = []) := by decide +kernel
theorem witness_ServiceMessageCommands_0 : ((wLsh .lead : State).linked = true) ∧ ((2 : Fin 8) ≠ (wLsh .lead : State).own) ∧ ((wLsh .lead : State).chw.armed = false) ∧ ((wLsh .lead : State).chw.held = []) ∧ (bitAt (wLsh .lead : State).svcCfg 0 = false) ∧ ((3 : Fin 16).val = fld (0x31234567 : W32) 31 28) := by decide +kernel
theorem witness_ServiceMessageCommands_1 : ((wLsh .lead : State).linked = true) ∧ ((2 : Fin 8) ≠ (wLsh .lead : State).own) ∧ ((wLsh .lead : State).chw.armed = false) ∧ ((wLsh .lead : State).chw.held = []) ∧ (bitAt (wLsh .lead : State).svcCfg 0 = false) := by decide +kernel
theorem witness_ServiceMessageCommands_2 : ((wLsh .lead : State).linked = true) ∧ ((2 : Fin 8) ≠ (wLsh .lead : State).own) ∧ ((wLsh .lead : State).chw.armed = false) ∧ ((wLsh .lead : State).chw.held = []) ∧ (bitAt (wLsh .lead : State).svcCfg 0 = false) := by decide +kernel
theorem witness_ServiceMessageCommands_3 : (((wLsh .lead).updTok fun k => { k with pend := true, pendGen := 3 } : State).linked = true) ∧ ((2 : Fin 8) ≠ ((wLsh .lead).updTok fun k => { k with pend := true, pendGen := 3 } : State).own) ∧ (((wLsh .lead).updTok fun k => { k with pend := true, pendGen := 3 } : State).chw.armed = false) ∧ (((wLsh .lead).updTok fun k => { k with pend := true, pendGen := 3 } : State).chw.held = []) ∧ (bitAt ((wLsh .lead).updTok fun k => { k with pend := true, pendGen := 3 } : State).svcCfg 0 = false) ∧ (((wLsh .lead).updTok fun k => { k with pend := true, pendGen := 3 } : State).peers.tok.pend = true) ∧ (newer (fld (0x00050000 : W32) 23 16) ((wLsh .lead).updTok fun k => { k with pend := true, pendGen := 3 } : State).peers.tok.pendGen = true) := by decide +kernel
theorem witness_ServiceMessageCommands_4 : ((wLsh .lead : State).linked = true) ∧ ((2 : Fin 8) ≠ (wLsh .lead : State).own) ∧ ((wLsh .lead : State).chw.armed = false) ∧ ((wLsh .lead : State).chw.held = []) ∧ (bitAt (wLsh .lead : State).svcCfg 0 = false) ∧ ((wLsh .lead : State).peers.tok.pend = false) ∧ (newer (fld (0x07050100 : W32) 23 16) (wLsh .lead : State).peers.tok.gen = true) := by decide +kernel
theorem witness_ServiceMessageCommands_5 : (((wLsh .lead).updTok fun k => { k with holder := 7, gen := 5, live := true } : State).linked = true) ∧ ((2 : Fin 8) ≠ ((wLsh .lead).updTok fun k => { k with holder := 7, gen := 5, live := true } : State).own) ∧ (((wLsh .lead).updTok fun k => { k with holder := 7, gen := 5, live := true } : State).chw.armed = false) ∧ (((wLsh .lead).updTok fun k => { k with holder := 7, gen := 5, live := true } : State).chw.held = []) ∧ (bitAt ((wLsh .lead).updTok fun k => { k with holder := 7, gen := 5, live := true } : State).svcCfg 0 = false) ∧ (fld (0x07050000 : W32) 31 24 = ((wLsh .lead).updTok fun k => { k with holder := 7, gen := 5, live := true } : State).peers.tok.holder) ∧ (fld (0x07050000 : W32) 23 16 = ((wLsh .lead).updTok fun k => { k with holder := 7, gen := 5, live := true } : State).peers.tok.gen) := by decide +kernel
theorem witness_ServiceMessageCommands_6 : ((wSwp : State).linked = true) ∧ ((2 : Fin 8) ≠ (wSwp : State).own) ∧ ((wSwp : State).chw.armed = false) ∧ ((wSwp : State).chw.held = []) ∧ (bitAt (wSwp : State).svcCfg 0 = false) ∧ ((wSwp : State).swpEn = true) ∧ ((wSwp : State).sweeping = false) := by decide +kernel
theorem witness_ServiceMessageCommands_7 : (({ wSwp with swp := { wSwp.swp with started := true, leadPos := 2 } } : State).linked = true) ∧ ((2 : Fin 8) ≠ ({ wSwp with swp := { wSwp.swp with started := true, leadPos := 2 } } : State).own) ∧ (({ wSwp with swp := { wSwp.swp with started := true, leadPos := 2 } } : State).chw.armed = false) ∧ (({ wSwp with swp := { wSwp.swp with started := true, leadPos := 2 } } : State).chw.held = []) ∧ (bitAt ({ wSwp with swp := { wSwp.swp with started := true, leadPos := 2 } } : State).svcCfg 0 = false) ∧ (({ wSwp with swp := { wSwp.swp with started := true, leadPos := 2 } } : State).swp.started = true) ∧ (({ wSwp with swp := { wSwp.swp with started := true, leadPos := 2 } } : State).swp.leadPos = (2 : Fin 8).val) ∧ ((wSwp.swpDigest : W32) = ({ wSwp with swp := { wSwp.swp with started := true, leadPos := 2 } } : State).swpDigest) := by decide +kernel
theorem witness_ServiceMessageCommands_8 : (({ wSwp with swp := { wSwp.swp with leading := true, sid := 7 } } : State).linked = true) ∧ ((2 : Fin 8) ≠ ({ wSwp with swp := { wSwp.swp with leading := true, sid := 7 } } : State).own) ∧ (({ wSwp with swp := { wSwp.swp with leading := true, sid := 7 } } : State).chw.armed = false) ∧ (({ wSwp with swp := { wSwp.swp with leading := true, sid := 7 } } : State).chw.held = []) ∧ (bitAt ({ wSwp with swp := { wSwp.swp with leading := true, sid := 7 } } : State).svcCfg 0 = false) ∧ (({ wSwp with swp := { wSwp.swp with leading := true, sid := 7 } } : State).swp.leading = true) ∧ (fld (0x07800000 : W32) 31 24 = ({ wSwp with swp := { wSwp.swp with leading := true, sid := 7 } } : State).swp.sid) ∧ (bitAt (0x07800000 : W32) 23 = true) := by decide +kernel
theorem witness_ServiceMessageCommands_9 : (({ wSwp with swp := { wSwp.swp with st := .armed, leadPos := 2, sid := 7 } } : State).linked = true) ∧ ((2 : Fin 8) ≠ ({ wSwp with swp := { wSwp.swp with st := .armed, leadPos := 2, sid := 7 } } : State).own) ∧ (({ wSwp with swp := { wSwp.swp with st := .armed, leadPos := 2, sid := 7 } } : State).chw.armed = false) ∧ (({ wSwp with swp := { wSwp.swp with st := .armed, leadPos := 2, sid := 7 } } : State).chw.held = []) ∧ (bitAt ({ wSwp with swp := { wSwp.swp with st := .armed, leadPos := 2, sid := 7 } } : State).svcCfg 0 = false) ∧ (({ wSwp with swp := { wSwp.swp with st := .armed, leadPos := 2, sid := 7 } } : State).sweeping = true) ∧ ((2 : Fin 8).val = ({ wSwp with swp := { wSwp.swp with st := .armed, leadPos := 2, sid := 7 } } : State).swp.leadPos) ∧ (fld (0x07060000 : W32) 31 24 = ({ wSwp with swp := { wSwp.swp with st := .armed, leadPos := 2, sid := 7 } } : State).swp.sid) := by decide +kernel
theorem witness_ServiceMessageCommands_10 : ((wLsh .lead : State).linked = true) ∧ ((2 : Fin 8) ≠ (wLsh .lead : State).own) ∧ ((wLsh .lead : State).chw.armed = false) ∧ ((wLsh .lead : State).chw.held = []) ∧ ((wLsh .lead : State).log.queue.length < 64) := by decide +kernel
theorem witness_ServiceMessageCommands_11 : (((wLsh .lead).updPower fun q => { q with g := .gasp } : State).linked = true) ∧ ((2 : Fin 8) ≠ ((wLsh .lead).updPower fun q => { q with g := .gasp } : State).own) ∧ (((wLsh .lead).updPower fun q => { q with g := .gasp } : State).chw.armed = false) ∧ (((wLsh .lead).updPower fun q => { q with g := .gasp } : State).chw.held = []) ∧ (bitAt (0x00642000 : W32) 11 = false) ∧ (((wLsh .lead).updPower fun q => { q with g := .gasp } : State).power.g = .gasp) ∧ (fld (0x00642000 : W32) 10 8 ≠ 3) := by decide +kernel
theorem witness_ServiceMessageCommands_12 : ((wLsh .lead : State).linked = true) ∧ ((2 : Fin 8) ≠ (wLsh .lead : State).own) ∧ ((wLsh .lead : State).chw.armed = false) ∧ ((wLsh .lead : State).chw.held = []) ∧ (bitAt (wLsh .lead : State).svcCfg 0 = false) ∧ (reservedType (2 : Fin 4).val (3 : Fin 8).val = true) := by decide +kernel
theorem witness_FrameCommands_0 : (({ wLsh .lead with lsh := { (wLsh .lead).lsh with syncAt := some 0 } } : State).linked = true) ∧ ((({ wLsh .lead with lsh := { (wLsh .lead).lsh with syncAt := some 0 } } : State).atTime (Config.ns 700 : Nat)).maySlot = true) ∧ ((({ wLsh .lead with lsh := { (wLsh .lead).lsh with syncAt := some 0 } } : State).atTime (Config.ns 700 : Nat)).slotPick.isSome = true) := by decide +kernel
theorem witness_FrameCommands_1 : ((wLsh .lead : State).linked = true) ∧ ((wLsh .lead : State).synced = true) ∧ ((wLsh .lead : State).lsh.nap = false) ∧ ((wLsh .lead : State).frameDue ≤ max (wLsh .lead : State).now (Config.us 100 : Nat) + Config.ns 100) ∧ ((wLsh .lead : State).chw.armed = false) := by decide +kernel
theorem witness_FrameCommands_2 : ((({ wUp with gsp := { wUp.gsp with lossFrom := some 0 }, par := { wUp.par with inUse := [(0x3300, 1)] } } : State).atTime (Config.ms 9000 : Nat)).ownLoss = true) ∧ (({ wUp with gsp := { wUp.gsp with lossFrom := some 0 }, par := { wUp.par with inUse := [(0x3300, 1)] } } : State).chw.armed = false) := by decide +kernel
theorem witness_ChallengeCommands_0 : (({ (wLsh .lead).updPeer 2 (fun q => { q with present := true }) with par := { wUp.par with inUse := [(0x3022, 2)] }, idn := { wUp.idn with rng := true, devKey := true, cert := true } } : State).linked = true) ∧ ((({ (wLsh .lead).updPeer 2 (fun q => { q with present := true }) with par := { wUp.par with inUse := [(0x3022, 2)] }, idn := { wUp.idn with rng := true, devKey := true, cert := true } } : State).atTime (5 : Nat)).chalReady (2 : Fin 8) = true) := by decide +kernel
theorem witness_ChallengeCommands_1 : (((wLsh .lead).updPeer 2 fun q => { q with chal := some { verify := some 0 } } : State).up = true) ∧ ((((wLsh .lead).updPeer 2 fun q => { q with chal := some { verify := some 0 } } : State).peer (2 : Fin 8)).chal = some ({ verify := some 0 } : Chal)) ∧ (({ verify := some 0 } : Chal).verify ≠ none) ∧ (((wLsh .lead).updPeer 2 fun q => { q with chal := some { verify := some 0 } } : State).signReady (.verify (2 : Fin 8)) = true) := by decide +kernel
theorem witness_ChallengeCommands_2 : (((wLsh .lead).updPeer 2 fun q => { q with chal := some { sentAt := some 0 } } : State).up = true) ∧ ((((wLsh .lead).updPeer 2 fun q => { q with chal := some { sentAt := some 0 } } : State).peer (2 : Fin 8)).chal = some ({ sentAt := some 0 } : Chal)) ∧ (({ sentAt := some 0 } : Chal).sentAt = some (0 : Nat)) ∧ ((0 : Nat) + Config.ms 500 ≤ max ((wLsh .lead).updPeer 2 fun q => { q with chal := some { sentAt := some 0 } } : State).now (Config.ms 500 : Nat)) := by decide +kernel
theorem witness_ChallengeCommands_3 : (({ wUp with peers := { wUp.peers with answers := [{}] }, idn := { wUp.idn with devKey := true, cert := true } } : State).up = true) ∧ (({ wUp with peers := { wUp.peers with answers := [{}] }, idn := { wUp.idn with devKey := true, cert := true } } : State).idnOk = true) ∧ (({ wUp with peers := { wUp.peers with answers := [{}] }, idn := { wUp.idn with devKey := true, cert := true } } : State).peers.answers = ({} : Answer) :: ([] : List Answer)) ∧ (({} : Answer).signed = false) ∧ (({ wUp with peers := { wUp.peers with answers := [{}] }, idn := { wUp.idn with devKey := true, cert := true } } : State).signReady .respond = true) := by decide +kernel
theorem witness_ChallengeCommands_4 : ((wUp.updPeer 2 fun q => { q with fails := 3 } : State).up = true) ∧ (((wUp.updPeer 2 fun q => { q with fails := 3 } : State).atTime (5 : Nat)).wireCause (2 : Fin 8) ≠ 0) ∧ (((wUp.updPeer 2 fun q => { q with fails := 3 } : State).atTime (5 : Nat)).wireCause (2 : Fin 8) ≠ ((wUp.updPeer 2 fun q => { q with fails := 3 } : State).peer (2 : Fin 8)).wiring) ∧ ((wUp.updPeer 2 fun q => { q with fails := 3 } : State).log.queue.length < 64) := by decide +kernel
theorem witness_ChallengeCommands_5 : (({ (wLsh .lead).updPeer 2 (fun q => { q with present := true }) with peers := { ((wLsh .lead).updPeer 2 (fun q => { q with present := true })).peers with digestDue := true } } : State).linked = true) ∧ ((2 : Fin 8) ≠ ({ (wLsh .lead).updPeer 2 (fun q => { q with present := true }) with peers := { ((wLsh .lead).updPeer 2 (fun q => { q with present := true })).peers with digestDue := true } } : State).own) ∧ ((({ (wLsh .lead).updPeer 2 (fun q => { q with present := true }) with peers := { ((wLsh .lead).updPeer 2 (fun q => { q with present := true })).peers with digestDue := true } } : State).peer (2 : Fin 8)).present = true) ∧ (({ (wLsh .lead).updPeer 2 (fun q => { q with present := true }) with peers := { ((wLsh .lead).updPeer 2 (fun q => { q with present := true })).peers with digestDue := true } } : State).peers.digestDue = true) := by decide +kernel
theorem witness_ChallengeCommands_6 : (({ wUp with peers := { wUp.peers with vals := wUp.peers.vals.set 35 { at_ := some 0 } } } : State).peers.vals[valIx (2 : Fin 8) (3 : Fin 16)].at_ = some (0 : Nat)) ∧ ((0 : Nat) + Config.us 200 ≤ max ({ wUp with peers := { wUp.peers with vals := wUp.peers.vals.set 35 { at_ := some 0 } } } : State).now (Config.us 200 : Nat)) := by decide +kernel
theorem witness_HandlerCommands_0 : ((wUp : State).window = true) ∧ ((wUp : State).peers.tok.pend = false) := by decide +kernel
theorem witness_HandlerCommands_1 : ((wUp : State).window = true) ∧ ((wUp : State).handlerOpen (7 : Byte) = true) ∧ (((wUp : State).atTime (0 : Nat)).leaseLive = false) := by decide +kernel
theorem witness_HandlerCommands_2 : ((wUp.updTok fun k => { k with live := true, expiry := Config.ms 10, holder := 7 } : State).window = true) ∧ ((wUp.updTok fun k => { k with live := true, expiry := Config.ms 10, holder := 7 } : State).handlerOpen (7 : Byte) = true) ∧ (((wUp.updTok fun k => { k with live := true, expiry := Config.ms 10, holder := 7 } : State).atTime (0 : Nat)).leaseLive = true) ∧ ((wUp.updTok fun k => { k with live := true, expiry := Config.ms 10, holder := 7 } : State).peers.tok.holder = (7 : Byte).toNat) := by decide +kernel
theorem witness_HandlerCommands_3 : ((wUp.updTok fun k => { k with live := true, expiry := Config.ms 10, holder := 7 } : State).window = true) ∧ ((wUp.updTok fun k => { k with live := true, expiry := Config.ms 10, holder := 7 } : State).handlerOpen (7 : Byte) = true) ∧ (((wUp.updTok fun k => { k with live := true, expiry := Config.ms 10, holder := 7 } : State).atTime (0 : Nat)).leaseLive = true) ∧ ((wUp.updTok fun k => { k with live := true, expiry := Config.ms 10, holder := 7 } : State).peers.tok.holder = (7 : Byte).toNat) := by decide +kernel
theorem witness_HandlerCommands_4 : ((wUp.updTok fun k => { k with pend := true, hostId := 7, pendGen := 1 } : State).up = true) ∧ (((wUp.updTok fun k => { k with pend := true, hostId := 7, pendGen := 1 } : State).atTime (Config.ms 10 : Nat)).acquireDue = true) ∧ ((wUp.updTok fun k => { k with pend := true, hostId := 7, pendGen := 1 } : State).peers.tok.lost = false) := by decide +kernel
theorem witness_HandlerCommands_5 : (({ (wLsh .lead).updTok (fun k => { k with live := true, expiry := Config.ms 10 }) with lsh := { (wLsh .lead).lsh with frames := 100 } } : State).linked = true) ∧ ((({ (wLsh .lead).updTok (fun k => { k with live := true, expiry := Config.ms 10 }) with lsh := { (wLsh .lead).lsh with frames := 100 } } : State).atTime (0 : Nat)).leaseLive = true) ∧ (({ (wLsh .lead).updTok (fun k => { k with live := true, expiry := Config.ms 10 }) with lsh := { (wLsh .lead).lsh with frames := 100 } } : State).peers.tok.source = ({ (wLsh .lead).updTok (fun k => { k with live := true, expiry := Config.ms 10 }) with lsh := { (wLsh .lead).lsh with frames := 100 } } : State).pos) ∧ (({ (wLsh .lead).updTok (fun k => { k with live := true, expiry := Config.ms 10 }) with lsh := { (wLsh .lead).lsh with frames := 100 } } : State).peers.tok.holdAt + 100 ≤ ({ (wLsh .lead).updTok (fun k => { k with live := true, expiry := Config.ms 10 }) with lsh := { (wLsh .lead).lsh with frames := 100 } } : State).lsh.frames) := by decide +kernel
theorem witness_HandlerCommands_6 : ((wUp.updTok fun k => { k with live := true } : State).peers.tok.live = true) ∧ ((wUp.updTok fun k => { k with live := true } : State).peers.tok.expiry ≤ max (wUp.updTok fun k => { k with live := true } : State).now (0 : Nat)) := by decide +kernel
theorem witness_HandlerCommands_7 : ((wUp : State).window = true) ∧ (((wUp : State).atTime (0 : Nat)).readOnly = false) ∧ ((wUp : State).peers.planBusy = none) := by decide +kernel
theorem witness_HandlerCommands_8 : (({ wUp with peers := { wUp.peers with planBusy := some 0 } } : State).peers.planBusy ≠ none) := by decide +kernel
theorem witness_SweepCommands_0 : ((wSwp : State).window = true) ∧ ((wSwp : State).up = true) ∧ ((wSwp : State).synced = true) ∧ ((wSwp : State).sweeping = false) := by decide +kernel
theorem witness_SweepCommands_1 : (({ wSwp with swp := { wSwp.swp with st := .armed } } : State).window = true) ∧ (({ wSwp with swp := { wSwp.swp with st := .armed } } : State).up = true) ∧ (({ wSwp with swp := { wSwp.swp with st := .armed } } : State).swp.st = .armed) := by decide +kernel
theorem witness_SweepCommands_2 : (({ wSwp with swp := { wSwp.swp with st := .armed, leading := true, sFixed := true, frameS := 100, joins := 4 } } : State).linked = true) ∧ (({ wSwp with swp := { wSwp.swp with st := .armed, leading := true, sFixed := true, frameS := 100, joins := 4 } } : State).swp.leading = true) ∧ (({ wSwp with swp := { wSwp.swp with st := .armed, leading := true, sFixed := true, frameS := 100, joins := 4 } } : State).swp.sFixed = true) ∧ (({ wSwp with swp := { wSwp.swp with st := .armed, leading := true, sFixed := true, frameS := 100, joins := 4 } } : State).swp.setAt ≠ some ({ wSwp with swp := { wSwp.swp with st := .armed, leading := true, sFixed := true, frameS := 100, joins := 4 } } : State).frameCount) ∧ (({ wSwp with swp := { wSwp.swp with st := .armed, leading := true, sFixed := true, frameS := 100, joins := 4 } } : State).lsh.sent = none) ∧ (max ({ wSwp with swp := { wSwp.swp with st := .armed, leading := true, sFixed := true, frameS := 100, joins := 4 } } : State).now (0 : Nat) < ({ wSwp with swp := { wSwp.swp with st := .armed, leading := true, sFixed := true, frameS := 100, joins := 4 } } : State).bitStart (({ wSwp with swp := { wSwp.swp with st := .armed, leading := true, sFixed := true, frameS := 100, joins := 4 } } : State).slotBit + 1)) ∧ (98 ≤ countFrom ({ wSwp with swp := { wSwp.swp with st := .armed, leading := true, sFixed := true, frameS := 100, joins := 4 } } : State).frameCount ({ wSwp with swp := { wSwp.swp with st := .armed, leading := true, sFixed := true, frameS := 100, joins := 4 } } : State).swp.frameS) ∧ (countFrom ({ wSwp with swp := { wSwp.swp with st := .armed, leading := true, sFixed := true, frameS := 100, joins := 4 } } : State).frameCount ({ wSwp with swp := { wSwp.swp with st := .armed, leading := true, sFixed := true, frameS := 100, joins := 4 } } : State).swp.frameS ≤ 100) ∧ (({ wSwp with swp := { wSwp.swp with st := .armed, leading := true, sFixed := true, frameS := 100, joins := 4 } } : State).leadMask ≠ 0) ∧ (({ wSwp with swp := { wSwp.swp with st := .armed, leading := true, sFixed := true, frameS := 100, joins := 4 } } : State).swp.st = .armed) := by decide +kernel
theorem witness_SweepCommands_3 : (({ wSwp with swp := { wSwp.swp with st := .armed, sFixed := true, maskSet := true, mask := 4 } } : State).up = true) ∧ (({ wSwp with swp := { wSwp.swp with st := .armed, sFixed := true, maskSet := true, mask := 4 } } : State).swp.st = .armed) ∧ (({ wSwp with swp := { wSwp.swp with st := .armed, sFixed := true, maskSet := true, mask := 4 } } : State).sweepDue = true) ∧ (({ wSwp with swp := { wSwp.swp with st := .armed, sFixed := true, maskSet := true, mask := 4 } } : State).swp.maskSet = true) := by decide +kernel
theorem witness_SweepCommands_4 : (({ wSwp with swp := { wSwp.swp with st := .running, windowDone := true, mask := 4 } } : State).up = true) ∧ (({ wSwp with swp := { wSwp.swp with st := .running, windowDone := true, mask := 4 } } : State).swp.st = .running) ∧ (({ wSwp with swp := { wSwp.swp with st := .running, windowDone := true, mask := 4 } } : State).swp.windowDone = true) ∧ (({ wSwp with swp := { wSwp.swp with st := .running, windowDone := true, mask := 4 } } : State).nextStep < ({ wSwp with swp := { wSwp.swp with st := .running, windowDone := true, mask := 4 } } : State).swpSteps) ∧ (({ wSwp with swp := { wSwp.swp with st := .running, windowDone := true, mask := 4 } } : State).swp.nextFrame * Config.us 10 ≤ ({ wSwp with swp := { wSwp.swp with st := .running, windowDone := true, mask := 4 } } : State).sweepTime (max ({ wSwp with swp := { wSwp.swp with st := .running, windowDone := true, mask := 4 } } : State).now (0 : Nat))) := by decide +kernel
theorem witness_SweepCommands_5 : (({ wSwp with swp := { wSwp.swp with st := .running, step := some 0, windowDone := false, f := 100, ys := List.replicate 300 (0, 0) }, lsh := { wSwp.lsh with syncAt := some 0 }, par := { wSwp.par with inUse := [(0x3200, 1), (0x3204, 0x0101)] } } : State).up = true) ∧ (({ wSwp with swp := { wSwp.swp with st := .running, step := some 0, windowDone := false, f := 100, ys := List.replicate 300 (0, 0) }, lsh := { wSwp.lsh with syncAt := some 0 }, par := { wSwp.par with inUse := [(0x3200, 1), (0x3204, 0x0101)] } } : State).swp.st = .running) ∧ (({ wSwp with swp := { wSwp.swp with st := .running, step := some 0, windowDone := false, f := 100, ys := List.replicate 300 (0, 0) }, lsh := { wSwp.lsh with syncAt := some 0 }, par := { wSwp.par with inUse := [(0x3200, 1), (0x3204, 0x0101)] } } : State).swp.step = some (0 : Nat)) ∧ (({ wSwp with swp := { wSwp.swp with st := .running, step := some 0, windowDone := false, f := 100, ys := List.replicate 300 (0, 0) }, lsh := { wSwp.lsh with syncAt := some 0 }, par := { wSwp.par with inUse := [(0x3200, 1), (0x3204, 0x0101)] } } : State).swp.windowDone = false) ∧ (({ wSwp with swp := { wSwp.swp with st := .running, step := some 0, windowDone := false, f := 100, ys := List.replicate 300 (0, 0) }, lsh := { wSwp.lsh with syncAt := some 0 }, par := { wSwp.par with inUse := [(0x3200, 1), (0x3204, 0x0101)] } } : State).periods (({ wSwp with swp := { wSwp.swp with st := .running, step := some 0, windowDone := false, f := 100, ys := List.replicate 300 (0, 0) }, lsh := { wSwp.lsh with syncAt := some 0 }, par := { wSwp.par with inUse := [(0x3200, 1), (0x3204, 0x0101)] } } : State).swpSettle + ({ wSwp with swp := { wSwp.swp with st := .running, step := some 0, windowDone := false, f := 100, ys := List.replicate 300 (0, 0) }, lsh := { wSwp.lsh with syncAt := some 0 }, par := { wSwp.par with inUse := [(0x3200, 1), (0x3204, 0x0101)] } } : State).swpNcyc) ≤ ({ wSwp with swp := { wSwp.swp with st := .running, step := some 0, windowDone := false, f := 100, ys := List.replicate 300 (0, 0) }, lsh := { wSwp.lsh with syncAt := some 0 }, par := { wSwp.par with inUse := [(0x3200, 1), (0x3204, 0x0101)] } } : State).stepTime (max ({ wSwp with swp := { wSwp.swp with st := .running, step := some 0, windowDone := false, f := 100, ys := List.replicate 300 (0, 0) }, lsh := { wSwp.lsh with syncAt := some 0 }, par := { wSwp.par with inUse := [(0x3200, 1), (0x3204, 0x0101)] } } : State).now (Config.ms 1000 : Nat))) ∧ (({ wSwp with swp := { wSwp.swp with st := .running, step := some 0, windowDone := false, f := 100, ys := List.replicate 300 (0, 0) }, lsh := { wSwp.lsh with syncAt := some 0 }, par := { wSwp.par with inUse := [(0x3200, 1), (0x3204, 0x0101)] } } : State).swpM ≤ ({ wSwp with swp := { wSwp.swp with st := .running, step := some 0, windowDone := false, f := 100, ys := List.replicate 300 (0, 0) }, lsh := { wSwp.lsh with syncAt := some 0 }, par := { wSwp.par with inUse := [(0x3200, 1), (0x3204, 0x0101)] } } : State).swp.ys.length) := by decide +kernel
theorem witness_SweepCommands_6 : (({ wSwp with swp := { wSwp.swp with st := .running, waits := [{ ire := some 100, iim := some 0, vre := 50 }] } } : State).up = true) ∧ (({ wSwp with swp := { wSwp.swp with st := .running, waits := [{ ire := some 100, iim := some 0, vre := 50 }] } } : State).swp.st = .running) ∧ (({ wSwp with swp := { wSwp.swp with st := .running, waits := [{ ire := some 100, iim := some 0, vre := 50 }] } } : State).swp.waits = ({ ire := some 100, iim := some 0, vre := 50 } : SwpWait) :: ([] : List SwpWait)) ∧ (({ ire := some 100, iim := some 0, vre := 50 } : SwpWait).ire ≠ none) ∧ (({ ire := some 100, iim := some 0, vre := 50 } : SwpWait).iim ≠ none) := by decide +kernel
theorem witness_SweepCommands_7 : (({ wSwp with swp := { wSwp.swp with st := .running } } : State).up = true) ∧ (({ wSwp with swp := { wSwp.swp with st := .running } } : State).swp.st = .running) ∧ (({ wSwp with swp := { wSwp.swp with st := .running } } : State).swpSteps ≤ ({ wSwp with swp := { wSwp.swp with st := .running } } : State).swp.written) := by decide +kernel
theorem witness_SweepCommands_8 : (({ wSwp with swp := { wSwp.swp with st := .armed } } : State).up = true) ∧ (({ wSwp with swp := { wSwp.swp with st := .armed } } : State).sweeping = true) ∧ (({ wSwp with swp := { wSwp.swp with st := .armed } } : State).swp.leader = false) ∧ ((({ wSwp with swp := { wSwp.swp with st := .armed } } : State).peer ⟨({ wSwp with swp := { wSwp.swp with st := .armed } } : State).swp.leadPos % 8, Nat.mod_lt _ (by decide)⟩).present = false) := by decide +kernel
theorem witness_SweepCommands_9 : ((({ wUp.updLyr 0 (fun l => { l with st := .locked, updChunk := chunksOf (wUp.lyrP 0) }) with par := { wMap.par with inUse := [(0x390D, 0)] } } : State).loop (0 : Fin 16)).lyr.st = .locked) ∧ ((({ wUp.updLyr 0 (fun l => { l with st := .locked, updChunk := chunksOf (wUp.lyrP 0) }) with par := { wMap.par with inUse := [(0x390D, 0)] } } : State).loop (0 : Fin 16)).lyr.divflag = false) ∧ ((({ wUp.updLyr 0 (fun l => { l with st := .locked, updChunk := chunksOf (wUp.lyrP 0) }) with par := { wMap.par with inUse := [(0x390D, 0)] } } : State).loop (0 : Fin 16)).lyr.updChunk = chunksOf (({ wUp.updLyr 0 (fun l => { l with st := .locked, updChunk := chunksOf (wUp.lyrP 0) }) with par := { wMap.par with inUse := [(0x390D, 0)] } } : State).lyrP (0 : Fin 16))) ∧ (({ wUp.updLyr 0 (fun l => { l with st := .locked, updChunk := chunksOf (wUp.lyrP 0) }) with par := { wMap.par with inUse := [(0x390D, 0)] } } : State).pgL (0 : Fin 16) 0x39 0x0D = 0) := by decide +kernel
theorem witness_GaspCommands_0 : ((wUp.updPower fun p => { p with g := .gasp } : State).power.g = .gasp) ∧ ((wUp.updPower fun p => { p with g := .gasp } : State).gsp.evalAt + Config.us 100 ≤ max (wUp.updPower fun p => { p with g := .gasp } : State).now (Config.us 100 : Nat)) := by decide +kernel
theorem witness_GaspCommands_1 : ((({ wUp with power := { wUp.power with g := .gasp }, gsp := { wUp.gsp with retFrom := some 0 } } : State).atTime (Config.ms 9000 : Nat)).gaspOver = true) := by decide +kernel
theorem witness_GaspCommands_2 : (({ wUp with par := { wUp.par with inUse := [(0x3300, 1)] } } : State).window = true) ∧ (({ wUp with par := { wUp.par with inUse := [(0x3300, 1)] } } : State).mayRehearse = true) := by decide +kernel
theorem witness_GaspCommands_3 : (({ wUp with gsp := { wUp.gsp with rehearse := some 0 } } : State).gsp.rehearse = some (0 : Nat)) ∧ ((0 : Nat) + Config.ms 10000 ≤ max ({ wUp with gsp := { wUp.gsp with rehearse := some 0 } } : State).now (Config.ms 10000 : Nat)) := by decide +kernel
theorem witness_GaspCommands_4 : (({ wUp with gsp := { wUp.gsp with pend := some (List.replicate 192 0, 1) } } : State).gsp.pend = some ((List.replicate 192 0 : List Byte), (1 : Nat))) ∧ ((1 : Nat) < 4) ∧ (({ wUp with gsp := { wUp.gsp with pend := some (List.replicate 192 0, 1) } } : State).gsp.startWait = none) ∧ ((({ wUp with gsp := { wUp.gsp with pend := some (List.replicate 192 0, 1) } } : State).summarySigned || ({ wUp with gsp := { wUp.gsp with pend := some (List.replicate 192 0, 1) } } : State).signReady .summary) = true) := by decide +kernel
theorem witness_FetchCommands_0 : ((wFch : State).up = true) ∧ ((wFch : State).fchEn = true) ∧ ((wFch : State).fch.port = .up) ∧ ((wFch : State).fch.cur = none) ∧ ((wFch : State).fch.simLine = none) ∧ ((wFch : State).fch.idleAt + (wFch : State).busFree ≤ max (wFch : State).now (Config.ms 1000 : Nat)) ∧ (((wFch : State).atTime (Config.ms 1000 : Nat)).dueEntry = some (0 : Fin 32)) ∧ ((wFch : State).chw.armed = false) := by decide +kernel
theorem witness_FetchCommands_1 : ((wPoll : State).up = true) ∧ ((wPoll : State).fch.cur = some (0 : Fin 32)) ∧ ((wPoll : State).fch.curNack = false) ∧ ((wPoll : State).power.vddioL = true) ∧ (bitAt (wPoll : State).fch.curCtl 7 = false) ∧ (((wPoll : State).fch.entry (0 : Fin 32)).st ≠ .off) := by decide +kernel
theorem witness_FetchCommands_2 : ((wPoll : State).up = true) ∧ ((wPoll : State).fch.cur = some (0 : Fin 32)) := by decide +kernel
theorem witness_FetchCommands_3 : ((wPoll : State).up = true) ∧ ((wPoll : State).power.vddioL = true) ∧ ((wPoll : State).fch.cur = some (0 : Fin 32)) ∧ ((wPoll : State).fch.curAt + Config.ms 25 ≤ max (wPoll : State).now (Config.ms 25 : Nat)) := by decide +kernel
theorem witness_FetchCommands_4 : ((wPoll : State).up = true) ∧ ((wPoll : State).power.vddioL = true) ∧ ((wPoll : State).fch.cur = some (0 : Fin 32)) := by decide +kernel
theorem witness_FetchCommands_5 : (({ wFch with fch := { wFch.fch with port := .recover } } : State).up = true) ∧ (({ wFch with fch := { wFch.fch with port := .recover } } : State).fchEn = true) ∧ ((0 : Nat) ≤ Config.us 1100) ∧ ((({ wFch with fch := { wFch.fch with port := .recover } } : State).atTime (5 : Nat)).attemptDue (max ({ wFch with fch := { wFch.fch with port := .recover } } : State).now (5 : Nat) - (0 : Nat)) = true) ∧ (({ wFch with fch := { wFch.fch with port := .recover } } : State).fch.simLine = none) := by decide +kernel
theorem witness_FetchCommands_6 : (({ wFch with fch := { wFch.fch with port := .recover, fails := 2 } } : State).up = true) ∧ (({ wFch with fch := { wFch.fch with port := .recover, fails := 2 } } : State).fchEn = true) ∧ ((0 : Nat) ≤ Config.us 1100) ∧ ((({ wFch with fch := { wFch.fch with port := .recover, fails := 2 } } : State).atTime (5 : Nat)).attemptDue (max ({ wFch with fch := { wFch.fch with port := .recover, fails := 2 } } : State).now (5 : Nat) - (0 : Nat)) = true) ∧ (({ wFch with fch := { wFch.fch with port := .recover, fails := 2 } } : State).fch.simLine = none) ∧ (({ wFch with fch := { wFch.fch with port := .recover, fails := 2 } } : State).power.vddioL = true) ∧ (({ wFch with fch := { wFch.fch with port := .recover, fails := 2 } } : State).fch.port = .recover) ∧ (2 ≤ ({ wFch with fch := { wFch.fch with port := .recover, fails := 2 } } : State).fch.fails) := by decide +kernel
theorem witness_FetchCommands_7 : ((wUp : State).window = true) ∧ (bitAt (5 : W16) 15 = false) := by decide +kernel
theorem witness_FetchCommands_8 : (({ wUp with fch := { wUp.fch with simLine := some (true, 0) }, par := { wUp.par with inUse := [(0x3B0C, 1)] } } : State).fch.simLine = some ((true : Bool), (0 : Nat))) ∧ (twCount (({ wUp with fch := { wUp.fch with simLine := some (true, 0) }, par := { wUp.par with inUse := [(0x3B0C, 1)] } } : State).chwW 0x0C) ≠ 0) ∧ ((0 : Nat) + twDur (({ wUp with fch := { wUp.fch with simLine := some (true, 0) }, par := { wUp.par with inUse := [(0x3B0C, 1)] } } : State).chwW 0x0C) ≤ max ({ wUp with fch := { wUp.fch with simLine := some (true, 0) }, par := { wUp.par with inUse := [(0x3B0C, 1)] } } : State).now (Config.ms 9000 : Nat)) := by decide +kernel
theorem witness_RecorderCommands_0 : (({ wUp with log := { wUp.log with queue := [({}, 0)] } } : State).up = true) ∧ (({ wUp with log := { wUp.log with queue := [({}, 0)] } } : State).log.queue = (({} : LogEntry), (0 : Nat)) :: ([] : List (LogEntry × Nat))) ∧ (({ wUp with log := { wUp.log with queue := [({}, 0)] } } : State).log.count < 8191) := by decide +kernel
theorem witness_RecorderCommands_1 : (({ wUp with log := { wUp.log with count := 8192, queue := [({}, 0)] } } : State).up = true) ∧ (({ wUp with log := { wUp.log with count := 8192, queue := [({}, 0)] } } : State).log.queue = (({} : LogEntry), (0 : Nat)) :: ([] : List (LogEntry × Nat))) ∧ (({ wUp with log := { wUp.log with count := 8192, queue := [({}, 0)] } } : State).log.count = 8192) := by decide +kernel
theorem witness_RecorderCommands_2 : ((wUp : State).window = true) := by decide +kernel
theorem witness_RecorderCommands_3 : ((wUp.updTpl 1 fun x => { x with armed := true, slot := some 3 } : State).window = true) ∧ ((wUp.updTpl 1 fun x => { x with armed := true, slot := some 3 } : State).up = true) ∧ ((wUp.updTpl 1 fun x => { x with armed := true, slot := some 3 } : State).crb.hold = false) ∧ (((wUp.updTpl 1 fun x => { x with armed := true, slot := some 3 } : State).tpl (1 : Fin 4)).slot = some (3 : Fin 16)) ∧ (((wUp.updTpl 1 fun x => { x with armed := true, slot := some 3 } : State).tpl (1 : Fin 4)).post = false) ∧ (((wUp.updTpl 1 fun x => { x with armed := true, slot := some 3 } : State).tpl (1 : Fin 4)).trigPend = none) ∧ (((wUp.updTpl 1 fun x => { x with armed := true, slot := some 3 } : State).atTime (0 : Nat)).heldSince (1 : Fin 4) ((wUp.updTpl 1 fun x => { x with armed := true, slot := some 3 } : State).atTime (0 : Nat)).devTime = 0) := by decide +kernel
theorem witness_RecorderCommands_4 : ((wUp.updCrbSlot 3 fun x => { x with st := .done } : State).window = true) ∧ ((wUp.updCrbSlot 3 fun x => { x with st := .done } : State).up = true) := by decide +kernel
theorem witness_RecorderCommands_5 : ((wUp.updCrbSlot 3 fun x => { x with st := .locked } : State).window = true) ∧ ((wUp.updCrbSlot 3 fun x => { x with st := .locked } : State).up = true) := by decide +kernel
theorem witness_RecorderCommands_6 : ((wUp.updCrbSlot 3 fun x => { x with st := .done } : State).window = true) ∧ ((wUp.updCrbSlot 3 fun x => { x with st := .done } : State).up = true) := by decide +kernel
theorem witness_RecorderCommands_7 : ((wUp : State).window = true) ∧ ((wUp : State).up = true) := by decide +kernel
theorem witness_RecorderCommands_8 : ((wUp : State).window = true) ∧ ((wUp : State).up = true) := by decide +kernel
theorem witness_RecorderCommands_9 : ((wUp.updTpl 1 fun x => { x with armed := true } : State).up = true) ∧ ((((wUp.updTpl 1 fun x => { x with armed := true } : State).tpl (1 : Fin 4)).armed || ((wUp.updTpl 1 fun x => { x with armed := true } : State).tpl (1 : Fin 4)).post) = true) ∧ ((max (wUp.updTpl 1 fun x => { x with armed := true } : State).now (0 : Nat) - (wUp.updTpl 1 fun x => { x with armed := true } : State).power.bootTime) % Config.us 1 = 0) ∧ (((wUp.updTpl 1 fun x => { x with armed := true } : State).atTime (0 : Nat)).devTime % (wUp.updTpl 1 fun x => { x with armed := true } : State).tplPeriod (1 : Fin 4) = 0) ∧ (((wUp.updTpl 1 fun x => { x with armed := true } : State).tpl (1 : Fin 4)).sampleAt ≠ some ((wUp.updTpl 1 fun x => { x with armed := true } : State).atTime (0 : Nat)).devTime) := by decide +kernel
theorem witness_RecorderCommands_10 : ((wUp.updCrbSlot 3 fun x => { x with st := .seal, comp := false, cap := some wCap } : State).up = true) ∧ (((wUp.updCrbSlot 3 fun x => { x with st := .seal, comp := false, cap := some wCap } : State).slot (3 : Fin 16)).st = .seal) ∧ (((wUp.updCrbSlot 3 fun x => { x with st := .seal, comp := false, cap := some wCap } : State).slot (3 : Fin 16)).comp = false) ∧ (((wUp.updCrbSlot 3 fun x => { x with st := .seal, comp := false, cap := some wCap } : State).slot (3 : Fin 16)).cap = some (wCap : CrbCap)) := by decide +kernel
theorem witness_RecorderCommands_11 : ((wUp.updCrbSlot 3 fun x => { x with st := .seal, comp := true, cap := some wCap } : State).up = true) ∧ (((wUp.updCrbSlot 3 fun x => { x with st := .seal, comp := true, cap := some wCap } : State).slot (3 : Fin 16)).st = .seal) ∧ (((wUp.updCrbSlot 3 fun x => { x with st := .seal, comp := true, cap := some wCap } : State).slot (3 : Fin 16)).comp = true) ∧ (((wUp.updCrbSlot 3 fun x => { x with st := .seal, comp := true, cap := some wCap } : State).slot (3 : Fin 16)).cap = some (wCap : CrbCap)) ∧ (((wUp.updCrbSlot 3 fun x => { x with st := .seal, comp := true, cap := some wCap } : State).idnOk = false ∨ (wUp.updCrbSlot 3 fun x => { x with st := .seal, comp := true, cap := some wCap } : State).signReady (.record (3 : Fin 16)) = true)) := by decide +kernel
theorem witness_RecorderCommands_12 : ((wUp.updPins fun p => { p with pulseAt := p.pulseAt.set 3 (some 0), pulseOn := p.pulseOn.set 3 true } : State).pins.pulseAt[(3 : Fin 24)] = some (0 : Nat)) ∧ ((0 : Nat) + Config.us 1 ≤ max (wUp.updPins fun p => { p with pulseAt := p.pulseAt.set 3 (some 0), pulseOn := p.pulseOn.set 3 true } : State).now (Config.us 1 : Nat)) := by decide +kernel
theorem witness_TokenCommands_0 : ((wUp : State).window = true) ∧ ((wUp : State).idn.busy = none) := by decide +kernel
theorem witness_TokenCommands_1 : ((wUp : State).window = true) ∧ ((wUp : State).idn.busy = none) ∧ ((wUp : State).idn.excess = false) := by decide +kernel
theorem witness_TokenCommands_2 : ((wUp : State).window = true) ∧ ((wUp : State).idn.busy = none) ∧ ((wUp : State).idn.excess = false) := by decide +kernel
theorem witness_TokenCommands_3 : ((wUp : State).window = true) ∧ ((wUp : State).idn.busy = none) := by decide +kernel
theorem witness_TokenCommands_4 : ((wUp : State).window = true) ∧ ((wUp : State).idn.busy = none) ∧ ((wUp : State).idn.excess = false) := by decide +kernel
theorem witness_TokenCommands_5 : ((wUp : State).window = true) ∧ ((wUp : State).idn.busy = none) := by decide +kernel
theorem witness_TokenCommands_6 : (({ wUp with idn := { wUp.idn with busy := some .install, work := wKey } } : State).up = true) ∧ (({ wUp with idn := { wUp.idn with busy := some .install, work := wKey } } : State).idn.busy = some .install) ∧ (({ wUp with idn := { wUp.idn with busy := some .install, work := wKey } } : State).idn.early = 0) ∧ (({ wUp with idn := { wUp.idn with busy := some .install, work := wKey } } : State).idn.work.length = 64) ∧ (({ wUp with idn := { wUp.idn with busy := some .install, work := wKey } } : State).idn.opk = []) ∧ (onCurve (keyOf ({ wUp with idn := { wUp.idn with busy := some .install, work := wKey } } : State).idn.work) = true) := by decide +kernel
theorem witness_TokenCommands_7 : (({ wUp with idn := { wUp.idn with busy := some .install, work := wKey, opk := [(1, 2)] } } : State).up = true) ∧ (({ wUp with idn := { wUp.idn with busy := some .install, work := wKey, opk := [(1, 2)] } } : State).idn.busy = some .install) ∧ (({ wUp with idn := { wUp.idn with busy := some .install, work := wKey, opk := [(1, 2)] } } : State).idn.early = 0) ∧ (({ wUp with idn := { wUp.idn with busy := some .install, work := wKey, opk := [(1, 2)] } } : State).idn.work.length = 64) ∧ (({ wUp with idn := { wUp.idn with busy := some .install, work := wKey, opk := [(1, 2)] } } : State).idn.opk ≠ []) := by decide +kernel
theorem witness_TokenCommands_8 : (({ wUp with idn := { wUp.idn with busy := some .install, early := 4, work := wKey } } : State).up = true) ∧ (({ wUp with idn := { wUp.idn with busy := some .install, early := 4, work := wKey } } : State).idn.busy = some (.install : IdnCmd)) ∧ (({ wUp with idn := { wUp.idn with busy := some .install, early := 4, work := wKey } } : State).idn.early ≠ 0) ∧ (((.install : IdnCmd) ≠ .attest ∨ ({ wUp with idn := { wUp.idn with busy := some .install, early := 4, work := wKey } } : State).busy = false)) ∧ ((({ wUp with idn := { wUp.idn with busy := some .install, early := 4, work := wKey } } : State).tokenServed || ({ wUp with idn := { wUp.idn with busy := some .install, early := 4, work := wKey } } : State).signReady .token) = true) := by decide +kernel
theorem witness_TokenCommands_9 : (({ wUp with idn := { wUp.idn with busy := some .readCert } } : State).up = true) ∧ (({ wUp with idn := { wUp.idn with busy := some .readCert } } : State).idn.busy = some .readCert) ∧ (({ wUp with idn := { wUp.idn with busy := some .readCert } } : State).idn.early = 0) := by decide +kernel
theorem witness_TokenCommands_10 : ((wUp : State).window = true) ∧ ((wUp : State).idn.busy = none) ∧ (((wUp : State).atTime (0 : Nat)).readOnly = false) := by decide +kernel
theorem witness_TokenCommands_11 : ((wUp : State).window = true) ∧ ((wUp : State).idn.busy = none) := by decide +kernel
theorem witness_TokenCommands_12 : ((wUp : State).window = true) := by decide +kernel
theorem witness_TokenCommands_13 : ((wUp : State).window = true) := by decide +kernel
theorem witness_TokenCommands_14 : (({ wUp with idn := { wUp.idn with unlock := some { ranges := [], life := 1, from_ := 0 } } } : State).idn.unlock ≠ none) ∧ ((({ wUp with idn := { wUp.idn with unlock := some { ranges := [], life := 1, from_ := 0 } } } : State).atTime (Config.ms 9000 : Nat)).activeUnlock = none) := by decide +kernel
theorem witness_TokenCommands_15 : ((wUp : State).up = true) := by decide +kernel
theorem witness_TokenCommands_16 : (({ wUp with idn := { wUp.idn with rng := true, reqs := 65536 } } : State).idn.rng = true) ∧ (65536 ≤ ({ wUp with idn := { wUp.idn with rng := true, reqs := 65536 } } : State).idn.reqs) := by decide +kernel
theorem witness_ChewCommands_0 : ((wChew false : State).window = true) ∧ (((wChew false : State).atTime (5 : Nat)).mayArm = true) := by decide +kernel
theorem witness_ChewCommands_1 : ((wUp : State).window = true) ∧ (((wUp : State).atTime (5 : Nat)).mayArm = false) := by decide +kernel
theorem witness_ChewCommands_2 : ((wChew true : State).window = true) ∧ ((wChew true : State).chw.armed = true) ∧ ((wChew true : State).chw.held = []) := by decide +kernel
theorem witness_ChewCommands_3 : ((wChew true : State).chw.armed = true) ∧ ((wChew true : State).chw.armAt + twDur ((wChew true : State).chwW 3) ≤ max (wChew true : State).now (Config.ms 90000 : Nat)) ∧ ((wChew true : State).chw.held = []) := by decide +kernel
theorem witness_PinCommands_1 : ((wUp : State).power.vaux = true) ∧ ((wUp : State).power.vddioL = true) := by decide +kernel
theorem witness_PinCommands_2 : ((wUp : State).power.vaux = true) ∧ ((wUp : State).power.vddioL = true) := by decide +kernel
theorem witness_RefusedCommitKeepsProof_0 : ((wUp.updPar fun p => { p with phase := .refused } : State).up = true) ∧ ((wUp.updPar fun p => { p with phase := .refused } : State).par.phase = .refused) ∧ ((wUp.updPar fun p => { p with phase := .refused } : State).par.phaseAt + Config.us 2 ≤ max (wUp.updPar fun p => { p with phase := .refused } : State).now (Config.us 2 : Nat)) ∧ ((wUp.updPar fun p => { p with phase := .refused } : State).idn.unlockPend = none) := by decide +kernel
theorem witness_RefusedCommitKeepsProof_1 : ((wUp.updPar fun p => { p with phase := .capture, set := [(0x1001, 64001)] } : State).up = true) ∧ ((wUp.updPar fun p => { p with phase := .capture, set := [(0x1001, 64001)] } : State).par.phase = .capture) ∧ ((wUp.updPar fun p => { p with phase := .capture, set := [(0x1001, 64001)] } : State).par.pendCode = 0) ∧ ((wUp.updPar fun p => { p with phase := .capture, set := [(0x1001, 64001)] } : State).par.set ≠ []) ∧ (((wUp.updPar fun p => { p with phase := .capture, set := [(0x1001, 64001)] } : State).atTime (3 : Nat)).judge (wUp.updPar fun p => { p with phase := .capture, set := [(0x1001, 64001)] } : State).par.set = some ((20, 4097) : Fail)) := by decide +kernel
theorem witness_ClassLRefusal_0 : (({ wUp with par := { wUp.par with waitL := [(0x1000, 0)] }, power := { wUp.power with g := .gasp } } : State).up = true) ∧ (({ wUp with par := { wUp.par with waitL := [(0x1000, 0)] }, power := { wUp.power with g := .gasp } } : State).busy = false) ∧ (({ wUp with par := { wUp.par with waitL := [(0x1000, 0)] }, power := { wUp.power with g := .gasp } } : State).par.waitL.lookup (0x1000 : W16).toNat = some (0 : Nat)) ∧ ((({ wUp with par := { wUp.par with waitL := [(0x1000, 0)] }, power := { wUp.power with g := .gasp } } : State).atTime (5 : Nat)).mayCross (0x1000 : W16).toNat (0 : Nat) = true) ∧ ((({ wUp with par := { wUp.par with waitL := [(0x1000, 0)] }, power := { wUp.power with g := .gasp } } : State).atTime (5 : Nat)).refusalL (0x1000 : W16).toNat = some ((0x10, 0xFFFF) : Fail)) := by decide +kernel
theorem witness_ClassLRefusal_1 : (({ wUp with par := { wUp.par with waitL := [(0x1000, 0)], phase := .capture }, power := { wUp.power with g := .gasp } } : State).up = true) ∧ (({ wUp with par := { wUp.par with waitL := [(0x1000, 0)], phase := .capture }, power := { wUp.power with g := .gasp } } : State).busy = true) ∧ (({ wUp with par := { wUp.par with waitL := [(0x1000, 0)], phase := .capture }, power := { wUp.power with g := .gasp } } : State).par.lateL.contains (0x1000 : W16).toNat = false) ∧ (({ wUp with par := { wUp.par with waitL := [(0x1000, 0)], phase := .capture }, power := { wUp.power with g := .gasp } } : State).par.waitL.lookup (0x1000 : W16).toNat = some (0 : Nat)) ∧ ((({ wUp with par := { wUp.par with waitL := [(0x1000, 0)], phase := .capture }, power := { wUp.power with g := .gasp } } : State).atTime (5 : Nat)).mayCross (0x1000 : W16).toNat (0 : Nat) = true) ∧ ((({ wUp with par := { wUp.par with waitL := [(0x1000, 0)], phase := .capture }, power := { wUp.power with g := .gasp } } : State).atTime (5 : Nat)).refusalL (0x1000 : W16).toNat = some ((0x10, 0xFFFF) : Fail)) := by decide +kernel
theorem witness_ClassLRefusal_2 : ((wUp.updPar fun p => { p with waitL := [(0x1000, 0)] } : State).up = true) ∧ ((wUp.updPar fun p => { p with waitL := [(0x1000, 0)] } : State).busy = false) ∧ ((wUp.updPar fun p => { p with waitL := [(0x1000, 0)] } : State).par.waitL.lookup (0x1000 : W16).toNat = some (0 : Nat)) ∧ (((wUp.updPar fun p => { p with waitL := [(0x1000, 0)] } : State).atTime (5 : Nat)).mayCross (0x1000 : W16).toNat (0 : Nat) = true) ∧ (((wUp.updPar fun p => { p with waitL := [(0x1000, 0)] } : State).atTime (5 : Nat)).refusalL (0x1000 : W16).toNat = none) := by decide +kernel
theorem witness_DisagreeDisabled_0 : (twCount (({ wUp with par := { wUp.par with inUse := [(0x0100, 0)] } } : State).pg 1 0) = 0 ∨ bitAt (({ wUp with par := { wUp.par with inUse := [(0x0100, 0)] } } : State).pg 1 1) (1 : Fin 4).val = false) := by decide +kernel
theorem witness_DisagreeDisabled_1 : (twCount (({ wUp with par := { wUp.par with inUse := [(0x0100, 0)] } } : State).pg 1 0) = 0 ∨ bitAt (({ wUp with par := { wUp.par with inUse := [(0x0100, 0)] } } : State).pg 1 1) (1 : Fin 4).val = false) := by decide +kernel
theorem witness_SnapshotReadPort_0 : ((wUp : State).window = true) := by decide +kernel
theorem witness_SnapshotReadPort_1 : ((wUp : State).power.vaux = true) := by decide +kernel
theorem witness_LatchedLoop_0 : (((wUp.updSp 0 fun p => { p with st := .latched } : State).atTime (512000 : Nat)).laneOn (0 : Fin 16) = true) ∧ (((wUp.updSp 0 fun p => { p with st := .latched } : State).atTime (512000 : Nat)).isBoundary (0 : Fin 16) = true) ∧ (((wUp.updSp 0 fun p => { p with st := .latched } : State).loop (0 : Fin 16)).eng.sampled = false) ∧ ((wUp.updSp 0 fun p => { p with st := .latched } : State).kennel15 (0 : Fin 16) = false) ∧ ((wUp.updSp 0 fun p => { p with st := .latched } : State).st (0 : Fin 16) = .latched) ∧ ((takeEnable (0 : Fin 16) ((wUp.updSp 0 fun p => { p with st := .latched } : State).atTime (512000 : Nat))).enabled (0 : Fin 16) = false) := by decide +kernel
theorem witness_LatchedLoop_1 : ((({ wUp.updSp 0 (fun p => { p with st := .latched, enPin := true }) with win := { wUp.win with loopOn := 1 } } : State).atTime (512000 : Nat)).laneOn (0 : Fin 16) = true) ∧ ((({ wUp.updSp 0 (fun p => { p with st := .latched, enPin := true }) with win := { wUp.win with loopOn := 1 } } : State).atTime (512000 : Nat)).isBoundary (0 : Fin 16) = true) ∧ ((({ wUp.updSp 0 (fun p => { p with st := .latched, enPin := true }) with win := { wUp.win with loopOn := 1 } } : State).loop (0 : Fin 16)).eng.sampled = false) ∧ (({ wUp.updSp 0 (fun p => { p with st := .latched, enPin := true }) with win := { wUp.win with loopOn := 1 } } : State).kennel15 (0 : Fin 16) = false) ∧ (({ wUp.updSp 0 (fun p => { p with st := .latched, enPin := true }) with win := { wUp.win with loopOn := 1 } } : State).st (0 : Fin 16) = .latched) ∧ ((takeEnable (0 : Fin 16) (({ wUp.updSp 0 (fun p => { p with st := .latched, enPin := true }) with win := { wUp.win with loopOn := 1 } } : State).atTime (512000 : Nat))).enabled (0 : Fin 16) = true) ∧ ((({ wUp.updSp 0 (fun p => { p with st := .latched, enPin := true }) with win := { wUp.win with loopOn := 1 } } : State).loop (0 : Fin 16)).prt.gaspHold = false) := by decide +kernel
theorem witness_LatchedLoop_2 : ((wUp.updSp 3 fun p => { p with st := .latched } : State).power.vaux = true) ∧ ((wUp.updSp 3 fun p => { p with st := .latched } : State).st (3 : Fin 16) = .latched) ∧ ((3 : Fin 16) ≠ 15 ∨ (wUp.updSp 3 fun p => { p with st := .latched } : State).selfBias = false) := by decide +kernel
theorem witness_LatchedLoop_3 : ((wUp.updSp 3 fun p => { p with st := .latched } : State).st (3 : Fin 16) = .latched) ∧ ((3 : Fin 16) ≠ 15 ∨ (wUp.updSp 3 fun p => { p with st := .latched } : State).selfBias = false) := by decide +kernel
theorem witness_LatchedLoop_4 : ((wUp.updSp 3 fun p => { p with st := .latched } : State).st (3 : Fin 16) = .latched) := by decide +kernel
theorem witness_LatchedLoop_5 : ((wUp.updSp 3 fun p => { p with st := .latched } : State).st (3 : Fin 16) = .latched) := by decide +kernel
theorem witness_HowlFaultMessage_0 : ((wLsh .lead : State).linked = true) ∧ ((2 : Fin 8) ≠ (wLsh .lead : State).own) ∧ ((wLsh .lead : State).chw.armed = false) ∧ ((wLsh .lead : State).chw.held = []) ∧ ((wLsh .lead : State).log.queue.length < 64) := by decide +kernel
theorem witness_KillInKennel_0 : ((wKen.updPhase 63 fun x => { x with pwm := .low } : State).power.killN = true) ∧ ((wKen.updPhase 63 fun x => { x with pwm := .low } : State).power.g = .kennel) ∧ ((wKen.updPhase 63 fun x => { x with pwm := .low } : State).kennelRail = true) ∧ (((wKen.updPhase 63 fun x => { x with pwm := .low } : State).phase 63).pwm ≠ .highZ) ∧ (((wKen.updPhase 63 fun x => { x with pwm := .low } : State).loop 15).prt.latch = false) ∧ ((wKen.updPhase 63 fun x => { x with pwm := .low } : State).power.vaux = false) := by decide +kernel
theorem witness_KillInKennel_1 : ((wKen.updPower fun p => { p with killN := false, wait := .due 5 } : State).power.killN = false) ∧ ((wKen.updPower fun p => { p with killN := false, wait := .due 5 } : State).power.g = .kennel) ∧ ((wKen.updPower fun p => { p with killN := false, wait := .due 5 } : State).power.vaux = false) := by decide +kernel
theorem witness_KillInKennel_2 : ((wKen.updPower fun p => { p with killN := false, wait := .retry 5 } : State).power.killN = false) ∧ ((wKen.updPower fun p => { p with killN := false, wait := .retry 5 } : State).power.g = .kennel) ∧ ((wKen.updPower fun p => { p with killN := false, wait := .retry 5 } : State).power.vaux = false) := by decide +kernel
theorem witness_KillInKennel_3 : ((wKen.updPower fun p => { p with killN := false, wait := .ovloRelease, vhvOvlo := true } : State).power.killN = false) ∧ ((wKen.updPower fun p => { p with killN := false, wait := .ovloRelease, vhvOvlo := true } : State).power.g = .kennel) ∧ ((wKen.updPower fun p => { p with killN := false, wait := .ovloRelease, vhvOvlo := true } : State).power.vaux = false) := by decide +kernel
theorem witness_VhvIgnored_0 : ((wUp.updPower fun p => { p with kv := some 3, vhvOn := false } : State).power.kv = some 3) ∧ ((wUp.updPower fun p => { p with kv := some 3, vhvOn := false } : State).power.vaux = true) := by decide +kernel
theorem witness_VhvIgnored_1 : ((wUp.updPower fun p => { p with kv := some 3 } : State).power.kv = some 3) ∧ ((wUp.updPower fun p => { p with kv := some 3 } : State).power.vaux = true) ∧ ((wUp.updPower fun p => { p with kv := some 3 } : State).power.vhvOn = true) := by decide +kernel
theorem witness_VhvIgnored_2 : ((wUp.updPower fun p => { p with kv := some 3 } : State).power.kv = some 3) ∧ ((wUp.updPower fun p => { p with kv := some 3 } : State).power.vaux = true) ∧ ((wUp.updPower fun p => { p with kv := some 3 } : State).power.vhvOn = true) ∧ ((80000 : Nat) ≤ 100000) := by decide +kernel
theorem witness_VhvIgnored_3 : ((wUp.updPower fun p => { p with kv := some 3, vhvOvlo := true } : State).power.kv = some 3) ∧ ((wUp.updPower fun p => { p with kv := some 3, vhvOvlo := true } : State).power.vaux = true) ∧ ((wUp.updPower fun p => { p with kv := some 3, vhvOvlo := true } : State).power.vhvOvlo = true) ∧ ((wUp.updPower fun p => { p with kv := some 3, vhvOvlo := true } : State).power.wait ≠ .ovloRelease) := by decide +kernel
theorem witness_ReadOnlyRecorder_0 : ((({ wUp with par := { wUp.par with inUse := [(0x3023, 1)] } } : State).atTime (5 : Nat)).readOnly = true) := by decide +kernel
theorem witness_ReadOnlyRecorder_1 : ((({ wUp with par := { wUp.par with inUse := [(0x3023, 1)] } } : State).atTime (5 : Nat)).readOnly = true) := by decide +kernel
theorem witness_ReadOnlyRecorder_2 : ((({ wUp with par := { wUp.par with inUse := [(0x3023, 1)] } } : State).atTime (5 : Nat)).readOnly = true) := by decide +kernel
theorem witness_ReadOnlyRecorder_3 : (((({ wUp with par := { wUp.par with inUse := [(0x3023, 1)] } } : State).updTpl 1 fun x => { x with armed := true, slot := some 3 }) : State).window = true) ∧ (((({ wUp with par := { wUp.par with inUse := [(0x3023, 1)] } } : State).updTpl 1 fun x => { x with armed := true, slot := some 3 }) : State).up = true) ∧ ((((({ wUp with par := { wUp.par with inUse := [(0x3023, 1)] } } : State).updTpl 1 fun x => { x with armed := true, slot := some 3 }) : State).atTime (0 : Nat)).readOnly = true) ∧ (((({ wUp with par := { wUp.par with inUse := [(0x3023, 1)] } } : State).updTpl 1 fun x => { x with armed := true, slot := some 3 }) : State).crb.hold = false) ∧ ((((({ wUp with par := { wUp.par with inUse := [(0x3023, 1)] } } : State).updTpl 1 fun x => { x with armed := true, slot := some 3 }) : State).tpl (1 : Fin 4)).slot = some (3 : Fin 16)) ∧ ((((({ wUp with par := { wUp.par with inUse := [(0x3023, 1)] } } : State).updTpl 1 fun x => { x with armed := true, slot := some 3 }) : State).tpl (1 : Fin 4)).post = false) ∧ ((((({ wUp with par := { wUp.par with inUse := [(0x3023, 1)] } } : State).updTpl 1 fun x => { x with armed := true, slot := some 3 }) : State).tpl (1 : Fin 4)).trigPend = none) ∧ ((((({ wUp with par := { wUp.par with inUse := [(0x3023, 1)] } } : State).updTpl 1 fun x => { x with armed := true, slot := some 3 }) : State).atTime (0 : Nat)).heldSince (1 : Fin 4) (((({ wUp with par := { wUp.par with inUse := [(0x3023, 1)] } } : State).updTpl 1 fun x => { x with armed := true, slot := some 3 }) : State).atTime (0 : Nat)).devTime = 0) := by decide +kernel
theorem witness_ReadOnlyRecorder_4 : (({ wUp with par := { wUp.par with inUse := [(0x3023, 1)] } } : State).window = true) ∧ (({ wUp with par := { wUp.par with inUse := [(0x3023, 1)] } } : State).up = true) ∧ ((({ wUp with par := { wUp.par with inUse := [(0x3023, 1)] } } : State).atTime (5 : Nat)).readOnly = true) := by decide +kernel
theorem witness_ReadOnlyRecorder_5 : (({ wUp with par := { wUp.par with inUse := [(0x3023, 1)] } } : State).window = true) ∧ (({ wUp with par := { wUp.par with inUse := [(0x3023, 1)] } } : State).up = true) ∧ ((({ wUp with par := { wUp.par with inUse := [(0x3023, 1)] } } : State).atTime (5 : Nat)).readOnly = true) := by decide +kernel
theorem witness_ReadOnlyRecorder_6 : (({ wUp with par := { wUp.par with inUse := [(0x3023, 1)] } } : State).window = true) := by decide +kernel

/-! ### One step on a small state -/

/-- The outcome is a next state with a property. -/
def nextWith (o : Ans) (p : State → Bool) : Bool :=
  match o with
  | .next u => p u
  | .fault _ => false
  | .refused _ => false

-- R28: the attempt falls due 500 µs after VHV rises above VHV_ON.
theorem test_first_attempt_due : nextWith (exec (.vhvRiseOn 0 1) State.reset)
    (fun u => decide (u.power.wait = .due (500 * 1000 * 256)) && decide (u.power.g = .kennel)) = true := by decide +kernel
-- R28: bypass starts no attempt.
theorem test_bypass_has_no_attempt : nextWith (exec (.vhvRiseOn 0 2) State.reset) (fun u => decide (u.power.wait = .none)) = true := by
  decide +kernel
-- R75: only the bits written as 1 are cleared.
theorem test_irq_clear : nextWith (exec (.irqClear 0 0x0003) (wUp.updWin fun w => { w with irq := 0x0006 }))
    (fun u => decide (u.win.irq = 0x0004)) = true := by decide +kernel
-- R64: a write reaches nothing while the window is closed.
theorem test_closed_window : nextWith (exec (.irqEnableWrite 0 0x0FFF) wBoot) (fun u => decide (u.win.irqEn = 0)) = true := by decide +kernel
-- R193: INDEX steps from 15 to 0.
theorem test_snap_index_wraps : nextWith (exec (.snapDataRead 0) { wUp with snap := { wUp.snap with index := 15 } })
    (fun u => decide (u.snap.index = 0)) = true := by decide +kernel
-- R366: KILL_N falling in READY enters KILLED.
theorem test_kill_enters_killed : nextWith (exec (.killNFall 0) wUp) (fun u => decide (u.power.g = .killed)) = true := by decide +kernel
-- R47: the boot counter stops at its maximum.
theorem test_boot_counter_saturates :
    nextWith (exec (.bootCounterIncrement 0) (wBoot.updPower fun p => { p with cntPend := true, bootCnt := 0xFFFFFFFF }))
      (fun u => decide (u.power.bootCnt = 0xFFFFFFFF)) = true := by decide +kernel
-- R9: 0b01 is the unit of 10 µs.
theorem test_time_word_unit : twDur 0x4003 = Config.us 30 := by decide
-- R17: a level above the rating stops the block.
theorem test_rating : exec (.vhvRiseOvlo 0 100001) State.reset = .fault .ratingsExceeded := rfl
-- The front command runs, the rest waits.
theorem test_step_takes_the_front :
    nextWith (step { wUp with pending := [.pllLock 3, .stop 4] }) (fun u => decide (u.pending = [.stop 4])) = true := by decide +kernel
-- The Crumb SRAM stays canonical when a byte returns to what an unlisted one reads as.
theorem test_ram_canonical : (ramPut 5 [0] (ramPut 5 [7] State.reset)).crb.sram = [] := by decide

end Sys2Proof.Tests
end

section
/-! PROOFS. The frame of every command, case by case: each command changes only the parts on its list. -/

set_option linter.all false

namespace Sys2Proof.Machine
open Sys2Proof
/-- The frame of a row that reads a slot. -/
theorem slotRead_mask (m : Part → Bool) (t : Nat) (f : State → State) (s u : State) (h_win : m .win = true)
    (hf : ∀ s, (f s).mask m = s.mask m) (h : slotRead t f s = .next u) : u.mask m = (s.atTime t).mask m :=
  gated_mask m t _ _ s u (fun s => by
    split
    · exact hf s
    · simp [Win.mask, h_win]) h

/-- The frame of a command of one Leash message: every such command has the list of IDLE. -/
theorem msgRow_mask (i : Instr) (cls typ t : Nat) (p : Fin 8) (d : W32) (s u : State) (hi : mayChange i = mayChange (.idle 0 0 0))
    (h : msgRow cls typ t p d s = .next u) : u.mask (mayChange i) = (s.atTime t).mask (mayChange i) := by
  rw [hi]
  refine gated_mask _ _ _ _ _ _ (fun s => ?_) h
  simp [mayChange, partsOf]

/-- The frame of a request of an ACP port: every such command has the list of ACP_PING. -/
theorem acpRow_mask (i : Instr) (ops : Nat → Bool) (t : Nat) (p : Fin 8) (r : AcpRequest) (s u : State) (hi : mayChange i = mayChange (.acpPing 0 0 r))
    (h : acpRow ops t p r s = .next u) : u.mask (mayChange i) = (s.atTime t).mask (mayChange i) := by
  rw [hi]
  refine gated_mask _ _ _ _ _ _ (fun s => ?_) h
  simp [mayChange, partsOf]

/-- A command changes the parts on its list and no others. -/
theorem exec_mask (i : Instr) (s u : State) (h : exec i s = .next u) : u.mask (mayChange i) = (s.atTime i.time).mask (mayChange i) := by
  cases i <;> dsimp only [exec] at h
  case vhvRiseOn =>
    exact always_mask _ _ _ _ _ (fun _ => by apply vhvRise_mask <;> rfl) h
  case kennelAttemptStart | kennelAttemptTimeout | kennelLp15Ov | vhvFallOff | vauxValid | lp15KennelResume | bootStart |
      bootCounterIncrement | lp15Handoff | wdogExpire | deviceTimeWrap | classLCrossing | captureEnd | commitApply | commitRefused |
      disagree | nvmPageProgrammed | nvmTransferTimeout | nvmImageChecked | nvmOpComplete | sampleBoundary | acquisitionEnd | trimUpdate |
      svcDelayEnd | refWarm | calMeasureEnd | snapshotCapture | rateRestore | stbEpoch | alignmentInstant | referenceInstant | pulseMaxEnd |
      zeroCross | syncInEdge | syncInValid | syncInLost | glideEnd | whiskTurn | whiskBlankEnd | estStale | enableInputChange | delayOnEntry
      | delayOnEnd | rampUpEnd | transitionEnd | turnOffDelayEnd | rampDownEnd | delayOffEnd | setptUpdate | spLost | heelLoss |
      getstatResponseEnd | acpAbort | dioLowClear | acpTargetApply | acpLlApply | arrival | acpLoss | linklossAction | layerStrobeEdge |
      layerMiss | layerAutoWindowEnd | layerChunkUpdate | layerPeriodEnd | ovTrip | faultAction | uv | ocTotal | otOnset | otEnd | vinUv |
      vinOv | fastChannelRequest | hiccupRetry | hiccupCountClear | killNFall | faultNRelease | faultIn | faultInHoldEnd | syncFieldReceived
      | syncLoss | holdoffExpire | slotTransmit | leashFrameEnd | jabberCut | handover | napBurst | napWindowMiss | napOrphan |
      peerValueTimeout | challengeStart | responseSigned | challengeTimeout | wiring | digestSend | planSaveDone | acquireDecide |
      tokenHoldSend | leaseExpire | swpSetSend | sweepRunStart | sweepStepStart | sweepWindowEnd | sweepResults | sweepLeaderLost |
      gaspEntry | gaspEvaluation | summaryWritten | gaspExit | rehearsalEnd | stretchTimeout | arbitrationLoss | eventAppend | captureSample
      | recordSigned | tokenCommandDone | chewLifeExpire | chewStuckEnd | gpioPulseEnd | tapInstructionUpdate | trstNLow | killNRise |
      leashValid =>
    exact gated_mask _ _ _ _ _ _ (fun _ => by simp [mayChange, partsOf]) h
  case vhvRiseOvlo =>
    unfold execVhvRiseOvlo at h
    split at h
    · cases h
    · exact gated_mask _ _ _ _ _ _ (fun _ => by simp [mayChange, partsOf]) h
  case vhvOvloRelease =>
    refine gated_mask _ _ _ _ _ _ (fun _ => ?_) h
    dsimp only
    split <;> simp [Power.mask, mayChange, partsOf]
  case kennelRetryDue | vauxDriveRelease | pllLock | coreUvReset | coreUvRelease =>
    exact gated_mask _ _ _ _ _ _ (fun _ => by simp [Power.mask, mayChange, partsOf]) h
  case vauxLoss =>
    exact gated_mask _ _ _ _ _ _ (fun _ => by apply vauxLoss_mask <;> rfl) h
  case resetNLow =>
    exact always_mask _ _ _ _ _ (fun _ => by apply resetLow_mask <;> rfl) h
  case resetNRelease =>
    exact always_mask _ _ _ _ _ (fun _ => by simp [Power.mask, mayChange, partsOf]) h
  case warmReset | addressLatch | shortStrobe | wStatRead | unlockExpire | rngTestFail | drbgReseed =>
    exact gated_mask _ _ _ _ _ _ (fun _ => by simp [Win.mask, Params.mask, Idn.mask, Crb.mask, mayChange, partsOf]) h
  case bootComplete =>
    exact gated_mask _ _ _ _ _ _ (fun _ => by apply bootComplete_mask <;> rfl) h
  case registerWrite | wdogCfgWrite =>
    exact writeStrobe_mask _ _ _ _ _ rfl (fun _ _ => by simp [mayChange, partsOf]) h
  case timeLowRead | evtPopRead | tokenPortRead =>
    exact slotRead_mask _ _ _ _ _ rfl (fun _ => by simp [mayChange, partsOf]) h
  case pdataWrite | irqClear | irqEnableWrite | fltLoopClear | killStatClear | loopOnWrite | evtPopRewind | evtLostClear | wdogKick | revert
      | commitRequest | save | openA | openB | confirm | invalidateA | invalidateB | nvmDataWord | urgentRequest | calZero | calFull |
      calApply | calAbort | snapRequest | engClr | engRestore | acpEvtClear | lyrClr | phaseReturn | fltClr | lshClr | planSave |
      handlerStore | acquire | renew | release | sweepStart | sweepAbort | rehearsalStart | fchEvtClear | trigger | lock | unlock |
      slotRelease | hold | resume | clearIn | submit | attest | readCert | install | drop | readOpk | rewind | tokenPortWrite | arm | stop
      =>
    exact strobed_mask _ _ _ _ _ _ rfl (fun _ => by simp [mayChange, partsOf]) h
  case pdataIncAccess =>
    unfold execPdataIncAccess at h
    split at h
    · exact slotRead_mask _ _ _ _ _ rfl (fun _ => by simp [mayChange, partsOf]) h
    · exact strobed_mask _ _ _ _ _ _ rfl (fun _ => by simp [mayChange, partsOf]) h
  case iscSample | zeroReference | svcVisitEnd | urgentDone | phaseTurnOn | comparatorTrip | ocpTrip | negTrip | sweepEntryWrite | pollStart
      | pollComplete | compressionDone =>
    exact gated_mask _ _ _ _ _ _ (fun _ => by split <;> simp [mayChange, partsOf]) h
  case urgentGrant =>
    refine gated_mask _ _ _ _ _ _ (fun _ => ?_) h
    dsimp only
    split <;> simp [mayChange, partsOf]
  case snapDataRead | crumbDataRead =>
    exact slotRead_mask _ _ _ _ _ rfl (fun _ => by simp [Win.mask, Params.mask, Idn.mask, Crb.mask, mayChange, partsOf]) h
  case acpPing | acpSetv | acpSetslew | acpSetll | acpHint | acpFrame | acpGetv | acpGeti | acpGetstat | acpGettemp | acpGetref | acpGetflt
      | acpReservedOp =>
    exact acpRow_mask _ _ _ _ _ _ _ rfl h
  case killedExit =>
    refine gated_mask _ _ _ _ _ _ (fun _ => ?_) h
    dsimp only
    split <;> simp [Power.mask, mayChange, partsOf]
  case idle | claim | nap | wake | howlFault | howlGasp | tokenAcq | tokenHold | tokenRel | vref | cert | chal | resp | digest | swpStart |
      swpCheck | swpJoin | swpSet | swpIre | swpIim =>
    exact msgRow_mask _ _ _ _ _ _ _ _ rfl h
  case challengeVerified =>
    refine gated_mask _ _ _ _ _ _ (fun _ => signDone_mask _ _ _ (fun s => ?_) _ rfl rfl) h
    split <;> simp [mayChange, partsOf]
  case recoveryAttempt =>
    refine gated_mask _ _ _ _ _ _ (fun _ => ?_) h
    dsimp only
    split
    · simp [mayChange, partsOf]
    · split <;> simp [mayChange, partsOf]
  case vddioSupplyChange =>
    refine always_mask _ _ _ _ _ (fun _ => ?_) h
    dsimp only
    split <;> split <;> simp [Power.mask, mayChange, partsOf]
  case reservedTypeMessage =>
    unfold execReservedTypeMessage at h
    split at h
    · exact msgRow_mask _ _ _ _ _ _ _ _ rfl h
    · cases h
      rfl
end Sys2Proof.Machine

end

section
/-! PROOFS. What follows from the frame for one part; the counters; O3, O7 and O9. -/

set_option linter.all false

namespace Sys2Proof.Machine
open Sys2Proof

/-- A larger mask hides what a smaller one hid. -/
theorem mask_mask {m m' : Part → Bool} (hm : ∀ p, m p = true → m' p = true) (s : State) : (s.mask m).mask m' = s.mask m' := by
  have e : ∀ (p : Part) {α : Type} (r x : α), (if m' p then r else if m p then r else x) = if m' p then r else x := by
    intro p α r x
    cases hp : m p
    · rfl
    · simp [hm p hp]
  have hg : ∀ p, m' p = false → m p = false := fun p hp => by
    cases h : m p
    · rfl
    · rw [hm p h] at hp; cases hp
  simp only [State.mask, e]
  congr 1
  · cases hp : m' .power
    · simp only [Power.mask, hg _ hp, hp, Bool.false_eq_true, if_false, e]
    · cases hq : m .power <;> simp only [Power.mask, hp, hq, Bool.false_eq_true, if_false, if_true, e]
  · cases hp : m' .win
    · simp only [Win.mask, hg _ hp, hp, Bool.false_eq_true, if_false, e]
    · cases hq : m .win <;> simp only [Win.mask, hp, hq, Bool.false_eq_true, if_false, if_true, e]
  · cases hp : m' .par
    · simp only [Params.mask, hg _ hp, hp, Bool.false_eq_true, if_false, e]
    · cases hq : m .par <;> simp only [Params.mask, hp, hq, Bool.false_eq_true, if_false, if_true, e]
  · cases hp : m' .crb
    · simp only [Crb.mask, hg _ hp, hp, Bool.false_eq_true, if_false, e]
    · cases hq : m .crb <;> simp only [Crb.mask, hp, hq, Bool.false_eq_true, if_false, if_true, e]
  · cases hp : m' .idn
    · simp only [Idn.mask, hg _ hp, hp, Bool.false_eq_true, if_false, e]
    · cases hq : m .idn <;> simp only [Idn.mask, hp, hq, Bool.false_eq_true, if_false, if_true, e]

/-- States that agree under a mask agree under a larger one. -/
theorem mask_mono {m m' : Part → Bool} (hm : ∀ p, m p = true → m' p = true) {s u : State} (h : u.mask m = s.mask m) :
    u.mask m' = s.mask m' := by
  rw [← mask_mask hm u, h, mask_mask hm s]

/-- What a command does not list stays: the frame of one part. -/
theorem exec_but {i : Instr} {p : Part} {s u : State} (hp : mayChange i p = false) (h : exec i s = .next u) :
    u.mask (Part.but p) = (s.atTime i.time).mask (Part.but p) := by
  refine mask_mono (fun q hq => ?_) (exec_mask i s u h)
  refine decide_eq_true ?_
  rintro rfl
  rw [hp] at hq
  cases hq

theorem tokCnt_of_mask {s s' : State} (h : s.mask (Part.but .tokCnt) = s'.mask (Part.but .tokCnt)) : s.idn.tokCnt = s'.idn.tokCnt := by
  have e := congrArg (fun x : State => x.idn.tokCnt) h; exact e

theorem opk_of_mask {s s' : State} (h : s.mask (Part.but .opk) = s'.mask (Part.but .opk)) : s.idn.opk = s'.idn.opk := by
  have e := congrArg (fun x : State => x.idn.opk) h; exact e

/-! ### The commands that have a part on their list -/

theorem mayChange_inUse {i : Instr} (h : mayChange i .inUse = true) :
    (∃ t l n, i = .commitApply t l n) ∨ (∃ t a, i = .classLCrossing t a) ∨ (∃ t p b, i = .bootStart t p b) ∨
      (∃ t e, i = .bootComplete t e) ∨ ∃ t b, i = .vauxLoss t b := by
  cases i
  case commitApply | classLCrossing | bootStart | bootComplete | vauxLoss => simp
  all_goals exact absurd (show false = true from h) Bool.false_ne_true

theorem mayChange_opk {i : Instr} (h : mayChange i .opk = true) : ∃ t, i = .tokenCommandDone t := by
  cases i
  case tokenCommandDone => simp
  all_goals exact absurd (show false = true from h) Bool.false_ne_true

theorem mayChange_tokCnt {i : Instr} (h : mayChange i .tokCnt = true) : (∃ t, i = .tokenCommandDone t) ∨ ∃ t b, i = .vauxLoss t b := by
  cases i
  case tokenCommandDone | vauxLoss => simp
  all_goals exact absurd (show false = true from h) Bool.false_ne_true

theorem mayChange_bootCnt {i : Instr} (h : mayChange i .bootCnt = true) :
    (∃ t, i = .bootCounterIncrement t) ∨ (∃ t b, i = .vauxLoss t b) ∨ (∃ t, i = .resetNLow t) ∨ (∃ t, i = .warmReset t) ∨
      ∃ t, i = .coreUvReset t := by
  cases i
  case bootCounterIncrement | vauxLoss | resetNLow | warmReset | coreUvReset => simp
  all_goals exact absurd (show false = true from h) Bool.false_ne_true

/-- A part that a command changes is on its list. -/
theorem mayChange_of_ne {α : Type} {i : Instr} {p : Part} {s u : State} {f : State → α} (h : exec i s = .next u)
    (hf : u.mask (Part.but p) = (s.atTime i.time).mask (Part.but p) → f u = f s) (hne : f u ≠ f s) : mayChange i p = true := by
  cases hp : mayChange i p
  · exact absurd (hf (exec_but hp h)) hne
  · rfl

/-- Settles O9, from the frame of every command: a part that changed is on the command's list. -/
theorem valuesInUseCross : Obligations.ValuesInUseCross := by
  unfold Obligations.ValuesInUseCross
  intro i s u h
  exact ⟨fun hne => mayChange_inUse (mayChange_of_ne (f := fun x => x.par.inUse) h inUse_of_mask hne),
    fun hne => mayChange_opk (mayChange_of_ne (f := fun x => x.idn.opk) h opk_of_mask hne),
    fun hne => mayChange_tokCnt (mayChange_of_ne (f := fun x => x.idn.tokCnt) h tokCnt_of_mask hne),
    fun hne => mayChange_bootCnt (mayChange_of_ne (f := fun x => x.power.bootCnt) h bootCnt_of_mask hne)⟩

theorem resetWrite_le (w : W16) (s : State) (c : Core) (h : Core.Le c s.core) : Core.Le c (resetWrite w s).core := by
  rw [resetWrite_core]; exact h

/-- What the few commands that may move a counter or the keys do to the core. -/
theorem exec_le {i : Instr} {s u : State} (hi : mayChange i .bootCnt = true ∨ mayChange i .tokCnt = true ∨ mayChange i .opk = true)
    (h : exec i s = .next u) : Core.Le (s.atTime i.time).core u.core := by
  cases i <;> dsimp only [exec] at h
  case bootCounterIncrement => exact gated_le _ _ _ _ _ (fun c s k => bootCounted_le s c k) h
  case vauxLoss above => exact gated_le _ _ _ _ _ (fun c s k => vauxLoss_le above s c k) h
  case resetNLow => exact always_le _ _ _ _ (fun c s k => resetLow_le s c k) h
  case warmReset =>
    refine gated_le _ _ _ _ _ (fun c s k => warmTry_le _ c (le_iteS c _ _ _ ?_ k)) h
    exact resetWrite_le _ _ c k
  case coreUvReset =>
    refine gated_le _ _ _ _ _ (fun c s k => ?_) h
    exact fullReset_le 32 s c k
  case tokenCommandDone =>
    exact gated_le _ _ _ _ _ (fun c s k =>
      le_iteS c _ _ _ (tokenDone_le s c k) (signDone_le _ _ (fun s c => tokenDone_le s c) s c k)) h
  all_goals exact absurd (show false = true from hi.elim id (Or.elim · id id)) Bool.false_ne_true

/-- Settles O7, from the frame of every command and what the few commands that move a counter do to the core. -/
theorem timeAndCounters : Obligations.TimeAndCounters := by
  unfold Obligations.TimeAndCounters
  refine ⟨fun i s u h => ?_, fun i s u h => ?_⟩
  · have e : u.mask (fun _ => true) = (s.atTime i.time).mask (fun _ => true) := mask_mono (fun _ _ => rfl) (exec_mask i s u h)
    exact ⟨now_of_mask e, (pending_of_mask e).trans (atTime_pending _ s)⟩
  · by_cases hi : mayChange i .bootCnt = true ∨ mayChange i .tokCnt = true ∨ mayChange i .opk = true
    · have l := exec_le hi h
      exact ⟨l.boot, l.tok, l.opk⟩
    · simp only [not_or, Bool.not_eq_true] at hi
      obtain ⟨hb, ht, ho⟩ := hi
      have eb : u.power.bootCnt = s.power.bootCnt := (bootCnt_of_mask (exec_but hb h)).trans rfl
      have et : u.idn.tokCnt = s.idn.tokCnt := (tokCnt_of_mask (exec_but ht h)).trans rfl
      have eo : u.idn.opk = s.idn.opk := (opk_of_mask (exec_but ho h)).trans rfl
      rw [eb, et, eo]
      exact ⟨BitVec.le_refl _, Nat.le_refl _, List.prefix_refl _⟩

/-- Settles O3, by evaluation of the reset state. -/
theorem resetState : Obligations.ResetState := by
  refine ⟨rfl, ?_, rfl, rfl, rfl, rfl, rfl, ?_⟩
  · decide
  · decide
end Sys2Proof.Machine

end

section
/-! PROOFS. Which commands answer a next state; O4. -/

set_option linter.all false

namespace Sys2Proof.Machine
open Sys2Proof

/-- Every command answers a next state but a crossing of VHV_OVLO, which may stop at the rating. -/
theorem exec_next (i : Instr) (s : State) (hi : ∀ t mv, i = .vhvRiseOvlo t mv → mv ≤ 100000) : ∃ u, exec i s = .next u := by
  cases i
  case vhvRiseOvlo t mv =>
    have e : ¬100000 < mv := Nat.not_lt.mpr (hi t mv rfl)
    exact ⟨_, if_neg e⟩
  case pdataIncAccess t read w => cases read <;> exact ⟨_, rfl⟩
  case reservedTypeMessage t p cls typ d =>
    cases h : reservedType cls.val typ.val
    · exact ⟨_, if_neg (Bool.eq_false_iff.mp h)⟩
    · exact ⟨_, if_pos h⟩
  all_goals exact ⟨_, rfl⟩

/-- Settles O4, by the shape of each command's row: only the row of VHV_RISE_OVLO can answer a fault. -/
theorem ratingsStop : Obligations.RatingsStop := by
  unfold Obligations.RatingsStop
  refine ⟨fun s t mv h => if_pos h, fun i s h => exec_next i s fun t mv e => ?_⟩
  subst e
  simp only [Instr.wellFormed, Bool.and_eq_true] at h
  obtain ⟨⟨_, hv⟩, _⟩ := h
  exact of_decide_eq_true hv
end Sys2Proof.Machine

end

section
/-! PROOFS. What stands through an operation: W_IRQ bits that are set, and the global state KILLED. One lemma per operation that may touch either; the others have it from their frame. -/

set_option linter.all false

namespace Sys2Proof.Machine
open Sys2Proof

/-- The mask that leaves the global state and W_IRQ. -/
@[simp] def standMask (p : Part) : Bool := decide (p ≠ .g ∧ p ≠ .irq)

/-- The W_IRQ bits of `w` are set, and, where `k` holds, the device is in KILLED. -/
structure Stands (w : W16) (k : Prop) (s : State) : Prop where
  irq : ∀ j, bitAt w j = true → bitAt s.win.irq j = true
  killed : k → s.power.g = .killed

variable {w : W16} {k : Prop}

theorem stands_mask {s : State} : Stands w k (s.mask standMask) ↔ Stands w k s :=
  ⟨fun h => ⟨h.irq, h.killed⟩, fun h => ⟨h.irq, h.killed⟩⟩

/-- Without W_IRQ bits to keep, what stands is the global state. -/
theorem stands_zero {s : State} (h : k → s.power.g = .killed) : Stands 0 k s :=
  ⟨fun j hj => absurd hj (by simp [bitAt]), h⟩

@[simp] theorem power_standMask (x y : Power) : x.mask standMask = y.mask standMask ↔ x.g = y.g := by
  simp [Power.mask]

@[simp] theorem win_standMask (x y : Win) : x.mask standMask = y.mask standMask ↔ x.irq = y.irq := by
  simp [Win.mask]

@[simp] theorem params_standMask (x y : Params) : x.mask standMask = y.mask standMask ↔ True := by simp [Params.mask]

@[simp] theorem crb_standMask (x y : Crb) : x.mask standMask = y.mask standMask ↔ True := by simp [Crb.mask]

@[simp] theorem idn_standMask (x y : Idn) : x.mask standMask = y.mask standMask ↔ True := by simp [Idn.mask]

@[simp] theorem stands_ite (p : Prop) [Decidable p] (a b : State) (ha : Stands w k a) (hb : Stands w k b) : Stands w k (if p then a else b) := by
  split <;> assumption

theorem bitAt_setBit (v : W16) (i j : Nat) (h : bitAt v j = true) : bitAt (setBit v i) j = true := by
  simp only [bitAt, setBit, BitVec.getLsbD_or] at *
  simp [h]

@[simp] theorem State.irq_stands (s : State) (i : Nat) (h : Stands w k (s.mask standMask)) : Stands w k ((s.irq i).mask standMask) :=
  ⟨fun j hj => bitAt_setBit _ i j (h.irq j hj), h.killed⟩

@[simp] theorem State.settleRun_stands (s : State) (h : Stands w k (s.mask standMask)) : Stands w k (s.settleRun.mask standMask) := by
  unfold State.settleRun
  split
  · next c =>
    refine ⟨h.irq, fun hk => ?_⟩
    have e : s.power.g = .killed := h.killed hk
    simp [e] at c
  · exact h

/-- What stands through each loop's step stands through all of them. -/
theorem forLoops_stands (f : Fin 16 → State → State) (hf : ∀ n s, Stands w k (s.mask standMask) → Stands w k ((f n s).mask standMask))
    (l : List (Fin 16)) (s : State) (h : Stands w k (s.mask standMask)) : Stands w k ((forLoops f l s).mask standMask) := by
  induction l generalizing s with
  | nil => exact h
  | cons n l ih => exact ih _ (hf n s h)

@[simp] theorem State.countFault_stands (s : State) (a1 : Byte) (a2 : Option (Fin 16)) (h : Stands w k (s.mask standMask)) :
    Stands w k ((State.countFault s a1 a2).mask standMask) := by
  simp [State.countFault, h]

@[simp] theorem enterOff_stands (a0 : Fin 16) (s : State) (h : Stands w k (s.mask standMask)) :
    Stands w k ((enterOff a0 s).mask standMask) := by
  simp [enterOff, h]

@[simp] theorem gaspTurnOff_stands (a0 : Fin 16) (s : State) (h : Stands w k (s.mask standMask)) :
    Stands w k ((gaspTurnOff a0 s).mask standMask) := by
  simp only [gaspTurnOff]
  (repeat' split) <;> simp [h]

@[simp] theorem boundaryState_stands (a0 : Fin 16) (s : State) (h : Stands w k (s.mask standMask)) :
    Stands w k ((boundaryState a0 s).mask standMask) := by
  simp only [boundaryState]
  (repeat' split) <;> simp [h]

@[simp] theorem enterDelayOn_stands (a0 : Fin 16) (s : State) (h : Stands w k (s.mask standMask)) :
    Stands w k ((enterDelayOn a0 s).mask standMask) := by
  simp [enterDelayOn, h]

@[simp] theorem rosterSettle_stands (s : State) (h : Stands w k (s.mask standMask)) : Stands w k ((rosterSettle s).mask standMask) := by
  simp only [rosterSettle]
  split <;> simp [h]

@[simp] theorem withStat_stands (f : State → State) (s : State) (h : Stands w k ((f s).mask standMask)) :
    Stands w k ((withStat f s).mask standMask) := by
  simp only [withStat]
  split <;> simp [h]

@[simp] theorem chalFail_stands (a0 : Fin 8) (a1 : Bool) (s : State) (h : Stands w k (s.mask standMask)) :
    Stands w k ((chalFail a0 a1 s).mask standMask) := by
  simp [chalFail, h]

@[simp] theorem chalPass_stands (a0 : Fin 8) (s : State) (h : Stands w k (s.mask standMask)) :
    Stands w k ((chalPass a0 s).mask standMask) := by
  simp [chalPass, h]

@[simp] theorem challengeVerified_stands (a0 : Fin 8) (a1 : Chal) (s : State) (h : Stands w k (s.mask standMask)) :
    Stands w k ((challengeVerified a0 a1 s).mask standMask) := by
  simp only [challengeVerified]
  (repeat' split) <;> simp [h]

@[simp] theorem certReceived_stands (a0 : Fin 8) (a1 : W32) (s : State) (h : Stands w k (s.mask standMask)) :
    Stands w k ((certReceived a0 a1 s).mask standMask) := by
  simp only [certReceived]
  (repeat' split) <;> simp [h]

@[simp] theorem respReceived_stands (a0 : Fin 8) (a1 : W32) (s : State) (h : Stands w k (s.mask standMask)) :
    Stands w k ((respReceived a0 a1 s).mask standMask) := by
  simp only [respReceived]
  (repeat' split) <;> simp [h]

@[simp] theorem nvmResult_stands (a0 : ℕ) (s : State) (h : Stands w k (s.mask standMask)) :
    Stands w k ((nvmResult a0 s).mask standMask) := by
  simp [nvmResult, h]

@[simp] theorem nvmCommand_stands (ok : State → Bool) (f : State → State) (s : State) (h : Stands w k (s.mask standMask))
    (hf : Stands w k ((f s).mask standMask)) : Stands w k ((nvmCommand ok f s).mask standMask) := by
  simp only [nvmCommand]
  split <;> simp [h, hf]

@[simp] theorem saveCommand_stands (s : State) (h : Stands w k (s.mask standMask)) : Stands w k ((saveCommand s).mask standMask) := by
  simp [saveCommand, h]

@[simp] theorem openCommand_stands (a0 : Bool) (s : State) (h : Stands w k (s.mask standMask)) :
    Stands w k ((openCommand a0 s).mask standMask) := by
  simp [openCommand, h]

@[simp] theorem confirmCommand_stands (s : State) (h : Stands w k (s.mask standMask)) : Stands w k ((confirmCommand s).mask standMask) := by
  simp [confirmCommand, h]

@[simp] theorem nvmComplete_stands (a0 : Bool) (s : State) (h : Stands w k (s.mask standMask)) :
    Stands w k ((nvmComplete a0 s).mask standMask) := by
  simp only [nvmComplete]
  (repeat' split) <;> simp [h]

@[simp] theorem nvmWord_stands (a0 : W16) (s : State) (h : Stands w k (s.mask standMask)) : Stands w k ((nvmWord a0 s).mask standMask) := by
  simp only [nvmWord]
  (repeat' split) <;> simp [h]

@[simp] theorem nvmWrite_stands (a0 : W16) (s : State) (h : Stands w k (s.mask standMask)) :
    Stands w k ((nvmWrite a0 s).mask standMask) := by
  simp only [nvmWrite]
  (repeat' split) <;> simp [h]

@[simp] theorem nvmChecked_stands (a0 : Bool) (s : State) (h : Stands w k (s.mask standMask)) :
    Stands w k ((nvmChecked a0 s).mask standMask) := by
  simp only [nvmChecked]
  (repeat' split) <;> simp [h]

@[simp] theorem nvmGasp_stands (s : State) (h : Stands w k (s.mask standMask)) : Stands w k ((nvmGasp s).mask standMask) := by
  simp only [nvmGasp]
  split <;> simp [h]

@[simp] theorem summaryWritten_stands (s : State) (h : Stands w k (s.mask standMask)) : Stands w k ((summaryWritten s).mask standMask) := by
  simp only [summaryWritten]
  (repeat' split) <;> simp [h]

@[simp] theorem gaspEnter_stands (a0 : ℕ) (s : State) (hk : ¬k) (h : Stands w k (s.mask standMask)) :
    Stands w k ((gaspEnter a0 s).mask standMask) := by
  unfold gaspEnter
  extract_lets v _ _ entered noted logged ranked swept
  have he : Stands w k (entered.mask standMask) := ⟨h.irq, fun c => absurd c hk⟩
  clear_value entered
  have hl : Stands w k (logged.mask standMask) := by simp [logged, noted, he]
  clear_value logged
  have hr : Stands w k (ranked.mask standMask) := by simp [ranked, hl]
  clear_value ranked
  have hs : Stands w k (swept.mask standMask) := by simp [swept, hr]
  simp [hs]

@[simp] theorem howlGasp_stands (a0 : Fin 8) (a1 : W32) (s : State) (h : Stands w k (s.mask standMask)) :
    Stands w k ((howlGasp a0 a1 s).mask standMask) := by
  have live (hg : s.power.g = .ready ∨ s.power.g = .run) : ¬k := fun hk => by
    rw [show s.power.g = .killed from h.killed hk] at hg
    simp at hg
  unfold howlGasp
  extract_lets r e
  have he : Stands w k (e.mask standMask) := by
    simp only [e]
    split
    · next c =>
      refine gaspEnter_stands _ _ (live ?_) (by simp [h])
      simp at c; exact c.2
    · exact h
  clear_value e
  simp only [r]
  (repeat' split) <;> simp [h, he]

@[simp] theorem service_stands (a0 : Fin 8) (a1 : ℕ) (a2 : ℕ) (a3 : W32) (s : State) (h : Stands w k (s.mask standMask)) :
    Stands w k ((service a0 a1 a2 a3 s).mask standMask) := by
  unfold service
  split <;> simp [h]

@[simp] theorem deliver_stands (a0 : Fin 8) (a1 : LshMsg) (s : State) (h : Stands w k (s.mask standMask)) :
    Stands w k ((deliver a0 a1 s).mask standMask) := by
  unfold deliver
  split <;> simp [h]

@[simp] theorem releaseAll_stands (l : List (ℕ × LshMsg × ℕ)) (s : State) (h : Stands w k (s.mask standMask)) :
    Stands w k ((releaseAll l s).mask standMask) := by
  induction l generalizing s with
  | nil => exact h
  | cons x l ih => exact ih _ (by simp [h])

@[simp] theorem chewDisarm_stands (a0 : ℕ) (s : State) (h : Stands w k (s.mask standMask)) :
    Stands w k ((chewDisarm a0 s).mask standMask) := by
  unfold chewDisarm
  split <;> simp [h]

@[simp] theorem chewSettle_stands (s : State) (h : Stands w k (s.mask standMask)) : Stands w k ((chewSettle s).mask standMask) := by
  unfold chewSettle
  split <;> simp [h]

@[simp] theorem releaseOf_stands (a0 : Fin 8) (s : State) (h : Stands w k (s.mask standMask)) :
    Stands w k ((releaseOf a0 s).mask standMask) := by
  simp [releaseOf, h]

@[simp] theorem receive_stands (a0 : Fin 8) (a1 : ℕ) (a2 : ℕ) (a3 : W32) (s : State) (h : Stands w k (s.mask standMask)) :
    Stands w k ((receive a0 a1 a2 a3 s).mask standMask) := by
  simp only [receive]
  refine chewSettle_stands _ ?_
  split
  · simp [h]
  · simp [h]
  · simp [h]
  · exact releaseOf_stands _ _ (deliver_stands _ _ _ (by simp [h]))

@[simp] theorem releaseOld_stands (s : State) (h : Stands w k (s.mask standMask)) : Stands w k ((releaseOld s).mask standMask) := by
  simp [releaseOld, h]

@[simp] theorem frameDone_stands (a0 : FrameView) (s : State) (h : Stands w k (s.mask standMask)) :
    Stands w k ((frameDone a0 s).mask standMask) := by
  simp only [frameDone]
  refine chewSettle_stands _ ?_
  rw [gaspFrame_mask _ _ rfl rfl, sweepTrack_mask _ _ rfl]
  simp only [State.updSwp_mask standMask _ _ rfl]
  exact rosterSettle_stands _ (releaseOld_stands _ (by simp [h]))

@[simp] theorem chwWrite_stands (a0 : W16) (s : State) (h : Stands w k (s.mask standMask)) :
    Stands w k ((chwWrite a0 s).mask standMask) := by
  unfold chwWrite
  split
  · simp [h]
  · split <;> simp [h]

@[simp] theorem logFault_stands (a0 : Fin 16) (a1 : Acted) (s : State) (h : Stands w k (s.mask standMask)) :
    Stands w k ((logFault a0 a1 s).mask standMask) := by
  unfold logFault
  split <;> simp [h]

@[simp] theorem logFaults_stands (n : Fin 16) (l : List Acted) (s : State) (h : Stands w k (s.mask standMask)) :
    Stands w k ((logFaults n l s).mask standMask) := by
  induction l generalizing s with
  | nil => exact h
  | cons x l ih => exact ih _ (by simp [h])

@[simp] theorem faultAction_stands (a0 : Fin 16) (s : State) (h : Stands w k (s.mask standMask)) :
    Stands w k ((faultAction a0 s).mask standMask) := by
  simp only [faultAction]
  (repeat' split) <;> simp [h]

@[simp] theorem finLoop_stands (a0 : Fin 16) (s : State) (h : Stands w k (s.mask standMask)) :
    Stands w k ((finLoop a0 s).mask standMask) := by
  simp only [finLoop]
  (repeat' split) <;> simp [h]

@[simp] theorem finOnset_stands (s : State) (h : Stands w k (s.mask standMask)) : Stands w k ((finOnset s).mask standMask) := by
  simp only [finOnset]
  split
  · simp [h]
  · exact forLoops_stands _ (fun n s h => finLoop_stands n s h) _ _ (by simp [h])

@[simp] theorem faultInSeen_stands (s : State) (h : Stands w k (s.mask standMask)) : Stands w k ((faultInSeen s).mask standMask) := by
  simp [faultInSeen, h]

@[simp] theorem killLoop_stands (a0 : Fin 16) (s : State) (h : Stands w k (s.mask standMask)) :
    Stands w k ((killLoop a0 s).mask standMask) := by
  simp only [killLoop]
  split <;> simp [h]

@[simp] theorem raiseKill_stands (s : State) (h : Stands w k (s.mask standMask)) : Stands w k ((raiseKill s).mask standMask) := by
  simp [raiseKill, h]

@[simp] theorem enterKilled_stands (s : State) (h : Stands w k (s.mask standMask)) : Stands w k ((enterKilled s).mask standMask) := by
  unfold enterKilled
  extract_lets left _ killed
  have hl : Stands w k (left.mask standMask) := by
    simp only [left]
    split <;> simp [h]
  have hk : Stands w k (killed.mask standMask) := ⟨hl.irq, fun _ => rfl⟩
  clear_value killed
  simp [forLoops_stands _ (fun n s h => killLoop_stands n s h) _ _ hk]

@[simp] theorem acpEvt_stands (a0 : Fin 8) (a1 : ℕ) (s : State) (h : Stands w k (s.mask standMask)) :
    Stands w k ((acpEvt a0 a1 s).mask standMask) := by
  simp [acpEvt, h]

@[simp] theorem acpLinkUp_stands (a0 : Fin 8) (s : State) (h : Stands w k (s.mask standMask)) :
    Stands w k ((acpLinkUp a0 s).mask standMask) := by
  simp only [acpLinkUp]
  split
  · simp [h]
  · exact acpEvt_stands _ _ _ (by simp [h])

@[simp] theorem acpBadCrc_stands (a0 : Fin 8) (a1 : W32) (s : State) (h : Stands w k (s.mask standMask)) :
    Stands w k ((acpBadCrc a0 a1 s).mask standMask) := by
  unfold acpBadCrc
  split <;> simp [h]

@[simp] theorem acpNew_stands (a0 : Fin 8) (a1 : W32) (s : State) (h : Stands w k (s.mask standMask)) :
    Stands w k ((acpNew a0 a1 s).mask standMask) := by
  simp only [acpNew]
  split
  · exact acpEvt_stands _ _ _ (by simp [h, acpDecide_act_mask])
  · simp [h, acpDecide_act_mask]

@[simp] theorem acpGood_stands (a0 : Fin 8) (a1 : W32) (s : State) (h : Stands w k (s.mask standMask)) :
    Stands w k ((acpGood a0 a1 s).mask standMask) := by
  have up : Stands w k ((acpLinkUp a0 (s.updPort a0 fun x => { x with reqCnt := (x.reqCnt + 1) % 65536 })).mask standMask) := by
    simp [h]
  simp only [acpGood]
  split
  · split <;> simp [up]
  · simp [up]

@[simp] theorem acpLow_stands (a0 : Fin 8) (a1 : W32) (s : State) (h : Stands w k (s.mask standMask)) :
    Stands w k ((acpLow a0 a1 s).mask standMask) := by
  simp [acpLow, h]

@[simp] theorem acpRequest_stands (a0 : Fin 8) (a1 : W32) (a2 : ℕ) (s : State) (h : Stands w k (s.mask standMask)) :
    Stands w k ((acpRequest a0 a1 a2 s).mask standMask) := by
  unfold acpRequest
  extract_lets asked low r
  have hl : Stands w k (low.mask standMask) := acpLow_stands _ _ _ (by simp [asked, h])
  clear_value low
  split
  · refine chewSettle_stands _ ?_
    split <;> simp [r, hl]
  · simp [hl]

@[simp] theorem arrive_stands (a0 : Fin 16) (s : State) (h : Stands w k (s.mask standMask)) :
    Stands w k ((arrive a0 s).mask standMask) := by
  simp [arrive, h]

@[simp] theorem acpLose_stands (a0 : Fin 8) (s : State) (h : Stands w k (s.mask standMask)) :
    Stands w k ((acpLose a0 s).mask standMask) := by
  simp only [acpLose]
  exact acpEvt_stands _ _ _ (by simp [h])

@[simp] theorem sampleBoundary_stands (a0 : Fin 16) (s : State) (h : Stands w k (s.mask standMask)) :
    Stands w k ((sampleBoundary a0 s).mask standMask) := by
  simp [sampleBoundary, h]

@[simp] theorem fchEvt_stands (a0 : ℕ) (s : State) (h : Stands w k (s.mask standMask)) : Stands w k ((fchEvt a0 s).mask standMask) := by
  unfold fchEvt
  split <;> simp [h]

@[simp] theorem pollStart_stands (a0 : Fin 32) (s : State) (h : Stands w k (s.mask standMask)) :
    Stands w k ((pollStart a0 s).mask standMask) := by
  simp only [pollStart]
  split <;> simp [h]

@[simp] theorem pollFail_stands (a0 : Fin 32) (s : State) (h : Stands w k (s.mask standMask)) :
    Stands w k ((pollFail a0 s).mask standMask) := by
  simp [pollFail, h]

@[simp] theorem pollGood_stands (a0 : Fin 32) (a1 : W16) (s : State) (h : Stands w k (s.mask standMask)) :
    Stands w k ((pollGood a0 a1 s).mask standMask) := by
  unfold pollGood
  extract_lets x on alarm noted good
  have hg : Stands w k (good.mask standMask) := by
    simp only [good]
    split <;> simp [noted, h]
  clear_value good
  split <;> simp [hg]

@[simp] theorem pollAbort_stands (s : State) (h : Stands w k (s.mask standMask)) : Stands w k ((pollAbort s).mask standMask) := by
  unfold pollAbort
  split <;> simp [h]

@[simp] theorem portDead_stands (a0 : ℕ) (s : State) (h : Stands w k (s.mask standMask)) : Stands w k ((portDead a0 s).mask standMask) := by
  unfold portDead
  extract_lets was dead subst noted
  have hn : Stands w k (noted.mask standMask) := by
    simp only [noted]
    split <;> simp [subst, dead, h]
  clear_value noted
  simp [hn]

@[simp] theorem attemptFail_stands (a0 : ℕ) (s : State) (h : Stands w k (s.mask standMask)) :
    Stands w k ((attemptFail a0 s).mask standMask) := by
  simp only [attemptFail]
  split <;> simp [h]

@[simp] theorem attemptGood_stands (s : State) (h : Stands w k (s.mask standMask)) : Stands w k ((attemptGood s).mask standMask) := by
  simp [attemptGood, h]

@[simp] theorem enterPost_stands (a0 : Fin 4) (a1 : Fin 16) (a2 : ℕ) (a3 : ℕ × Byte × ℕ) (s : State) (h : Stands w k (s.mask standMask)) :
    Stands w k ((enterPost a0 a1 a2 a3 s).mask standMask) := by
  simp [enterPost, h]

@[simp] theorem trigger_stands (a0 : Fin 4) (a1 : ℕ) (a2 : ℕ × Byte × ℕ) (s : State) (h : Stands w k (s.mask standMask)) :
    Stands w k ((trigger a0 a1 a2 s).mask standMask) := by
  simp only [trigger]
  (repeat' split) <;> simp [h]

/-- What stands through each item's step stands through the list. -/
theorem foldl_stands {α : Type} (f : State → α → State) (hf : ∀ s a, Stands w k (s.mask standMask) → Stands w k ((f s a).mask standMask))
    (l : List α) (s : State) (h : Stands w k (s.mask standMask)) : Stands w k ((l.foldl f s).mask standMask) := by
  induction l generalizing s with
  | nil => exact h
  | cons a l ih => exact ih _ (hf s a h)

@[simp] theorem eventTriggers_stands (a0 : LogEntry) (a1 : ℕ) (s : State) (h : Stands w k (s.mask standMask)) :
    Stands w k ((eventTriggers a0 a1 s).mask standMask) := by
  refine foldl_stands _ (fun s a h => ?_) _ _ h
  split <;> simp [h]

@[simp] theorem logAppend_stands (a0 : LogEntry) (s : State) (h : Stands w k (s.mask standMask)) :
    Stands w k ((logAppend a0 s).mask standMask) := by
  simp [logAppend, h]

@[simp] theorem appendHead_stands (s : State) (h : Stands w k (s.mask standMask)) : Stands w k ((appendHead s).mask standMask) := by
  unfold appendHead
  split
  · exact h
  · rw [eventPulses_mask _ _ _ rfl]
    exact eventTriggers_stands _ _ _ (logAppend_stands _ _ (by simp [h]))

@[simp] theorem crumbTrigger_stands (a0 : Fin 4) (s : State) (h : Stands w k (s.mask standMask)) :
    Stands w k ((crumbTrigger a0 s).mask standMask) := by
  simp [crumbTrigger, h]

@[simp] theorem crumbCtlWrite_stands (a0 : W16) (s : State) (h : Stands w k (s.mask standMask)) :
    Stands w k ((crumbCtlWrite a0 s).mask standMask) := by
  unfold crumbCtlWrite
  split <;> simp [h]

@[simp] theorem captureSample_stands (a0 : Fin 4) (s : State) (h : Stands w k (s.mask standMask)) :
    Stands w k ((captureSample a0 s).mask standMask) := by
  unfold captureSample
  extract_lets v keep hit taken x idx extra
  have ht : Stands w k (taken.mask standMask) := by simp [taken, h]
  clear_value taken
  have he : Stands w k (extra.mask standMask) := by simp [extra, ht]
  clear_value extra
  split
  · split <;> simp [ht]
  · extract_lets stepped y
    have hs : Stands w k (stepped.mask standMask) := by
      simp only [stepped]
      (repeat' split) <;> simp [ht, he]
    clear_value stepped
    split <;> simp [hs]

@[simp] theorem signSlot_stands (a0 : Fin 16) (a1 : CrbCap) (s : State) (h : Stands w k (s.mask standMask)) :
    Stands w k ((signSlot a0 a1 s).mask standMask) := by
  simp [signSlot, h]

@[simp] theorem recordSigned_stands (a0 : Fin 16) (s : State) (h : Stands w k (s.mask standMask)) :
    Stands w k ((recordSigned a0 s).mask standMask) := by
  unfold recordSigned
  split <;> simp [h]

@[simp] theorem reportRefusal_stands (a0 : Byte) (a1 : W16) (s : State) (h : Stands w k (s.mask standMask)) :
    Stands w k ((reportRefusal a0 a1 s).mask standMask) := by
  simp [reportRefusal, h]

@[simp] theorem refuseL_stands (a0 : Fail) (s : State) (h : Stands w k (s.mask standMask)) :
    Stands w k ((refuseL a0 s).mask standMask) := by
  simp [refuseL, h]

@[simp] theorem crossL_stands (a0 : ℕ) (s : State) (h : Stands w k (s.mask standMask)) : Stands w k ((crossL a0 s).mask standMask) := by
  simp only [crossL]
  split <;> simp [h]

@[simp] theorem busyEnd_stands (s : State) (h : Stands w k (s.mask standMask)) : Stands w k ((busyEnd s).mask standMask) := by
  simp only [busyEnd]
  (repeat' split) <;> simp [h]

@[simp] theorem commitDone_stands (a0 : Byte) (s : State) (h : Stands w k (s.mask standMask)) :
    Stands w k ((commitDone a0 s).mask standMask) := by
  exact busyEnd_stands _ (State.irq_stands _ _ (by simp [h]))

@[simp] theorem commitApplied_stands (s : State) (h : Stands w k (s.mask standMask)) : Stands w k ((commitApplied s).mask standMask) := by
  simp [commitApplied, h]

@[simp] theorem judgeCapture_stands (s : State) (h : Stands w k (s.mask standMask)) : Stands w k ((judgeCapture s).mask standMask) := by
  simp only [judgeCapture]
  (repeat' split) <;> simp [h]

@[simp] theorem pageTook_stands (a0 : ℕ) (a1 : State) (s : State) (h : Stands w k (s.mask standMask)) :
    Stands w k ((pageTook a0 a1 s).mask standMask) := by
  simp only [pageTook]
  (repeat' split) <;> simp [h]

@[simp] theorem commitApply_stands (a0 : Taker) (s : State) (h : Stands w k (s.mask standMask)) :
    Stands w k ((commitApply a0 s).mask standMask) := by
  unfold commitApply
  extract_lets gone old left took
  have ht : Stands w k (took.mask standMask) := by
    simp only [took]
    split <;> simp [left, h]
  split
  · exact commitApplied_stands _ ht
  · exact ht

@[simp] theorem tokenResult_stands (a0 : ℕ) (s : State) (h : Stands w k (s.mask standMask)) :
    Stands w k ((tokenResult a0 s).mask standMask) := by
  simp [tokenResult, h]

@[simp] theorem tokenOutcome_stands (a0 : IdnCmd) (s : State) (h : Stands w k (s.mask standMask)) :
    Stands w k ((tokenOutcome a0 s).mask standMask) := by
  simp only [tokenOutcome]
  (repeat' split) <;> simp [h]

@[simp] theorem tokenDone_stands (s : State) (h : Stands w k (s.mask standMask)) : Stands w k ((tokenDone s).mask standMask) := by
  unfold tokenDone
  split <;> simp [h]

@[simp] theorem tokenDrop_stands (s : State) (h : Stands w k (s.mask standMask)) : Stands w k ((tokenDrop s).mask standMask) := by
  simp only [tokenDrop]
  split <;> simp [h]

@[simp] theorem tokenCtlWrite_stands (a0 : W16) (s : State) (h : Stands w k (s.mask standMask)) :
    Stands w k ((tokenCtlWrite a0 s).mask standMask) := by
  simp only [tokenCtlWrite]
  (repeat' split) <;> simp [h]

@[simp] theorem lp15Stop_stands (s : State) (h : Stands w k (s.mask standMask)) : Stands w k ((lp15Stop s).mask standMask) := by
  simp only [lp15Stop]
  split
  · exact h
  · rw [mask_updPower _ _ _ (by simp), State.updPhase_mask _ _ _ _ rfl]
    exact enterOff_stands _ _ h

@[simp] theorem lp15Ready_stands (s : State) (h : Stands w k (s.mask standMask)) : Stands w k ((lp15Ready s).mask standMask) := by
  simp only [lp15Ready]
  (repeat' split) <;> simp [h]

end Sys2Proof.Machine

end

section
/-! PROOFS. What stands through the operations of the kennel, BOOT, KILL_N and the window. -/

set_option linter.all false

namespace Sys2Proof.Machine
open Sys2Proof
variable {w : W16} {k : Prop}

@[simp] theorem failAttempt_stands (a0 : BitVec 3) (s : State) (h : Stands w k (s.mask standMask)) :
    Stands w k ((failAttempt a0 s).mask standMask) := by
  simp [failAttempt, h]

@[simp] theorem tryAttempt_stands (a0 : W16) (s : State) (h : Stands w k (s.mask standMask)) :
    Stands w k ((tryAttempt a0 s).mask standMask) := by
  simp only [tryAttempt]
  (repeat' split) <;> simp [h]

@[simp] theorem vhvRise_stands (a0 : BitVec 2) (s : State) (h : Stands w k (s.mask standMask)) :
    Stands w k ((vhvRise a0 s).mask standMask) := by
  unfold vhvRise
  extract_lets first on read counted phased
  have hr : Stands w k (read.mask standMask) := by simp [read, on, h]
  clear_value read
  split
  · split <;> simp [hr]
  · split
    · have hp : Stands w k (phased.mask standMask) := by simp [phased, counted, hr]
      clear_value phased
      refine ⟨hp.irq, fun hk => ?_⟩
      have hg : phased.power.g = .killed := hp.killed hk
      simp [State.mask, Power.mask, hg]
    · simp [counted, hr]

@[simp] theorem vhvOvlo_stands (s : State) (h : Stands w k (s.mask standMask)) : Stands w k ((vhvOvlo s).mask standMask) := by
  simp only [vhvOvlo]
  (repeat' split) <;> simp [h]

@[simp] theorem bootNvm_stands (s : State) (h : Stands w k (s.mask standMask)) : Stands w k ((bootNvm s).mask standMask) := by
  unfold bootNvm
  split <;> simp [h]

@[simp] theorem bootUnits_stands (s : State) (hk : ¬k) (h : Stands w k (s.mask standMask)) : Stands w k ((bootUnits s).mask standMask) := by
  unfold bootUnits
  extract_lets looped ready copied _ old surveyed linked
  have hl : Stands w k (looped.mask standMask) := by simp [looped, h]
  clear_value looped
  have hr : Stands w k (ready.mask standMask) := ⟨hl.irq, fun c => absurd c hk⟩
  clear_value ready
  have hc : Stands w k (copied.mask standMask) := by simp [copied, hr]
  clear_value copied
  have hs : Stands w k (surveyed.mask standMask) := by simp [surveyed, hc]
  clear_value surveyed
  have hk : Stands w k (linked.mask standMask) := by
    unfold linked
    refine withStat_stands leashEnable _ ?_
    rw [leashEnable_mask standMask _ rfl rfl, crbArm_mask standMask _ rfl, fchCommit_mask standMask _ rfl rfl, reselect_mask standMask _ rfl]
    exact hs
  clear_value linked
  split <;> simp [hk]

@[simp] theorem bootComplete_stands (a0 : Option (List Byte)) (s : State) (hk : ¬k) (h : Stands w k (s.mask standMask)) :
    Stands w k ((bootComplete a0 s).mask standMask) := by
  unfold bootComplete
  extract_lets u
  have hu : Stands w k (u.mask standMask) := by
    refine bootUnits_stands _ hk ?_
    rw [bootLoad_mask standMask _ _ rfl rfl rfl rfl rfl]
    exact h
  clear_value u
  split
  · exact raiseKill_stands _ (enterKilled_stands _ hu)
  · exact lp15Ready_stands _ (by simp [hu])

@[simp] theorem killSeenNow_stands (s : State) (h : Stands w k (s.mask standMask)) : Stands w k ((killSeenNow s).mask standMask) := by
  simp [killSeenNow, h]

@[simp] theorem killFall_stands (s : State) (h : Stands w k (s.mask standMask)) : Stands w k ((killFall s).mask standMask) := by
  unfold killFall
  extract_lets rail low pinned seen stop stopped raised
  have hl : Stands w k (low.mask standMask) := by simp [low, h]
  clear_value low
  have hs : Stands w k (seen.mask standMask) := by
    simp only [seen]
    split <;> simp [pinned, hl]
  clear_value seen
  have ht : Stands w k (stopped.mask standMask) := by
    simp only [stopped]
    (repeat' split) <;> simp [hs]
  clear_value stopped
  have hr : Stands w k (raised.mask standMask) := raiseKill_stands _ (withStat_stands _ _ (chewDisarm_stands _ _ ht))
  clear_value raised
  (repeat' split) <;> simp [hl, ht, hr]

@[simp] theorem tapLoad_stands (a0 : BitVec 4) (a1 : BitVec 357) (s : State) (h : Stands w k (s.mask standMask)) :
    Stands w k ((tapLoad a0 a1 s).mask standMask) := by
  unfold tapLoad
  extract_lets was hold _ held
  have hh : Stands w k (held.mask standMask) := by simp [held, h]
  clear_value held
  split
  · exact raiseKill_stands _ (enterKilled_stands _ hh)
  · split <;> simp [hh]

@[simp] theorem wordWrite_stands (a0 : ℕ) (a1 : W16) (s : State) (h : Stands w k (s.mask standMask)) :
    Stands w k ((wordWrite a0 a1 s).mask standMask) := by
  simp only [wordWrite, mask_ite]
  repeat' (with_reducible apply stands_ite)
  all_goals simp [h]

@[simp] theorem writeParam_stands (a0 : ℕ) (a1 : W16) (s : State) (h : Stands w k (s.mask standMask)) :
    Stands w k ((writeParam a0 a1 s).mask standMask) := by
  unfold writeParam
  split
  · exact h
  · extract_lets stored
    have hs : Stands w k (stored.mask standMask) := by simp [stored, h]
    clear_value stored
    (repeat' split) <;> simp [h, hs]

@[simp] theorem pdataIncWrite_stands (a0 : W16) (s : State) (h : Stands w k (s.mask standMask)) :
    Stands w k ((pdataIncWrite a0 s).mask standMask) := by
  simp [pdataIncWrite, h]

@[simp] theorem wdogExpire_stands (s : State) (h : Stands w k (s.mask standMask)) : Stands w k ((wdogExpire s).mask standMask) := by
  unfold wdogExpire
  split
  · exact h
  · extract_lets a b
    have hb : Stands w k (b.mask standMask) := by simp [b, a, h]
    clear_value b
    simp [hb]

@[simp] theorem wdogWrite_stands (a0 : W16) (s : State) (h : Stands w k (s.mask standMask)) :
    Stands w k ((wdogWrite a0 s).mask standMask) := by
  unfold wdogWrite
  split <;> simp [h]

theorem stands_mask_ite (p : Prop) [Decidable p] (a b : State) (ha : p → Stands w k (a.mask standMask))
    (hb : ¬p → Stands w k (b.mask standMask)) : Stands w k ((if p then a else b).mask standMask) := by
  split
  · next c => exact ha c
  · next c => exact hb c

@[simp] theorem writeSlot_stands (a0 : Bool) (a1 : ℕ) (a2 : W16) (s : State) (hi : a1 ≠ 4 ∨ w = 0) (h : Stands w k (s.mask standMask)) :
    Stands w k ((writeSlot a0 a1 a2 s).mask standMask) := by
  have clear (c : a1 = 4) : Stands w k ((irqClear a2 s).mask standMask) := by
    obtain hi | rfl := hi
    · exact absurd c hi
    · exact stands_mask.mpr (stands_zero h.killed)
  unfold writeSlot
  refine stands_mask_ite _ _ _ (fun _ => h) fun _ => stands_mask_ite _ _ _ clear fun _ => ?_
  repeat' (with_reducible refine stands_mask_ite _ _ _ (fun _ => ?_) (fun _ => ?_))
  all_goals simp [h]

end Sys2Proof.Machine

end

section
/-! PROOFS. What stands through a command. -/

set_option linter.all false

namespace Sys2Proof.Machine
open Sys2Proof
variable {w : W16} {k : Prop}

/-- The commands that clear W_IRQ bits or leave KILLED by their own rule. -/
def standsOut : Instr → Bool
  | .irqClear _ _ => true
  | .vauxLoss _ _ => true
  | .resetNLow _ => true
  | .warmReset _ => true
  | .coreUvReset _ => true
  | .vauxValid _ _ => true
  | .vhvFallOff _ => true
  | .bootStart _ _ _ => true
  | .killedExit _ => true
  | .gaspExit _ => true
  | _ => false

/-! ### The row shapes -/

theorem gated_stands (t : Nat) (g : State → Bool) (f : State → State) (s u : State)
    (hf : ∀ s, g s = true → Stands w k (s.mask standMask) → Stands w k ((f s).mask standMask)) (h0 : Stands w k s)
    (h : gated t g f s = .next u) : Stands w k u := by
  simp only [gated] at h
  injection h with h
  subst h
  split
  · next c => exact stands_mask.mp (hf _ c ⟨h0.irq, h0.killed⟩)
  · exact ⟨h0.irq, h0.killed⟩

theorem always_stands (t : Nat) (f : State → State) (s u : State)
    (hf : ∀ s, Stands w k (s.mask standMask) → Stands w k ((f s).mask standMask)) (h0 : Stands w k s)
    (h : always t f s = .next u) : Stands w k u := by
  simp only [always] at h
  injection h with h
  subst h
  exact stands_mask.mp (hf _ ⟨h0.irq, h0.killed⟩)

theorem writeStrobe_stands (t : Nat) (f : Bool → State → State) (s u : State)
    (hf : ∀ b s', s'.win.addr = s.win.addr → Stands w k (s'.mask standMask) → Stands w k ((f b s').mask standMask)) (h0 : Stands w k s)
    (h : writeStrobe t f s = .next u) : Stands w k u := by
  simp only [writeStrobe] at h
  injection h with h
  subst h
  split
  · exact stands_mask.mp (hf _ _ rfl ⟨h0.irq, h0.killed⟩)
  · exact ⟨h0.irq, h0.killed⟩

theorem strobed_stands (t : Nat) (g : State → Bool) (f : State → State) (s u : State)
    (hf : ∀ s, Stands w k (s.mask standMask) → Stands w k ((f s).mask standMask)) (h0 : Stands w k s)
    (h : strobed t g f s = .next u) : Stands w k u := by
  have hs : Stands w k (s.atTime t) := ⟨h0.irq, h0.killed⟩
  have hk : Stands w k (if (s.atTime t).window then { s.atTime t with win := { (s.atTime t).win with kicked := false } } else s.atTime t) :=
    stands_ite _ _ _ ⟨h0.irq, h0.killed⟩ hs
  simp only [strobed] at h
  injection h with h
  subst h
  exact stands_ite _ _ _ (stands_mask.mp (hf _ (stands_mask.mpr hk))) hk

theorem slotRead_stands (t : Nat) (f : State → State) (s u : State)
    (hf : ∀ s, Stands w k (s.mask standMask) → Stands w k ((f s).mask standMask)) (h0 : Stands w k s)
    (h : slotRead t f s = .next u) : Stands w k u :=
  gated_stands t _ _ s u (fun s _ h => by
    split
    · exact hf s h
    · exact ⟨h.irq, h.killed⟩) h0 h

theorem signDone_stands (v : SignWork) (f : State → State) (hf : ∀ s, Stands w k (s.mask standMask) → Stands w k ((f s).mask standMask))
    (s : State) (h : Stands w k (s.mask standMask)) : Stands w k ((signDone v f s).mask standMask) := by
  have e : Stands w k ((f (signAhead v s)).mask standMask) := hf _ (by simp [h])
  exact ⟨e.irq, e.killed⟩

theorem msgRow_stands (cls typ t : Nat) (p : Fin 8) (d : W32) (s u : State) (h0 : Stands w k s) (h : msgRow cls typ t p d s = .next u) :
    Stands w k u :=
  gated_stands _ _ _ _ _ (fun _ _ h => withStat_stands _ _ (receive_stands _ _ _ _ _ h)) h0 h

theorem acpRow_stands (ops : Nat → Bool) (t : Nat) (p : Fin 8) (r : AcpRequest) (s u : State) (h0 : Stands w k s)
    (h : acpRow ops t p r s = .next u) : Stands w k u :=
  gated_stands _ _ _ _ _ (fun _ _ h => withStat_stands _ _ (acpRequest_stands _ _ _ _ h)) h0 h

/-- What stands, stands through every command but those of `standsOut` and a write of W_IRQ that clears one of the bits. -/
theorem exec_stands (i : Instr) (s u : State) (hi : standsOut i = false)
    (ha : ∀ t x, i = .registerWrite t x → s.win.addr.toNat ≠ 4 ∨ w = 0) (h0 : Stands w k s) (h : exec i s = .next u) : Stands w k u := by
  by_cases hp : mayChange i .g = false ∧ mayChange i .irq = false
  · obtain ⟨hg, hq⟩ := hp
    have e : u.mask standMask = (s.atTime i.time).mask standMask := by
      refine mask_mono (fun p hm => decide_eq_true ⟨?_, ?_⟩) (exec_mask i s u h)
      · rintro rfl
        simp [hg] at hm
      · rintro rfl
        simp [hq] at hm
    exact stands_mask.mp (e ▸ stands_mask.mpr ⟨h0.irq, h0.killed⟩)
  cases i <;> dsimp only [exec] at h
  case vhvRiseOn =>
    exact always_stands _ _ _ _ (fun _ h => by simp [h]) h0 h
  case kennelRetryDue | kennelAttemptStart | kennelAttemptTimeout | kennelLp15Ov | wdogExpire | classLCrossing | captureEnd | commitApply
      | commitRefused | nvmTransferTimeout | nvmImageChecked | nvmOpComplete | sampleBoundary | stbEpoch | syncFieldReceived | syncLoss |
      holdoffExpire | handover | napOrphan | delayOnEntry | hiccupRetry | delayOffEnd | arrival | acpLoss | faultAction | killNFall |
      faultIn | faultInHoldEnd | leashFrameEnd | jabberCut | chewLifeExpire | napBurst | napWindowMiss | challengeTimeout | planSaveDone |
      stretchTimeout | arbitrationLoss | eventAppend | captureSample | tapInstructionUpdate | trstNLow =>
    exact gated_stands _ _ _ _ _ (fun _ _ h => by simp [h]) h0 h
  case pdataWrite | wdogKick | save | openA | openB | confirm | invalidateA | invalidateB | nvmDataWord | stop | trigger | drop =>
    exact strobed_stands _ _ _ _ _ (fun _ h => by simp [h]) h0 h
  case acpPing | acpSetv | acpSetslew | acpSetll | acpHint | acpFrame | acpGetv | acpGeti | acpGetstat | acpGettemp | acpGetref |
      acpGetflt | acpReservedOp =>
    exact acpRow_stands _ _ _ _ _ _ h0 h
  case idle | claim | nap | wake | howlFault | howlGasp | tokenAcq | tokenHold | tokenRel | vref | cert | chal | resp | digest | swpStart
      | swpCheck | swpJoin | swpSet | swpIre | swpIim =>
    exact msgRow_stands _ _ _ _ _ _ _ h0 h
  case vhvOvloRelease =>
    refine gated_stands _ _ _ _ _ (fun s _ h => ?_) h0 h
    have hs : Stands w k ((s.updPower fun p => { p with vhvOvlo := false }).mask standMask) := ⟨h.irq, h.killed⟩
    dsimp only
    split
    · exact tryAttempt_stands _ _ hs
    · exact hs
  case bootComplete =>
    refine gated_stands _ _ _ _ _ (fun s c h => bootComplete_stands _ _ (fun hk => ?_) h) h0 h
    simp [show s.power.g = .killed from h.killed hk] at c
  case gaspEntry =>
    refine gated_stands _ _ _ _ _ (fun s c h => chewSettle_stands _ (gaspEnter_stands _ _ (fun hk => ?_) h)) h0 h
    simp [State.ownLoss, show s.power.g = .killed from h.killed hk] at c
  case pollStart =>
    refine gated_stands _ _ _ _ _ (fun s _ h => ?_) h0 h
    split <;> simp [h]
  case challengeVerified =>
    refine gated_stands _ _ _ _ _ (fun s _ h => signDone_stands _ _ (fun s h => ?_) _ h) h0 h
    split <;> simp [h]
  case summaryWritten =>
    refine gated_stands _ _ _ _ _ (fun s _ h => stands_mask_ite _ _ _ (fun _ => summaryWritten_stands _ h) fun _ => ?_) h0 h
    exact signDone_stands _ _ (fun s h => summaryWritten_stands _ h) _ h
  case pollComplete =>
    refine gated_stands _ _ _ _ _ (fun s _ h => ?_) h0 h
    split
    · dsimp only
      split <;> simp [h]
    · exact h
  case recoveryAttempt =>
    refine gated_stands _ _ _ _ _ (fun s _ h => ?_) h0 h
    extract_lets start fresh tried
    have ht : Stands w k (tried.mask standMask) := by simp [tried, h]
    clear_value tried
    split
    · exact attemptFail_stands _ _ ht
    · split
      · exact attemptGood_stands _ ht
      · exact attemptFail_stands _ _ ht
  case recordSigned =>
    refine gated_stands _ _ _ _ _ (fun s _ h => stands_mask_ite _ _ _ (fun _ => ?_) fun _ => recordSigned_stands _ _ h) h0 h
    exact signDone_stands _ _ (fun s h => recordSigned_stands _ _ h) _ h
  case tokenCommandDone =>
    refine gated_stands _ _ _ _ _ (fun s _ h => stands_mask_ite _ _ _ (fun _ => tokenDone_stands _ h) fun _ => ?_) h0 h
    exact signDone_stands _ _ (fun s h => tokenDone_stands _ h) _ h
  case registerWrite t x =>
    refine writeStrobe_stands _ _ _ _ (fun b s' e h => writeSlot_stands _ _ _ _ ?_ h) h0 h
    rw [e]
    exact ha t x rfl
  case vhvRiseOvlo =>
    unfold execVhvRiseOvlo at h
    split at h
    · cases h
    · exact gated_stands _ _ _ _ _ (fun _ _ h => by simp [h]) h0 h
  case pdataIncAccess =>
    unfold execPdataIncAccess at h
    split at h
    · refine slotRead_stands _ _ _ _ (fun s h => ?_) h0 h
      rw [pdataIncRead_mask standMask _ rfl]
      exact h
    · exact strobed_stands _ _ _ _ _ (fun _ h => by simp [h]) h0 h
  case reservedTypeMessage =>
    unfold execReservedTypeMessage at h
    split at h
    · exact msgRow_stands _ _ _ _ _ _ _ h0 h
    · cases h
      exact ⟨h0.irq, h0.killed⟩
  case irqClear | vauxLoss | resetNLow | warmReset | coreUvReset | vauxValid | vhvFallOff | bootStart | killedExit | gaspExit =>
    cases hi
  all_goals exact absurd ⟨rfl, rfl⟩ hp
end Sys2Proof.Machine

end

section
/-! PROOFS. The resets and the supply, as far as KILLED and W_IRQ go; O11 and O12. -/

set_option linter.all false

namespace Sys2Proof.Machine
open Sys2Proof

/-- A gated row either answers its effect, its condition holding, or the state at its time. -/
theorem gated_cases {t : Nat} {g : State → Bool} {f : State → State} {s u : State} (h : gated t g f s = .next u) :
    g (s.atTime t) = true ∧ u = f (s.atTime t) ∨ u = s.atTime t := by
  cases c : g (s.atTime t)
  · rw [gated_neg _ _ _ _ c] at h
    cases h
    exact .inr rfl
  · rw [gated_pos _ _ _ _ c] at h
    cases h
    exact .inl ⟨rfl, rfl⟩

theorem fullReset_g (c : BitVec 6) (s : State) : (fullReset c s).power.g = .reset := rfl

theorem bootReady_g (s : State) : (bootReady s).power.g = s.power.g := rfl

theorem resetLow_g (s : State) : (resetLow s).power.g = .reset ∨ resetLow s = s.updPower fun p => { p with resetN := false } := by
  dsimp only [resetLow]
  split
  · exact .inl (fullReset_g _ _)
  · exact .inr rfl

theorem warmTry_g (s : State) : (warmTry s).power.g = .reset ∨ warmTry s = s := by
  unfold warmTry
  split
  · split
    · exact .inl ((bootReady_g _).trans (fullReset_g _ _))
    · exact .inr rfl
  · exact .inr rfl

theorem vauxLoss_vaux (above : Bool) (s : State) : (vauxLoss above s).power.vaux = false := by
  unfold vauxLoss
  extract_lets
  split <;> rfl

theorem vauxValid_g (kv : BitVec 2) (s : State) : (vauxValid kv s).power.g = .reset :=
  congrArg (fun x : State => x.power.g) (updPhases_mask (Part.but .g) _ _ _ rfl)

/-- A fall of VHV below VHV_OFF leaves the device in KILLED, unless VAUX is not there. -/
theorem vhvFall_killed (s : State) (h : s.power.g = .killed) : (vhvFall s).power.g = .killed ∨ (vhvFall s).power.vaux = false := by
  unfold vhvFall
  extract_lets fell stopped ended
  have hf : Stands 0 True (fell.mask standMask) := stands_mask.mpr (stands_zero fun _ => h)
  clear_value fell
  have hs : Stands 0 True (stopped.mask standMask) := by
    refine stands_mask_ite _ _ _ (fun _ => failAttempt_stands _ _ hf) fun _ => stands_mask_ite _ _ _ (fun _ => ?_) fun _ => hf
    exact lp15Stop_stands _ hf
  clear_value stopped
  have he : ended.power.g = .killed := hs.killed trivial
  clear_value ended
  split
  · exact .inl (hf.killed trivial)
  · split
    · exact .inl he
    · next hv => exact .inr (((congrArg (fun x : State => x.power.vaux) (pinsOff_mask (Part.but .power) _ _ rfl)).trans (Bool.eq_false_iff.mpr hv)))

/-- What a warm reset tries: the state with the write taken. -/
theorem resetWrite_g (w : W16) (s : State) : (resetWrite w s).power.g = s.power.g :=
  g_of_mask (resetWrite_mask (Part.but .g) w s rfl)

theorem resetWrite_irq (w : W16) (s : State) : (resetWrite w s).win.irq = s.win.irq :=
  irq_of_mask (resetWrite_mask (Part.but .irq) w s rfl)

/-- A warm reset puts the full set into its reset or leaves the global state and W_IRQ. -/
theorem execWarmReset_keeps {t : Nat} {s u : State} (h : execWarmReset t s = .next u) :
    u.power.g = .reset ∨ u.power.g = s.power.g ∧ u.win.irq = s.win.irq := by
  obtain ⟨_, rfl⟩ | rfl := gated_cases h
  · dsimp only
    obtain e | e := warmTry_g (if (s.atTime t).window && (s.atTime t).power.warmPend.isNone then
      resetWrite 0xA5C3 { s.atTime t with win := { (s.atTime t).win with kicked := false } } else s.atTime t)
    · exact .inl e
    · rw [e]
      split
      · exact .inr ⟨resetWrite_g _ _, resetWrite_irq _ _⟩
      · exact .inr ⟨rfl, rfl⟩
  · exact .inr ⟨rfl, rfl⟩

/-- RESET_N low puts the full set into its reset or leaves the global state and W_IRQ. -/
theorem execResetNLow_keeps {t : Nat} {s u : State} (h : execResetNLow t s = .next u) :
    u.power.g = .reset ∨ u.power.g = s.power.g ∧ u.win.irq = s.win.irq := by
  cases h
  obtain e | e := resetLow_g (s.atTime t)
  · exact .inl e
  · rw [e]
    exact .inr ⟨rfl, rfl⟩

/-- A core under-voltage does too. -/
theorem execCoreUvReset_keeps {t : Nat} {s u : State} (h : execCoreUvReset t s = .next u) :
    u.power.g = .reset ∨ u.power.g = s.power.g ∧ u.win.irq = s.win.irq := by
  obtain ⟨_, rfl⟩ | rfl := gated_cases h
  · exact .inl (fullReset_g 32 (s.atTime t))
  · exact .inr ⟨rfl, rfl⟩

/-- A loss of VAUX ends it or leaves the state. -/
theorem execVauxLoss_keeps {t : Nat} {b : Bool} {s u : State} (h : execVauxLoss t b s = .next u) :
    u.power.vaux = false ∨ u.power.g = s.power.g ∧ u.win.irq = s.win.irq := by
  obtain ⟨_, rfl⟩ | rfl := gated_cases h
  · exact .inl (vauxLoss_vaux b (s.atTime t))
  · exact .inr ⟨rfl, rfl⟩

/-- Settles O12: the commands that leave KILLED by their own rule one by one, every other command by `exec_stands`. -/
theorem killedStays : Obligations.KilledStays := by
  unfold Obligations.KilledStays
  intro i s u hg h
  cases hm : mayChange i .g
  · exact .inl ((g_of_mask (exec_but hm h)).trans hg)
  cases hi : standsOut i
  · exact .inl ((exec_stands (w := 0) (k := True) i s u hi (fun _ _ _ => .inr rfl) (stands_zero fun _ => hg) h).killed trivial)
  cases i <;> dsimp only [exec] at h
  case killedExit | bootStart => simp
  case irqClear => cases hm
  case vauxLoss => exact (execVauxLoss_keeps h).elim (.inr ∘ .inr ∘ .inl) fun e => .inl (e.1.trans hg)
  case resetNLow => exact (execResetNLow_keeps h).elim (.inr ∘ .inl) fun e => .inl (e.1.trans hg)
  case warmReset => exact (execWarmReset_keeps h).elim (.inr ∘ .inl) fun e => .inl (e.1.trans hg)
  case coreUvReset => exact (execCoreUvReset_keeps h).elim (.inr ∘ .inl) fun e => .inl (e.1.trans hg)
  case vauxValid kv =>
    obtain ⟨_, rfl⟩ | rfl := gated_cases h
    · exact .inr (.inl (vauxValid_g kv _))
    · exact .inl hg
  case vhvFallOff =>
    obtain ⟨_, rfl⟩ | rfl := gated_cases h
    · exact (vhvFall_killed (s.atTime _) hg).elim .inl fun e => .inr (.inr (.inl e))
    · exact .inl hg
  case gaspExit =>
    obtain ⟨c, rfl⟩ | rfl := gated_cases h
    · simp [State.gaspOver, hg] at c
    · exact .inl hg
  all_goals cases hi

/-- Settles O11: the commands that clear W_IRQ bits by their own rule one by one, every other command by `exec_stands`. -/
theorem interruptFlagsStay : Obligations.InterruptFlagsStay := by
  unfold Obligations.InterruptFlagsStay
  refine ⟨fun i s u k h hc hr hv hg hk => ?_, fun s t w hw => ⟨_, strobed_pos t (fun _ => true) (irqClear w) s hw rfl, rfl⟩⟩
  have same (e : u.win.irq = s.win.irq) : bitAt u.win.irq k.val = true := by rwa [e]
  cases hm : mayChange i .irq
  · exact same ((irq_of_mask (exec_but hm h)).trans rfl)
  cases hi : standsOut i
  · refine (exec_stands (w := s.win.irq) (k := False) i s u hi (fun t x e => .inl fun c => ?_) ⟨fun _ hj => hj, False.elim⟩ h).irq k hk
    exact hr t x e (BitVec.eq_of_toNat_eq c)
  have reset (e : u.power.g = .reset ∨ u.power.g = s.power.g ∧ u.win.irq = s.win.irq) : bitAt u.win.irq k.val = true :=
    e.elim (absurd · hg) fun e => same e.2
  cases i <;> dsimp only [exec] at h
  case irqClear t w => exact absurd rfl (hc t w)
  case vauxLoss =>
    obtain e | ⟨-, e⟩ := execVauxLoss_keeps h
    · rw [e] at hv
      cases hv
    · exact same e
  case resetNLow => exact reset (execResetNLow_keeps h)
  case warmReset => exact reset (execWarmReset_keeps h)
  case coreUvReset => exact reset (execCoreUvReset_keeps h)
  case vauxValid | vhvFallOff | bootStart | killedExit | gaspExit => cases hm
  all_goals cases hi
end Sys2Proof.Machine

end

section
/-! PROOFS. The crossings of VHV under KV 0b11 and the rows of the window; O59 and O22. -/

set_option linter.all false

namespace Sys2Proof.Machine
open Sys2Proof

/-- Settles O59: the branch of each crossing that KV 0b11 takes. -/
theorem vhvIgnored : Obligations.VhvIgnored := by
  unfold Obligations.VhvIgnored
  refine ⟨fun s t kv hk hv => ?_, fun s t hk hv hon => ?_, fun s t mv hk hv hon hmv => ?_, fun s t pre hk hv ho hw => ?_⟩
  · refine ⟨_, rfl, ?_⟩
    simp [vhvRise, readKv, State.updPower, hk, hv]
  · dsimp only [exec, execVhvFallOff]
    exact ⟨_, gated_pos _ _ _ _ hon, if_pos hk⟩
  · refine ⟨_, (if_neg (Nat.not_lt.mpr hmv)).trans (gated_pos _ _ _ _ hon), if_pos hk⟩
  · dsimp only [exec, execVhvOvloRelease]
    exact ⟨_, gated_pos _ _ _ _ ho, if_neg hw⟩

/-! ### Rows of the window -/

/-- An open window answers the bus. -/
theorem busAnswers_of_window {s : State} (h : s.window = true) : s.busAnswers = true := by
  simp [State.busAnswers, h]

/-- A read of an open window has its effect. -/
theorem slotRead_open {t : Nat} {f : State → State} {s : State} (h : s.window = true) : slotRead t f s = .next (f (s.atTime t)) :=
  (gated_pos _ _ _ _ (busAnswers_of_window h)).trans (congrArg Host.Outcome.next (if_pos h))

/-- In BOOT the window is shut. -/
theorem window_boot {s : State} (h : s.power.g = .boot) : s.window = false := by
  simp [State.window, h]

/-- In BOOT a read answers 0 and has no effect. -/
theorem slotRead_boot {t : Nat} {f : State → State} {s : State} (h : s.power.g = .boot) (hv : s.power.vddioH = true) :
    slotRead t f s = .next { s.atTime t with win := { s.win with adOut := 0 } } := by
  have hb : (s.atTime t).busAnswers = true := by simp [State.busAnswers, h, hv]
  have hw : (s.atTime t).window = false := window_boot h
  exact (gated_pos _ _ _ _ hb).trans (congrArg Host.Outcome.next (if_neg (Bool.eq_false_iff.mp hw)))

/-- What a write of a parameter does to an rw word. -/
theorem writeParam_rw {a : Nat} {w : W16} {p : ParamInfo} {s : State} (hp : paramInfo a = some p) (ha : p.access = .rw) :
    writeParam a w s = if p.cls = .L then writeL a (s.setProof a (w &&& w16 p.mask)) else s.setProof a (w &&& w16 p.mask) := by
  simp only [writeParam, hp, ha]

/-- A write of a read-only word, or of an address without a word, stores nothing. -/
theorem writeParam_ro {a : Nat} {w : W16} {s : State}
    (h : (match paramInfo a with | some p => decide (p.access = Access.ro) | none => true) = true) : writeParam a w s = s := by
  unfold writeParam
  split
  · rfl
  · next p hp =>
    rw [hp] at h
    simp only [of_decide_eq_true h]

/-- An event that the queue has room for is put behind the others. -/
theorem offer_room {s : State} (h : s.log.queue.length < 64) (e : LogEntry) :
    s.offer e = { s with log := { s.log with queue := s.log.queue ++ [(e, s.now)] } } := if_pos h

/-- Settles O22: the row of each command with its condition met, and the branch of its effect. -/
theorem windowPortCommands : Obligations.WindowPortCommands := by
  unfold Obligations.WindowPortCommands
  refine ⟨fun s t ad hv hd => ?_, fun s t hb => ?_, fun s t w hw ha => ?_, fun s t hb => ?_, fun s t boot hw => ?_,
    fun s t boot hg hd hv => ?_, fun s t w p hw hp ha hc => ?_, fun s t w p hw hp ha hc => ?_, fun s t w hw ha => ?_,
    fun s t w hw => ?_, fun s t w hw => ?_, fun s t w hg hd hv => ?_, fun s t hu hb hq => ?_⟩
  · dsimp only [exec, execAddressLatch]
    exact ⟨_, gated_pos _ _ _ _ (by simp [hv, hd]), rfl⟩
  · dsimp only [exec, execShortStrobe]
    exact ⟨_, gated_pos _ _ _ _ hb, rfl⟩
  · refine ⟨_, congrArg Host.Outcome.next (if_pos hw), ?_⟩
    rw [show (s.atTime t).updWin (fun w => { w with kicked := false }) = s.atStrobe t from rfl]
    exact (congrArg (fun a : W16 => writeSlot s.win.kicked a.toNat w (s.atStrobe t)) ha).trans rfl
  · dsimp only [exec, execWStatRead]
    exact ⟨_, gated_pos _ _ _ _ hb, rfl⟩
  · dsimp only [exec, execTimeLowRead]
    refine ⟨_, slotRead_open hw, ?_⟩
    cases boot <;> rfl
  · dsimp only [exec, execTimeLowRead]
    exact ⟨_, slotRead_boot hg hd, rfl⟩
  · dsimp only [exec, execPdataWrite]
    refine ⟨_, strobed_pos _ _ _ _ hw rfl, (writeParam_rw hp ha).trans ?_⟩
    rw [if_neg hc]
    rfl
  · dsimp only [exec, execPdataWrite]
    refine ⟨_, (strobed_pos _ _ _ _ hw rfl).trans (congrArg Host.Outcome.next (writeParam_rw hp ha)), ?_⟩
    rw [if_pos hc]
    exact ⟨rfl, rfl, rfl⟩
  · dsimp only [exec, execPdataWrite]
    exact ⟨_, strobed_pos _ _ _ _ hw rfl, writeParam_ro ha⟩
  · dsimp only [exec, execPdataIncAccess]
    exact ⟨_, (if_neg Bool.false_ne_true).trans (strobed_pos _ _ _ _ hw rfl), rfl⟩
  · dsimp only [exec, execPdataIncAccess]
    exact ⟨_, slotRead_open hw, rfl⟩
  · dsimp only [exec, execPdataIncAccess]
    exact ⟨_, slotRead_boot hg hd, rfl⟩
  · dsimp only [exec, execDeviceTimeWrap]
    refine ⟨_, gated_pos _ _ _ _ ?_, ?_⟩
    · exact Bool.and_eq_true_iff.mpr ⟨hu, decide_eq_true hb⟩
    · rw [offer_room]
      · exact ⟨rfl, rfl⟩
      · exact hq
end Sys2Proof.Machine

end

section
/-! PROOFS. The supply banks and the boundary-scan port; O51. -/

set_option linter.all false

namespace Sys2Proof.Machine
open Sys2Proof

/-! ### The pins -/

/-- Entering KILLED leaves the device there. -/
theorem enterKilled_g (s : State) : (enterKilled s).power.g = .killed := by
  unfold enterKilled
  extract_lets left _ killed
  have h0 : Stands 0 True (killed.mask standMask) := stands_mask.mpr (stands_zero fun _ => rfl)
  clear_value killed
  have hl : Stands 0 True ((forLoops killLoop allLoops killed).mask standMask) :=
    forLoops_stands killLoop (fun n s h => killLoop_stands n s h) allLoops killed h0
  exact (g_of_mask (driveFault_mask (Part.but .g) _ rfl)).trans ((stands_mask.mp hl).killed trivial)

theorem raiseKill_g (s : State) : (raiseKill s).power.g = s.power.g :=
  g_of_mask (raiseKill_mask (Part.but .g) s rfl rfl rfl rfl)

/-- The entry to KILLED and its report leave the pins' own part. -/
theorem raiseKill_enterKilled_pins (s : State) : (raiseKill (enterKilled s)).pins = s.pins :=
  pins_of_mask ((raiseKill_mask (Part.but .pins) _ rfl rfl rfl rfl).trans (enterKilled_mask (Part.but .pins) s rfl rfl rfl rfl rfl rfl))

/-- An instruction of the boundary-scan port is held with its cells and takes or releases the pins. -/
theorem tapLoad_pins (ir : BitVec 4) (cells : BitVec 357) (s : State) :
    (tapLoad ir cells s).pins = { s.pins with tapIr := ir, cells := cells, tapHold := tapHolds ir } := by
  unfold tapLoad
  extract_lets
  split
  · exact raiseKill_enterKilled_pins _
  · split <;> rfl

/-- Where the port takes the pins of a device that is up, the device is in KILLED. -/
theorem tapLoad_killed {ir : BitVec 4} {cells : BitVec 357} {s : State} (hi : tapHolds ir = true) (hh : s.pins.tapHold = false)
    (hu : s.up = true) : (tapLoad ir cells s).power.g = .killed := by
  unfold tapLoad
  extract_lets was hold _ held
  split
  · exact (raiseKill_g _).trans (enterKilled_g _)
  · next c =>
    have up : held.up = true := hu
    have hg : held.power.g = .killed := by
      by_contra hn
      exact c (by simp [hold, was, hi, hh, up, hn])
    split <;> exact hg

/-- The enable inputs, noted or not, leave the supplies. -/
theorem enableNotes_power (c : Bool) (s : State) : (if c then forLoops enableNote allLoops s else s).power = s.power := by
  split
  · exact power_of_mask (forLoops_mask _ _ (fun n s => enableNote_mask Part.butPower n s rfl) _ s)
  · rfl

/-- A change of a bank moves its level alone among the supplies. -/
theorem execVddioSupplyChange_power {t : Nat} {bank : Fin 3} {on : Bool} {s u : State} (h : execVddioSupplyChange t bank on s = .next u) :
    u.power = if bank = 0 then { s.power with vddioH := on } else if bank = 1 then { s.power with vddioL := on }
      else { s.power with vddioP := on } := by
  cases h
  exact enableNotes_power _ _

/-- Settles O51: the level of a bank, and the boundary-scan port's own fields by `tapLoad_pins`. -/
theorem pinCommands : Obligations.PinCommands := by
  unfold Obligations.PinCommands
  refine ⟨fun s t bank level => ⟨_, rfl, ?_⟩, fun s t ir cells hv hl => ?_, fun s t hv hl => ?_⟩
  · rw [execVddioSupplyChange_power (t := t) (s := s) (bank := bank) (on := level) rfl]
    fin_cases bank <;> exact ⟨rfl, rfl, rfl⟩
  · dsimp only [exec, execTapInstructionUpdate]
    refine ⟨_, gated_pos _ _ _ _ (by simp [hv, hl]), ?_⟩
    rw [tapLoad_pins]
    exact ⟨rfl, rfl, rfl, fun hi hh hu => tapLoad_killed hi hh hu⟩
  · dsimp only [exec, execTrstNLow]
    refine ⟨_, gated_pos _ _ _ _ (by simp [hv, hl]), ?_⟩
    rw [tapLoad_pins]
    exact ⟨rfl, rfl, rfl⟩
end Sys2Proof.Machine

end

section
/-! PROOFS. Three statements that the model does not meet from every state; O58, O19 and O20 refuted. -/

set_option linter.all false

namespace Sys2Proof.Machine
open Sys2Proof

/-- A command answers one state. -/
theorem answer_unique {a : Ans} {u v : State} (h : a = .next u) (k : a = .next v) : u = v :=
  Host.Outcome.next.inj (h.symm.trans k)

/-! ### KILL_N in KENNEL -/

/-- A device in KENNEL whose values in use map PH63 to LP3, and LP3 holds its crowbar latch: `killPins` passes over PH63. -/
def foreignLatch : State :=
  let s : State := { State.reset with par := { State.reset.par with inUse := [(lpA 3 0x1E, 127), (phA 63 0, 0x13)] } }
  let s := s.updPower fun p => { p with g := .kennel, vhvOn := true, kv := some 1 }
  let s := s.updPrt 3 fun p => { p with latch := true }
  s.updPhase 63 fun p => { p with pwm := .low }

theorem foreignLatch_pwm : ((killFall (foreignLatch.atTime 0)).phase 63).pwm = .low := by decide +kernel

/-- Refutes O58: the hypotheses name only the latch of LP15, but PH63 may be mapped to another loop, and one with its crowbar
latch set keeps the level of its phases when KILL_N falls. -/
theorem not_killInKennel : ¬ Obligations.KillInKennel := by
  unfold Obligations.KillInKennel
  rintro ⟨fall, -⟩
  obtain ⟨u, hu, -, -, hp, -⟩ := fall foreignLatch 0 rfl rfl rfl (by decide +kernel) (by decide +kernel) rfl
  have e : exec (.killNFall 0) foreignLatch = .next (killFall (foreignLatch.atTime 0)) :=
    gated_pos 0 (fun s => s.power.killN) killFall _ rfl
  rw [answer_unique hu e, foreignLatch_pwm] at hp
  cases hp

/-! ### A fall of VHV with VAUX valid -/

/-- A self-biased device in RUN with LP15 on the kennel law and no other loop on. -/
def runAlone : State :=
  let s := State.reset.updPower fun p =>
    { p with g := .run, vaux := true, vauxLost := false, pll := true, vhvOn := true, kv := some 1, law15 := .kennel }
  s.updSp 15 fun p => { p with st := .regulate }

theorem runAlone_fall : (vhvFall (runAlone.atTime 0)).power.g = .ready := by decide +kernel

/-- Refutes O19: a fall of VHV that stops LP15 settles READY and RUN by the loops that are on, which the hypotheses do not tie to
the global state: from RUN with no other loop on it answers READY. -/
theorem not_powerEntryCommands : ¬ Obligations.PowerEntryCommands := by
  unfold Obligations.PowerEntryCommands
  rintro ⟨-, -, -, -, -, -, -, -, -, -, fall, -⟩
  obtain ⟨u, hu, -, hg, -⟩ := fall runAlone 0 rfl (by decide) rfl
  have e : exec (.vhvFallOff 0) runAlone = .next (vhvFall (runAlone.atTime 0)) :=
    gated_pos 0 (fun s => s.power.vhvOn) vhvFall _ rfl
  rw [answer_unique hu e, runAlone_fall] at hg
  cases hg

/-! ### A BOOT with FAULT_IN low -/

/-- An image of one record: bit 0 of the word that names the loops FAULT_IN stops. -/
def finImage : List Byte :=
  [0, 0, 0, 0, 0, 0, 0, 0, 70, 0, 0, 0, 0, 0, 0, 0, 1, 0, 0, 0, 0, 0, 0, 0, 0, 0, 0, 0, 0, 0, 0, 0, 0x02, 0x02, 1, 0, 1, 0]

/-- A device in BOOT with that image in slot A, FAULT_IN low, and LP0 and LP1 regulating. -/
def bootRunning : State :=
  let s := State.reset.updPower fun p => { p with g := .boot, vaux := true, kv := some 3, bootSel := 0 }
  let s := s.updNvm fun x => { x with cands := [false], slotA := { bytes := finImage } }
  let s := (s.updSp 0 fun p => { p with st := .regulate }).updSp 1 fun p => { p with st := .regulate }
  { s with prot := { s.prot with fltLow := true } }

theorem bootRunning_g : (bootComplete none (bootRunning.atTime 0)).power.g = .run := by decide +kernel

/-- Refutes O20: the end of the BOOT handles a FAULT_IN that is low, and where that turns a loop off while another is on the
device settles to RUN; the hypotheses leave FAULT_IN and, with KV 0b11, the loops' states open. -/
theorem not_resetCommands : ¬ Obligations.ResetCommands := by
  unfold Obligations.ResetCommands
  rintro ⟨-, -, -, -, -, -, -, -, boot, -⟩
  obtain ⟨u, hu, hg, -⟩ := boot bootRunning 0 none rfl rfl rfl rfl rfl (.inl rfl)
  have e : exec (.bootComplete 0 none) bootRunning = .next (bootComplete none (bootRunning.atTime 0)) :=
    gated_pos 0 (fun s => decide (s.power.g = .boot) && !s.power.cntPend) (bootComplete none) _ (by decide +kernel)
  rw [answer_unique hu e, bootRunning_g] at hg
  cases hg
end Sys2Proof.Machine

end

section
/-! PROOFS. The flags, the requested enables and the event pop port of the window; O23. -/

namespace Sys2Proof.Machine
open Sys2Proof

/-- A write strobe of an open window has its effect (R64). -/
theorem strobed_open {t : Nat} {f : State → State} {s : State} (h : s.window = true) :
    strobed t (fun _ => true) f s = .next (f (s.atStrobe t)) := strobed_pos _ _ _ _ h rfl

/-! ### W_LOOP_ON -/

theorem loopOnSet_loopOn (v : W16) (s : State) : (loopOnSet v s).win.loopOn = if s.selfBias then setBit v 15 else v := by
  unfold loopOnSet
  extract_lets stored taken held
  have hh : held.win = taken.win := win_of_mask (forLoops_mask _ _ (fun n s => by simp [Part.butWin]) _ _)
  have hn : (forLoops pairsNote allLoops held).win = held.win :=
    win_of_mask (forLoops_mask _ _ (fun n s => pairsNote_mask _ n s rfl) _ _)
  rw [hn, hh]
  rfl

/-! ### W_EVT_POP -/

theorem evtPopRead_empty {s : State} (h : s.log.count = 0) : evtPopRead s = s.answer 0 := by
  simp [evtPopRead, State.popWord, State.answer, State.updWin, h]

/-- Where the ring holds an entry, a read answers the word of the entry that it concerns. -/
theorem evtPopRead_adOut {s : State} (h : 0 < s.log.count) : (evtPopRead s).win.adOut = s.popEntry.word s.log.popIdx := by
  have hw : s.popWord = s.popEntry.word s.log.popIdx := if_neg h.ne'
  rw [← hw]
  simp only [evtPopRead]
  repeat' split
  all_goals rfl

/-- One of the first three reads of an entry steps the word index alone. -/
theorem evtPopRead_next {s : State} (h : 0 < s.log.count) (hi : s.log.popIdx < 3) :
    (evtPopRead s).log.rd = s.log.rd ∧ (evtPopRead s).log.count = s.log.count ∧ (evtPopRead s).log.popIdx = s.log.popIdx + 1 := by
  have ha : (s.answer s.popWord).log = s.log := rfl
  by_cases h0 : s.log.popIdx = 0 <;> simp [evtPopRead, State.updLog, ha, h.ne', h0, hi]

/-- The fourth read takes the entry, unless the log has overwritten it meanwhile (R79). -/
theorem evtPopRead_last {s : State} (h : 0 < s.log.count) (hi : s.log.popIdx = 3) (hp : s.log.popAt ≠ none) :
    (evtPopRead s).log.rd = (s.log.rd + 1) % 8192 ∧ (evtPopRead s).log.count = s.log.count - 1 ∧ (evtPopRead s).log.popIdx = 0 := by
  have ha : (s.answer s.popWord).log = s.log := rfl
  have hs : s.log.popAt.isSome = true := Option.isSome_iff_ne_none.mpr hp
  simp [evtPopRead, State.updLog, ha, h.ne', hi, hs]

/-- Settles O23: the row of each command with its condition met, and the branch of its effect. -/
theorem windowFlagCommands : Obligations.WindowFlagCommands := by
  unfold Obligations.WindowFlagCommands
  refine ⟨fun s t w hw => ?irq, fun s t w hw => ?enable, fun s t w hw hb => ?fault, fun s t w hw hb => ?kill,
    fun s t w hw hr => ?loopOn, fun s t w hw hr => ?readOnly, fun s t hw hc => ?pop, fun s t hw hc => ?popEmpty,
    fun s t hg hd _ => ?popBoot, fun s t hw => ?rewind, fun s t w hw hb => ?lost⟩
  case irq => exact ⟨_, strobed_open hw, rfl⟩
  case enable => exact ⟨_, strobed_open hw, rfl⟩
  case fault => exact ⟨_, strobed_open hw, if_pos hb⟩
  case kill => exact ⟨_, strobed_open hw, if_pos hb⟩
  case loopOn =>
    have hset : loopOnWrite w (s.atStrobe t) = loopOnSet w (s.atStrobe t) := if_neg (Bool.eq_false_iff.mp hr)
    exact ⟨_, (strobed_open hw).trans (congrArg Host.Outcome.next hset), loopOnSet_loopOn w _⟩
  case readOnly => exact ⟨_, strobed_open hw, if_pos hr⟩
  case pop => exact ⟨_, slotRead_open hw, evtPopRead_adOut (s := s.atTime t) hc, evtPopRead_last (s := s.atTime t) hc,
    evtPopRead_next (s := s.atTime t) hc⟩
  case popEmpty => exact ⟨_, slotRead_open hw, evtPopRead_empty hc⟩
  case popBoot => exact ⟨_, slotRead_boot hg hd, rfl⟩
  case rewind => exact ⟨_, strobed_open hw, rfl⟩
  case lost => exact ⟨_, strobed_open hw, if_pos hb⟩

end Sys2Proof.Machine

end

section
/-! PROOFS. The watchdog: its configuration, its kicks and its expiry; O24. -/

namespace Sys2Proof.Machine
open Sys2Proof

/-! ### The configuration -/

/-- A write of an open window that asks whether it is the first after a valid kick (R80). -/
theorem writeStrobe_open {t : Nat} {f : Bool → State → State} {s : State} (h : s.window = true) :
    writeStrobe t f s = .next (f s.win.kicked (s.atStrobe t)) := congrArg Host.Outcome.next (if_pos h)

/-- A word whose fields are not allowed, or a write in the closed time, changes nothing. -/
theorem wdogCfgWrite_refused {kicked : Bool} {v : W16} {s : State}
    (h : wdogOk (v &&& 0xFF0F) = false ∨ (s.wdogEn = true ∧ kicked = false)) : wdogCfgWrite kicked v s = s := if_pos h

/-- The bit that enables the watchdog is a defined one. -/
theorem bitAt_wdogMask_en (v : W16) : bitAt (v &&& 0xFF0F) 3 = bitAt v 3 := by
  simp [bitAt]

theorem wdogCfgWrite_stored {kicked : Bool} {v : W16} {s : State} (hv : wdogOk (v &&& 0xFF0F) = true)
    (hk : s.wdogEn = false ∨ kicked = true) :
    (wdogCfgWrite kicked v s).win.wdogCfg = v &&& 0xFF0F ∧ (bitAt v 3 = true → (wdogCfgWrite kicked v s).win.wdogFrom = s.now) := by
  have taken : ¬(wdogOk (v &&& 0xFF0F) = false ∨ (s.wdogEn = true ∧ kicked = false)) := by
    rintro (h | ⟨hen, hnot⟩)
    · exact Bool.noConfusion (h.symm.trans hv)
    · rcases hk with hoff | hyes
      · exact Bool.noConfusion (hoff.symm.trans hen)
      · exact Bool.noConfusion (hnot.symm.trans hyes)
  simp only [wdogCfgWrite, if_neg taken, bitAt_wdogMask_en]
  split
  · exact ⟨rfl, fun _ => rfl⟩
  · next hoff => exact ⟨rfl, fun hon => absurd hon hoff⟩

/-! ### The expiry -/

theorem bitAt_setBit_self {v : W16} {i : Nat} (h : i < 16) : bitAt (setBit v i) i = true := by
  simp only [bitAt, setBit, BitVec.getLsbD_or, BitVec.getLsbD_ofNat, Nat.testBit_two_pow_self, h, decide_true, Bool.and_self, Bool.or_true]

/-- A W_IRQ bit that is set stands through the settling of W_LEASH_STAT. -/
theorem withStat_irq {f : State → State} {s : State} {j : Nat} (hf : bitAt (f s).win.irq j = true) :
    bitAt (withStat f s).win.irq j = true :=
  (stands_mask.mp (withStat_stands (k := False) f s (stands_mask.mpr ⟨fun _ => id, False.elim⟩))).irq j hf

/-- The settling of W_LEASH_STAT sets bits of W_IRQ and leaves the rest of the window. -/
theorem withStat_ports (f : State → State) (s : State) :
    { (withStat f s).win with irq := 0 } = { (f s).win with irq := 0 } := by
  refine ports_of_mask ?_
  simp only [withStat]
  split <;> simp [Part.but]

theorem withStat_wdogExp (f : State → State) (s : State) : (withStat f s).win.wdogExp = (f s).win.wdogExp := by
  simpa only using congrArg Win.wdogExp (withStat_ports f s)

theorem withStat_wdogCfg (f : State → State) (s : State) : (withStat f s).win.wdogCfg = (f s).win.wdogCfg := by
  simpa only using congrArg Win.wdogCfg (withStat_ports f s)

theorem chewDisarm_idle {cause : Nat} {s : State} (h : s.chw.armed = false) : chewDisarm cause s = s :=
  if_neg (Bool.eq_false_iff.mp h)

theorem wdogAction_note {s : State} (h : fld s.win.wdogCfg 2 0 = 0) : wdogAction s = s := by
  simp [wdogAction, h]

theorem offer_win (s : State) (e : LogEntry) : (s.offer e).win = s.win := win_of_mask (State.offer_mask _ s e rfl)

theorem offer_chw (s : State) (e : LogEntry) : (s.offer e).chw = s.chw := chw_of_mask (State.offer_mask _ s e rfl)

/-- Without an action and with Chew not armed, an expiry sets WDOG_EXP and W_IRQ.WDOG (R83). -/
theorem wdogExpire_noted {s : State} (he : s.win.wdogExp = false) (ha : fld s.win.wdogCfg 2 0 = 0) (hc : s.chw.armed = false) :
    (wdogExpire s).win.wdogExp = true ∧ bitAt (wdogExpire s).win.irq 9 = true := by
  unfold wdogExpire
  rw [if_neg (Bool.eq_false_iff.mp he)]
  extract_lets raised logged
  have idle : chewDisarm 6 logged = logged := chewDisarm_idle ((congrArg Chw.armed (offer_chw raised _)).trans hc)
  have win : logged.win = raised.win := offer_win raised _
  have cfg : (withStat (chewDisarm 6) logged).win.wdogCfg = s.win.wdogCfg := by rw [withStat_wdogCfg, idle, win]; rfl
  rw [wdogAction_note ((congrArg (fld · 2 0) cfg).trans ha)]
  refine ⟨?_, withStat_irq ?_⟩
  · rw [withStat_wdogExp, idle, win]
    rfl
  · rw [idle, win]
    exact bitAt_setBit_self (by decide)

/-! ### The kicks -/

theorem wdogWrite_wrong {v : W16} {s : State} (hen : s.wdogEn = true) (hv : v ≠ s.kickWord) : wdogWrite v s = wdogExpire s := by
  simp [wdogWrite, hen, hv]

theorem wdogWrite_expected {v : W16} {s : State} (hen : s.wdogEn = true) (hv : v = s.kickWord) :
    wdogWrite v s = (wdogRestart s).updWin fun w => { w with wdogExp := false, wdogAlt := !w.wdogAlt, kicked := true } := by
  simp [wdogWrite, hen, hv]

/-- Settles O24: the row of each command with its condition met; both expiries end in `wdogExpire_noted`. -/
theorem watchdogCommands : Obligations.WatchdogCommands := by
  unfold Obligations.WatchdogCommands
  refine ⟨fun s t w hw hv hk => ?stored, fun s t w hw hr => ?refused, fun s t w hw hen hv he ha hc => ?wrong,
    fun s t w hw hen hv => ?kick, fun s t hu hg hen he hT ha hc => ?expire⟩
  case stored => exact ⟨_, writeStrobe_open (f := fun k => wdogCfgWrite k w) hw, wdogCfgWrite_stored hv hk⟩
  case refused => exact ⟨_, writeStrobe_open (f := fun k => wdogCfgWrite k w) hw, wdogCfgWrite_refused hr⟩
  case wrong =>
    have hx : wdogWrite w (s.atStrobe t) = wdogExpire (s.atStrobe t) := wdogWrite_wrong hen hv
    exact ⟨_, (strobed_open hw).trans (congrArg Host.Outcome.next hx), wdogExpire_noted (s := s.atStrobe t) he ha hc⟩
  case kick => exact ⟨_, strobed_open hw, wdogWrite_expected hen hv⟩
  case expire =>
    dsimp only [exec, execWdogExpire]
    refine ⟨_, gated_pos t _ wdogExpire s ?_, wdogExpire_noted (s := s.atTime t) he ha hc⟩
    simp only [up_atTime, wdogEn_atTime, hu, hen, Bool.true_and, Bool.and_true, Bool.and_eq_true, decide_eq_true_eq, Bool.not_eq_true']
    exact ⟨⟨hg, he⟩, hT⟩

end Sys2Proof.Machine

end

section
/-! PROOFS. What no command changes of the stores it does not own, and their canonical form; O5 and O8. -/

namespace Sys2Proof.Machine
open Sys2Proof

/-! ### The canonical form -/

theorem canonical_iff (s : State) : s.canonical = true ↔ s.core.Canon := by
  simp only [State.canonical, Bool.and_eq_true, and_assoc]
  exact Iff.rfl

theorem slotRead_le (t : Nat) (f : State → State) (s s' : State) (hf : ∀ c s, Core.Le c s.core → Core.Le c (f s).core)
    (h : slotRead t f s = .next s') : Core.Le (s.atTime t).core s'.core :=
  gated_le _ _ _ _ _ (fun c s k => by
    split
    · exact hf c s k
    · exact k) h

theorem msgRow_le (cls typ t : Nat) (p : Fin 8) (d : W32) (s s' : State) (h : msgRow cls typ t p d s = .next s') :
    Core.Le (s.atTime t).core s'.core :=
  gated_le _ _ _ _ _ (fun c s k => withStat_le _ s c (receive_le _ _ _ _ s c k)) h

theorem acpRow_le (ops : Nat → Bool) (t : Nat) (p : Fin 8) (r : AcpRequest) (s s' : State) (h : acpRow ops t p r s = .next s') :
    Core.Le (s.atTime t).core s'.core :=
  gated_le _ _ _ _ _ (fun c s k => withStat_le _ s c (acpRequest_le _ _ _ s c k)) h

/-- A command without a part of the core on its list leaves the core as it was. -/
theorem exec_core_eq {i : Instr} {s u : State} (hi : ∀ p, coreMask p = false → mayChange i p = false) (h : exec i s = .next u) :
    u.core = (s.atTime i.time).core := by
  refine core_of_mask (mask_mono (fun p hp => ?_) (exec_mask i s u h))
  by_contra hn
  rw [hi p (Bool.eq_false_iff.mpr hn)] at hp
  cases hp

/-- Every command keeps `Core.Le`: one that changes a counter by `exec_le`, one that changes a store by the law of its operation, every
other by its frame. -/
theorem exec_core_le {i : Instr} {s u : State} (h : exec i s = .next u) : Core.Le (s.atTime i.time).core u.core := by
  by_cases hc : mayChange i .bootCnt = true ∨ mayChange i .tokCnt = true ∨ mayChange i .opk = true
  · exact exec_le hc h
  by_cases hs : mayChange i .sram = false ∧ mayChange i .proof = false ∧ mayChange i .inUse = false
  · refine exec_core_eq (fun p hp => ?_) h ▸ Core.Le.rfl _
    simp only [not_or, Bool.not_eq_true] at hc
    obtain ⟨hboot, htok, hopk⟩ := hc
    obtain ⟨hsram, hproof, huse⟩ := hs
    cases p
    case bootCnt | tokCnt | opk | sram | proof | inUse => assumption
    all_goals cases hp
  cases i <;> dsimp only [exec] at h
  case classLCrossing | commitApply | bootStart | bootComplete | killNFall | eventAppend | captureSample | swpSetSend | sweepRunStart |
      sweepLeaderLost | sweepResults | wdogExpire =>
    exact gated_le _ _ _ _ _ (fun c s k => by simp [k]) h
  case leashFrameEnd => exact gated_le _ _ _ _ _ (fun c s k => withStat_le _ s c (frameDone_le _ s c k)) h
  case chewLifeExpire => exact gated_le _ _ _ _ _ (fun c s k => withStat_le _ s c (chewDisarm_le _ s c k)) h
  case gaspEntry => exact gated_le _ _ _ _ _ (fun c s k => chewSettle_le _ c (gaspEnter_le _ s c k)) h
  case stop => exact strobed_le _ _ _ _ _ (fun c s k => withStat_le _ s c (chewDisarm_le _ s c k)) h
  case pdataWrite | wdogKick | revert | commitRequest | calApply | trigger | sweepAbort =>
    exact strobed_le _ _ _ _ _ (fun c s k => by simp [k]) h
  case pollStart | compressionDone | sweepEntryWrite =>
    refine gated_le _ _ _ _ _ (fun c s k => ?_) h
    split <;> simp [k]
  case recordSigned n =>
    exact gated_le _ _ _ _ _ (fun c s k =>
      le_iteS c _ _ _ (signDone_le _ _ (fun s c => recordSigned_le n s c) s c k) (recordSigned_le n s c k)) h
  case acpPing | acpSetv | acpSetslew | acpSetll | acpHint | acpFrame | acpGetv | acpGeti | acpGetstat | acpGettemp | acpGetref |
      acpGetflt | acpReservedOp =>
    exact acpRow_le _ _ _ _ _ _ h
  case idle | claim | nap | wake | howlFault | howlGasp | tokenAcq | tokenHold | tokenRel | vref | cert | chal | resp | digest | swpStart
      | swpCheck | swpJoin | swpSet | swpIre | swpIim =>
    exact msgRow_le _ _ _ _ _ _ _ h
  case reservedTypeMessage =>
    unfold execReservedTypeMessage at h
    split at h
    · exact msgRow_le _ _ _ _ _ _ _ h
    · cases h
      exact Core.Le.rfl _
  case registerWrite => exact writeStrobe_le _ _ _ _ (fun b c s k => by simp [k]) h
  case pdataIncAccess =>
    unfold execPdataIncAccess at h
    split at h
    · exact slotRead_le _ _ _ _ (fun c s k => by simp [k]) h
    · exact strobed_le _ _ _ _ _ (fun c s k => by simp [k]) h
  case bootCounterIncrement | vauxLoss | resetNLow | warmReset | coreUvReset | tokenCommandDone =>
    exact absurd (by simp [mayChange, partsOf]) hc
  all_goals exact absurd ⟨rfl, rfl, rfl⟩ hs

/-- Settles O5: every command keeps the canonical form (`exec_core_le`), and an idle step keeps the state. -/
theorem canonicalFormKept : Obligations.CanonicalFormKept := by
  unfold Obligations.CanonicalFormKept
  intro s u hs h
  unfold step at h
  split at h
  · cases h
    exact hs
  · next c rest _ =>
    have l : Core.Le _ u.core := exec_core_le h
    exact (canonical_iff u).mpr (l.canon ((canonical_iff s).mp hs))

/-! ### The stores that a command does not own -/

theorem mayChange_false {i : Instr} {p : Part} (h : p ∉ partsOf i) : mayChange i p = false := by
  simp [mayChange, h]

theorem sram_of_mask {s s' : State} (h : s.mask (Part.but .sram) = s'.mask (Part.but .sram)) :
    s.crb.sram = s'.crb.sram ∧ s.crb.gen = s'.crb.gen := by
  have hr := congrArg (fun x : State => x.crb.sram) h
  have hg := congrArg (fun x : State => x.crb.gen) h
  exact ⟨hr, hg⟩

/-- Settles O8, from the frame of every command: a part that is not on the command's list reads as before. -/
theorem storesFrame : Obligations.StoresFrame := by
  unfold Obligations.StoresFrame
  intro i s u h
  have but (p : Part) (hp : p ∉ partsOf i) : u.mask (Part.but p) = (s.atTime i.time).mask (Part.but p) := exec_but (mayChange_false hp) h
  refine ⟨fun hp a => ?sram, fun hp a => ?proof, fun hp a => ?inUse, fun hp n => ?loops, fun hp m => ?phases, fun hp => ?acp,
    fun hp => ?log⟩
  case sram =>
    obtain ⟨hr, hg⟩ := sram_of_mask (but .sram hp)
    unfold State.ram
    rw [hr, hg]
    rfl
  case proof => exact congrArg (sparseGet paramReset · a) (proof_of_mask (s' := s.atTime i.time) (but .proof hp))
  case inUse => exact congrArg (sparseGet paramReset · a) (inUse_of_mask (s' := s.atTime i.time) (but .inUse hp))
  case loops => exact loop_of_mask (but .loops hp) n
  case phases => exact phase_of_mask (but .phases hp) m
  case acp => exact acp_of_mask (s' := s.atTime i.time) (but .acp hp)
  case log => exact log_of_mask (s' := s.atTime i.time) (but .log hp)

end Sys2Proof.Machine

end

section
/-! PROOFS. What a refused commit leaves; the disabled DISAGREE; O52 and O54. -/

namespace Sys2Proof.Machine
open Sys2Proof

/-! ### The end of a refused commit -/

/-- The dirty words follow from the two stores alone. -/
theorem dirtyWords_congr {s u : State} (hp : u.par.proof = s.par.proof) (hu : u.par.inUse = s.par.inUse) : u.dirtyWords = s.dirtyWords := by
  unfold State.dirtyWords State.proof State.baseUse
  rw [hp, hu]

/-- A refusal stays reported when BUSY clears: a held report that replaces it is a refusal too (R91). -/
theorem busyEnd_refused {s : State} (h : s.par.refused = true) : (busyEnd s).par.refused = true := by
  simp only [busyEnd]
  split
  · rfl
  · split <;> exact h

/-- Without an unlock that waits, the one in force stays when BUSY clears. -/
theorem busyEnd_unlock {s : State} (h : s.idn.unlockPend = none) : (busyEnd s).idn.unlock = s.idn.unlock := by
  simp only [busyEnd, State.updPar, h]
  split <;> rfl

/-- A set with a failing word is refused with the word's code and address (R94, R98). -/
theorem judgeCapture_failing {s : State} {f : Fail} (hc : s.par.pendCode = 0) (hs : s.par.set ≠ []) (hj : s.judge s.par.set = some f) :
    judgeCapture s = s.updPar fun p => { p with phase := .refused, phaseAt := s.now, pendCode := w8 f.1, pendAddr := w16 f.2 } := by
  simp only [judgeCapture, hc, hs, hj, ne_eq, not_true_eq_false, if_false]

/-- Settles O52: neither the end of a refused commit nor its refusal at the end of the capture touches the stores. -/
theorem refusedCommitKeepsProof : Obligations.RefusedCommitKeepsProof := by
  unfold Obligations.RefusedCommitKeepsProof
  refine ⟨fun s t a hu hp ht hn => ?ends, fun s t f hu hp hc hs hj => ?refuses⟩
  case ends =>
    dsimp only [exec, execCommitRefused]
    refine ⟨_, gated_pos _ _ _ _ (by simp [hu, hp, ht]), ?_⟩
    have core := (busyEnd_core (reportRefusal s.par.pendCode s.par.pendAddr (s.atTime t))).trans (reportRefusal_core _ _ _)
    have proof := congrArg Core.proof core
    have inUse := congrArg Core.inUse core
    exact ⟨proof, inUse, congrArg (sparseGet paramReset · a) proof, congrArg (sparseGet paramReset · a) inUse,
      dirtyWords_congr proof inUse, busyEnd_unlock hn, busyEnd_refused rfl⟩
  case refuses =>
    dsimp only [exec, execCaptureEnd]
    refine ⟨_, gated_pos _ _ _ _ (by simp [hu, hp]), ?_⟩
    rw [judgeCapture_failing (s := s.atTime t) hc hs hj]
    exact ⟨rfl, rfl, rfl, dirtyWords_congr rfl rfl, rfl⟩

/-! ### LPn.REQ_ACT_DIFF -/

/-- In a word with bit k for an unexplained difference and bit 4 + k for an explained one, one of the two stands for the difference. -/
theorem pairWord_bits : ∀ (d e : Fin 4 → Bool) (k : Fin 4),
    let w := w16 ((List.finRange 4).foldl (fun a k => a + bitVal (d k && !e k) k.val + bitVal (d k && e k) (4 + k.val)) 0)
    (bitAt w k.val || bitAt w (4 + k.val)) = d k := by
  decide +kernel

/-- A pair that differs is shown in bit k or in bit 4 + k, whatever PRF.DISAGREE_MASK holds (R101, R103). -/
theorem reqActDiff_bits (s : State) (n : Fin 16) (k : Fin 4) :
    (bitAt (s.reqActDiff n) k.val || bitAt (s.reqActDiff n) (4 + k.val)) = s.pairDiffers n k :=
  pairWord_bits (s.pairDiffers n) (s.pairExplained n) k

/-- Settles O54: the row of DISAGREE with its condition unmet, and the bits of the view by `reqActDiff_bits`. -/
theorem disagreeDisabled : Obligations.DisagreeDisabled := by
  unfold Obligations.DisagreeDisabled
  have moves {s : State} {t : Nat} {n : Fin 16} {k : Fin 4} (h : twCount (s.pg 1 0) = 0 ∨ bitAt (s.pg 1 1) k.val = false) :
      exec (.disagree t n k) s = .next (s.atTime t) := by
    dsimp only [exec, execDisagree]
    refine gated_neg _ _ _ _ ?_
    rcases h with h | h <;> simp [h]
  exact ⟨fun s t n k h => ⟨_, moves h, rfl⟩, fun s t n k h => ⟨_, moves h, reqActDiff_bits _ n k⟩⟩

end Sys2Proof.Machine

end

section
/-! PROOFS. The crossing of a class-L word into a store that is not in canonical form; O25 and O53 refuted. -/

namespace Sys2Proof.Machine
open Sys2Proof

/-- What hangs on a crossed class-L word leaves W_IRQ and every field of the parameters. -/
theorem crossedL_par (a : Nat) (s : State) : (crossedL a s).par = s.par := par_of_mask (crossedL_mask _ a s rfl rfl)
theorem crossedL_win (a : Nat) (s : State) : (crossedL a s).win = s.win := win_of_mask (crossedL_mask _ a s rfl rfl)

theorem crossL_passed {a : Nat} {s : State} (h : s.refusalL a = none) : crossL a s = crossedL a ((s.updPar fun p => { p with
    waitL := p.waitL.filter fun w => decide (w.1 ≠ a)
    lateL := p.lateL.filter fun b => decide (b ≠ a) }).setUse a (s.proof a)) := by
  simp only [crossL, h]
  rfl

/-- From a state in canonical form, which every step keeps (`canonicalFormKept`), a class-L word that passes takes its proof value into
use and changes neither W_COMMIT_STAT nor W_IRQ (R90). -/
theorem crossL_of_canonical {a : Nat} {s : State} (hs : s.canonical = true) (h : s.refusalL a = none) :
    (crossL a s).baseUse a = s.proof a ∧ (crossL a s).proof a = s.proof a ∧ (crossL a s).commitStat = s.commitStat ∧
      (crossL a s).win = s.win := by
  obtain ⟨_, _, hu⟩ := (canonical_iff s).mp hs
  unfold State.baseUse State.proof State.commitStat State.busy
  rw [crossL_passed h, crossedL_par, crossedL_win]
  exact ⟨sparseGet_set_same paramReset s.par.inUse 0 a _ hu, rfl, rfl, rfl⟩

/-- A device in READY whose values in use list PRF.DISAGREE_MASK before PRF.DISAGREE_TIME, which waits to cross: no state that a run from
`State.reset` reaches (`unorderedUse_not_canonical`, `canonicalFormKept`), but one that the statements do not exclude. -/
def unorderedUse : State :=
  let s := State.reset.updPower fun p => { p with g := .ready, vaux := true }
  s.updPar fun p => { p with inUse := [(0x0101, 1), (0x0100, 1)], waitL := [(0x0100, 0)] }

theorem unorderedUse_not_canonical : unorderedUse.canonical = false := by decide +kernel

theorem unorderedUse_mayCross : (unorderedUse.atTime 0).mayCross 0x0100 0 = true := by decide +kernel

theorem unorderedUse_refusalL : (unorderedUse.atTime 0).refusalL 0x0100 = none := by decide +kernel

/-- The proof copy is at its reset value, so the crossing would remove the entry; it meets a larger address first and keeps the store. -/
theorem unorderedUse_crossing_ne {u : State} (h : exec (.classLCrossing 0 0x0100) unorderedUse = .next u) :
    u.baseUse 0x0100 ≠ unorderedUse.proof 0x0100 := by
  have e : exec (.classLCrossing 0 0x0100) unorderedUse = .next (crossL 0x0100 (unorderedUse.atTime 0)) := by
    dsimp only [exec, execClassLCrossing]
    exact gated_pos _ _ _ _ (by decide +kernel)
  rw [answer_unique h e]
  decide +kernel

/-- Refutes O25: the hypotheses of the crossing leave the form of the in-use store open, and a store out of order keeps the old value
where the written one is the reset value. In canonical form the word takes its proof value (`crossL_of_canonical`). -/
theorem not_commitCommands : ¬ Obligations.CommitCommands := by
  unfold Obligations.CommitCommands
  rintro ⟨-, -, -, cross, -⟩
  obtain ⟨u, hu, hv, -⟩ := cross unorderedUse 0 0x0100 0 rfl rfl rfl unorderedUse_mayCross unorderedUse_refusalL
  exact unorderedUse_crossing_ne hu hv

/-- Refutes O53, by the crossing that refutes O25: its last clause too says nothing of the form of the in-use store. -/
theorem not_classLRefusal : ¬ Obligations.ClassLRefusal := by
  unfold Obligations.ClassLRefusal
  rintro ⟨-, -, cross⟩
  obtain ⟨u, hu, hv, -⟩ := cross unorderedUse 0 0x0100 0 rfl rfl rfl unorderedUse_mayCross unorderedUse_refusalL
  exact unorderedUse_crossing_ne hu hv

end Sys2Proof.Machine

end

section
/-! PROOFS. The commands and transfers of the MTP controller; O26. -/

namespace Sys2Proof.Machine
open Sys2Proof

/-! ### Slots -/

@[simp] theorem Nvm.slot_setSlot (x : Nvm) (b : Bool) (v : ImgSlot) : (x.setSlot b v).slot b = v := by
  cases b <;> rfl

@[simp] theorem Nvm.slot_setSlot_not (x : Nvm) (b : Bool) (v : ImgSlot) : (x.setSlot b v).slot (!b) = x.slot (!b) := by
  cases b <;> rfl

@[simp] theorem slot_updSlot (s : State) (b : Bool) (f : ImgSlot → ImgSlot) : (s.updSlot b f).nvm.slot b = f (s.nvm.slot b) :=
  Nvm.slot_setSlot _ _ _

@[simp] theorem slot_updSlot_not (s : State) (b : Bool) (f : ImgSlot → ImgSlot) : (s.updSlot b f).nvm.slot (!b) = s.nvm.slot (!b) :=
  Nvm.slot_setSlot_not _ _ _

/-! ### Commands -/

/-- A command that the slots and the handler rules allow acts at its strobe. -/
theorem nvmCommand_taken {t : Nat} {ok : State → Bool} {f : State → State} {s : State} (hw : s.window = true) (ho : s.nvmOpen = true)
    (hr : (s.atTime t).readOnly = false) (hk : ok (s.atStrobe t) = true) :
    strobed t State.nvmOpen (nvmCommand ok f) s = .next (f (s.atStrobe t)) := by
  have hr' : (s.atStrobe t).readOnly = false := hr
  refine (strobed_pos _ _ _ _ hw ho).trans (congrArg Host.Outcome.next (if_neg ?_))
  simp [hr', hk]

/-- A command that they forbid ends at once with RESULT 1 and W_IRQ.NVM, both slots as they were. -/
theorem nvmCommand_refused {t : Nat} {ok : State → Bool} {f : State → State} {s : State} (hw : s.window = true) (ho : s.nvmOpen = true)
    (h : (s.atTime t).readOnly = true ∨ ok (s.atStrobe t) = false) :
    ∃ u, strobed t State.nvmOpen (nvmCommand ok f) s = .next u ∧ u.nvm.result = 1 ∧ u.nvm.slotA = s.nvm.slotA ∧
      u.nvm.slotB = s.nvm.slotB ∧ u.nvm.op = none ∧ u.win.irq = setBit s.win.irq 10 := by
  have hc : ((s.atStrobe t).readOnly || !ok (s.atStrobe t)) = true := by
    rcases h with h | h
    · exact Bool.or_eq_true_iff.mpr (.inl h)
    · simp [h]
  exact ⟨_, (strobed_pos _ _ _ _ hw ho).trans (congrArg Host.Outcome.next (if_pos hc)), rfl, rfl, rfl, rfl, rfl⟩

/-- SAVE takes the image of the values in use at the command, and its slot counts a cycle (R116). -/
theorem nvmSave_begun (s : State) : (nvmSave s).nvm.op = some .save ∧ (nvmSave s).nvm.busy = true ∧
    (nvmSave s).nvm.words = wordsOf (s.saveImage (s.topSeq + 1)) ∧
    ((nvmSave s).nvm.slot s.nvm.saveSlot).cycles = (s.nvm.slot s.nvm.saveSlot).cycles + 1 := by
  have image (b : Bool) (f : ImgSlot → ImgSlot) (k : Nat) : (s.updSlot b f).saveImage k = s.saveImage k := by
    simp only [State.saveImage, State.baseUse, updSlot_par]
  refine ⟨rfl, rfl, congrArg wordsOf (image _ _ _), ?_⟩
  exact congrArg ImgSlot.cycles (slot_updSlot s s.nvm.saveSlot _)

/-- OPEN makes its slot INVALID and counts a cycle; the other slot stays (R116). -/
theorem nvmOpenSlot_begun (b : Bool) (s : State) : (nvmOpenSlot b s).nvm.op = some (if b then .openB else .openA) ∧
    (nvmOpenSlot b s).nvm.busy = true ∧ ((nvmOpenSlot b s).nvm.slot b).st = .invalid ∧
    ((nvmOpenSlot b s).nvm.slot b).cycles = (s.nvm.slot b).cycles + 1 ∧ (nvmOpenSlot b s).nvm.slot (!b) = s.nvm.slot (!b) := by
  have slots : (nvmOpenSlot b s).nvm.slot = (s.updSlot b fun x => { x with st := .invalid, bytes := [], cycles := x.cycles + 1 }).nvm.slot := by
    unfold nvmOpenSlot
    extract_lets erased marked
    have hm : marked.nvm.slot = erased.nvm.slot := by
      unfold marked
      split <;> rfl
    exact hm
  rw [slots, slot_updSlot, slot_updSlot_not]
  exact ⟨rfl, rfl, rfl, rfl, rfl⟩

/-! ### The end of an operation -/

/-- What every completed operation reports (R119). -/
theorem nvmComplete_ended {op : NvmOp} {s : State} (ok : Bool) (h : s.nvm.op = some op) : (nvmComplete ok s).nvm.op = none ∧
    (nvmComplete ok s).nvm.busy = false ∧ (nvmComplete ok s).nvm.result = (if ok then 0 else 7) ∧
    (nvmComplete ok s).win.irq = setBit s.win.irq 10 := by
  simp only [nvmComplete, h]
  cases op <;> cases ok <;> exact ⟨rfl, rfl, rfl, rfl⟩

/-- A completed operation that opens no transfer leaves the slots as `nvmFinish` marks them. -/
theorem nvmComplete_slot {op : NvmOp} {s : State} (ok : Bool) (h : s.nvm.op = some op) :
    (nvmComplete ok s).nvm.slot = (nvmFinish op ok s).nvm.slot := by
  simp only [nvmComplete, h]
  cases op <;> cases ok <;> rfl

/-- A completed OPEN opens the transfer of its slot, whose gap counts from now (R117). -/
theorem nvmComplete_open {b : Bool} {s : State} (h : s.nvm.op = some (if b then .openB else .openA)) :
    (nvmComplete true s).nvm.xfer = some b ∧ (nvmComplete true s).nvm.gapFrom = s.now := by
  cases b <;> simp only [nvmComplete, h] <;> exact ⟨rfl, rfl⟩

/-! ### Transfers -/

/-- A word before the sixth is taken; LENGTH has not arrived (R117). -/
theorem nvmWord_taken {w : W16} {s : State} (hb : s.nvmBusy = false) (hl : s.nvm.words.length < 5) :
    nvmWord w s = s.updNvm fun x => { x with words := x.words ++ [w], gapFrom := s.now } := by
  have hw : ((s.updNvm fun x => { x with words := x.words ++ [w], gapFrom := s.now } : State).nvm).wanted = none := by
    refine if_neg ?_
    simp only [State.updNvm, List.length_append, List.length_singleton]
    omega
  simp only [nvmWord, hb, hw, Bool.false_eq_true, if_false]

/-- A word while the controller is BUSY ends the transfer with RESULT 6 (R117). -/
theorem nvmWord_busy {w : W16} {s : State} (hb : s.nvmBusy = true) : nvmWord w s = nvmResult 6 s := if_pos hb

/-- A valid image becomes a TRIAL slot (R118). -/
theorem nvmChecked_valid {b : Bool} {s : State} (hx : s.nvm.xfer = some b)
    (hr : imgReason s.opKey (s.nvm.words.flatMap wordBytes) = none) : nvmChecked true s =
      nvmResult 0 (s.updSlot b fun x => { x with st := .trial, trials := 0, bytes := s.nvm.words.flatMap wordBytes }) := by
  simp only [nvmChecked, hx, hr, if_true]

/-- An image that fails a test of R109 leaves its slot INVALID, with the result of the reason. -/
theorem nvmChecked_bad {b : Bool} {r : Nat} {s : State} (hx : s.nvm.xfer = some b)
    (hr : imgReason s.opKey (s.nvm.words.flatMap wordBytes) = some r) :
    nvmChecked true s = nvmResult (reasonResult r) (s.updSlot b fun x => { x with st := .invalid }) := by
  simp only [nvmChecked, hx, hr, if_true]

/-- So does a failed program verify, with RESULT 7. -/
theorem nvmChecked_unverified {b : Bool} {s : State} (hx : s.nvm.xfer = some b) :
    nvmChecked false s = nvmResult 7 (s.updSlot b fun x => { x with st := .invalid }) := by
  simp only [nvmChecked, hx, Bool.false_eq_true, if_false]

/-- A result leaves the slots. -/
theorem slot_nvmResult (r : Nat) (s : State) : (nvmResult r s).nvm.slot = s.nvm.slot := rfl

/-- Settles O26: the row of each command with its condition met, and what its operation begins, ends or leaves. -/
theorem nvmCommands : Obligations.NvmCommands := by
  unfold Obligations.NvmCommands
  refine ⟨fun s t hw ho hr hq => ?save, fun s t hw ho hr hm => ?openA, fun s t hw ho hr hm => ?openB, fun s t hw ho hr hm => ?confirm,
    fun s t hw ho hr => ?invalidateA, fun s t hw ho hr => ?invalidateB, fun s t hw ho h => ?noSave, fun s t hw ho h => ?noOpenA,
    fun s t hw ho h => ?noOpenB, fun s t hw ho h => ?noConfirm, fun s t hw ho h => ?noInvalidateA, fun s t hw ho h => ?noInvalidateB,
    fun s t ok op hop hb => ?complete, fun s t w hw hx hb hl => ?word, fun s t w hw hx hb => ?busyWord, fun s t hx hb hc => ?page,
    fun s t hx hc hg => ?timeout, fun s t b hx hc hr => ?valid, fun s t b r hx hc hr => ?bad, fun s t b hx hc => ?unverified⟩
  case save => exact ⟨_, nvmCommand_taken hw ho hr (decide_eq_true hq), nvmSave_begun (s.atStrobe t)⟩
  case openA => exact ⟨_, nvmCommand_taken hw ho hr hm, nvmOpenSlot_begun false (s.atStrobe t)⟩
  case openB => exact ⟨_, nvmCommand_taken hw ho hr hm, nvmOpenSlot_begun true (s.atStrobe t)⟩
  case confirm => exact ⟨_, nvmCommand_taken hw ho hr hm, rfl⟩
  case invalidateA => exact ⟨_, nvmCommand_taken hw ho hr rfl, rfl⟩
  case invalidateB => exact ⟨_, nvmCommand_taken hw ho hr rfl, rfl⟩
  case noSave => exact nvmCommand_refused hw ho (h.imp_right fun e => decide_eq_false (Nat.not_lt.mpr e.ge))
  case noOpenA => exact nvmCommand_refused hw ho h
  case noOpenB => exact nvmCommand_refused hw ho h
  case noConfirm => exact nvmCommand_refused hw ho h
  case noInvalidateA => exact nvmCommand_refused hw ho (.inl h)
  case noInvalidateB => exact nvmCommand_refused hw ho (.inl h)
  case complete =>
    dsimp only [exec, execNvmOpComplete]
    have hop' : (s.atTime t).nvm.op = some op := hop
    obtain ⟨hn, hb', hres, hirq⟩ := nvmComplete_ended ok hop'
    have slot := nvmComplete_slot ok hop'
    refine ⟨_, gated_pos _ _ _ _ (by simp [hop, hb]), hn, hb', hres, hirq, ?_⟩
    refine ⟨?saved, ?confirmed, ?noA, ?noB, ?opensA, ?opensB⟩
    case saved =>
      rintro rfl rfl
      have saved := (congrFun slot s.nvm.saveSlot).trans (slot_updSlot (s.atTime t) s.nvm.saveSlot _)
      exact ⟨congrArg ImgSlot.st saved, congrArg ImgSlot.bytes saved⟩
    case confirmed =>
      rintro rfl rfl
      exact congrArg ImgSlot.st ((congrFun slot _).trans
        (slot_updSlot (s.atTime t) (s.nvm.isLoaded true) fun x => { x with st := .confirmed }))
    case noA =>
      rintro rfl rfl
      exact ⟨congrArg ImgSlot.st (congrFun slot false), congrFun slot true⟩
    case noB =>
      rintro rfl rfl
      exact ⟨congrArg ImgSlot.st (congrFun slot true), congrFun slot false⟩
    case opensA =>
      rintro rfl rfl
      exact nvmComplete_open (b := false) hop'
    case opensB =>
      rintro rfl rfl
      exact nvmComplete_open (b := true) hop'
  case word =>
    dsimp only [exec, execNvmDataWord]
    refine ⟨_, strobed_pos _ _ _ _ hw (Option.isSome_iff_ne_none.mpr hx), ?_⟩
    rw [nvmWord_taken (s := s.atStrobe t) hb (Nat.lt_trans hl (by decide))]
    exact ⟨rfl, rfl⟩
  case busyWord =>
    dsimp only [exec, execNvmDataWord]
    refine ⟨_, strobed_pos _ _ _ _ hw (Option.isSome_iff_ne_none.mpr hx), ?_⟩
    rw [nvmWord_busy (s := s.atStrobe t) hb]
    exact ⟨rfl, rfl, rfl⟩
  case page =>
    dsimp only [exec, execNvmPageProgrammed]
    exact ⟨_, gated_pos _ _ _ _ (by simp [Option.isSome_iff_ne_none.mpr hx, hb, hc]), rfl⟩
  case timeout =>
    dsimp only [exec, execNvmTransferTimeout]
    exact ⟨_, gated_pos _ _ _ _ (by simp [Option.isSome_iff_ne_none.mpr hx, hc, hg]), rfl, rfl, rfl, rfl, rfl, rfl⟩
  case valid =>
    dsimp only [exec, execNvmImageChecked]
    refine ⟨_, gated_pos _ _ _ _ (by simp [hx, hc]), ?_⟩
    rw [nvmChecked_valid (s := s.atTime t) hx hr, slot_nvmResult, slot_updSlot]
    exact ⟨rfl, rfl, rfl, rfl, rfl⟩
  case bad =>
    dsimp only [exec, execNvmImageChecked]
    refine ⟨_, gated_pos _ _ _ _ (by simp [hx, hc]), ?_⟩
    rw [nvmChecked_bad (s := s.atTime t) hx hr, slot_nvmResult, slot_updSlot]
    exact ⟨rfl, rfl, rfl⟩
  case unverified =>
    dsimp only [exec, execNvmImageChecked]
    refine ⟨_, gated_pos _ _ _ _ (by simp [hx, hc]), ?_⟩
    rw [nvmChecked_unverified (s := s.atTime t) hx, slot_nvmResult, slot_updSlot]
    exact ⟨rfl, rfl, rfl⟩

end Sys2Proof.Machine

end

section
/-! PROOFS. The trims of the sense converters, the sequence of the survey converter and its urgent conversions; O27. -/

namespace Sys2Proof.Machine
open Sys2Proof

/-! ### Trims -/

/-- The three trims that a step of one kind moves: its own, by the step, and a skew within its limits (R136). -/
theorem moveTrim_offset (slice : Fin 4) (kind : Fin 3) (step : Int) (c : ConvState) : (moveTrim slice kind step c).offset =
    if kind = 0 then c.offset.set slice (c.offset[slice] + step) else c.offset :=
  match kind with | 0 => rfl | 1 => rfl | 2 => rfl

theorem moveTrim_gain (slice : Fin 4) (kind : Fin 3) (step : Int) (c : ConvState) : (moveTrim slice kind step c).gain =
    if kind = 1 then c.gain.set slice (c.gain[slice] + step) else c.gain :=
  match kind with | 0 => rfl | 1 => rfl | 2 => rfl

theorem moveTrim_skew (slice : Fin 4) (kind : Fin 3) (step : Int) (c : ConvState) : (moveTrim slice kind step c).skew =
    if kind = 2 then c.skew.set slice (clampI (-400) 400 (c.skew[slice] + step)) else c.skew :=
  match kind with | 0 => rfl | 1 => rfl | 2 => rfl

theorem moveTrim_converged (slice : Fin 4) (kind : Fin 3) (step : Int) (c : ConvState) :
    (moveTrim slice kind step c).converged = c.converged :=
  match kind with | 0 => rfl | 1 => rfl | 2 => rfl

/-! ### The sequence -/

/-- A page reads the same wherever the parameters stand the same. -/
theorem pg_congr {s u : State} (h : u.par = s.par) (p i : Nat) : u.pg p i = s.pg p i := by
  simp only [State.pg, State.useBy, State.baseUse, h]

/-- The one event of a cold period notes only that it was logged. -/
theorem coldEvent_svc (cold : Bool) (ch : Nat) (s : State) : ∃ b, (coldEvent cold ch s).svc = { s.svc with coldLogged := b } := by
  have e : (s.event 0x18 none (w16 ch) 0).svc = s.svc := svc_of_mask (State.event_mask _ s _ _ _ _ rfl)
  unfold coldEvent
  split
  · exact ⟨true, congrArg (fun v : Svc => { v with coldLogged := true }) e⟩
  · exact ⟨s.svc.coldLogged, rfl⟩

/-- A result written to a slot changes that slot and no other field of the survey converter. -/
theorem svcWrite_svc {slot : Nat} (h : slot < 32) (value : W16) (mark : Mark) (s : State) : (svcWrite slot value mark s).svc =
    { s.svc with
      slots := s.svc.slots.set slot { value := value, mark := mark, at_ := s.now, good := if mark = .good then some value else (s.svc.slots[slot]).good } } := by
  have eo (s : State) : (otNoteAll s).svc = s.svc := svc_of_mask (otNoteAll_mask _ s rfl)
  have ev (s : State) : (vinNoteAll s).svc = s.svc := svc_of_mask (vinNoteAll_mask _ s rfl)
  have en (s : State) : (otNoteAll s).now = s.now := now_of_mask (otNoteAll_mask _ s rfl)
  simp only [svcWrite, h, dif_pos, eo, ev, en, State.updSvc]

/-- Every entry of the sequence has one of the 32 slots. -/
theorem svcEntry_slot_lt (s : State) (e : Nat) : (s.svcEntry e).slot < 32 := by
  simp only [State.svcEntry, fld]
  split <;> exact Nat.mod_lt _ (by decide)

/-- The result of a visit, in its channel's kind (R147, R155). -/
def visitValue (x : SvcTail) (rs : List Nat) (s : State) : W16 :=
  let c := s.chanCoefs (fld x.entry 5 0)
  (svcResult c.1 c.2.1 c.2.2 (svcFilter x.prof x.notch x.lp rs)).1

/-- What the result of a visit leaves of the survey converter: its slot is written, the input voltages may follow. -/
theorem visitResult_svc {x : SvcTail} (h : x.slot < 32) (rs : List Nat) (clip : Bool) (s : State) :
    ∃ (b : Bool) (vhv vaux : W16) (e : SvcSlot), e.at_ = s.now ∧ e.value = visitValue x rs s ∧ (visitResult x rs clip s).svc =
      { s.svc with coldLogged := b, vhv := vhv, vaux := vaux, slots := s.svc.slots.set x.slot e } := by
  unfold visitResult
  extract_lets ch c r s'
  obtain ⟨b, hb⟩ := coldEvent_svc x.cold ch (svcWrite x.slot r.1 (markOf x.cold (clip || r.2)) s')
  exact ⟨b, _, _, _, rfl, rfl, hb.trans (congrArg (fun v : Svc => { v with coldLogged := b }) (svcWrite_svc h _ _ s'))⟩

/-- The slot after a visit rests on the words of its entry and its start. -/
theorem svcEntry_after_congr {s u : State} (hp : u.par = s.par) (hf : u.svc.from_ = s.svc.from_) (e : Nat) :
    (u.svcEntry e).after = (s.svcEntry e).after := by
  have hw : (u.svcEntry e).entry = (s.svcEntry e).entry := pg_congr hp _ _
  have hlp : (u.svcEntry e).lp = (s.svcEntry e).lp := congrArg (bitAt · 1) (pg_congr hp 8 0)
  have hs : (u.svcEntry e).from_ = (s.svcEntry e).from_ := hf
  simp only [SvcTail.after, SvcTail.count, SvcTail.slotTime, hw, hlp, hs]

/-- The end of a visit whose entry has a delay: the result stands in the entry's slot and the delay runs (R149, R152). -/
theorem visitDone_svc {rs : List Nat} {clip : Bool} {s : State} (hd : s.pg 7 (2 * s.svc.entry + 1) ≠ 0) :
    ∃ (b : Bool) (vhv vaux : W16) (e : SvcSlot), e.at_ = s.now ∧ e.value = visitValue (s.svcEntry s.svc.entry) rs s ∧
      (visitDone (visitResult (s.svcEntry s.svc.entry) rs clip s)).svc =
        { s.svc with
          coldLogged := b
          vhv := vhv
          vaux := vaux
          slots := s.svc.slots.set (s.svcEntry s.svc.entry).slot e (svcEntry_slot_lt _ _)
          phase := .delay
          from_ := (s.svcEntry s.svc.entry).after } := by
  obtain ⟨b, vhv, vaux, e, hat, hv, he⟩ := visitResult_svc (svcEntry_slot_lt s s.svc.entry) rs clip s
  have hp : (visitResult (s.svcEntry s.svc.entry) rs clip s).par = s.par :=
    par_of_mask (visitResult_mask _ _ _ _ _ rfl rfl rfl rfl)
  generalize visitResult (s.svcEntry s.svc.entry) rs clip s = u at he hp
  have hen : u.svc.entry = s.svc.entry := by rw [he]
  have hfr : u.svc.from_ = s.svc.from_ := by rw [he]
  have hn : (u.pg 7 (2 * u.svc.entry + 1)).toNat ≠ 0 := by
    rw [hen, pg_congr hp]
    exact fun h0 => hd (BitVec.eq_of_toNat_eq h0)
  refine ⟨b, vhv, vaux, e, hat, hv, ?_⟩
  rw [visitDone, if_neg hn, updSvc_svc, hen, svcEntry_after_congr hp hfr, he]

/-- The end of the present entry's visit, no earlier visit's result waiting to be written. -/
theorem execSvcVisitEnd_present {t : Nat} {rs : List Nat} {clip : Bool} {s : State} (hr : s.svcRuns = true) (ht : s.svc.tail = none)
    (hp : s.svc.phase = .visit) (ho : (s.atTime t).visitOver (s.svcEntry s.svc.entry) rs = true) :
    execSvcVisitEnd t rs clip s =
      .next (visitDone (visitResult ((s.atTime t).svcEntry (s.atTime t).svc.entry) rs clip (s.atTime t))) := by
  have ht' : (s.atTime t).svc.tail = none := ht
  dsimp only [execSvcVisitEnd]
  rw [gated_pos _ _ _ _ (by simp [hr, ht, hp, ho])]
  simp only [ht']

/-- Without an urgent conversion in its way the next entry begins at its start slot (R153). -/
theorem nextEntry_svc {at_ : Nat} {s : State} (hu : s.svc.lastUrg = none) (hl : s.svc.later = none) :
    (nextEntry at_ s).svc = { s.svc with
      phase := if s.svrRun then .visit else .stopped
      entry := if fld s.svrCtl 13 8 ≤ s.svc.entry then 0 else s.svc.entry + 1
      from_ := at_
      firstAt := at_ } := by
  simp [nextEntry, hu, hl]

/-! ### Urgent conversions -/

/-- Outside a sweep's run the sweep places no request. -/
theorem placeSweep_of_not_running {s : State} (h : s.swp.st ≠ .running) : placeSweep s = s := if_neg fun c => h c.1

/-- The sequence gives way to an urgent conversion (R160); the requests and the conversion that runs stay. -/
theorem meetUrgent_requests (g e : Nat) (s : State) : (meetUrgent g e s).svc.run = s.svc.run ∧
    (meetUrgent g e s).svc.reqs = s.svc.reqs ∧ (meetUrgent g e s).svc.lastUrg = s.svc.lastUrg := by
  simp only [meetUrgent]
  split
  · exact ⟨rfl, rfl, rfl⟩
  · split
    · exact ⟨rfl, rfl, rfl⟩
    · split <;> exact ⟨rfl, rfl, rfl⟩

theorem firstReq_ne_nil {l : List UrgReq} {q : UrgReq} (h : firstReq l = some q) : l ≠ [] := by
  rintro rfl
  cases h

/-- The end of a host conversion outside a calibration (R163): the raw code or the corrected result, and BUSY ends. -/
theorem urgentDone_host {q : UrgReq} {at_ r : Nat} {clip : Bool} {s : State} (hs : q.src = .host) (hc : q.cal = false)
    (hm : s.svc.cal.st ≠ .measuring) : (urgentDone q at_ r clip s).svc.run = none ∧ (urgentDone q at_ r clip s).svc.urgBusy = false ∧
      (urgentDone q at_ r clip s).svc.urgData = if s.svc.urgRaw then w16 (rawCode r) else
        (svcResult (s.chanCoefs q.ch).1 (s.chanCoefs q.ch).2.1 (s.chanCoefs q.ch).2.2 ⟨rawCode r, 1⟩).1 := by
  obtain ⟨b, hb⟩ := coldEvent_svc q.cold q.ch (s.updSvc fun v => { v with run := none })
  simp only [urgentDone, hs, hc, Bool.false_eq_true, if_false]
  rw [calPlace, if_neg]
  · simp [hostResult, hb]
  · rintro ⟨h, -⟩
    exact hm (by simpa [hostResult, hb] using h)

/-- The end of the urgent conversion that runs. -/
theorem execUrgentDone_run {t r a : Nat} {clip : Bool} {q : UrgReq} {s : State} (hr : s.svcRuns = true) (hrun : s.svc.run = some (q, a))
    (hdue : a + q.took ≤ max s.now t) : execUrgentDone t r clip s = .next (urgentDone q a r clip (s.atTime t)) := by
  have hrun' : (s.atTime t).svc.run = some (q, a) := hrun
  dsimp only [execUrgentDone]
  rw [gated_pos _ _ _ _ (by simp [hr, hrun, hdue])]
  simp only [hrun']

/-- Settles O27: the row of each command with its condition met, and what its operation writes of the converter it concerns. -/
theorem surveyCommands : Obligations.SurveyCommands := by
  unfold Obligations.SurveyCommands
  refine ⟨fun s t k slice kind amount slope conv hb hf hi hk hs => ?iscTrim,
    fun s t k slice kind amount slope conv hb hf hi hv hk hs => ?vscTrim,
    fun s t rs clip hr htl hph ho hd => ?visitEnd, fun s t hr hph hdue hu hl => ?delayEnd,
    fun s t a hr hw hbuf hdue => ?refWarm, fun s t w hw hup hbit hbusy hch => ?request,
    fun s t q hr hrun hu hsw hq => ?grant, fun s t r clip q a hr hrun hdue hs hc hraw hm => ?rawDone,
    fun s t r clip q a hr hrun hdue hs hc hraw hm => ?correctedDone,
    fun s t hup h6 h14 hreq hdue => ?fast⟩
  case iscTrim =>
    dsimp only [exec, execTrimUpdate]
    refine ⟨_, gated_pos _ _ _ _ (by simp [State.mayTrim, hb, hf, hi, hk, hs]), ?_⟩
    simp [trimTake, trimmed, moveTrim_converged, moveTrim_offset, moveTrim_gain, moveTrim_skew, hk]
  case vscTrim =>
    dsimp only [exec, execTrimUpdate]
    have hi' : (s.atTime t).vscIdle k = true := hi
    refine ⟨_, gated_pos _ _ _ _ (by simp [State.mayTrim, hb, hf, hi', hv, hk, hs]), ?_⟩
    simp [trimTake, trimmed, moveTrim_offset, moveTrim_gain, moveTrim_skew]
  case visitEnd =>
    obtain ⟨b, vhv, vaux, e, hat, hv, he⟩ := visitDone_svc (rs := rs) (clip := clip) (s := s.atTime t) hd
    refine ⟨_, execSvcVisitEnd_present hr htl hph ho, ?_⟩
    rw [he]
    refine ⟨rfl, rfl, fun k hk => ?_, fun k hk => ?_, rfl⟩
    · have hs : (s.svc.slots.set (s.svcEntry s.svc.entry).slot e (svcEntry_slot_lt _ _))[k] = e := by simp [hk]
      exact ⟨(congrArg SvcSlot.at_ hs).trans hat, (congrArg SvcSlot.value hs).trans hv⟩
    · exact Vector.getElem_set_ne (svcEntry_slot_lt _ _) k.isLt (Ne.symm hk)
  case delayEnd =>
    dsimp only [exec, execSvcDelayEnd]
    refine ⟨_, gated_pos _ _ _ _ (by simp [hr, hph, hdue]), ?_⟩
    rw [nextEntry_svc (s := s.atTime t) hu hl]
    exact ⟨rfl, rfl, rfl⟩
  case refWarm =>
    dsimp only [exec, execRefWarm]
    exact ⟨_, gated_pos _ _ _ _ (by simp [hr, hw, hbuf, hdue]), rfl⟩
  case request =>
    dsimp only [exec, execUrgentRequest]
    refine ⟨_, strobed_pos _ _ _ _ hw (by simp [hup, hbit]), ?_⟩
    have hbusy' : (s.atStrobe t).urgentBusy = false := hbusy
    simp [urgentWrite, hbusy', hbit, hch, urgentPlace]
  case grant =>
    dsimp only [exec, execUrgentGrant]
    have hsw' : placeSweep (s.atTime t) = s.atTime t := placeSweep_of_not_running hsw
    refine ⟨_, gated_pos _ _ _ _ (by simp [hsw', hr, hrun, hu, firstReq_ne_nil hq]), ?_⟩
    have hq' : firstReq (s.atTime t).svc.reqs = some q := hq
    simp only [hsw', hq', urgentStart]
    exact meetUrgent_requests _ _ _
  case rawDone =>
    obtain ⟨hrun', hbusy, hdata⟩ := urgentDone_host (at_ := a) (r := r) (clip := clip) (s := s.atTime t) hs hc hm
    exact ⟨_, execUrgentDone_run hr hrun hdue, hrun', hbusy, hdata.trans (if_pos hraw)⟩
  case correctedDone =>
    obtain ⟨hrun', hbusy, hdata⟩ := urgentDone_host (at_ := a) (r := r) (clip := clip) (s := s.atTime t) hs hc hm
    exact ⟨_, execUrgentDone_run hr hrun hdue, hrun', hbusy, hdata.trans (if_neg (Bool.eq_false_iff.mp hraw))⟩
  case fast =>
    dsimp only [exec, execFastChannelRequest]
    refine ⟨_, gated_pos _ _ _ _ (by simp [hup, h6, hreq, hdue]), ?_⟩
    simp [h6, h14, urgentPlace]

end Sys2Proof.Machine

end

section
/-! PROOFS. A capture judges the last step before it takes its frame; O29 refuted. -/

namespace Sys2Proof.Machine
open Sys2Proof

/-- Where no step of the loop waits to be judged, judging leaves its frame. -/
theorem settleStep_snapFrame {n : Fin 16} {s : State} (h : (s.loop n).eng.stepOpen ≠ some true) (cap : Nat) :
    (settleStep n s).snapFrame n cap = s.snapFrame n cap := by
  simp only [settleStep]
  split
  · rfl
  · simp only [State.snapFrame, State.st, State.stateWord, loop_updEng, if_neg h]
    rfl

/-- The capture then takes the frame of the state before it (R192). -/
theorem capture_frame_of_judged {s : State} (h : (s.loop s.snap.loop).eng.stepOpen ≠ some true) :
    (capture s).snap.frame = s.snapFrame s.snap.loop (s.snap.captures + 1) := by
  have hs : (settleStep s.snap.loop (laneNow s.snap.loop s)).snap = s.snap :=
    snap_of_mask (settleStep_mask _ s.snap.loop (laneNow s.snap.loop s) rfl)
  simp only [capture, hs]
  exact settleStep_snapFrame (s := laneNow s.snap.loop s) h _

/-- A device in RUN whose LP0 has latched with its last step not yet judged: the sixteenth clean one after a hold. A capture of LP0 is
asked for. -/
def latchedUnjudged : State :=
  let s := State.reset.updPower fun p => { p with g := .run, vaux := true, vauxLost := false, pll := true }
  let s := s.updSp 0 fun p => { p with st := .latched }
  let s := s.updEng 0 fun g => { g with stepOpen := some true, cleanRun := 15, holdRun := 1 }
  { s with snap := { s.snap with busy := true } }

/-- Byte 1 of word 15 of the frame shows the run of holds (R192): over in the frame that the capture takes, not in the state before. -/
theorem latchedUnjudged_captured : fld ((capture (latchedUnjudged.atTime 0)).snap.frame.getD 15 0) 15 8 = 0 := by decide +kernel

theorem latchedUnjudged_before : fld ((latchedUnjudged.snapFrame 0 1).getD 15 0) 15 8 = 1 := by decide +kernel

/-- Refutes O29: the capture's frame is that of the state before it only where no step waits to be judged. LP0 has latched after its
sixteenth clean step in a row; the capture judges that step (R194), which ends the run of holds (R197), and the frame shows the end. -/
theorem not_engineCommands : ¬ Obligations.EngineCommands := by
  unfold Obligations.EngineCommands
  rintro ⟨-, -, -, captured, -⟩
  obtain ⟨u, hu, -, -, hf⟩ := captured latchedUnjudged 0 (by decide +kernel) rfl (by decide +kernel)
  have e : exec (.snapshotCapture 0) latchedUnjudged = .next (capture (latchedUnjudged.atTime 0)) := by
    dsimp only [exec, execSnapshotCapture]
    exact gated_pos _ _ _ _ (by decide +kernel)
  have h : fld ((capture (latchedUnjudged.atTime 0)).snap.frame.getD 15 0) 15 8 = fld ((latchedUnjudged.snapFrame 0 1).getD 15 0) 15 8 := by
    rw [← answer_unique hu e, hf]
    rfl
  rw [latchedUnjudged_captured, latchedUnjudged_before] at h
  cases h

end Sys2Proof.Machine

end

section
/-! PROOFS. Current samples, zero references, Whisk and the reference instant; O32. -/

namespace Sys2Proof.Machine
open Sys2Proof

/-! ### A phase as it stands at a time -/

/-- A settled phase is as it was stored, or its pulse has ended with blanking (R232). -/
theorem settle_cases (now : Nat) (p : PhaseState) : p.settle now = p ∨ ∃ e, p.settle now = pulseEnd e false true p := by
  unfold PhaseState.settle
  split
  · next e _ =>
    split
    · exact .inr ⟨e, rfl⟩
    · exact .inl rfl
  · exact .inl rfl

/-- A read-out that the end of a pulse leaves reads the same of a settled phase. -/
theorem settle_keeps {α : Type} (f : PhaseState → α) (hf : ∀ e p, f (pulseEnd e false true p) = f p) (now : Nat) (p : PhaseState) :
    f (p.settle now) = f p := by
  obtain h | ⟨e, h⟩ := settle_cases now p
  · rw [h]
  · rw [h, hf]

/-- Such a read-out of a phase does not rest on the time of a command. -/
theorem phase_atTime_keeps {α : Type} (f : PhaseState → α) (hf : ∀ e p, f (pulseEnd e false true p) = f p) (s : State) (t : Nat)
    (m : Fin 64) : f ((s.atTime t).phase m) = f (s.phase m) :=
  (settle_keeps f hf _ _).trans (settle_keeps f hf _ _).symm

/-- The pulse of a settled phase is not one that has ended by then. -/
theorem settle_endAt {now e : Nat} {p : PhaseState} (h : (p.settle now).endAt = some e) : now < e := by
  unfold PhaseState.settle at h
  split at h
  · next x hx =>
    split at h
    · cases h
    · next hn =>
      rw [hx] at h
      cases h
      exact Nat.lt_of_not_le hn
  · next hn =>
    rw [hn] at h
    cases h

/-- An update of a phase that leaves its pending pulse end is read back as it stands. -/
theorem phase_updPhase_endAt {f : PhaseState → PhaseState} (s : State) (m : Fin 64)
    (hf : ∀ p, (f p).endAt = p.endAt := by intro p; rfl) :
    (s.updPhase m f).phase m = f (s.phase m) := by
  rw [phase_updPhase]
  unfold PhaseState.settle
  split
  · next e he => exact if_neg (Nat.not_le.mpr (settle_endAt ((hf _).symm.trans he)))
  · rfl

/-! ### Samples and references -/

/-- The sample stores the rounded estimate, and is no longer due (R265). -/
theorem iscSample_phase (n : Fin 16) (m : Fin 64) (code : Int) (s : State) : (iscSample n m code s).phase m =
    { s.phase m with
      phI := satS16 (s.estimate n m code (s.phase m).dueValley).roundEven
      iAmp := (satS16 (s.estimate n m code (s.phase m).dueValley).roundEven).toInt
      dueAt := none } := phase_updPhase_endAt _ _

theorem staleEnd_phase (n : Fin 16) (s : State) (m : Fin 64) : (staleEnd n s).phase m = s.phase m :=
  phase_of_mask (staleEnd_mask _ n s rfl) m

/-- The state once the samples of a zero reference of PHm are used: the next one needs samples of its own (R266). -/
def zeroSampled (m : Fin 64) (s : State) : State := s.updPhase m fun p => { p with midSkips := 0, zeroAt := some s.now }

theorem zeroSampled_phase (m : Fin 64) (s : State) :
    (zeroSampled m s).phase m = { s.phase m with midSkips := 0, zeroAt := some s.now } := phase_updPhase_endAt _ _

/-- A zero reference of a phase that has a source. -/
theorem execZeroReference_source {t : Nat} {m : Fin 64} {c0 c1 c2 c3 : Int} {n : Fin 16} {s : State} (hl : s.loopOf m = some n)
    (hz : (s.atTime t).zeroSource n m = true) :
    execZeroReference t m c0 c1 c2 c3 s = .next (zeroReference n m [c0, c1, c2, c3] (zeroSampled m (s.atTime t))) := by
  have hl' : (s.atTime t).loopOf m = some n := hl
  dsimp only [execZeroReference]
  rw [gated_pos _ _ _ _ (by simp only [hl', hz])]
  simp only [hl']
  rfl

/-- A zero reference within the limit is taken (R266). -/
theorem zeroReference_taken {n : Fin 16} {m : Fin 64} {codes : List Int} {s : State}
    (h : let v := ((Frac.sum (codes.map (senseCode (s.monitor n m)))).mul ⟨1, 4⟩).sub (s.zeroLevel n m)
      (Frac.le ⟨-(if s.monitor n m then 30000 else 3000), 1⟩ v && v.le ⟨(if s.monitor n m then 30000 else 3000), 1⟩) = true) :
    (zeroReference n m codes s).phase m = { s.phase m with
      ofs := ((((Frac.sum (codes.map (senseCode (s.monitor n m)))).mul ⟨1, 4⟩).sub (s.zeroLevel n m)).mul ⟨8192, 1⟩).floor
      refAt := s.now } :=
  (congrArg (State.phase · m) (if_pos h)).trans ((staleEnd_phase _ _ _).trans (phase_updPhase_endAt _ _))

/-- One outside it changes nothing. -/
theorem zeroReference_rejected {n : Fin 16} {m : Fin 64} {codes : List Int} {s : State}
    (h : let v := ((Frac.sum (codes.map (senseCode (s.monitor n m)))).mul ⟨1, 4⟩).sub (s.zeroLevel n m)
      (Frac.le ⟨-(if s.monitor n m then 30000 else 3000), 1⟩ v && v.le ⟨(if s.monitor n m then 30000 else 3000), 1⟩) = false) :
    zeroReference n m codes s = s := if_neg (Bool.eq_false_iff.mp h)

/-! ### What a change of a loop's phases leaves of its modulator -/

/-- The modulator of a loop without the fields that a change of its switching set moves. -/
def LoopMod.butSet (x : LoopMod) : LoopMod :=
  { x with sw := [], rot := 0, de := false, nt := 0, ntAt := 0, dwellFrom := none, shedWait := false, shed := [], estStale := false }

/-- The carrier of a loop: the start of its cycle, its next reference instant and its last one. -/
def LoopMod.carrier (x : LoopMod) : Nat × Nat × Nat := (x.carAt, x.refDue, x.refAt)

theorem carrier_of_butSet {x y : LoopMod} (h : x.butSet = y.butSet) : x.carrier = y.carrier :=
  show x.butSet.carrier = y.butSet.carrier from congrArg LoopMod.carrier h

/-- An update of those fields alone leaves the rest. -/
theorem updMod_butSet {f : LoopMod → LoopMod} (n : Fin 16) (s : State) (hf : ∀ x, (f x).butSet = x.butSet := by intro x; rfl) :
    ((s.updMod n f).loop n).mod.butSet = (s.loop n).mod.butSet := by
  rw [loop_updMod]
  exact hf _

@[simp] theorem loop_updPhases (f : PhaseState → PhaseState) (l : List (Fin 64)) (s : State) (n : Fin 16) :
    (updPhases f l s).loop n = s.loop n := loop_of_mask (updPhases_mask _ f l s rfl) n

@[simp] theorem loop_storeWords (l : List (Fin 64 × Nat × Nat)) (s : State) (n : Fin 16) : (storeWords l s).loop n = s.loop n :=
  loop_of_mask (storeWords_mask _ l s rfl) n

@[simp] theorem loop_syncPulse (s : State) (n k : Fin 16) : (syncPulse n s).loop k = s.loop k :=
  loop_of_mask (syncPulse_mask _ n s rfl) k

theorem peakUpdate_butSet (n : Fin 16) (s : State) : ((peakUpdate n s).loop n).mod.butSet = (s.loop n).mod.butSet := by
  simp only [peakUpdate, loop_storeWords]
  exact updMod_butSet _ _

theorem newRanking_butSet (n : Fin 16) (new : List (Fin 64)) (s : State) :
    ((newRanking n new s).loop n).mod.butSet = (s.loop n).mod.butSet := by
  simp only [newRanking, loop_updPhases]
  exact (peakUpdate_butSet _ _).trans (updMod_butSet _ _)

theorem fitShed_butSet (fuel : Nat) (n : Fin 16) (nt : Nat) (s : State) :
    ((fitShed fuel n nt s).loop n).mod.butSet = (s.loop n).mod.butSet := by
  induction fuel generalizing s with
  | zero => rfl
  | succ fuel ih =>
    simp only [fitShed]
    split
    · split
      · exact (ih _).trans (updMod_butSet _ _)
      · exact updMod_butSet _ _
    · split
      · split
        · refine (ih _).trans ?_
          rw [loop_updPhase]
          exact updMod_butSet _ _
        · exact updMod_butSet _ _
      · exact updMod_butSet _ _

theorem setTarget_butSet (n : Fin 16) (nt : Nat) (s : State) : ((setTarget n nt s).loop n).mod.butSet = (s.loop n).mod.butSet :=
  (fitShed_butSet _ _ _ _).trans (updMod_butSet _ _)

theorem shedOne_butSet (n : Fin 16) (s : State) : ((shedOne n s).loop n).mod.butSet = (s.loop n).mod.butSet := by
  unfold shedOne
  split
  · exact updMod_butSet _ _
  · exact (setTarget_butSet _ _ _).trans (updMod_butSet _ _)

theorem shedAfter_butSet (n : Fin 16) (s : State) : ((shedAfter n s).loop n).mod.butSet = (s.loop n).mod.butSet := by
  simp only [shedAfter]
  split
  · split
    · exact (shedOne_butSet _ _).trans (updMod_butSet _ _)
    · exact updMod_butSet _ _
  · rfl

theorem staleEnd_butSet (n : Fin 16) (s : State) : ((staleEnd n s).loop n).mod.butSet = (s.loop n).mod.butSet := by
  unfold staleEnd
  split
  · exact updMod_butSet _ _
  · rfl

theorem zeroReference_butSet (n : Fin 16) (m : Fin 64) (codes : List Int) (s : State) :
    ((zeroReference n m codes s).loop n).mod.butSet = (s.loop n).mod.butSet := by
  unfold zeroReference
  extract_lets mon sum lim v
  split
  · rw [staleEnd_butSet, loop_updPhase]
  · rfl

theorem takeHint_butSet (n : Fin 16) (e : Nat) (s : State) : ((takeHint n e s).loop n).mod.butSet = (s.loop n).mod.butSet := by
  simp only [takeHint]
  split
  · rw [setTarget_butSet, loop_updAcp]
  · rw [setTarget_butSet, loop_updAcp]

theorem hintInstant_butSet (n : Fin 16) (s : State) : ((hintInstant n s).loop n).mod.butSet = (s.loop n).mod.butSet := by
  unfold hintInstant
  split
  · split
    · exact takeHint_butSet _ _ _
    · rfl
  · rfl

theorem phasesBack_butSet (n : Fin 16) (s : State) : ((phasesBack n s).loop n).mod.butSet = (s.loop n).mod.butSet := by
  unfold phasesBack
  extract_lets back marked shed
  have hm : (shed.loop n).mod.butSet = (s.loop n).mod.butSet := by
    refine (updMod_butSet _ _).trans ?_
    rw [loop_updPhases]
  split
  · rfl
  · split
    · exact (setTarget_butSet _ _ _).trans hm
    · exact hm

/-! ### The reference instant -/

theorem whiskSwap_carrier (n : Fin 16) (out i : Fin 64) (s : State) :
    ((whiskSwap n out i s).loop n).mod.carrier = (s.loop n).mod.carrier := by
  simp only [whiskSwap]
  split <;> simp [LoopMod.carrier]

/-- Whisk starts, counts and ends blanks at a reference instant, and leaves the carrier. -/
theorem whiskInstant_carrier (n : Fin 16) (s : State) : ((whiskInstant n s).loop n).mod.carrier = (s.loop n).mod.carrier := by
  unfold whiskInstant
  extract_lets swapped x
  have hs : (swapped.loop n).mod.carrier = (s.loop n).mod.carrier := by
    simp only [swapped]
    split
    · exact whiskSwap_carrier _ _ _ _
    · rfl
  refine Eq.trans ?_ hs
  clear_value swapped
  split
  · split
    · refine (carrier_of_butSet (shedAfter_butSet _ _)).trans ?_
      simp [LoopMod.carrier, blankOver]
    · simp [LoopMod.carrier]
  · split
    · split <;> simp [LoopMod.carrier]
    · rfl

/-- A reference instant is that of the cycle due, and makes the next one due a period later (R228, R230). -/
theorem referenceInstant_carrier (n : Fin 16) (s : State) : ((referenceInstant n s).loop n).mod.carrier =
    ((s.loop n).mod.carAt + s.carPeriod n, (s.loop n).mod.carAt + s.carPeriod n + s.angle n, (s.loop n).mod.refDue) := by
  unfold referenceInstant
  extract_lets moved pulsed wh new fired
  have hw : (fired.loop n).mod.carrier = (moved.loop n).mod.carrier := by
    simp only [fired, wh, loop_updPhases]
    refine (whiskInstant_carrier _ _).trans ?_
    refine (carrier_of_butSet ((hintInstant_butSet _ _).trans (phasesBack_butSet _ _))).trans ?_
    simp only [pulsed, loop_syncPulse]
  have hm : (moved.loop n).mod.carrier =
      ((s.loop n).mod.carAt + s.carPeriod n, (s.loop n).mod.carAt + s.carPeriod n + s.angle n, (s.loop n).mod.refDue) := by
    simp [moved, LoopMod.carrier]
  split
  · exact hw.trans hm
  · exact (carrier_of_butSet (newRanking_butSet _ _ _)).trans (hw.trans hm)

/-! ### Whisk -/

theorem whiskTurn_records (n : Fin 16) (s : State) :
    ((whiskTurn n s).loop n).mod.turnAt = s.now ∧ ((whiskTurn n s).loop n).mod.sw = (s.loop n).mod.sw := by
  simp only [whiskTurn]
  (repeat' split) <;> simp

/-- Where no turn is permitted nothing is planned (R270). -/
theorem whiskTurn_not_permitted {n : Fin 16} {s : State} (h : s.turnPermitted n = false) :
    whiskTurn n s = s.updMod n fun x => { x with turnAt := s.now } := by
  refine if_neg (Bool.eq_false_iff.mp (Eq.trans ?_ h))
  simp only [State.turnPermitted, loop_updMod]
  rfl

/-- The end of a blank: it is over, and only the loop's set of phases may change beside it (R271, R273). -/
theorem whiskBlankEnd_butSet {n : Fin 16} {codes : List Int} {m : Fin 64} {s : State} (h : (s.loop n).mod.blank = some m) :
    ((whiskBlankEnd n codes s).loop n).mod.butSet = (blankOver (s.loop n).mod).butSet := by
  simp only [whiskBlankEnd, h, newRanking_butSet, shedAfter_butSet, zeroReference_butSet, loop_updMod]

/-- Settles O32: the row of each command with its condition met, and what its operation writes of the phase or the modulator. -/
theorem sheddingCommands : Obligations.SheddingCommands := by
  unfold Obligations.SheddingCommands
  refine ⟨fun s t m code n hl hst => ?sample, fun s t n hup ho hf => ?stale, fun s t m c0 c1 c2 c3 n hl hz hv => ?taken,
    fun s t m c0 c1 c2 c3 n hl hz hv => ?rejected, fun s t n hst hdue => ?turn, fun s t n hup hk hfc hdue => ?instant,
    fun s t n c0 c1 c2 c3 m hon hleft hrun hb => ?blankEnd⟩
  case sample =>
    dsimp only [exec, execIscSample]
    have hl' : (s.atTime t).swLoop m = some n := hl
    refine ⟨_, gated_pos _ _ _ _ (by simp [hl, hst]), ?_⟩
    simp only [hl', iscSample_phase]
    have hv : ((s.atTime t).phase m).dueValley = (s.phase m).dueValley := phase_atTime_keeps PhaseState.dueValley (fun _ _ => rfl) s t m
    refine ⟨congrArg (fun b => satS16 ((s.atTime t).estimate n m code b).roundEven) hv, trivial, ?_, rfl⟩
    simp [iscSample]
  case stale =>
    dsimp only [exec, execEstStale]
    refine ⟨_, gated_pos _ _ _ _ (by simp [hup, ho, hf]), ?_⟩
    rw [loop_of_mask (State.event_mask _ _ _ _ _ _ rfl), loop_updMod]
  case taken =>
    have h := zeroReference_taken (s := zeroSampled m (s.atTime t)) hv
    rw [zeroSampled_phase] at h
    exact ⟨_, execZeroReference_source hl hz, congrArg PhaseState.refAt h, congrArg PhaseState.ofs h,
      (congrArg PhaseState.pwm h).trans rfl⟩
  case rejected =>
    have hr := zeroReference_rejected (s := zeroSampled m (s.atTime t)) hv
    refine ⟨_, execZeroReference_source hl hz, ?_⟩
    rw [hr, zeroSampled_phase]
    exact ⟨phase_atTime_keeps PhaseState.refAt (fun _ _ => rfl) s t m, phase_atTime_keeps PhaseState.ofs (fun _ _ => rfl) s t m, rfl⟩
  case turn =>
    dsimp only [exec, execWhiskTurn]
    refine ⟨_, gated_pos _ _ _ _ (by simp [hst, hdue]), ?_⟩
    obtain ⟨hat, hsw⟩ := whiskTurn_records n (s.atTime t)
    refine ⟨hat, hsw, fun hp => ?_⟩
    rw [whiskTurn_not_permitted (s := s.atTime t) hp, loop_updMod]
    exact ⟨rfl, rfl⟩
  case instant =>
    dsimp only [exec, execReferenceInstant]
    refine ⟨_, gated_pos _ _ _ _ (by simp [hup, hfc, hdue]), ?_⟩
    have hk' : (s.atTime t).kennel15 n = false := hk
    simp only [hk', Bool.false_eq_true, if_false]
    have h := referenceInstant_carrier n (s.atTime t)
    simp only [LoopMod.carrier, Prod.mk.injEq] at h
    obtain ⟨hcar, hnext, hlast⟩ := h
    exact ⟨hlast, hcar, hnext⟩
  case blankEnd =>
    dsimp only [exec, execWhiskBlankEnd]
    refine ⟨_, gated_pos _ _ _ _ (by simp [hon, hleft, hrun]), ?_⟩
    have h := whiskBlankEnd_butSet (codes := [c0, c1, c2, c3]) (s := s.atTime t) hb
    exact ⟨congrArg LoopMod.blank h, congrArg LoopMod.blankOn h⟩

end Sys2Proof.Machine

end

section
/-! PROOFS. APPLY into a proof store that is not in canonical form; O28 refuted. -/

namespace Sys2Proof.Machine
open Sys2Proof

/-! ### Proof copies -/

/-- In a store in canonical form a written proof copy reads back. -/
theorem proof_setProof_same {s : State} (hs : sparseWf paramReset s.par.proof = true) (a : Nat) (v : W16) :
    (s.setProof a v).proof a = v := sparseGet_set_same paramReset s.par.proof 0 a v hs

/-- The other proof copies stay. -/
theorem proof_setProof_other {s : State} (hs : sparseWf paramReset s.par.proof = true) {a b : Nat} (v : W16) (hb : b ≠ a) :
    (s.setProof a v).proof b = s.proof b := sparseGet_set_other paramReset s.par.proof 0 a b v hs hb

/-! ### APPLY -/

/-- The proof copy of CAL_GAINn after APPLY: [15:14] kept, the found G in [13:0] (R172). -/
def State.calGain (s : State) : W16 := w16 (fld (s.proof (pgA 6 (0x40 + s.svc.cal.ch))) 15 14 * 16384 + (s.svc.cal.g % 16384).toNat)

/-- APPLY in DONE stores G, then B. -/
theorem calApply_done {s : State} (h : s.svc.cal.st = .done) : calApply s =
    ((s.setProof (pgA 6 (0x40 + s.svc.cal.ch)) s.calGain).setProof (pgA 6 (0x20 + s.svc.cal.ch)) (BitVec.ofInt 16 s.svc.cal.b)).updCal
      fun c => { c with st := .idle, zero := none } := if_neg (not_not_intro h)

/-- From a state in canonical form, which every step keeps (`canonicalFormKept`), APPLY writes B and G into the proof copies (R172). -/
theorem calApply_of_canonical {s : State} (hs : s.canonical = true) (h : s.svc.cal.st = .done) :
    (calApply s).proof (pgA 6 (0x20 + s.svc.cal.ch)) = BitVec.ofInt 16 s.svc.cal.b ∧
      (calApply s).proof (pgA 6 (0x40 + s.svc.cal.ch)) = s.calGain ∧ (calApply s).svc.cal.st = .idle ∧
      (calApply s).par.inUse = s.par.inUse := by
  obtain ⟨_, hp, _⟩ := (canonical_iff s).mp hs
  have hg : sparseWf paramReset (s.setProof (pgA 6 (0x40 + s.svc.cal.ch)) s.calGain).par.proof = true := sparseSet_wf _ _ _ _ hp
  have apart : pgA 6 (0x40 + s.svc.cal.ch) ≠ pgA 6 (0x20 + s.svc.cal.ch) := by unfold pgA; omega
  rw [calApply_done h]
  exact ⟨proof_setProof_same hg _ _, (proof_setProof_other hg _ apart).trans (proof_setProof_same hp _ _), rfl, rfl⟩

/-- A device in READY that has found G = 8000 and B = 0 for AUX4 and whose proof store lists CAL_OFS5 before CAL_OFS4: no state that a
run from `State.reset` reaches (`unorderedProof_not_canonical`, `canonicalFormKept`), but one that the statement does not exclude. -/
def unorderedProof : State :=
  let s := State.reset.updPower fun p => { p with g := .ready, vaux := true }
  let s := s.updPar fun p => { p with proof := [(pgA 6 0x25, 1), (pgA 6 0x24, 1)] }
  s.updCal fun c => { c with st := .done, ch := 4, g := 8000, b := 0 }

theorem unorderedProof_not_canonical : unorderedProof.canonical = false := by decide +kernel

/-- B is the reset value of CAL_OFS4, so APPLY would remove its entry; it meets CAL_OFS5 first and keeps the store's 1. -/
theorem unorderedProof_applied : (calApply (unorderedProof.atStrobe 0)).proof (pgA 6 0x24) = 1 := by decide +kernel

/-- Refutes O28: the hypotheses of APPLY leave the form of the proof store open, and a store out of order keeps the old CAL_OFSn where
the found B is the reset value. In canonical form APPLY writes both words (`calApply_of_canonical`). -/
theorem not_calibrationCommands : ¬ Obligations.CalibrationCommands := by
  unfold Obligations.CalibrationCommands
  rintro ⟨-, -, -, apply, -⟩
  obtain ⟨u, hu, hb, -⟩ := apply unorderedProof 0 (by decide +kernel) (by decide +kernel) rfl (by decide)
  have e : exec (.calApply 0) unorderedProof = .next (calApply (unorderedProof.atStrobe 0)) := by
    dsimp only [exec, execCalApply]
    exact strobed_pos _ _ _ _ (by decide +kernel) (by decide +kernel)
  rw [answer_unique hu e] at hb
  exact absurd (unorderedProof_applied.symm.trans hb) (by decide)

end Sys2Proof.Machine

end

section
/-! PROOFS. The snapshot's read port, and its frame through the resets; O55. -/

namespace Sys2Proof.Machine
open Sys2Proof

/-- A reset of the full set keeps the frame (R51, R193). -/
theorem fullReset_frame (c : BitVec 6) (s : State) : (fullReset c s).snap.frame = s.snap.frame := by
  have hlog : (keepQueue s.log.queue s).snap = s.snap := snap_of_mask (keepQueue_mask _ _ _ rfl rfl rfl rfl)
  have hnvm (x : State) : (nvmReset x).snap = x.snap := snap_of_mask (nvmReset_mask _ x rfl)
  unfold fullReset
  extract_lets queued log emptied counted
  have hcount : counted.snap = s.snap := by
    simp only [counted]
    split <;> exact hlog
  have hframe : (nvmReset counted).snap.frame = s.snap.frame := congrArg Snap.frame ((hnvm counted).trans hcount)
  exact hframe

theorem resetLow_frame (s : State) : (resetLow s).snap.frame = s.snap.frame := by
  simp only [resetLow]
  split
  · exact fullReset_frame _ _
  · rfl

theorem warmTry_frame (s : State) : (warmTry s).snap.frame = s.snap.frame := by
  unfold warmTry
  split
  · split
    · next c _ _ => exact fullReset_frame c s
    · rfl
  · rfl

/-- A write of DEV.RESET only asks for the reset. -/
theorem resetWrite_snap (w : W16) (s : State) : (resetWrite w s).snap = s.snap := snap_of_mask (resetWrite_mask _ w s rfl)

/-- A gated row whose effect keeps the frame keeps it, whether its condition holds or not. -/
theorem gated_frame {t : Nat} {g : State → Bool} {f : State → State} (s : State) (hf : ∀ x, (f x).snap.frame = x.snap.frame) :
    ∃ u, gated t g f s = .next u ∧ u.snap.frame = s.snap.frame := by
  refine ⟨_, rfl, ?_⟩
  split
  · exact hf _
  · rfl

/-- Settles O55: the row of the read with the window open; the three resets by `fullReset_frame`, KILL_N by its frame. -/
theorem snapshotReadPort : Obligations.SnapshotReadPort := by
  unfold Obligations.SnapshotReadPort
  refine ⟨fun s t hw => ?read, fun s t _ => ?resetN, fun s t => ?warm, fun s t => ?coreUv, fun s t => ?kill⟩
  case read =>
    dsimp only [exec, execSnapDataRead]
    exact ⟨_, slotRead_open hw, rfl, rfl⟩
  case resetN => exact ⟨_, rfl, resetLow_frame _⟩
  case warm =>
    dsimp only [exec, execWarmReset]
    refine gated_frame s fun x => (warmTry_frame _).trans ?_
    split
    · exact congrArg Snap.frame (resetWrite_snap _ _)
    · rfl
  case coreUv =>
    dsimp only [exec, execCoreUvReset]
    exact gated_frame s fun x => fullReset_frame 32 x
  case kill =>
    obtain ⟨u, hu⟩ := exec_next (.killNFall t) s fun _ _ e => by cases e
    have h : u.snap = (s.atTime t).snap := snap_of_mask (exec_but (i := .killNFall t) (p := .snap) rfl hu)
    exact ⟨u, hu, congrArg Snap.frame h⟩

end Sys2Proof.Machine

end

section
/-! PROOFS. What the operations of LPn that a sample boundary and the end of an acquisition use leave of every other loop LPk: all of
it. One lemma per operation, with the case split of its definition. -/

namespace Sys2Proof.Machine
open Sys2Proof

/-! ### Operations that touch no loop -/

@[simp] theorem loop_event (s : State) (c : Byte) (l : Option (Fin 16)) (v : W16) (a : Nat) (k : Fin 16) :
    (s.event c l v a).loop k = s.loop k := loop_of_mask (State.event_mask _ s c l v a rfl) k

@[simp] theorem loop_settleRun (s : State) (k : Fin 16) : s.settleRun.loop k = s.loop k := loop_of_mask (State.settleRun_mask _ s rfl) k

@[simp] theorem loop_sweepInject (n : Fin 16) (s : State) (k : Fin 16) : (sweepInject n s).2.loop k = s.loop k :=
  loop_of_mask (sweepInject_mask _ n s rfl) k

@[simp] theorem loop_sweepSample (n : Fin 16) (a : Nat) (v i : W16) (s : State) (k : Fin 16) :
    (sweepSample n a v i s).loop k = s.loop k := loop_of_mask (sweepSample_mask _ n a v i s rfl) k

@[simp] theorem loop_pairsNote (n : Fin 16) (s : State) (k : Fin 16) : (pairsNote n s).loop k = s.loop k :=
  loop_of_mask (pairsNote_mask _ n s rfl) k

@[simp] theorem loop_laneNow (n : Fin 16) (s : State) (k : Fin 16) : (laneNow n s).loop k = s.loop k := rfl

@[simp] theorem loop_freeWords (i : Nat) (s : State) (k : Fin 16) : (freeWords i s).2.loop k = s.loop k :=
  loop_of_mask (freeWords_mask _ i s rfl) k

/-- A choice between two states that both leave a loop as it was. -/
theorem loop_ite {c : Prop} [Decidable c] {a b s : State} {k : Fin 16} (ha : a.loop k = s.loop k) (hb : b.loop k = s.loop k) :
    (if c then a else b).loop k = s.loop k := by
  split
  · exact ha
  · exact hb

section
variable {n k : Fin 16} (h : n ≠ k)
include h

/-! ### Phases and modulation of LPn -/

theorem loop_fitShed_ne (fuel nt : Nat) (s : State) : (fitShed fuel n nt s).loop k = s.loop k := by
  induction fuel generalizing s with
  | zero => rfl
  | succ fuel ih =>
    have hm (f : LoopMod → LoopMod) : (s.updMod n f).loop k = s.loop k := loop_updMod_ne s n k f h
    simp only [fitShed]
    split
    · split
      · exact (ih _).trans (hm _)
      · exact hm _
    · split
      · split
        · exact (ih _).trans ((loop_updPhase _ _ _ _).trans (hm _))
        · exact hm _
      · exact hm _

theorem loop_setTarget_ne (nt : Nat) (s : State) : (setTarget n nt s).loop k = s.loop k :=
  (loop_fitShed_ne h _ _ _).trans (loop_updMod_ne _ _ _ _ h)

theorem loop_carrierFrom_ne (s : State) : (carrierFrom n s).loop k = s.loop k := loop_updMod_ne _ _ _ _ h

theorem loop_stopPulses_ne (s : State) : (stopPulses n s).loop k = s.loop k :=
  (loop_updPhases _ _ _ _).trans (loop_updMod_ne _ _ _ _ h)

theorem loop_peakUpdate_ne (s : State) : (peakUpdate n s).loop k = s.loop k :=
  (loop_storeWords _ _ _).trans (loop_updMod_ne _ _ _ _ h)

theorem loop_staleEnd_ne (s : State) : (staleEnd n s).loop k = s.loop k :=
  loop_ite (loop_updMod_ne _ _ _ _ h) rfl

theorem loop_tugCount_ne (f : Nat) (w : W16) (s : State) : (tugCount n f w s).loop k = s.loop k := by
  have hm (s : State) (g : LoopMod → LoopMod) : (s.updMod n g).loop k = s.loop k := loop_updMod_ne s n k g h
  exact loop_ite ((loop_event _ _ _ _ _ _).trans ((hm _ _).trans (hm _ _))) (hm _ _)

theorem loop_tug_ne (f : Nat) (b : Bool) (w : Nat) (s : State) : (tug n f b w s).loop k = s.loop k :=
  loop_ite ((loop_tugCount_ne h _ _ _).trans (loop_updMod_ne _ _ _ _ h)) (loop_updMod_ne _ _ _ _ h)

theorem loop_shedOne_ne (s : State) : (shedOne n s).loop k = s.loop k :=
  loop_ite (loop_updMod_ne _ _ _ _ h) ((loop_setTarget_ne h _ _).trans (loop_updMod_ne _ _ _ _ h))

theorem loop_addPhases_ne (e : Frac) (s : State) : (addPhases n e s).loop k = s.loop k := by
  unfold addPhases
  extract_lets i p want
  cases want with
  | none => exact loop_tug_ne h _ _ _ _
  | some w =>
    have ht : (tug n 2 (decide (fld (s.lp n 0x20) 6 0 < w)) w s).loop k = s.loop k := loop_tug_ne h _ _ _ _
    exact loop_ite (((loop_setTarget_ne h _ _).trans (loop_updMod_ne _ _ _ _ h)).trans ht) ht

theorem loop_shedPhase_ne (s : State) : (shedPhase n s).loop k = s.loop k := by
  unfold shedPhase
  split
  · extract_lets timed below tugged
    have ht : tugged.loop k = s.loop k := (loop_tug_ne h _ _ _ _).trans (loop_ite (loop_updMod_ne _ _ _ _ h) rfl)
    exact loop_ite ((loop_shedOne_ne h _).trans ht) ht
  · exact (loop_tug_ne h _ _ _ _).trans (loop_updMod_ne _ _ _ _ h)

theorem loop_adaptPhases_ne (e : Frac) (s : State) : (adaptPhases n e s).loop k = s.loop k := by
  have ha : (addPhases n e s).loop k = s.loop k := loop_addPhases_ne h e s
  exact loop_ite (loop_ite ((loop_shedPhase_ne h _).trans ha) ((loop_updMod_ne _ _ _ _ h).trans ha)) rfl

/-! ### The state of LPn -/

theorem loop_putState_ne (st : LoopSt) (s : State) : (putState n st s).loop k = s.loop k := by
  simp only [putState, loop_updAcp_ne _ _ _ _ h, loop_updPrt_ne _ _ _ _ h, loop_updSp_ne _ _ _ _ h]

theorem loop_enterOff_ne (s : State) : (enterOff n s).loop k = s.loop k := by
  simp only [enterOff, loop_settleRun, loop_updEng_ne _ _ _ _ h, loop_updSense_ne _ _ _ _ h, loop_updPrt_ne _ _ _ _ h,
    loop_updSp_ne _ _ _ _ h, loop_putState_ne h, loop_updPhases, loop_stopPulses_ne h]

theorem loop_enterDelayOff_ne (s : State) : (enterDelayOff n s).loop k = s.loop k := by
  simp only [enterDelayOff, loop_updSp_ne _ _ _ _ h, loop_putState_ne h, loop_stopPulses_ne h]

theorem loop_enterRampDown_ne (why : DownBy) (s : State) : (enterRampDown n why s).loop k = s.loop k :=
  loop_ite (loop_enterDelayOff_ne h _) ((loop_updSp_ne _ _ _ _ h).trans (loop_putState_ne h _ _))

theorem loop_enterRampUp_ne (v : W16) (s : State) : (enterRampUp n v s).loop k = s.loop k := by
  simp only [enterRampUp, loop_setTarget_ne h, loop_carrierFrom_ne h, loop_updMod_ne _ _ _ _ h, loop_updSp_ne _ _ _ _ h,
    loop_putState_ne h]

theorem loop_startMove_ne (g : W16) (s : State) : (startMove n g s).loop k = s.loop k :=
  (loop_updSp_ne _ _ _ _ h).trans (loop_updSp_ne _ _ _ _ h)

theorem loop_takeEnable_ne (s : State) : (takeEnable n s).loop k = s.loop k := loop_updSp_ne _ _ _ _ h

theorem loop_heelFound_ne (s : State) : (heelFound n s).loop k = s.loop k :=
  loop_ite (loop_updSp_ne _ _ _ _ h) rfl

theorem loop_heelResume_ne (s : State) : (heelResume n s).loop k = s.loop k := by
  have hs (f : LoopSp → LoopSp) : (s.updSp n f).loop k = s.loop k := loop_updSp_ne s n k f h
  exact loop_ite (loop_ite (hs _) (hs _)) rfl

theorem loop_noteSteady_ne (s : State) : (noteSteady n s).loop k = s.loop k :=
  loop_ite (loop_updSp_ne _ _ _ _ h) rfl

theorem loop_gaspTurnOff_ne (s : State) : (gaspTurnOff n s).loop k = s.loop k := by
  have off : (enterOff n s).loop k = s.loop k := loop_enterOff_ne h s
  unfold gaspTurnOff
  extract_lets soft
  refine loop_ite rfl ?_
  split
  case h_1 | h_2 | h_3 => rfl
  case h_4 | h_5 => exact off
  case h_6 | h_7 => exact loop_ite rfl off
  case h_8 => exact loop_ite (loop_enterRampDown_ne h _ _) off

theorem loop_boundaryRegulate_ne (s : State) : (boundaryRegulate n s).loop k = s.loop k := by
  have hs (f : LoopSp → LoopSp) (x : State) : (x.updSp n f).loop k = x.loop k := loop_updSp_ne x n k f h
  have target (g : W16) (x : State) : (startMove n g x).loop k = x.loop k := loop_startMove_ne h g x
  simp only [boundaryRegulate]
  refine loop_ite (loop_ite rfl (hs _ s)) ?_
  generalize hb : (if (s.loop n).sp.offPending.isSome = true then _ else s) = back
  have h0 : back.loop k = s.loop k := hb ▸ loop_ite (hs _ s) rfl
  refine loop_ite (((loop_enterRampDown_ne h _ _).trans (hs _ _)).trans h0) ?_
  refine loop_ite ((loop_enterDelayOff_ne h _).trans h0) ?_
  have h1 : (heelResume n back).loop k = s.loop k := (loop_heelResume_ne h _).trans h0
  exact loop_ite (loop_ite (loop_ite h1 ((target _ _).trans h1)) (loop_ite h1 ((target _ _).trans h1))) h1

theorem loop_boundaryRampUp_ne (s : State) : (boundaryRampUp n s).loop k = s.loop k := by
  unfold boundaryRampUp
  extract_lets resumed c release r
  refine Eq.trans ?_ (loop_heelResume_ne h s)
  split
  · exact (loop_enterRampDown_ne h _ _).trans (loop_updSp_ne _ _ _ _ h)
  · exact loop_ite (loop_enterDelayOff_ne h _) (loop_ite (loop_updSp_ne _ _ _ _ h) (loop_noteSteady_ne h _))

theorem loop_boundaryState_ne (s : State) : (boundaryState n s).loop k = s.loop k := by
  unfold boundaryState
  extract_lets enabled p en run
  refine Eq.trans ?_ ((loop_heelFound_ne h _).trans (loop_takeEnable_ne h s))
  have off : (enterOff n enabled).loop k = enabled.loop k := loop_enterOff_ne h enabled
  refine loop_ite (loop_gaspTurnOff_ne h _) ?_
  split
  case h_1 | h_6 | h_7 | h_8 => exact loop_ite rfl off
  case h_2 => exact loop_ite (loop_boundaryRampUp_ne h _) (loop_enterRampDown_ne h _ _)
  case h_3 | h_4 => exact loop_boundaryRegulate_ne h _
  case h_5 => exact loop_ite (loop_enterRampUp_ne h _ _) (loop_ite (loop_heelResume_ne h _) rfl)
  case h_9 => exact loop_updSp_ne _ _ _ _ h
  case h_10 => rfl

/-! ### Layer -/

theorem loop_layerMark_ne (a : Nat) (s : State) : (layerMark n a s).loop k = s.loop k := by
  have hl (f : LoopLyr → LoopLyr) : (s.updLyr n f).loop k = s.loop k := loop_updLyr_ne s n k f h
  exact loop_ite (hl _) (loop_ite (hl _) (loop_ite (hl _) rfl))

theorem loop_layerMark_foldl_ne (l : List Nat) (s : State) : (l.foldl (fun s a => layerMark n a s) s).loop k = s.loop k := by
  induction l generalizing s with
  | nil => rfl
  | cons a l ih => exact (ih _).trans (loop_layerMark_ne h a s)

theorem loop_layerMarks_ne (s : State) : (layerMarks n s).loop k = s.loop k :=
  (loop_layerMark_foldl_ne h _ _).trans (loop_updLyr_ne _ _ _ _ h)

theorem loop_layerBoundary_ne (s : State) : (layerBoundary n s).loop k = s.loop k := loop_updLyr_ne _ _ _ _ h

theorem loop_windowNote_ne (e : Int) (s : State) : (windowNote n e s).loop k = s.loop k :=
  loop_ite (loop_updLyr_ne _ _ _ _ h) rfl

theorem loop_layerRecord_ne (e : Int) (b : Bool) (s : State) : (layerRecord n e b s).loop k = s.loop k :=
  loop_ite (loop_windowNote_ne h _ _) ((loop_updLyr_ne _ _ _ _ h).trans (loop_windowNote_ne h _ _))

theorem loop_layerHeld_ne (s : State) : (layerHeld n s).loop k = s.loop k :=
  loop_ite (loop_windowNote_ne h _ _) ((loop_updLyr_ne _ _ _ _ h).trans (loop_windowNote_ne h _ _))

theorem loop_layerAbandon_ne (s : State) : (layerAbandon n s).loop k = s.loop k := loop_updLyr_ne _ _ _ _ h

/-! ### Protection -/

theorem loop_raiseFree_ne (c : Byte) (s : State) : (s.raiseFree n c).loop k = s.loop k := loop_updPrt_ne _ _ _ _ h

theorem loop_vinNote_ne (s : State) : (vinNote n s).loop k = s.loop k := by
  simp only [vinNote]
  split
  · exact loop_updPrt_ne _ _ _ _ h
  · split
    · rfl
    · exact loop_updPrt_ne _ _ _ _ h

theorem loop_ovSettle_ne (s : State) : (ovSettle n s).loop k = s.loop k :=
  loop_ite (loop_updPrt_ne _ _ _ _ h) rfl

theorem loop_uvNote_ne (s : State) : (uvNote n s).loop k = s.loop k := loop_updPrt_ne _ _ _ _ h

theorem loop_octNote_ne (s : State) : (octNote n s).loop k = s.loop k := loop_updPrt_ne _ _ _ _ h

/-! ### The sample boundary (R176) -/

theorem loop_takeMode_ne (s : State) : (takeMode n s).loop k = s.loop k := loop_updSense_ne _ _ _ _ h

theorem loop_closeNoSink_ne (s : State) : (closeNoSink n s).loop k = s.loop k := loop_updSp_ne _ _ _ _ h

theorem loop_arrivalNote_ne (s : State) : (arrivalNote n s).loop k = s.loop k :=
  loop_ite (loop_updAcp_ne _ _ _ _ h) rfl

theorem loop_halveRate_ne (s : State) : (halveRate n s).loop k = s.loop k :=
  loop_ite ((loop_event _ _ _ _ _ _).trans (loop_updEng_ne _ _ _ _ h)) rfl

theorem loop_superviseSat_ne (s : State) : (superviseSat n s).loop k = s.loop k := by
  have hs (f : LoopEng → LoopEng) : (s.updEng n f).loop k = s.loop k := loop_updEng_ne s n k f h
  exact loop_ite (hs _) (loop_ite ((loop_raiseFree_ne h _ _).trans (hs _)) (hs _))

theorem loop_loadDac_ne (s : State) : (loadDac n s).loop k = s.loop k := by
  unfold loadDac
  extract_lets g eff loaded r add injected
  have hs : injected.loop k = s.loop k := (loop_sweepInject _ _ _).trans (loop_updEng_ne _ _ _ _ h)
  have hd (f : LoopSense → LoopSense) (x : State) : (x.updSense n f).loop k = x.loop k := loop_updSense_ne x n k f h
  exact loop_ite ((hd _ _).trans hs) ((hd _ _).trans (loop_ite hs hs))

/-- A sample boundary of LPn leaves LPk, under the configured law. -/
theorem loop_sampleBoundary_ne (s : State) : (sampleBoundary n s).loop k = s.loop k := by
  unfold sampleBoundary
  extract_lets stated judged r reached aimed loaded sampled noted
  have hstated : stated.loop k = s.loop k := by
    simp only [stated, loop_staleEnd_ne h, loop_closeNoSink_ne h, loop_boundaryState_ne h, loop_takeMode_ne h, loop_layerMarks_ne h]
  have hjudged : judged.loop k = stated.loop k := loop_ite ((loop_superviseSat_ne h _).trans (loop_halveRate_ne h _)) rfl
  have haimed : aimed.loop k = judged.loop k := (loop_updEng_ne _ _ _ _ h).trans (loop_updSp_ne _ _ _ _ h)
  have hloaded : loaded.loop k = aimed.loop k := loop_ite rfl (loop_loadDac_ne h _)
  have hnoted : noted.loop k = loaded.loop k :=
    ((loop_arrivalNote_ne h _).trans (loop_layerBoundary_ne h _)).trans (loop_updEng_ne _ _ _ _ h)
  calc (vinNote n (pairsNote n noted)).loop k
      _ = noted.loop k := (loop_vinNote_ne h _).trans (loop_pairsNote _ _ _)
      _ = s.loop k := by rw [hnoted, hloaded, haimed, hjudged, hstated]

/-- A sample boundary of LP15 under the kennel law leaves LPk. -/
theorem loop_kennelBoundary_ne (s : State) : (kennelBoundary n s).loop k = s.loop k := by
  unfold kennelBoundary
  extract_lets p ramped v power clocked aimed sampled
  have hramped : ramped.loop k = s.loop k := loop_ite (loop_updSp_ne _ _ _ _ h) rfl
  have hsampled : sampled.loop k = ramped.loop k := (loop_updSense_ne _ _ _ _ h).trans (loop_updEng_ne _ _ _ _ h)
  exact (loop_ite (loop_pairsNote _ _ _) rfl).trans (hsampled.trans hramped)

/-! ### The step (R178, R206 to R214) -/

theorem loop_takeVin_ne (s : State) : (takeVin n s).loop k = s.loop k := loop_updEng_ne _ _ _ _ h

theorem loop_dampStep_ne (s : State) : (dampStep n s).2.loop k = s.loop k := by
  simp only [dampStep]
  split
  · dsimp only
    split
    · exact loop_tugCount_ne h _ _ _
    · rfl
  · rfl

theorem loop_takeDroop_ne (i : Int) (s : State) : (takeDroop n i s).loop k = s.loop k :=
  (loop_updEng_ne _ _ _ _ h).trans (loop_updMod_ne _ _ _ _ h)

theorem loop_noteLoad_ne (e : Frac) (s : State) : (noteLoad n e s).loop k = s.loop k := loop_updMod_ne _ _ _ _ h

theorem loop_placeJob_ne (l d c : Nat) (s : State) : (placeJob n l d c s).loop k = s.loop k :=
  (loop_updEng_ne _ _ _ _ h).trans (loop_updLane _ _ _ _)

theorem loop_step206_ne (full : Bool) (dac : W16) (x : Frac) (skip : Bool) (s : State) :
    (step206 n full dac x skip s).loop k = s.loop k := by
  simp only [step206, loop_placeJob_ne h, loop_sweepSample, loop_layerRecord_ne h, loop_adaptPhases_ne h, loop_noteLoad_ne h,
    loop_peakUpdate_ne h, loop_takeDroop_ne h, loop_updSp_ne _ _ _ _ h, loop_updEng_ne _ _ _ _ h, loop_dampStep_ne h,
    loop_takeVin_ne h]

theorem loop_kennelStep_ne (s : State) : (kennelStep n s).loop k = s.loop k := by
  unfold kennelStep
  extract_lets r w b drawn cmd peaked stepped
  have hs : stepped.loop k = s.loop k := (loop_updEng_ne _ _ _ _ h).trans (loop_freeWords _ _ _)
  exact loop_ite ((loop_placeJob_ne h _ _ _ _).trans hs) hs

/-! ### The end of an acquisition (R176 to R178) -/

theorem loop_abandonLayer_ne (s : State) : (abandonLayer n s).loop k = s.loop k :=
  (loop_updLane _ _ _ _).trans ((loop_layerAbandon_ne h _).trans (loop_updEng_ne _ _ _ _ h))

theorem loop_holdSample_ne (s : State) : (holdSample n s).loop k = s.loop k := by
  unfold holdSample
  extract_lets g run four held
  have hs : held.loop k = s.loop k := loop_updEng_ne _ _ _ _ h
  exact (loop_layerHeld_ne h _).trans (loop_ite ((loop_raiseFree_ne h _ _).trans hs) hs)

theorem loop_settleStep_ne (s : State) : (settleStep n s).loop k = s.loop k :=
  loop_ite rfl (loop_updEng_ne _ _ _ _ h)

theorem loop_runningEnd_ne (full : Bool) (dac : W16) (x : Frac) (s : State) : (runningEnd n full dac x s).loop k = s.loop k := by
  unfold runningEnd
  extract_lets judged j skip freed
  have hfreed : freed.loop k = s.loop k := (loop_ite (loop_abandonLayer_ne h _) rfl).trans (loop_settleStep_ne h (laneNow n s))
  exact (loop_ite (loop_holdSample_ne h _) ((loop_step206_ne h _ _ _ _ _).trans (loop_updEng_ne _ _ _ _ h))).trans hfreed

theorem loop_takeSense_ne (codes : List Int) (sup : Option Int) (s : State) : (takeSense n codes sup s).loop k = s.loop k :=
  loop_updSense_ne _ _ _ _ h

theorem loop_notePreBias_ne (full : Bool) (s : State) : (notePreBias n full s).loop k = s.loop k :=
  loop_ite (loop_updSp_ne _ _ _ _ h) rfl

end

end Sys2Proof.Machine

end

section
/-! PROOFS. Sample commands and the other loops: what the end of an acquisition tells the loops that LPn feeds; O14. -/

namespace Sys2Proof.Machine
open Sys2Proof

/-! ### The loops fed by LPn (R361) -/

/-- LPk.INPUT_SRC names the output of LPn. -/
def State.fedBy (s : State) (n k : Fin 16) : Bool :=
  bitAt (s.lp k 0x2A) 15 && decide (fld (s.lp k 0x2A) 6 5 = 1) && decide (fld (s.lp k 0x2A) 4 0 = n.val)

/-- A loop without the input voltage that protection keeps of it: its value, its two stays and its two conditions. -/
def LoopState.butVin (l : LoopState) : LoopState :=
  { l with prt := { l.prt with vin := none, vinUvFrom := none, vinUv := false, vinOvFrom := none, vinOv := false } }

/-- Loops that agree but for the input voltage: the one is the other with the input voltage of its own. -/
theorem loop_of_butVin {l l' : LoopState} (h : l'.butVin = l.butVin) : ∃ p : LoopPrt, l' = { l with prt := p } ∧
    p = { l.prt with vin := p.vin, vinUvFrom := p.vinUvFrom, vinUv := p.vinUv, vinOvFrom := p.vinOvFrom, vinOv := p.vinOv } := by
  have keep (x : LoopState) (p : LoopPrt) : { x with prt := p } = { x.butVin with prt := p } := rfl
  have keepPrt (x : LoopState) (p : LoopPrt) :
      { x.prt with vin := p.vin, vinUvFrom := p.vinUvFrom, vinUv := p.vinUv, vinOvFrom := p.vinOvFrom, vinOv := p.vinOv } =
        { x.butVin.prt with vin := p.vin, vinUvFrom := p.vinUvFrom, vinUv := p.vinUv, vinOvFrom := p.vinOvFrom, vinOv := p.vinOv } := rfl
  refine ⟨l'.prt, ?_, ?_⟩
  · rw [keep l, ← h]
    rfl
  · rw [keepPrt l, ← h]
    rfl

/-- A comparison of VIN changes nothing else of its loop. -/
theorem vinNote_butVin (k : Fin 16) (s : State) : ((vinNote k s).loop k).butVin = (s.loop k).butVin := by
  simp only [vinNote]
  split
  · rw [loop_updPrt]
    rfl
  · split
    · rfl
    · rw [loop_updPrt]
      rfl

theorem vinNotes_butVin (k : Fin 16) (l : List (Fin 16)) (s : State) : ((forLoops vinNote l s).loop k).butVin = (s.loop k).butVin := by
  induction l generalizing s with
  | nil => rfl
  | cons n l ih =>
    refine (ih _).trans ?_
    by_cases h : n = k
    · rw [h]
      exact vinNote_butVin k s
    · rw [loop_vinNote_ne h]

theorem vinNotes_absent {k : Fin 16} {l : List (Fin 16)} (h : k ∉ l) (s : State) : (forLoops vinNote l s).loop k = s.loop k := by
  induction l generalizing s with
  | nil => rfl
  | cons n l ih =>
    rw [List.mem_cons, not_or] at h
    obtain ⟨hn, hl⟩ := h
    exact (ih hl _).trans (loop_vinNote_ne (Ne.symm hn) s)

/-- The values in use follow from the parameters alone. -/
theorem lp_of_par {s u : State} (h : u.par = s.par) (k : Fin 16) (i : Nat) : u.lp k i = s.lp k i := by
  simp only [State.lp, State.useBy, State.baseUse, h]

/-- What hangs on a new VOUT of LPn touches another loop in its input voltage alone, and only one that LPn feeds (R360, R361). -/
theorem noteOutputs_others {n k : Fin 16} (h : n ≠ k) (s : State) : ((noteOutputs n s).loop k).butVin = (s.loop k).butVin ∧
    (s.fedBy n k = false → (noteOutputs n s).loop k = s.loop k) := by
  unfold noteOutputs
  extract_lets noted
  have hl : noted.loop k = s.loop k := ((loop_octNote_ne h _).trans (loop_uvNote_ne h _)).trans (loop_ovSettle_ne h s)
  have hp : noted.par = s.par := par_of_mask (s' := s)
    (((octNote_mask _ n _ rfl).trans (uvNote_mask _ n _ rfl)).trans (ovSettle_mask _ n s rfl))
  refine ⟨(vinNotes_butVin k _ _).trans (congrArg LoopState.butVin hl), fun hf => (vinNotes_absent ?_ _).trans hl⟩
  simp only [List.mem_filter, lp_of_par hp]
  rintro ⟨-, fed⟩
  exact Bool.false_ne_true (hf.symm.trans fed)

/-- The end of an acquisition of LPn is a change that touches neither another loop nor the parameters, and under the configured law
what hangs on its new VOUT follows. -/
theorem acquisitionEnd_others {n k : Fin 16} (h : n ≠ k) (codes : List Int) (sup : Option Int) (s : State) :
    ∃ u : State, u.loop k = s.loop k ∧ u.par = s.par ∧
      (acquisitionEnd n codes sup s = u ∨ acquisitionEnd n codes sup s = noteOutputs n u) := by
  unfold acquisitionEnd
  extract_lets c x sensed ended noted stepped
  have hended : ended.loop k = s.loop k := (loop_updEng_ne _ _ _ _ h).trans (loop_takeSense_ne h _ _ _)
  have pended : ended.par = s.par := rfl
  split
  case isTrue =>
    refine ⟨_, ?_, ?_, .inl rfl⟩
    · exact (loop_kennelStep_ne h _).trans ((loop_settleStep_ne h (laneNow n ended)).trans hended)
    · exact (par_of_mask (s' := ended) (((kennelStep_mask _ n _ rfl rfl rfl rfl).trans (settleStep_mask _ n _ rfl)).trans
        (laneNow_mask _ n ended rfl))).trans pended
  case isFalse =>
    have hnoted : noted.loop k = s.loop k := (loop_notePreBias_ne h c.full ended).trans hended
    have pnoted : noted.par = s.par := (par_of_mask (s' := ended) (notePreBias_mask _ n c.full ended rfl)).trans pended
    refine ⟨stepped, ?_, ?_, .inr rfl⟩ <;> dsimp only [stepped] <;> split
    · exact (loop_runningEnd_ne h _ _ _ _).trans hnoted
    · exact hnoted
    · exact (par_of_mask (s' := noted) (runningEnd_mask _ n c.full c.dac x noted rfl rfl rfl rfl rfl rfl rfl)).trans pnoted
    · exact pnoted

/-- Settles O14: every operation of a sample boundary is LPn's own; at the end of an acquisition the loops that LPn feeds compare
their new input voltage. -/
theorem samplesApart : Obligations.SamplesApart := by
  unfold Obligations.SamplesApart
  refine ⟨fun s u t n k hu hk => ?boundary, fun s u t n k c x hu hk => ?acquisition⟩
  case boundary =>
    dsimp only [exec, execSampleBoundary] at hu
    obtain ⟨-, rfl⟩ | rfl := gated_cases hu
    · split
      · exact loop_kennelBoundary_ne hk.symm _
      · exact loop_sampleBoundary_ne hk.symm _
    · rfl
  case acquisition =>
    have apart : (u.loop k).butVin = (s.loop k).butVin ∧ (s.fedBy n k = false → u.loop k = s.loop k) := by
      dsimp only [exec, execAcquisitionEnd] at hu
      obtain ⟨-, rfl⟩ | rfl := gated_cases hu
      · obtain ⟨v, hl, hp, e | e⟩ := acquisitionEnd_others hk.symm c x (s.atTime t)
        · rw [e, hl]
          exact ⟨rfl, fun _ => rfl⟩
        · obtain ⟨same, unfed⟩ := noteOutputs_others hk.symm v
          rw [e]
          refine ⟨same.trans (congrArg LoopState.butVin hl), fun hf => (unfed ?_).trans hl⟩
          simp only [State.fedBy, lp_of_par hp]
          exact hf
      · exact ⟨rfl, fun _ => rfl⟩
    obtain ⟨same, unfed⟩ := apart
    split
    · exact loop_of_butVin same
    · next hn => exact unfed (by simpa [State.fedBy, and_assoc] using hn)

end Sys2Proof.Machine

end

section
/-! PROOFS. The source of the switching timebase, SYNC_IN, and the alignment of the carriers; O30. -/

namespace Sys2Proof.Machine
open Sys2Proof

/-! ### The source (R244, R247) -/

/-- A change of source moves the glide alone: what makes a source valid stays, so the choice made anew is the same. -/
theorem reselect_pickSource (s : State) : (reselect s).pickSource = s.pickSource := by
  simp only [reselect]
  split <;> rfl

theorem reselect_src (s : State) : (reselect s).stb.src = s.pickSource := by
  simp only [reselect]
  split
  · next h => exact h.symm
  · rfl

/-- The stays of SYNC_IN and of the Leash go through a change of source. -/
theorem reselect_stays (s : State) : (reselect s).stb.siValid = s.stb.siValid ∧ (reselect s).stb.siEdge = s.stb.siEdge ∧
    (reselect s).stb.siFrom = s.stb.siFrom ∧ (reselect s).stb.lshValid = s.stb.lshValid := by
  simp only [reselect]
  split <;> exact ⟨rfl, rfl, rfl, rfl⟩

/-- A valid SYNC_IN comes first where it is enabled. -/
theorem pickSource_of_siValid {s : State} (h : s.stb.siValid = true) :
    s.pickSource = if bitAt (s.pg 3 0) 0 then .syncIn else s.pickSource := by
  split
  · next e => simp [State.pickSource, e, h]
  · rfl

/-- An invalid SYNC_IN is not chosen. -/
theorem pickSource_ne_syncIn {s : State} (h : s.stb.siValid = false) : s.pickSource ≠ .syncIn := by
  simp only [State.pickSource, h, Bool.and_false, Bool.false_eq_true, if_false]
  split <;> exact SyncSrc.noConfusion

/-! ### SYNC_IN (R245, R246) -/

/-- An edge is kept as the last one; the first starts the qualification. -/
theorem syncEdge_siEdge (s : State) : (syncEdge s).stb.siEdge = some s.now := by
  simp only [syncEdge]
  split <;> rfl

theorem syncEdge_first {s : State} (h : s.stb.siEdge = none) :
    (syncEdge s).stb.siFrom = some s.now ∧ (syncEdge s).stb.siCnt = 0 := by
  simp only [syncEdge, h, and_self]

/-- SYNC_IN is lost, for whichever of the two reasons. -/
theorem syncInLost_of_lost {s : State} {t b : Nat} (hup : s.up = true) (hb : s.stb.siEdge = some b)
    (lost : b + 2 * s.syncPeriod ≤ max s.now t ∨ s.stb.siValid = true ∧ 4 ≤ s.stb.siBad) :
    ∃ u, exec (.syncInLost t) s = .next u ∧ u.stb.siValid = false ∧ u.stb.siEdge = none ∧ u.stb.siFrom = none ∧
      u.stb.src ≠ .syncIn := by
  dsimp only [exec, execSyncInLost]
  refine ⟨_, gated_pos _ _ _ _ ?_, ?_⟩
  · obtain late | ⟨hv, hbad⟩ := lost
    · simp [hup, hb, late]
    · simp [hup, hb, hv, hbad]
  obtain ⟨hvalid, hedge, hfrom, -⟩ := reselect_stays { s.atTime t with stb := { (s.atTime t).stb with
    siValid := false, siFrom := none, siEdge := none, siMeas := 0, siBad := 0 } }
  refine ⟨hvalid, hedge, hfrom, ?_⟩
  rw [reselect_src]
  exact pickSource_ne_syncIn rfl

/-! ### The alignment instant (R228, R231) -/

/-- The carrier period and the angle rest on the parameters, the timebase and the loop's frequency. -/
theorem angle_congr {s u : State} {n : Fin 16} (hp : u.par = s.par) (hb : u.stb = s.stb)
    (hf : (u.loop n).mod.fc = (s.loop n).mod.fc) : u.angle n = s.angle n := by
  simp only [State.angle, State.carPeriod, State.stbRatio, pg_congr hp, hb, hf]

/-- LPn stands as an alignment instant leaves it: no frequency waits, and its cycle starts at the instant. -/
def State.Aligned (s : State) (n : Fin 16) : Prop :=
  (s.loop n).mod.fcNext = none ∧ (s.loop n).mod.carAt = s.stb.alignAt * Config.carUnit ∧
    (s.loop n).mod.refDue = s.stb.alignAt * Config.carUnit + s.angle n

theorem aligned_congr {s u : State} {n : Fin 16} (hp : u.par = s.par) (hb : u.stb = s.stb) (hl : u.loop n = s.loop n)
    (h : s.Aligned n) : u.Aligned n := by
  have ha : u.angle n = s.angle n := angle_congr hp hb (congrArg (fun l : LoopState => l.mod.fc) hl)
  simpa only [State.Aligned, hl, hb, ha] using h

theorem tug_fcNext (n : Fin 16) (f : Nat) (b : Bool) (w : Nat) (s : State) :
    ((tug n f b w s).loop n).mod.fcNext = (s.loop n).mod.fcNext := by
  simp only [tug, tugCount]
  (repeat' split) <;> simp

/-- The adaptive move leaves no frequency waiting that did not wait before. -/
theorem adaptFreq_fcNext (n : Fin 16) (s : State) : ((adaptFreq n s).loop n).mod.fcNext = (s.loop n).mod.fcNext := by
  simp only [adaptFreq]
  (repeat' split) <;> simp [tug_fcNext]

theorem loop_adaptFreq_ne {n k : Fin 16} (h : n ≠ k) (s : State) : (adaptFreq n s).loop k = s.loop k := by
  have hm (s : State) (f : LoopMod → LoopMod) : (s.updMod n f).loop k = s.loop k := loop_updMod_ne s n k f h
  simp only [adaptFreq]
  (repeat' split) <;> simp only [hm, loop_tug_ne h]

theorem loop_alignLoop_ne {n k : Fin 16} (h : n ≠ k) (s : State) : (alignLoop n s).loop k = s.loop k := by
  have hm (s : State) (f : LoopMod → LoopMod) : (s.updMod n f).loop k = s.loop k := loop_updMod_ne s n k f h
  simp only [alignLoop]
  (repeat' split) <;> simp only [hm, loop_adaptFreq_ne h]

theorem alignLoop_par (n : Fin 16) (s : State) : (alignLoop n s).par = s.par := par_of_mask (alignLoop_mask _ n s rfl rfl)

theorem alignLoop_stb (n : Fin 16) (s : State) : (alignLoop n s).stb = s.stb := stb_of_mask (alignLoop_mask _ n s rfl rfl)

theorem alignLoop_kennel15 (n k : Fin 16) (s : State) : (alignLoop n s).kennel15 k = s.kennel15 k := by
  simp only [State.kennel15, power_of_mask (alignLoop_mask Part.butPower n s rfl rfl)]

/-- A carrier cycle that starts at `car`, with its reference instant an angle later (R228). -/
def LoopMod.startCycle (car angle : Nat) (m : LoopMod) : LoopMod := { m with carAt := car, refDue := car + angle }

/-- A cycle started at the instant aligns LPn, once what waited has acted. -/
theorem aligned_startCycle {n : Fin 16} {s : State} (h : (s.loop n).mod.fcNext = none) :
    (s.updMod n (LoopMod.startCycle (s.stb.alignAt * Config.carUnit) (s.angle n))).Aligned n := by
  have hl := loop_updMod s n (LoopMod.startCycle (s.stb.alignAt * Config.carUnit) (s.angle n))
  have ha : (s.updMod n (LoopMod.startCycle (s.stb.alignAt * Config.carUnit) (s.angle n))).angle n = s.angle n :=
    angle_congr rfl rfl (by rw [hl]; rfl)
  rw [State.Aligned, hl, ha]
  exact ⟨h, rfl, rfl⟩

theorem alignLoop_aligned {n : Fin 16} {s : State} (hk : s.kennel15 n = false) : (alignLoop n s).Aligned n := by
  simp only [alignLoop, hk, Bool.false_eq_true, if_false]
  refine aligned_startCycle ?_
  rw [adaptFreq_fcNext]
  split
  · rw [loop_updMod]
  · assumption

/-- The loops after LPn change nothing of it. -/
theorem alignLoops_keep_aligned {n : Fin 16} {l : List (Fin 16)} (h : n ∉ l) {s : State} (ha : s.Aligned n) :
    (forLoops alignLoop l s).Aligned n := by
  induction l generalizing s with
  | nil => exact ha
  | cons k l ih =>
    rw [List.mem_cons, not_or] at h
    obtain ⟨hn, hl⟩ := h
    exact ih hl (aligned_congr (alignLoop_par k s) (alignLoop_stb k s) (loop_alignLoop_ne (Ne.symm hn) s) ha)

theorem alignLoops_stb (l : List (Fin 16)) (s : State) : (forLoops alignLoop l s).stb = s.stb :=
  stb_of_mask (forLoops_mask _ _ (fun n s => alignLoop_mask _ n s rfl rfl) _ _)

/-- Every loop on the list but one under the kennel law is aligned. -/
theorem alignLoops_aligned {n : Fin 16} {l : List (Fin 16)} (hn : n ∈ l) {s : State} (hk : s.kennel15 n = false) :
    (forLoops alignLoop l s).Aligned n := by
  induction l generalizing s with
  | nil => cases hn
  | cons k l ih =>
    by_cases h : n ∈ l
    · exact ih h ((alignLoop_kennel15 k n s).trans hk)
    · obtain rfl : n = k := (List.mem_cons.mp hn).resolve_right h
      exact alignLoops_keep_aligned h (alignLoop_aligned hk)

/-- Settles O30: the row of each command with its condition met; a source is chosen anew by `reselect`, and the alignment instant goes
over the loops one by one. -/
theorem timebaseCommands : Obligations.TimebaseCommands := by
  unfold Obligations.TimebaseCommands
  refine ⟨fun s t hb ha => ?align, fun s t falling hup hf => ?edge, fun s t a b hup hv ha hb hab => ?valid,
    fun s t b hup hb hlate => ?late, fun s t b hup hb hv hbad => ?bad, fun s t a hup hv hl ha hat => ?leash,
    fun s t hup hg hd hs hp => ?glide⟩
  case align =>
    dsimp only [exec, execAlignmentInstant]
    refine ⟨_, gated_pos _ _ _ _ (by simp [hb, ha]), ?_⟩
    have hstb := alignLoops_stb allLoops { s.atTime t with stb := { s.stb with align := false } }
    refine ⟨congrArg Stb.align hstb, fun n hk => ?_⟩
    have aligned := alignLoops_aligned (l := allLoops) (List.mem_finRange n)
      (s := { s.atTime t with stb := { s.stb with align := false } }) hk
    rwa [State.Aligned, hstb] at aligned
  case edge =>
    dsimp only [exec, execSyncInEdge]
    exact ⟨_, gated_pos _ _ _ _ (by simp [hup, hf]), syncEdge_siEdge _, syncEdge_first (s := s.atTime t)⟩
  case valid =>
    dsimp only [exec, execSyncInValid]
    refine ⟨_, gated_pos _ _ _ _ (by simp [hup, hv, ha, hb, hab]), ?_⟩
    obtain ⟨hvalid, -⟩ := reselect_stays { s.atTime t with stb := { (s.atTime t).stb with siValid := true } }
    refine ⟨hvalid, ?_⟩
    rw [reselect_src, reselect_pickSource]
    exact pickSource_of_siValid rfl
  case late => exact syncInLost_of_lost hup hb (.inl hlate)
  case bad => exact syncInLost_of_lost hup hb (.inr ⟨hv, hbad⟩)
  case leash =>
    dsimp only [exec, execLeashValid]
    refine ⟨_, gated_pos _ _ _ _ (by simp [hup, hv, hl, ha, hat]), ?_⟩
    obtain ⟨-, -, -, hlsh⟩ := reselect_stays { s.atTime t with stb := { (s.atTime t).stb with lshValid := true } }
    exact ⟨hlsh, (reselect_src _).trans (reselect_pickSource _).symm⟩
  case glide =>
    dsimp only [exec, execGlideEnd]
    exact ⟨_, gated_pos _ _ _ _ (by simp [hup, hg, hd, hs, hp]), rfl⟩

end Sys2Proof.Machine

end

section
/-! PROOFS. The turn-on of a phase, the ends of its pulse and its zero crossing; O31. -/

namespace Sys2Proof.Machine
open Sys2Proof

/-- In CCM a turn-on that the new ranking does not skip is a pulse (R230, R242). -/
theorem phaseTurnOn_pulse {n : Fin 16} {m : Fin 64} {s : State} (hde : (s.loop n).mod.de = false)
    (hk : ((s.phase m).newRank && ((s.phase m).onAt.isSome || decide (s.now < (s.phase m).offUntil))) = false) :
    phaseTurnOn n m s =
      s.updPhase m (turnOn s.now (s.turnOnFor n m (s.loop n).mod.refDue) (s.decimation m) false) := by
  simp only [phaseTurnOn, hk, hde, Bool.false_and, Bool.false_eq_true, if_false]

/-- A pulse that ends reads back as ended: nothing of it is left to settle. -/
theorem phase_updPhase_pulseEnd (s : State) (m : Fin 64) (at_ : Nat) (maxOn minOn : Bool) :
    (s.updPhase m (pulseEnd at_ maxOn minOn)).phase m = pulseEnd at_ maxOn minOn (s.phase m) := phase_updPhase _ _ _

/-- The last turn-on of a phase does not rest on the time of a command. -/
theorem lastOn_atTime (s : State) (t : Nat) (m : Fin 64) : ((s.atTime t).phase m).lastOn = (s.phase m).lastOn :=
  phase_atTime_keeps PhaseState.lastOn (fun _ _ => rfl) s t m

/-- A trip of a phase that has a pulse. -/
theorem execComparatorTrip_pulse {t : Nat} {m : Fin 64} {n : Fin 16} {s : State} (hn : s.swLoop m = some n)
    (hon : ((s.atTime t).phase m).onAt ≠ none) :
    exec (.comparatorTrip t m) s = .next (comparatorTrip n m (s.atTime t)) := by
  have hn' : (s.atTime t).swLoop m = some n := hn
  dsimp only [exec, execComparatorTrip]
  rw [gated_pos _ _ _ _ (by simp [hn, Option.isSome_iff_ne_none, hon])]
  simp only [hn']

/-- A trip after blanking ends the pulse at once. -/
theorem comparatorTrip_phase {n : Fin 16} {m : Fin 64} {s : State} (h : (s.phase m).lastOn + s.blankTime n m ≤ s.now) :
    (comparatorTrip n m s).phase m = pulseEnd s.now false false (s.phase m) := by
  rw [comparatorTrip, if_neg (Nat.not_lt.mpr h), phase_updPhase_pulseEnd]

/-- One within blanking leaves the pulse to end with it. -/
theorem comparatorTrip_phase_blanked {n : Fin 16} {m : Fin 64} {s : State}
    (h : s.now < (s.phase m).lastOn + s.blankTime n m) :
    (comparatorTrip n m s).phase m = { s.phase m with endAt := some ((s.phase m).lastOn + s.blankTime n m) } := by
  rw [comparatorTrip, if_pos h, phase_updPhase]
  exact if_neg (Nat.not_le.mpr h)

/-- Settles O31: the row of each command with its condition met, and what it writes of the phase. -/
theorem phaseCommands : Obligations.PhaseCommands := by
  unfold Obligations.PhaseCommands
  refine ⟨fun s t m n hn hmay hde hskip => ?turnOn, fun s t m n hn hon hlate => ?trip, fun s t m n hn hon hearly => ?blanked,
    fun s t m n hn hon hk hblank hnext => ?maxEnd, fun s t m hn hde hlow hoff hblank => ?zero⟩
  case turnOn =>
    have hn' : (s.atTime t).swLoop m = some n := hn
    have keeps {α : Type} (f : PhaseState → α) (hf : ∀ e p, f (pulseEnd e false true p) = f p) :
        f ((s.atTime t).phase m) = f (s.phase m) := phase_atTime_keeps f hf s t m
    have hskip' := (congrArg (· && _) (keeps PhaseState.newRank fun _ _ => rfl)).trans hskip
    dsimp only [exec, execPhaseTurnOn]
    refine ⟨_, gated_pos _ _ _ _ (by simp only [hn', hmay]), ?_⟩
    simp only [hn']
    rw [phaseTurnOn_pulse (s := s.atTime t) hde hskip', phase_updPhase_endAt]
    refine ⟨rfl, rfl, rfl, keeps PhaseState.rampNext fun _ _ => rfl, ?_, rfl⟩
    simp only [turnOn, decide_eq_true_eq, keeps PhaseState.decCnt fun _ _ => rfl]
  case trip =>
    rw [← lastOn_atTime s t] at hlate
    refine ⟨_, execComparatorTrip_pulse hn hon, ?_⟩
    rw [comparatorTrip_phase (s := s.atTime t) hlate]
    exact ⟨rfl, rfl, rfl, rfl⟩
  case blanked =>
    rw [← lastOn_atTime s t] at hearly ⊢
    refine ⟨_, execComparatorTrip_pulse hn hon, ?_⟩
    rw [comparatorTrip_phase_blanked (s := s.atTime t) hearly]
    exact ⟨rfl, rfl⟩
  case maxEnd =>
    have hn' : (s.atTime t).swLoop m = some n := hn
    rw [← lastOn_atTime s t] at hblank
    dsimp only [exec, execPulseMaxEnd]
    refine ⟨_, gated_pos _ _ _ _ (by simp [hn', Option.isSome_iff_ne_none, hon, hk, hblank, hnext]), ?_⟩
    rw [phase_updPhase_pulseEnd]
    exact ⟨rfl, rfl, rfl, rfl⟩
  case zero =>
    have hde' : ((s.atTime t).phase m).de = true := (phase_atTime_keeps PhaseState.de (fun _ _ => rfl) s t m).trans hde
    dsimp only [exec, execZeroCross]
    refine ⟨_, gated_pos _ _ _ _ (by simp [Option.isSome_iff_ne_none, hn, hde', hlow, hoff, hblank]), ?_⟩
    exact ⟨phase_updPhase _ _ _, rfl⟩

end Sys2Proof.Machine

end

section
/-! PROOFS. The entries to the loop states, a reading of a SETPT pin, the loss of a pulse train and of a Heel master; O33. -/

namespace Sys2Proof.Machine
open Sys2Proof

/-! ### An operation that goes over loops -/

/-- An operation of one loop at a time leaves the loops that are not on its list. -/
theorem loop_forLoops_absent {f : Fin 16 → State → State} (hne : ∀ {n k : Fin 16}, n ≠ k → ∀ s, (f n s).loop k = s.loop k)
    {k : Fin 16} {l : List (Fin 16)} (h : k ∉ l) (s : State) : (forLoops f l s).loop k = s.loop k := by
  induction l generalizing s with
  | nil => rfl
  | cons n l ih =>
    rw [List.mem_cons, not_or] at h
    obtain ⟨hn, hl⟩ := h
    exact (ih hl _).trans (hne (Ne.symm hn) s)

/-- A loop that is on the list once is given its operation in a state that reads the same for it. -/
theorem loop_forLoops_once {f : Fin 16 → State → State} (hne : ∀ {n k : Fin 16}, n ≠ k → ∀ s, (f n s).loop k = s.loop k)
    (hpar : ∀ n s, (f n s).par = s.par) (hnow : ∀ n s, (f n s).now = s.now) {k : Fin 16} {l : List (Fin 16)} (hl : l.Nodup)
    (h : k ∈ l) (s : State) :
    ∃ s' : State, s'.par = s.par ∧ s'.now = s.now ∧ s'.loop k = s.loop k ∧ (forLoops f l s).loop k = (f k s').loop k := by
  induction l generalizing s with
  | nil => cases h
  | cons n l ih =>
    obtain ⟨hn, hl⟩ := List.nodup_cons.mp hl
    obtain rfl | h := List.mem_cons.mp h
    · exact ⟨s, rfl, rfl, rfl, loop_forLoops_absent hne hn _⟩
    · obtain ⟨s', par, now, same, done⟩ := ih hl h (f n s)
      have hnk : n ≠ k := fun e => hn (e ▸ h)
      exact ⟨s', par.trans (hpar n s), now.trans (hnow n s), same.trans (hne hnk s), done⟩

/-! ### Phases at mid-level -/

/-- A phase stands at mid-level, with no pulse left to end. -/
def PhaseState.AtMid (p : PhaseState) : Prop := p.pwm = .mid ∧ p.endAt = none

theorem atMid_settle {p : PhaseState} (h : p.AtMid) (now : Nat) : (p.settle now).AtMid := by
  have hp : p.settle now = p := by rw [PhaseState.settle, h.right]
  rwa [hp]

theorem atMid_updPhase {f : PhaseState → PhaseState} (hf : ∀ p, p.AtMid → (f p).AtMid) (k : Fin 64) {m : Fin 64} {s : State}
    (h : (s.phase m).AtMid) : ((s.updPhase k f).phase m).AtMid := by
  by_cases hk : k = m
  · subst hk
    rw [phase_updPhase]
    exact atMid_settle (hf _ h) _
  · rwa [phase_updPhase_ne _ _ _ _ hk]

theorem atMid_updPhases {f : PhaseState → PhaseState} (hf : ∀ p, p.AtMid → (f p).AtMid) (l : List (Fin 64)) {m : Fin 64} {s : State}
    (h : (s.phase m).AtMid) : ((updPhases f l s).phase m).AtMid := by
  induction l generalizing s with
  | nil => exact h
  | cons k l ih => exact ih (atMid_updPhase hf k h)

/-- The phases of a list that are put at mid-level stand there. -/
theorem atMid_updPhases_mem {f : PhaseState → PhaseState} (hf : ∀ p, (f p).AtMid) {l : List (Fin 64)} {m : Fin 64} (hm : m ∈ l)
    (s : State) : ((updPhases f l s).phase m).AtMid := by
  induction l generalizing s with
  | nil => cases hm
  | cons k l ih =>
    obtain rfl | hm := List.mem_cons.mp hm
    · refine atMid_updPhases (fun p _ => hf p) l ?_
      rw [phase_updPhase]
      exact atMid_settle (hf _) _
    · exact ih hm _

theorem stopPulses_atMid {n : Fin 16} {m : Fin 64} {s : State} (h : s.mapped n m = true) : ((stopPulses n s).phase m).AtMid :=
  atMid_updPhases_mem (fun _ => ⟨rfl, rfl⟩) (List.mem_filter.mpr ⟨List.mem_finRange m, h⟩) _

@[simp] theorem phase_settleRun (s : State) (m : Fin 64) : s.settleRun.phase m = s.phase m :=
  phase_of_mask (State.settleRun_mask _ s rfl) m

@[simp] theorem phase_putState (n : Fin 16) (st : LoopSt) (s : State) (m : Fin 64) : (putState n st s).phase m = s.phase m := rfl

/-- A loop that enters OFF leaves its phases at mid-level (R240, R276): the end of an over-current removal does not move them. -/
theorem enterOff_atMid {n : Fin 16} {m : Fin 64} {s : State} (h : s.mapped n m = true) : ((enterOff n s).phase m).AtMid := by
  simp only [enterOff, phase_settleRun, phase_updEng, phase_updSense, phase_updPrt, phase_updSp, phase_putState]
  exact atMid_updPhases (f := returnOc) (fun _ hp => hp) _ (stopPulses_atMid h)

/-! ### The entries to the states -/

/-- A change of state moves the state and its time, arms the faults anew, and leaves the engine and the modulator. -/
theorem loop_putState (n : Fin 16) (st : LoopSt) (s : State) :
    ((putState n st s).loop n).sp = { (s.loop n).sp with st := st, since := s.now } ∧
      ((putState n st s).loop n).prt = armFaults st (s.loop n).prt ∧ ((putState n st s).loop n).eng = (s.loop n).eng ∧
      ((putState n st s).loop n).mod = (s.loop n).mod := by
  simp [putState]

@[simp] theorem loop_stopPulses (n : Fin 16) (s : State) :
    (stopPulses n s).loop n = { s.loop n with mod := noSwitching (s.loop n).mod } := by
  simp [stopPulses]

theorem now_stopPulses (n : Fin 16) (s : State) : (stopPulses n s).now = s.now :=
  now_of_mask (stopPulses_mask _ n s rfl rfl)

/-- Entry to DELAY_ON (R278). -/
theorem enterDelayOn_sp (n : Fin 16) (s : State) :
    ((enterDelayOn n s).loop n).sp.st = .delayOn ∧ ((enterDelayOn n s).loop n).sp.since = s.now := by
  unfold enterDelayOn
  extract_lets put delayed cleared bound damped
  have hd : damped.loop n = bound.loop n := loop_ite rfl rfl
  have hb : (bound.loop n).sp = (cleared.loop n).sp := by
    simp only [bound]
    split
    · rw [loop_updAcp]
    · rfl
  simp [hd, hb, cleared, delayed, put, loop_putState]

theorem fitShed_sp (fuel : Nat) (n : Fin 16) (nt : Nat) (s : State) : ((fitShed fuel n nt s).loop n).sp = (s.loop n).sp := by
  induction fuel generalizing s with
  | zero => rfl
  | succ fuel ih =>
    simp only [fitShed]
    (repeat' split) <;> simp [ih]

theorem setTarget_sp (n : Fin 16) (nt : Nat) (s : State) : ((setTarget n nt s).loop n).sp = (s.loop n).sp := by
  simp [setTarget, fitShed_sp]

/-- Entry to RAMP_UP (R282): the ramp starts now and lasts TON_RISE. -/
theorem enterRampUp_sp (n : Fin 16) (v : W16) (s : State) :
    ((enterRampUp n v s).loop n).sp.st = .rampUp ∧ ((enterRampUp n v s).loop n).sp.startAt = s.now ∧
      ((enterRampUp n v s).loop n).sp.dur = twDur (s.lp n 7) := by
  simp only [enterRampUp, setTarget_sp, carrierFrom, loop_updMod, loop_updSp, loop_putState, true_and]

/-- Entry to REGULATE at a reference (R285). -/
theorem enterRegulate_sp (n : Fin 16) (r : Frac) (s : State) :
    ((enterRegulate n r s).loop n).sp = { (s.loop n).sp with
      st := .regulate, since := s.now, to_ := vrefWord r, ref := r, refAt := s.now, noSink := false } := by
  simp [enterRegulate]

/-- Entry to RAMP_DOWN where it takes time (R286): from the present reference, over TOFF_FALL. -/
theorem enterRampDown_sp {n : Fin 16} {s : State} (why : DownBy) (h : twDur (s.lp n 9) ≠ 0) :
    ((enterRampDown n why s).loop n).sp = { (s.loop n).sp with
      st := .rampDown, since := s.now, down := why, from_ := vrefWord (s.refNow n), ref := s.refNow n, refAt := s.now,
      startAt := s.now, dur := twDur (s.lp n 9), offPending := none, noSink := false } := by
  simp only [enterRampDown, h, false_and, if_false, loop_updSp, loop_putState]

/-- Entry to DELAY_OFF (R276): no phase switches. -/
theorem enterDelayOff_loop (n : Fin 16) (s : State) :
    ((enterDelayOff n s).loop n).sp = { (s.loop n).sp with st := .delayOff, since := s.now, offPending := none, noSink := false } ∧
      ((enterDelayOff n s).loop n).mod = noSwitching (s.loop n).mod ∧
      ((enterDelayOff n s).loop n).prt = armFaults .delayOff (s.loop n).prt := by
  simp [enterDelayOff, loop_putState, now_stopPulses]

/-- Entry to OFF (R276): no phase switches, and a halved rate is restored (R201). -/
theorem enterOff_loop (n : Fin 16) (s : State) : ((enterOff n s).loop n).sp.st = .off ∧
    ((enterOff n s).loop n).mod = noSwitching (s.loop n).mod ∧ ((enterOff n s).loop n).eng.halved = false := by
  simp [enterOff, loop_putState]

/-! ### Set-points -/

/-- The target of a SETPT source is the value it holds, VMIN before the first (R279, R281). -/
theorem sourceTarget_setpt {s : State} {n : Fin 16} (pulse : Bool) (h : fld (s.lp n 3) 2 0 = if pulse then 3 else 2) :
    s.sourceTarget n = (s.loop n).sp.spVal.getD (s.lp n 2) := by
  cases pulse <;> simp only [State.sourceTarget, h, if_true, Bool.false_eq_true, if_false]

theorem setptTakers_nodup (s : State) (k : Fin 4) (pulse : Bool) (xs : List (Nat × Nat)) : (s.setptTakers k pulse xs).Nodup :=
  ((List.nodup_finRange 16).filter _).filter _

/-- The loops of a pin and kind that are not lost take its value (R281). -/
theorem mem_setptTakers {s : State} {k : Fin 4} {pulse : Bool} {n : Fin 16} (xs : List (Nat × Nat))
    (hkind : fld (s.lp n 3) 2 0 = if pulse then 3 else 2) (hpin : fld (s.lp n 3) 5 4 = k.val)
    (hlost : pulse = false ∨ (s.loop n).sp.spLost = false) : n ∈ s.setptTakers k pulse xs := by
  cases pulse <;> simp_all [State.setptTakers, State.setptLoops, allLoops]

/-- Only loops of the pin and kind take its value. -/
theorem source_of_mem_setptTakers {s : State} {k : Fin 4} {pulse : Bool} {xs : List (Nat × Nat)} {n : Fin 16}
    (h : n ∈ s.setptTakers k pulse xs) : fld (s.lp n 3) 2 0 = (if pulse then 3 else 2) ∧ fld (s.lp n 3) 5 4 = k.val := by
  simp only [State.setptTakers, State.setptLoops, List.mem_filter, Bool.and_eq_true, decide_eq_true_eq] at h
  obtain ⟨⟨-, -, hpin⟩, hkind, -⟩ := h
  exact ⟨hkind, hpin⟩

theorem loop_setptLoop_ne {n k : Fin 16} (h : n ≠ k) (v : Frac) (s : State) : (setptLoop v n s).loop k = s.loop k :=
  loop_updSp_ne _ _ _ _ h

/-- The code that a reading `v` of a SETPT pin stands for in LPn: VMIN plus its part of VMAX less VMIN (R279). -/
def State.setptCode (s : State) (n : Fin 16) (v : Frac) : Int :=
  ((⟨(s.lp n 2).toNat, 1⟩ : Frac).add (((⟨(s.lp n 1).toNat, 1⟩ : Frac).sub ⟨(s.lp n 2).toNat, 1⟩).mul v)).roundUp

/-- A reading leaves the value held where it differs from it by less than 4 codes, and replaces it elsewhere (R281). -/
theorem setptLoop_sp {v : Frac} {n : Fin 16} {s : State} (pulse : Bool) (h : fld (s.lp n 3) 2 0 = if pulse then 3 else 2) :
    ((setptLoop v n s).loop n).sp.spLost = false ∧ ((setptLoop v n s).loop n).sp.spVal =
      some (if 4 ≤ (s.setptCode n v - ((s.loop n).sp.spVal.getD (s.lp n 2)).toNat).natAbs then satU16 (s.setptCode n v)
        else (s.loop n).sp.spVal.getD (s.lp n 2)) := by
  simp only [setptLoop, loop_updSp, sourceTarget_setpt pulse h]
  exact ⟨trivial, (apply_ite some _ _ _).symm⟩

/-- The state in which the loops take a reading of SETPT pin `k`: a pulse train's periods end at an edge (R281). -/
def setptEdge (k : Fin 4) (pulse : Bool) (s : State) : State :=
  if pulse then { s with pins := { s.pins with setEdge := s.pins.setEdge.set k s.now } } else s

theorem setptEdge_par (k : Fin 4) (pulse : Bool) (s : State) : (setptEdge k pulse s).par = s.par := by cases pulse <;> rfl

theorem loop_setptEdge (k : Fin 4) (pulse : Bool) (s : State) (n : Fin 16) : (setptEdge k pulse s).loop n = s.loop n := by
  cases pulse <;> rfl

theorem execSetptUpdate_ok {t : Nat} {k : Fin 4} {pulse : Bool} {xs : List (Nat × Nat)} {s : State} (hup : s.up = true)
    (hok : setptOk pulse xs = true) : exec (.setptUpdate t k pulse xs) s =
      .next (forLoops (setptLoop (setptMean xs)) ((s.atTime t).setptTakers k pulse xs) (setptEdge k pulse (s.atTime t))) := by
  have htakers : (setptEdge k pulse (s.atTime t)).setptTakers k pulse xs = (s.atTime t).setptTakers k pulse xs := by
    cases pulse <;> rfl
  rw [← htakers]
  dsimp only [exec, execSetptUpdate]
  exact gated_pos _ _ _ _ (by simp [hup, hok])

/-- LPn's pulse source is lost now (R281). -/
def setptLost (n : Fin 16) (s : State) : State := s.updSp n fun p => { p with spLost := true, spLostAt := s.now }

/-- The loops that follow the pulse train on SETPT pin `k`. -/
def State.pulseLoops (s : State) (k : Fin 4) : List (Fin 16) := (s.setptLoops k).filter fun n => decide (fld (s.lp n 3) 2 0 = 3)

theorem pulseLoops_nodup (s : State) (k : Fin 4) : (s.pulseLoops k).Nodup := ((List.nodup_finRange 16).filter _).filter _

theorem mem_pulseLoops {s : State} {k : Fin 4} {n : Fin 16} :
    n ∈ s.pulseLoops k ↔ fld (s.lp n 3) 2 0 = 3 ∧ fld (s.lp n 3) 5 4 = k.val := by
  simp only [State.pulseLoops, State.setptLoops, allLoops, List.mem_filter, List.mem_finRange, true_and, Bool.and_eq_true,
    Bool.or_eq_true, decide_eq_true_eq]
  exact ⟨fun ⟨⟨_, hpin⟩, hkind⟩ => ⟨hkind, hpin⟩, fun ⟨hkind, hpin⟩ => ⟨⟨.inr hkind, hpin⟩, hkind⟩⟩

/-- Ten milliseconds without an edge: the loops of the pulse train are marked as lost, one by one. -/
theorem execSpLost_ok {t : Nat} {k : Fin 4} {edge : Nat} {s : State} (hup : s.up = true) (hedge : s.pins.setEdge[k] ≤ edge)
    (hdue : edge + Config.ms 10 ≤ max s.now t) :
    exec (.spLost t ⟨k, edge⟩) s = .next (forLoops setptLost (s.pulseLoops k) (s.atTime t)) := by
  dsimp only [exec, execSpLost]
  refine gated_pos _ _ _ _ ?_
  simp only [Bool.and_eq_true, decide_eq_true_eq]
  exact ⟨⟨hup, hedge⟩, hdue⟩

/-! ### The loss of a Heel master -/

/-- A fault with a free value joins the raised faults. -/
theorem loop_raiseFree (n : Fin 16) (c : Byte) (s : State) : ((s.raiseFree n c).loop n).sp = (s.loop n).sp ∧
    ((s.raiseFree n c).loop n).prt.raised.length = (s.loop n).prt.raised.length + 1 := by
  have hl : s.freeWord.2.loop n = s.loop n := rfl
  simp [State.raiseFree, State.raiseFault, hl]

/-- What the loss of a master notes of LPn: the loss itself, and how many faults are raised. -/
def LoopState.lossNote (l : LoopState) : Bool × Nat := (l.sp.heelLost, l.prt.raised.length)

theorem startMove_lossNote (n : Fin 16) (g : W16) (s : State) : ((startMove n g s).loop n).lossNote = (s.loop n).lossNote := by
  simp [startMove, LoopState.lossNote]

theorem enterRampDown_lossNote (n : Fin 16) (why : DownBy) (s : State) :
    ((enterRampDown n why s).loop n).lossNote = (s.loop n).lossNote := by
  simp only [enterRampDown]
  split
  · obtain ⟨hsp, -, hprt⟩ := enterDelayOff_loop n s
    simp only [LoopState.lossNote, hsp, hprt, armFaults]
  · simp only [LoopState.lossNote, loop_updSp, loop_putState, armFaults]

/-- The loss is noted and raises one fault, whatever the configured behaviour then does (R292). -/
theorem heelLoss_lossNote (n : Fin 16) (s : State) :
    ((heelLoss n s).loop n).lossNote = (true, (s.loop n).prt.raised.length + 1) := by
  unfold heelLoss
  extract_lets loss r mine noted raised
  have hr : (raised.loop n).lossNote = (true, (s.loop n).prt.raised.length + 1) := by
    simp [raised, noted, LoopState.lossNote, loop_raiseFree]
  split
  · exact hr
  · split
    · exact (enterRampDown_lossNote _ _ _).trans hr
    · split
      · exact (startMove_lossNote _ _ _).trans hr
      · exact hr

/-- Settles O33: the row of each command with its condition met, and what the entry to the state, the reading or the loss writes of the
loop. -/
theorem loopStateCommands : Obligations.LoopStateCommands := by
  unfold Obligations.LoopStateCommands
  refine ⟨fun s t n hmay => ?start, fun s t n hst hb hrun hk hdue => ?rampUp, fun s t n hst hb hrun hk hheel hdue => ?rampUpEnd,
    fun s t n hst hb hoff href => ?transition, fun s t n a hst hb hrun hoff hdue hfall => ?rampDown,
    fun s t n hst hb href hdown => ?delayOff, fun s t n hst hb hlatch hdue => ?off, fun s t k pulse xs hup hok => ?setpt,
    fun s t k edge hup hedge hdue => ?lost, fun s t n hup hfol hst hnot hlost hb => ?heel⟩
  case start =>
    dsimp only [exec, execDelayOnEntry]
    exact ⟨_, gated_pos _ _ _ _ hmay, enterDelayOn_sp n (leaveOff n (s.atTime t))⟩
  case rampUp =>
    dsimp only [exec, execDelayOnEnd]
    refine ⟨_, gated_pos _ _ _ _ (by simp [hst, hb, hrun, hk, hdue]), ?_⟩
    simp only [delayOnEnd, State.st, loop_updSp]
    exact enterRampUp_sp _ _ (s.atTime t)
  case rampUpEnd =>
    dsimp only [exec, execRampUpEnd]
    refine ⟨_, gated_pos _ _ _ _ (by simp [show (s.loop n).sp.st = .rampUp from hst, hb, hrun, hk, hheel, hdue]), ?_⟩
    have h := enterRegulate_sp n ((s.atTime t).refNow n) (s.atTime t)
    exact ⟨congrArg LoopSp.st h, congrArg LoopSp.since h, congrArg LoopSp.to_ h⟩
  case transition =>
    dsimp only [exec, execTransitionEnd]
    rw [Bool.and_eq_true] at href
    obtain ⟨hle, hge⟩ := href
    refine ⟨_, gated_pos _ _ _ _ (by simp [show (s.loop n).sp.st = .transition from hst, hb, hoff, hle, hge]), ?_⟩
    have h := enterRegulate_sp n ((s.atTime t).refNow n) (s.atTime t)
    exact ⟨congrArg LoopSp.st h, congrArg LoopSp.to_ h, congrArg LoopSp.since h⟩
  case rampDown =>
    dsimp only [exec, execTurnOffDelayEnd]
    refine ⟨_, gated_pos _ _ _ _ ?_, ?_⟩
    · simp only [Bool.and_eq_true, Bool.or_eq_true, Bool.not_eq_true', decide_eq_true_eq]
      exact ⟨⟨⟨hst, hb⟩, hrun⟩, by simp [hoff, hdue]⟩
    have h := enterRampDown_sp (s := s.atTime t) .enable hfall
    exact ⟨congrArg LoopSp.st h, congrArg LoopSp.from_ h, congrArg LoopSp.dur h, congrArg LoopSp.offPending h⟩
  case delayOff =>
    dsimp only [exec, execRampDownEnd]
    refine ⟨_, gated_pos _ _ _ _ ?_, ?_⟩
    · simp only [Bool.and_eq_true, Bool.or_eq_true, decide_eq_true_eq]
      exact ⟨⟨⟨hst, hb⟩, href⟩, hdown⟩
    obtain ⟨hsp, hmod, -⟩ := enterDelayOff_loop n (s.atTime t)
    exact ⟨congrArg LoopSp.st hsp, congrArg LoopMod.sw hmod, congrArg LoopSp.since hsp⟩
  case off =>
    dsimp only [exec, execDelayOffEnd]
    refine ⟨_, gated_pos _ _ _ _ (by simp [show (s.loop n).sp.st = .delayOff from hst, hb, hlatch, hdue]), ?_⟩
    obtain ⟨hoff, hmod, hrate⟩ := enterOff_loop n (s.atTime t)
    refine ⟨hoff, congrArg LoopMod.sw hmod, hrate, fun m hm => ?_⟩
    obtain ⟨hmid, -⟩ := enterOff_atMid (s := s.atTime t) hm
    exact hmid
  case setpt =>
    refine ⟨_, execSetptUpdate_ok hup hok, fun n hkind hpin hlost => ?_, fun n hother => ?_, fun hp => ?_⟩
    · obtain ⟨x, hpar, -, hloop, hdone⟩ := loop_forLoops_once (fun h s => loop_setptLoop_ne h (setptMean xs) s)
        (fun n s => par_of_mask (setptLoop_mask _ _ n s rfl)) (fun n s => now_of_mask (setptLoop_mask _ _ n s rfl))
        (setptTakers_nodup _ k pulse xs) (mem_setptTakers (s := s.atTime t) xs hkind hpin hlost) (setptEdge k pulse (s.atTime t))
      have hlp (i : Nat) : x.lp n i = s.lp n i := lp_of_par (hpar.trans (setptEdge_par _ _ _)) n i
      have h := setptLoop_sp (v := setptMean xs) (s := x) pulse ((congrArg (fld · 2 0) (hlp 3)).trans hkind)
      rw [← hdone] at h
      simpa only [State.setptCode, hlp, hloop, loop_setptEdge, loop_atTime] using h
    · have habsent : n ∉ (s.atTime t).setptTakers k pulse xs := fun hmem =>
        have ⟨hkind, hpin⟩ := source_of_mem_setptTakers hmem
        hother.elim (· hkind) (· hpin)
      rw [loop_forLoops_absent (fun h s => loop_setptLoop_ne h _ s) habsent, loop_setptEdge]
      rfl
    · subst hp
      rw [pins_of_mask (forLoops_mask _ _ (fun n s => setptLoop_mask _ _ n s rfl) _ _)]
      simp [setptEdge]
  case lost =>
    have hne {n k : Fin 16} (h : n ≠ k) (s : State) : (setptLost n s).loop k = s.loop k := loop_updSp_ne _ _ _ _ h
    refine ⟨_, execSpLost_ok hup hedge hdue, fun n hkind hpin => ?_, fun n hother => ?_⟩
    · obtain ⟨x, -, hnow, -, hdone⟩ := loop_forLoops_once hne (fun _ _ => rfl) (fun _ _ => rfl) (pulseLoops_nodup s k)
        (mem_pulseLoops.mpr ⟨hkind, hpin⟩) (s.atTime t)
      rw [hdone, setptLost, loop_updSp]
      exact ⟨rfl, hnow⟩
    · have habsent : n ∉ s.pulseLoops k := fun hmem =>
        have ⟨hkind, hpin⟩ := mem_pulseLoops.mp hmem
        hother.elim (· hkind) (· hpin)
      exact loop_forLoops_absent hne habsent _
  case heel =>
    dsimp only [exec, execHeelLoss]
    refine ⟨_, gated_pos _ _ _ _ ?_, ?_⟩
    · simp only [Bool.and_eq_true, Bool.not_eq_true']
      exact ⟨⟨⟨⟨⟨hup, hfol⟩, hst⟩, hnot⟩, hlost⟩, hb⟩
    have h := heelLoss_lossNote n (s.atTime t)
    exact ⟨congrArg Prod.fst h, congrArg Prod.snd h⟩

end Sys2Proof.Machine

end

section
/-! PROOFS. The status word of GETSTAT is that of the time of its request; O34 refuted. -/

namespace Sys2Proof.Machine
open Sys2Proof

theorem port_of_mask {s s' : State} (h : s.mask (Part.but .acp) = s'.mask (Part.but .acp)) (p : Fin 8) : s.port p = s'.port p :=
  congrArg (fun v : Vector AcpPort 8 => v[p]) (acp_of_mask h)

/-- The settling of W_LEASH_STAT leaves the ports. -/
theorem port_withStat (f : State → State) (s : State) (p : Fin 8) : (withStat f s).port p = (f s).port p := by
  refine port_of_mask ?_ p
  simp only [withStat]
  split <;> simp [Part.but]

/-- A device in RUN whose LP0 regulates on PH0 and is bound to port 0, the link UP. EST_STALE is flagged for LP0 and EST_AGE, one
microsecond before it counts 10.01 s, is not above EST_STALE_TIME of 10 s: as after a commit that has just raised that time. -/
def ageAtLimit : State :=
  let s := State.reset.updPower fun p => { p with g := .run, vaux := true, vauxLost := false, pll := true }
  let s : State := { s with
    now := Config.ms 10010 - Config.us 1
    par := { s.par with inUse := [(0x1003, 1), (0x101E, 0x0040), (0x102B, 1), (0x2000, 0x0010), (0x2800, 1)] } }
  let s := s.updSp 0 fun p => { p with st := .regulate }
  let s := s.updMod 0 fun m => { m with sw := [0], estStale := true }
  s.updPort 0 fun x => { x with link := .up }

/-- GETSTAT at address 0 with its CRC. -/
def getstatWord : W32 := 0x100000F7

/-- Bit 18 of a response is bit 10 of its DATA, EST_STALE in a status word (R302, R318). -/
def staleBit (f : W32) : Bool := bitAt f 18

theorem ageAtLimit_answered :
    ((withStat (acpRequest 0 getstatWord 0) (ageAtLimit.atTime (Config.ms 10010))).port 0).dio.map staleBit = some true := by
  rw [port_withStat]
  decide

theorem ageAtLimit_before : staleBit (acpFrame 0 (bitAt getstatWord 24) (ageAtLimit.acpStatWord 0)) = false := by decide

/-- Refutes O34: the word that answers GETSTAT is that of the time of the request, not of the state before it. EST_STALE is shown while
EST_AGE is above its time (R269), and EST_AGE passes it as the request arrives: the answer shows the flag (R318), the state before does
not. -/
theorem not_acpRequestCommands : ¬ Obligations.AcpRequestCommands := by
  unfold Obligations.AcpRequestCommands
  rintro ⟨-, -, -, -, -, -, -, -, getstat, -⟩
  obtain ⟨u, hu, hdio, -⟩ := getstat ageAtLimit (Config.ms 10010) 0 getstatWord 0 0 (by decide) (by decide)
    (by decide) rfl rfl rfl rfl (by decide) (by decide) (by decide)
  have e : exec (.acpGetstat (Config.ms 10010) 0 ⟨getstatWord, 0⟩) ageAtLimit =
      .next (withStat (acpRequest 0 getstatWord 0) (ageAtLimit.atTime (Config.ms 10010))) := by
    dsimp only [exec, execAcpGetstat]
    exact gated_pos _ _ _ _ (by decide)
  have h := ageAtLimit_answered
  rw [← answer_unique hu e, hdio, Option.map_some, ageAtLimit_before] at h
  cases h

end Sys2Proof.Machine

end

section
/-! PROOFS. The ends of ACP responses, targets and load lines, arrival, the loss of a link and the writes of EVT; O35. -/

namespace Sys2Proof.Machine
open Sys2Proof

/-! ### Reading a port -/

@[simp] theorem port_updPort (s : State) (p : Fin 8) (f : AcpPort → AcpPort) : (s.updPort p f).port p = f (s.port p) := by
  simp [State.port, State.updPort]

@[simp] theorem port_updAcp (s : State) (n : Fin 16) (f : LoopAcp → LoopAcp) (p : Fin 8) : (s.updAcp n f).port p = s.port p := rfl

@[simp] theorem port_irq (s : State) (i : Nat) (p : Fin 8) : (s.irq i).port p = s.port p := rfl

@[simp] theorem port_atStrobe (s : State) (t : Nat) (p : Fin 8) : (s.atStrobe t).port p = s.port p := rfl

/-- An event of a port sets its bit of EVT, and may set W_IRQ.ACP (R325). -/
@[simp] theorem port_acpEvt (p : Fin 8) (bit : Nat) (s : State) :
    (acpEvt p bit s).port p = { s.port p with evt := (s.port p).evt ||| 2 ^ bit } := by
  simp only [acpEvt]
  split
  · rw [port_irq, port_updPort]
  · rw [port_updPort]

@[simp] theorem loop_acpEvt (p : Fin 8) (bit : Nat) (s : State) (n : Fin 16) : (acpEvt p bit s).loop n = s.loop n :=
  loop_of_mask (acpEvt_mask _ p bit s rfl rfl) n

/-! ### What the commands write -/

/-- The end of a GETSTAT response takes the report from the port, and clears the reported latches (R319). -/
theorem getstatEnd_reported {p : Fin 8} {s : State} {n : Fin 16} {ra rf : Bool} (h : (s.port p).report = some (n, ra, rf)) :
    getstatEnd p s = (s.updPort p fun x => { x with report := none, dio := none }).updAcp n fun a =>
      { a with arrived := a.arrived && !ra, faulted := a.faulted && !rf } := by
  simp only [getstatEnd, h]

/-- An arrival ends the move and sets the latch (R317), and is an event of the loop's port (R325). -/
theorem loop_arrive (n : Fin 16) (s : State) :
    (arrive n s).loop n = { s.loop n with acp := { (s.loop n).acp with moving := false, arrived := true, holdFrom := none } } := by
  rw [arrive, loop_acpEvt, loop_updAcp]

theorem port_arrive (n : Fin 16) (s : State) : (arrive n s).port (s.portOf n) =
    { s.port (s.portOf n) with evt := (s.port (s.portOf n)).evt ||| 2 ^ 4 } := by
  rw [arrive, port_acpEvt, port_updAcp]

/-- The faults that a loss of the link raises in the loops leave the port (R321). -/
theorem port_acpLose (p : Fin 8) (s : State) : (acpLose p s).port p = { s.port p with
    link := .lost, losses := inc8 (s.port p).losses, last := none, evt := (s.port p).evt ||| 2 ^ 0 } := by
  have hloops (l : List (Fin 16)) (u : State) : (forLoops acpLossLoop l u).port p = u.port p :=
    port_of_mask (forLoops_mask _ _ (fun n s => acpLossLoop_mask _ n s rfl rfl) l u) p
  simp only [acpLose, port_acpEvt, hloops, port_updPort]

/-- LINKLOSS action 2 holds the loop OFF (R322). -/
theorem loop_linklossAct_off {n : Fin 16} {s : State} (h : fld (s.lp n 0x2C) 1 0 = 2) :
    (linklossAct n s).loop n = { s.loop n with acp := { (s.loop n).acp with lossPend := false, lossOff := true } } := by
  have hlp : fld ((s.updAcp n fun a => { a with lossPend := false }).lp n 0x2C) 1 0 = 2 := h
  simp only [linklossAct, hlp, loop_updAcp]

/-- Settles O35: the row of each command with its condition met, and what its effect writes of the port and of the loop. -/
theorem acpPortCommands : Obligations.AcpPortCommands := by
  unfold Obligations.AcpPortCommands
  refine ⟨fun s t p n ra rf hon hrep hdio hdone => ?getstat, fun s t p hon => ?abort, fun s t p hon hlow => ?dioLow,
    fun s t n v a hup hb hpend hdue => ?target, fun s t n v a hup hb hpend hdue => ?loadLine,
    fun s t n a hup hbound hmov hat hhold hdue => ?arrival, fun s t p hup hen hlink hdue => ?loss,
    fun s t n hup hrun hpend hmov hact => ?linkloss, fun s t p w hwin hclr => ?evt⟩
  case getstat =>
    dsimp only [exec, execGetstatResponseEnd]
    refine ⟨_, gated_pos _ _ _ _ (by simp [hon, hrep, Option.isSome_iff_ne_none, hdio, hdone]), ?_⟩
    rw [getstatEnd_reported (s := s.atTime t) hrep]
    simp
  case abort =>
    dsimp only [exec, execAcpAbort]
    refine ⟨_, gated_pos _ _ _ _ hon, ?_⟩
    simp
  case dioLow =>
    dsimp only [exec, execDioLowClear]
    refine ⟨_, gated_pos _ _ _ _ (by simp [hon, hlow]), ?_⟩
    simp
  case target =>
    dsimp only [exec, execAcpTargetApply]
    refine ⟨_, gated_pos _ _ _ _ (by simp [hup, hb, hpend, hdue]), ?_⟩
    simp [hpend]
  case loadLine =>
    dsimp only [exec, execAcpLlApply]
    refine ⟨_, gated_pos _ _ _ _ (by simp [hup, hb, hpend, hdue]), ?_⟩
    simp [hpend]
  case arrival =>
    dsimp only [exec, execArrival]
    refine ⟨_, gated_pos _ _ _ _ (by simp [hup, hbound, hmov, hat, hhold, hdue]), ?_⟩
    have hl := loop_arrive n (s.atTime t)
    exact ⟨congrArg (·.acp.moving) hl, congrArg (·.acp.arrived) hl, congrArg AcpPort.evt (port_arrive n (s.atTime t))⟩
  case loss =>
    dsimp only [exec, execAcpLoss]
    refine ⟨_, gated_pos _ _ _ _ (by simp [hup, hen, hlink, hdue]), ?_⟩
    simp [port_acpLose]
  case linkloss =>
    dsimp only [exec, execLinklossAction]
    refine ⟨_, gated_pos _ _ _ _ (by simp [hup, hrun, hpend, hmov]), ?_⟩
    simp [loop_linklossAct_off (s := s.atTime t) hact]
  case evt =>
    dsimp only [exec, execAcpEvtClear]
    refine ⟨_, strobed_pos _ _ _ _ hwin rfl, ?_⟩
    simp [acpEvtWrite, hclr]

end Sys2Proof.Machine

end

section
/-! PROOFS. Layer: an edge of a strobe pin, a miss, the end of an AUTO window and the update of a chunk; O36. -/

namespace Sys2Proof.Machine
open Sys2Proof

/-! ### Marks and misses (R328, R330) -/

theorem loop_strobeEdge_ne {n k : Fin 16} (h : n ≠ k) (selected : Bool) (s : State) :
    (strobeEdge n selected s).loop k = s.loop k := loop_updLyr_ne _ _ _ _ h

/-- The loops without Layer take no strobe edge. -/
theorem notMem_strobed_of_lyrOff {s : State} {k : Fin 16} (h : s.lyrOn k = false) (p q : Fin 16 → Bool) :
    k ∉ allLoops.filter fun n => s.lyrOn n && p n && q n := by
  simp [h]

theorem layerMiss_misses (n : Fin 16) (s : State) :
    ((layerMiss n s).loop n).lyr.misses = ((s.loop n).lyr.misses + 1) % 256 := by
  simp only [layerMiss, loop_updLyr, lyrRoll]
  split
  · simp only [lyrSeek]
    split <;> rfl
  · rfl

/-- A first miss leaves the lock state. -/
theorem layerMiss_first {n : Fin 16} {s : State} (h : (s.loop n).lyr.missRun = 0) :
    ((layerMiss n s).loop n).lyr.st = (s.loop n).lyr.st ∧ ((layerMiss n s).loop n).lyr.missRun = 1 := by
  simp [layerMiss, lyrRoll, h]

/-- The second miss in a row leads back to SEEK. -/
theorem layerMiss_again {n : Fin 16} {s : State} (h : 1 ≤ (s.loop n).lyr.missRun) :
    ((layerMiss n s).loop n).lyr.st = .seek := by
  simp [layerMiss, lyrRoll, lyrSeek, h]

/-! ### The AUTO window (R332) -/

/-- The end of a window empties it, with a period found or without one. -/
theorem layerAutoEnd_window (n : Fin 16) (s : State) : ((layerAutoEnd n s).loop n).lyr.window = [] := by
  simp only [layerAutoEnd, loop_updLyr]
  split <;> rfl

/-! ### The update of a chunk (R335, R336) -/

/-- The update of an entry writes the table and TSAT alone. -/
theorem lyrUpdateEntry_valid (p lead qf g decay : Nat) (e0 texp : Int) (j : Nat) (l : LoopLyr) :
    (lyrUpdateEntry p lead qf g decay e0 texp j l).valid = l.valid := by
  simp only [lyrUpdateEntry]
  split <;> rfl

theorem lyrUpdateEntries_valid (p lead qf g decay : Nat) (e0 texp : Int) (js : List Nat) (l : LoopLyr) :
    (js.foldl (fun l j => lyrUpdateEntry p lead qf g decay e0 texp j l) l).valid = l.valid := by
  induction js generalizing l with
  | nil => rfl
  | cons j js ih => exact (ih _).trans (lyrUpdateEntry_valid p lead qf g decay e0 texp j l)

theorem layerChunk_updChunk (n : Fin 16) (s : State) :
    ((layerChunk n s).loop n).lyr.updChunk = (s.loop n).lyr.updChunk + 1 := by
  simp only [layerChunk, loop_updLyr]

theorem layerChunk_valid (n : Fin 16) (s : State) : ((layerChunk n s).loop n).lyr.valid =
    (s.loop n).lyr.valid ||| BitVec.ofNat 128 (2 ^ (s.loop n).lyr.updChunk) := by
  simp only [layerChunk, loop_updLyr, lyrUpdateEntries_valid]

theorem layerChunk_sense (n : Fin 16) (s : State) : ((layerChunk n s).loop n).sense = (s.loop n).sense := by
  simp only [layerChunk, loop_updLyr]

/-- Settles O36: the row of each command with its condition met, and what its effect writes of the loop's learner. -/
theorem layerCommands : Obligations.LayerCommands := by
  unfold Obligations.LayerCommands
  refine ⟨fun s t pin falling hup hio => ?edge, fun s t n hup hlock hsrc hb hun hzero hpos => ?miss,
    fun s t n hseek hsrc hfull => ?window, fun s t n hdue => ?chunk⟩
  case edge =>
    dsimp only [exec, execLayerStrobeEdge]
    refine ⟨_, gated_pos _ _ _ _ (by simp [hup, hio]), ?_, fun n hoff => ?_⟩
    · rw [pins_of_mask (forLoops_mask _ _ (fun n s => strobeEdge_mask _ n _ s rfl) _ _)]
      simp
    · exact loop_forLoops_absent (fun h s => loop_strobeEdge_ne h _ s) (notMem_strobed_of_lyrOff hoff _ _) _
  case miss =>
    dsimp only [exec, execLayerMiss]
    refine ⟨_, gated_pos _ _ _ _ (by obtain h | h := hsrc <;> simp [hup, hlock, h, hb, hun, hzero, hpos]),
      layerMiss_misses n (s.atTime t), fun hfirst => ?_, fun hagain => layerMiss_again (s := s.atTime t) hagain⟩
    obtain ⟨hst, hrun⟩ := layerMiss_first (s := s.atTime t) hfirst
    exact ⟨hst.trans hlock, hrun⟩
  case window =>
    dsimp only [exec, execLayerAutoWindowEnd]
    exact ⟨_, gated_pos _ _ _ _ (by simp [hseek, hsrc, hfull]), layerAutoEnd_window n (s.atTime t)⟩
  case chunk =>
    dsimp only [exec, execLayerChunkUpdate]
    exact ⟨_, gated_pos _ _ _ _ hdue, layerChunk_updChunk n (s.atTime t), layerChunk_valid n (s.atTime t),
      layerChunk_sense n (s.atTime t)⟩

end Sys2Proof.Machine

end

section
/-! PROOFS. The bus sweep: start, abort, SWP_SET, the run, its steps, entries and ends, and the end of a Layer period; O45. -/

namespace Sys2Proof.Machine
open Sys2Proof

/-! ### What an operation leaves of the sweep -/

@[simp] theorem swp_queueMsg (cls typ : Nat) (d : W32) (s : State) : (queueMsg cls typ d s).swp = s.swp := rfl

@[simp] theorem swp_ramPut (a : Nat) (l : List Byte) (s : State) : (ramPut a l s).swp = s.swp := rfl

@[simp] theorem swp_ramPut16 (a : Nat) (v : W16) (s : State) : (ramPut16 a v s).swp = s.swp := rfl

@[simp] theorem swp_freeWords (k : Nat) (s : State) : (freeWords k s).2.swp = s.swp :=
  swp_of_mask (freeWords_mask _ k s rfl)

/-! ### The queue of commands (R403) -/

/-- The last message of a queue is the one just offered: a full queue drops its oldest. -/
theorem pushQ_getLast? (k : Nat) (m : LshMsg) (q : List LshMsg) : (pushQ k m q).1.getLast? = some m := by
  simp only [pushQ]
  split <;> exact List.getLast?_concat

theorem queueMsg_cmd (typ : Nat) (d : W32) (s : State) :
    ((queueMsg 2 typ d s).lsh.cmd.getLast?.map fun m => (m.cls, m.typ)) = some (2, typ) := by
  have h : (queueMsg 2 typ d s).lsh.cmd = (pushQ 8 { cls := 2, typ := typ, data := d, at_ := s.lsh.frames } s.lsh.cmd).1 := rfl
  rw [h, pushQ_getLast?]
  rfl

/-! ### Start and end (R431 to R433, R440, R441) -/

/-- A start on a synchronised device leads the next sweep (R431). -/
theorem sweepStart_swp {s : State} (hsync : s.synced = true) (hidle : s.sweeping = false) :
    (sweepStart s).swp = { s.swp with
      st := if s.swpEn then .armed else .idle
      leader := true
      leading := true
      leadPos := s.pos
      sid := (s.swp.lastSid + 1) % 256
      lastSid := (s.swp.lastSid + 1) % 256
      sFixed := false
      setAt := none
      joins := 0
      dampOff := bitAt s.swpCtl 2
      mask := 0
      maskSet := false
      started := false
      dampHold := false } := by
  simp [sweepStart, hsync, hidle]

/-- The end of a sweep, its record's header apart. -/
theorem sweepEnd_swp (st : SwpSt) (s : State) : (sweepEnd st s).swp = { s.swp with
    st := st
    started := false
    leading := false
    step := none
    injOn := false
    dampHold := false
    waits := []
    segLost := if st = .lost then s.swp.step else s.swp.segLost
    windowDone := true } := by
  simp only [sweepEnd, swpPutStatus]
  split <;> rfl

theorem sweeping_of_armed {s : State} (h : s.swp.st = .armed) : s.sweeping = true := by simp [State.sweeping, h]

/-- An abort of an armed sweep ends it, with the leader's empty SWP_SET or without (R441). -/
theorem sweepAbort_swp {s : State} (h : s.swp.st = .armed) :
    (sweepAbort s).swp.st = .aborted ∧ (sweepAbort s).swp.leading = false := by
  simp [sweepAbort, sweeping_of_armed h, sweepEnd_swp]

/-- A mask that is not empty is taken by an armed device (R432). -/
theorem takeSet_armed {m : Byte} {s : State} (hm : m ≠ 0) (h : s.swp.st = .armed) :
    takeSet m s = s.updSwp fun w => { w with mask := m, maskSet := true } := by
  rw [takeSet, if_neg hm, if_pos h]

/-! ### The run and its steps (R432, R434 to R439) -/

/-- At frame S a device with a mask runs a new record (R432, R438). -/
theorem sweepRunStart_swp {s : State} (h : s.swp.maskSet = true) : (sweepRunStart s).swp = { s.swp with
    st := .running
    leading := false
    recNo := if s.swp.recUsed then (s.swp.recNo + 1) % 4 else 0
    recUsed := true
    dampHold := s.swp.dampOff
    frame := countFrom s.swp.frameS s.lsh.fcount % 32768
    frameCnt := s.lsh.fcount
    step := none
    stepFrame := 0
    nextFrame := 0
    windowDone := true
    injOn := false
    waits := []
    written := 0
    figs := []
    segLost := none
    ys := []
    ps := [] } := by
  simp [sweepRunStart, h]

/-- The end of a window queues one entry and ends the step's samples and injection; the injector's messages leave that (R436). -/
theorem sweepWindowEnd_swp (s : State) : (sweepWindowEnd s).swp.windowDone = true ∧ (sweepWindowEnd s).swp.injOn = false ∧
    (sweepWindowEnd s).swp.waits.length = s.swp.waits.length + 1 ∧ (sweepWindowEnd s).swp.ys = [] := by
  simp only [sweepWindowEnd]
  split <;> exact ⟨rfl, rfl, List.length_append, rfl⟩

/-- The entry of the oldest waiting step is written and counted (R436 to R438). -/
theorem entryWrite_swp (e : SwpWait) (s : State) : (entryWrite e s).swp.waits = s.swp.waits.drop 1 ∧
    (entryWrite e s).swp.written = s.swp.written + 1 ∧ (entryWrite e s).swp.lastAt = s.now := by
  simp only [entryWrite]
  split <;> exact ⟨rfl, rfl, rfl⟩

/-- The results end the sweep DONE (R439). -/
theorem sweepResults_swp (s : State) :
    (sweepResults s).swp.st = .done ∧ (sweepResults s).swp.step = none ∧ (sweepResults s).swp.waits = [] := by
  simp [sweepResults, sweepEnd_swp]

/-! ### The end of a Layer period (R337, R338) -/

/-- With RATIO 0 no period counts as worse (R338): its end begins the next one's updates and leaves the lock state. -/
theorem layerPeriodEnd_lyr {n : Fin 16} {s : State} (h : s.pgL n 0x39 0x0D = 0) :
    ((layerPeriodEnd n s).loop n).lyr.updTag = (s.loop n).lyr.updTag + 1 ∧ ((layerPeriodEnd n s).loop n).lyr.updChunk = 0 ∧
      ((layerPeriodEnd n s).loop n).lyr.st = (s.loop n).lyr.st := by
  have hdv : fld (0 : W16) 7 0 = 0 := by decide
  simp only [layerPeriodEnd, h, hdv, ne_eq, not_true_eq_false, decide_false, Bool.and_false, Bool.false_and, Bool.false_eq_true, if_false,
    loop_updLyr, apply_ite LoopLyr.updTag, apply_ite LoopLyr.updChunk, apply_ite LoopLyr.st, ite_self, and_self]

/-- Settles O45: the row of each command with its condition met, and what its effect writes of the sweep. -/
theorem sweepCommands : Obligations.SweepCommands := by
  unfold Obligations.SweepCommands
  refine ⟨fun s t hwin hup hsync hidle => ?start, fun s t hwin hup harm => ?abort,
    fun s t hlink hlead hfix hset hsent hslot hfrom hto hmask harm => ?set, fun s t hup harm hdue hmask => ?run,
    fun s t hup hrun hdone hnext hdue => ?step, fun s t k hup hrun hstep hopen hdue hys => ?window,
    fun s t e r hup hrun hwait hre him => ?entry, fun s t hup hrun hall => ?results,
    fun s t hup hsweep hleader hgone => ?lost, fun s t n hlock hdiv hchunk hdv => ?period⟩
  case start =>
    dsimp only [exec, execSweepStart]
    refine ⟨_, strobed_pos _ _ _ _ hwin hup, ?_⟩
    rw [sweepStart_swp (s := s.atStrobe t) hsync hidle]
    exact ⟨rfl, rfl, rfl, rfl, rfl⟩
  case abort =>
    dsimp only [exec, execSweepAbort]
    exact ⟨_, strobed_pos _ _ _ _ hwin hup, sweepAbort_swp (s := s.atStrobe t) harm⟩
  case set =>
    dsimp only [exec, execSwpSetSend]
    refine ⟨_, gated_pos _ _ _ _ (by simp [hlink, hlead, hfix, hset, hsent, hslot, hfrom, hto]), ?_⟩
    rw [takeSet_armed]
    · exact ⟨rfl, queueMsg_cmd 7 _ _, rfl, rfl⟩
    · exact hmask
    · exact harm
  case run =>
    dsimp only [exec, execSweepRunStart]
    refine ⟨_, gated_pos _ _ _ _ (by simp [hup, harm, hdue]), ?_⟩
    rw [sweepRunStart_swp (s := s.atTime t) hmask]
    exact ⟨rfl, rfl, rfl, rfl, rfl⟩
  case step =>
    dsimp only [exec, execSweepStepStart]
    exact ⟨_, gated_pos _ _ _ _ (by simp [hup, hrun, hdone, hnext, hdue]), rfl, rfl, rfl, rfl, rfl⟩
  case window =>
    dsimp only [exec, execSweepWindowEnd]
    exact ⟨_, gated_pos _ _ _ _ (by simp [hup, hrun, hstep, hopen, hdue, hys]), sweepWindowEnd_swp (s.atTime t)⟩
  case entry =>
    dsimp only [exec, execSweepEntryWrite]
    refine ⟨_, gated_pos _ _ _ _ (by simp [hup, hrun, hwait, Option.isSome_iff_ne_none, hre, him]), ?_⟩
    simp [hwait, entryWrite_swp]
  case results =>
    dsimp only [exec, execSweepResults]
    exact ⟨_, gated_pos _ _ _ _ (by simp [hup, hrun, hall]), sweepResults_swp (s.atTime t)⟩
  case lost =>
    dsimp only [exec, execSweepLeaderLost]
    refine ⟨_, gated_pos _ _ _ _ (by simp [hup, hsweep, hleader, hgone]), ?_⟩
    simp [sweepEnd_swp]
  case period =>
    dsimp only [exec, execLayerPeriodEnd]
    refine ⟨_, gated_pos _ _ _ _ (by simp [hlock, hdiv, hchunk]), ?_⟩
    obtain ⟨htag, hzero, hst⟩ := layerPeriodEnd_lyr (s := s.atTime t) hdv
    exact ⟨htag, hzero, hst.trans hlock⟩

end Sys2Proof.Machine

end

section
/-! PROOFS. KILL_N: its fall while the device is up, its rise, and the exit from KILLED; O21. -/

namespace Sys2Proof.Machine
open Sys2Proof

/-! ### What the device notes of KILL_N: its level, its last rise and W_KILL_STAT.SEEN (R64, R367) -/

def State.killNote (s : State) : Bool × Option Nat × Bool := (s.power.killN, s.power.killRise, s.win.killSeen)

/-- The mask that leaves the supplies and the window without W_IRQ. -/
def Part.butKill (p : Part) : Bool := decide (p ≠ .power ∧ p ≠ .win)

theorem killNote_of_mask {s s' : State} (h : s.mask Part.butKill = s'.mask Part.butKill) : s.killNote = s'.killNote := by
  have e := congrArg State.killNote h; exact e

/-- The entry to GASP writes of these parts the watchdog's count alone (R82). -/
theorem gaspEnter_killNote (cause : Nat) (s : State) : (gaspEnter cause s).killNote = s.killNote := by
  unfold gaspEnter
  extract_lets _ _ _ entered noted logged ranked swept
  exact killNote_of_mask (s' := entered) (by simp [swept, ranked, logged, noted, Part.butKill])

theorem howlGasp_killNote (p : Fin 8) (d : W32) (s : State) : (howlGasp p d s).killNote = s.killNote := by
  unfold howlGasp
  extract_lets rehearsed entered
  have he : entered.killNote = s.killNote := by
    simp only [entered]
    split
    · exact gaspEnter_killNote _ _
    · rfl
  clear_value entered
  split
  · exact killNote_of_mask (by simp [rehearsed, Part.butKill])
  · exact (killNote_of_mask (by simp [Part.butKill])).trans he

/-- Of the services of a message HOWL GASP alone may enter GASP. -/
theorem service_killNote (p : Fin 8) (cls typ : Nat) (d : W32) (s : State) : (service p cls typ d s).killNote = s.killNote := by
  unfold service
  split
  case h_20 => exact howlGasp_killNote p d s
  all_goals exact killNote_of_mask (by simp [Part.butKill])

theorem deliver_killNote (p : Fin 8) (m : LshMsg) (s : State) : (deliver p m s).killNote = s.killNote := by
  unfold deliver
  split
  · rfl
  · exact (killNote_of_mask (rosterSettle_mask _ _ rfl rfl)).trans (service_killNote _ _ _ _ _)

theorem releaseAll_killNote (l : List (Nat × LshMsg × Nat)) (s : State) : (releaseAll l s).killNote = s.killNote := by
  induction l generalizing s with
  | nil => rfl
  | cons h l ih => exact (ih _).trans (deliver_killNote _ _ _)

/-- The disarm of Chew passes on the held messages (R530). -/
theorem chewDisarm_killNote (cause : Nat) (s : State) : (chewDisarm cause s).killNote = s.killNote := by
  unfold chewDisarm
  split
  · exact (releaseAll_killNote _ _).trans (killNote_of_mask (by simp [Part.butKill]))
  · rfl

theorem withStat_killNote (f : State → State) (s : State) : (withStat f s).killNote = (f s).killNote := by
  unfold withStat
  extract_lets settled
  have hs : settled.killNote = (f s).killNote := killNote_of_mask (rosterSettle_mask _ _ rfl rfl)
  clear_value settled
  split <;> exact hs

theorem countFault_killNote (s : State) (c : Byte) (l : Option (Fin 16)) : (s.countFault c l).killNote = s.killNote := rfl

/-- The report of KILL counts a fault, which leaves W_KILL_STAT (R347). -/
theorem raiseKill_killNote (s : State) : (raiseKill s).killNote = s.killNote := by
  have hr : ((s.event 0x0B none 0 0).countFault 0x0B none).killNote = s.killNote :=
    (countFault_killNote _ _ _).trans (killNote_of_mask (State.event_mask _ s _ _ _ _ rfl))
  unfold raiseKill
  extract_lets raised
  change raised.killNote = _ at hr
  clear_value raised
  split
  · exact (killNote_of_mask (howlSend_mask _ _ _ _ _ _ rfl)).trans hr
  · exact hr

/-- The end of GASP restarts the watchdog's count (R82). -/
theorem gaspLeave_killNote (s : State) : (gaspLeave s).killNote = s.killNote := by
  unfold gaspLeave
  extract_lets held freed left
  have hl : left.killNote = s.killNote := killNote_of_mask (by simp [left, freed, held, Part.butKill])
  clear_value left
  exact hl

theorem enterKilled_killNote (s : State) : (enterKilled s).killNote = s.killNote := by
  unfold enterKilled
  extract_lets left _ killed
  have hl : left.killNote = s.killNote := by
    simp only [left]
    split
    · exact (gaspLeave_killNote _).trans (killNote_of_mask (by simp [Part.butKill]))
    · rfl
  exact (killNote_of_mask (s' := killed) (by simp [Part.butKill])).trans hl

/-! ### What a fall does to LP15 and its attempt (R29, R37) -/

/-- READY and RUN give way to each other alone. -/
theorem up_settleRun (s : State) : s.settleRun.up = s.up := by
  unfold State.settleRun
  split
  · next h =>
    simp only [Bool.or_eq_true, decide_eq_true_eq] at h
    split <;> rcases h with h | h <;> simp [State.up, h]
  · rfl

theorem up_of_g {s s' : State} (h : s.power.g = s'.power.g) : s.up = s'.up := by simp only [State.up, h]

theorem up_enterOff (n : Fin 16) (s : State) : (enterOff n s).up = s.up := by
  simp only [enterOff, up_settleRun]
  exact up_of_g (g_of_mask (by simp [Part.but]))

/-- The end of LP15 leaves the device up where it was, and what it notes of KILL_N. -/
theorem lp15Stop_kill (s : State) : (lp15Stop s).up = s.up ∧ (lp15Stop s).killNote = s.killNote := by
  unfold lp15Stop
  split
  · exact ⟨rfl, rfl⟩
  · extract_lets off ended
    have ho : off.up = s.up ∧ off.killNote = s.killNote :=
      ⟨up_enterOff 15 s, killNote_of_mask (enterOff_mask _ 15 s rfl rfl rfl)⟩
    clear_value off
    exact ho

theorem failAttempt_kill (cause : BitVec 3) (s : State) : (failAttempt cause s).up = s.up ∧ (failAttempt cause s).killNote = s.killNote :=
  lp15Stop_kill s

/-- W_KILL_STAT at a fall (R64). -/
theorem killSeenNow_killNote (s : State) : (killSeenNow s).killNote = (s.killNote.1, s.killNote.2.1, true) := rfl

/-- A fall that reaches the rail of a device that is up ends in KILLED, noted in W_KILL_STAT (R365, R366). -/
theorem killFall_up {s : State} (hr : s.kennelRail = true) (hu : s.up = true) :
    (killFall s).power.g = .killed ∧ (killFall s).killNote = (false, none, true) := by
  unfold killFall
  extract_lets rail low mids seen stop stopped reported
  have hseen : seen.up = true ∧ seen.killNote = (false, none, true) := by
    have hm : mids.up = true ∧ mids.killNote = (false, none, low.win.killSeen) :=
      ⟨(up_of_g (g_of_mask (killPins_mask _ low rfl))).trans hu, killNote_of_mask (killPins_mask _ low rfl)⟩
    clear_value mids
    simp only [seen]
    rw [if_pos (by simp [hm.1])]
    exact ⟨hm.1, by rw [killSeenNow_killNote, hm.2]⟩
  clear_value seen
  rw [if_neg (by simp [rail, hr])]
  have hstop : stopped.up = true ∧ stopped.killNote = (false, none, true) := by
    simp only [stopped]
    split
    · rwa [(failAttempt_kill 5 seen).1, (failAttempt_kill 5 seen).2]
    · split
      · exact ⟨(lp15Stop_kill seen).1.trans hseen.1, (lp15Stop_kill seen).2.trans hseen.2⟩
      · exact hseen
  clear_value stopped
  have hrep : reported.killNote = (false, none, true) :=
    (raiseKill_killNote _).trans ((withStat_killNote _ _).trans ((chewDisarm_killNote _ _).trans hstop.2))
  clear_value reported
  rw [if_pos hstop.1]
  split
  · next h => exact ⟨h, hrep⟩
  · exact ⟨enterKilled_g _, (enterKilled_killNote _).trans hrep⟩

/-! ### The exit from KILLED (R367) -/

/-- LP15 of a self-biased device does not count among the loops that are on (R41). -/
theorem anyOn_selfBias {s s' : State} (hs : s.selfBias = true) (hb : s'.selfBias = s.selfBias)
    (hl : ∀ k, 15 ≠ k → s'.loop k = s.loop k) : s'.anyOn = s.anyOn := by
  have same (k : Fin 16) : (decide (s'.st k ≠ .off) && !(s'.selfBias && decide (k.val = 15))) =
      (decide (s.st k ≠ .off) && !(s.selfBias && decide (k.val = 15))) := by
    by_cases hk : (15 : Fin 16) = k
    · subst hk
      simp [hb, hs]
    · rw [State.st, hl k hk, hb, State.st]
  unfold State.anyOn
  simp only [same]

/-- LP15 starts without a change of READY (R39, R41). -/
theorem enterDelayOn_ready {s : State} (hs : s.selfBias = true) (hg : s.power.g = .ready) (ho : s.anyOn = false) :
    (enterDelayOn 15 s).power.g = .ready := by
  unfold enterDelayOn
  extract_lets put delayed cleared bound damped
  have hp : damped.power = s.power := power_of_mask (by simp [damped, bound, cleared, delayed, put, Part.butPower])
  have hl (k : Fin 16) (hk : 15 ≠ k) : damped.loop k = s.loop k := by
    have hc : cleared.loop k = s.loop k := by
      simp only [cleared, delayed, put, loop_updEng_ne _ _ _ _ hk, loop_updSp_ne _ _ _ _ hk, loop_putState_ne hk]
    have hb : bound.loop k = s.loop k := loop_ite ((loop_updAcp_ne _ _ _ _ hk).trans hc) hc
    exact loop_ite hb hb
  have hon : damped.anyOn = false := (anyOn_selfBias hs (by simp only [State.selfBias, hp]) hl).trans ho
  clear_value damped
  simp [State.settleRun, hp, hg, hon]

theorem killStop_of_mask {s s' : State} (h : s.mask (Part.but .power) = s'.mask (Part.but .power)) :
    s.power.killStop = s'.power.killStop := by
  have e := congrArg (fun x : State => x.power.killStop) h; exact e

/-- LP15 that leaves OFF under its configured law leaves the device READY, and the note that KILL_N stopped LP15. -/
theorem lp15Start_ready {s : State} (hs : s.selfBias = true) (hg : s.power.g = .ready) (ho : s.anyOn = false) :
    (enterDelayOn 15 (leaveOff 15 s)).power.g = .ready ∧ (enterDelayOn 15 (leaveOff 15 s)).power.killStop = s.power.killStop := by
  have hon : (leaveOff 15 s).anyOn = s.anyOn := anyOn_selfBias hs rfl fun k hk => loop_updEng_ne _ _ _ _ hk
  refine ⟨enterDelayOn_ready ?_ ?_ (hon.trans ho), killStop_of_mask ?_⟩
  · exact hs
  · exact hg
  · simp [Part.but]

/-- A start of LP15 in a device that has become READY leaves both too. -/
theorem lp15Ready_ready {s : State} (hg : s.power.g = .ready) (ho : s.anyOn = false) :
    (lp15Ready s).power.g = .ready ∧ (lp15Ready s).power.killStop = s.power.killStop := by
  unfold lp15Ready
  extract_lets own
  split
  · exact ⟨hg, rfl⟩
  next h =>
  have hb : s.selfBias = true := by simpa using (not_or.mp h).1
  split
  case h_1 => split <;> exact ⟨hg, rfl⟩
  case h_2 => exact ⟨hg, rfl⟩
  case h_3 =>
    split
    · exact ⟨hg, rfl⟩
    split
    · exact lp15Start_ready (s := s.updPower fun p => { p with law15 := .configured }) hb hg ho
    · exact ⟨hg, rfl⟩

/-- What KILLED_EXIT does to a device that leaves KILLED. -/
def killedLeft (s : State) : State := (leaveKilled s).updPower fun p => { p with killStop := false }

/-- Its effect, with the start of LP15 where the device becomes READY. -/
def killedOut (s : State) : State := if (killedLeft s).power.g = .ready then lp15Ready (killedLeft s) else killedLeft s

/-- The device is READY or RUN by the loops that were on, and KILL_N holds LP15 no longer. -/
theorem killedOut_power (s : State) :
    (killedOut s).power.g = (if s.anyOn then .run else .ready) ∧ (killedOut s).power.killStop = false := by
  have hg : (killedLeft s).power.g = if s.anyOn then .run else .ready := rfl
  unfold killedOut
  cases ho : s.anyOn
  · have hready : (killedLeft s).power.g = .ready := hg.trans (by rw [ho]; rfl)
    rw [if_pos hready]
    exact lp15Ready_ready hready ho
  · have hrun : (killedLeft s).power.g = .run := hg.trans (by rw [ho]; rfl)
    rw [if_neg (by simp [hrun])]
    exact ⟨hrun, rfl⟩

/-- Settles O21: the row of each command with its condition met; the fall by `killFall_up`, the exit by `killedOut_power`. -/
theorem killCommands : Obligations.KillCommands := by
  unfold Obligations.KillCommands
  refine ⟨fun s t hn hr hu => ?fall, fun s t hn => ?rise, fun s t a hg hn hh ha hd => ?exit⟩
  case fall =>
    obtain ⟨hg, hk⟩ := killFall_up (s := s.atTime t) hr hu
    simp only [State.killNote, Prod.mk.injEq] at hk
    obtain ⟨hlow, hrise, hseen⟩ := hk
    exact ⟨_, gated_pos t (fun s => s.power.killN) killFall _ hn, hlow, hrise, hg, hseen⟩
  case rise =>
    dsimp only [exec, execKillNRise]
    exact ⟨_, gated_pos _ _ _ _ (by simp [hn]), rfl, rfl, fun hw => if_pos hw⟩
  case exit =>
    dsimp only [exec, execKilledExit]
    exact ⟨killedOut (s.atTime t), gated_pos _ _ _ _ (by simp [hg, hn, hh, ha, hd]), killedOut_power (s.atTime t)⟩

end Sys2Proof.Machine

end

section
/-! PROOFS. The commands that raise faults: voltage, current, input voltage and temperature; O37. -/

namespace Sys2Proof.Machine
open Sys2Proof

/-! ### A raise (R345) -/

/-- A fault is put behind the ones already raised, with its device time; the rest of the loop stays. -/
theorem loop_raiseFault (s : State) (n : Fin 16) (code : Byte) (value : W16) (ph : List (Fin 64)) :
    (s.raiseFault n code value ph).loop n = { s.loop n with prt := { (s.loop n).prt with
      raised := (s.loop n).prt.raised ++ [{ code, value, ph, at_ := s.devTime }] } } := loop_updPrt _ _ _

theorem raised_ite (p : Prop) [Decidable p] (s : State) (n : Fin 16) (code : Byte) (value : W16) (ph : List (Fin 64)) :
    ((if p then s.raiseFault n code value ph else s).loop n).prt.raised =
      (s.loop n).prt.raised ++ if p then [{ code, value, ph, at_ := s.devTime }] else [] := by
  split
  · rw [loop_raiseFault]
  · exact (List.append_nil _).symm

theorem phase_raiseFault (s : State) (n : Fin 16) (code : Byte) (value : W16) (ph : List (Fin 64)) (m : Fin 64) :
    (s.raiseFault n code value ph).phase m = s.phase m := rfl

theorem devTime_of_mask {s s' : State} (h : s.mask (Part.but .power) = s'.mask (Part.but .power)) : s.devTime = s'.devTime := by
  have e := congrArg State.devTime h; exact e

/-- The loop of an OV trip: the condition and the fault (R350); a CROWBAR action sets the latch (R351). -/
theorem ovTrip_loop (n : Fin 16) (s : State) : ((ovTrip n s).loop n).prt.ov = true ∧
    ((ovTrip n s).loop n).prt.raised =
      (s.loop n).prt.raised ++ [{ code := 1, value := (s.loop n).sense.vout, ph := [], at_ := s.devTime }] ∧
    (ovTrip n s).st n = s.st n := by
  unfold ovTrip
  extract_lets noted a ended latched
  have hd : latched.devTime = s.devTime := devTime_of_mask (by simp [latched, ended, noted, Part.but])
  have he : ended.loop n = { s.loop n with prt := { (s.loop n).prt with ov := true } } := by
    simp only [ended]
    split <;> simp [noted]
  have hl : (latched.loop n).prt.ov = true ∧ (latched.loop n).prt.raised = (s.loop n).prt.raised ∧
      (latched.loop n).sense = (s.loop n).sense ∧ (latched.loop n).sp = (s.loop n).sp := by
    simp only [latched]
    split <;> simp [crowbarPhases, he]
  clear_value latched
  obtain ⟨hov, hraised, hsense, hsp⟩ := hl
  simp only [State.st, loop_raiseFault, hov, hraised, hsense, hsp, hd, and_self]

/-! ### Current (R354, R355) -/

/-- A trip of the over-current comparator in a new cycle ends the pulse and counts (R354). -/
theorem ocpTrip_phase {n : Fin 16} {m : Fin 64} {s : State} (h : (s.phase m).ocpTrip = false) :
    (ocpTrip n m s).phase m = { pulseEnd s.now false false (s.phase m) with ocpTrip := true, ocpRun := (s.phase m).ocpRun + 1 } := by
  simp only [ocpTrip, h, Bool.false_eq_true, if_false, apply_ite (fun x : State => x.phase m), phase_raiseFault, ite_self]
  exact phase_updPhase _ _ _

theorem ocpTrip_raised {n : Fin 16} {m : Fin 64} {s : State} (h : (s.phase m).ocpTrip = false) (hk : s.kennel15 n = false) :
    ((ocpTrip n m s).loop n).prt.raised = (s.loop n).prt.raised ++
      if (s.phase m).ocpRun + 1 = 2 ^ fld (s.pg 2 7) 2 0 then [{ code := 3, value := w16 m.val, ph := [m], at_ := s.devTime }] else [] := by
  unfold ocpTrip
  extract_lets p run ended
  have hrun : run = (s.phase m).ocpRun + 1 := by simp [run, p, h]
  have hcycle : (p.ocpTrip = false ∧ run = 2 ^ fld (ended.pg 2 7) 2 0 ∧ ended.kennel15 n = false) ↔
      (s.phase m).ocpRun + 1 = 2 ^ fld (s.pg 2 7) 2 0 := by
    have hken : ended.kennel15 n = false := hk
    have hpk : ended.pg 2 7 = s.pg 2 7 := rfl
    simp only [p, h, hrun, hken, hpk, true_and, and_true]
  simp only [raised_ite, hcycle]
  rfl

/-- A trip of the negative-current comparator puts the pin at mid-level and counts (R355). -/
theorem negTrip_phase (n : Fin 16) (m : Fin 64) (s : State) :
    (negTrip n m s).phase m = { s.phase m with pwm := .mid, negTrip := true, negRun := (s.phase m).negRun + 1 } := by
  simp only [negTrip, apply_ite (fun x : State => x.phase m), phase_raiseFault, ite_self]
  exact phase_updPhase_endAt _ _

theorem negTrip_raised (n : Fin 16) (m : Fin 64) (s : State) :
    ((negTrip n m s).loop n).prt.raised = (s.loop n).prt.raised ++
      if (s.phase m).negRun + 1 = 2 ^ fld (s.pg 2 7) 6 4 then [{ code := 5, value := w16 m.val, ph := [m], at_ := s.devTime }] else [] := by
  unfold negTrip
  extract_lets run put
  exact raised_ite _ _ _ _ _ _

/-! ### Input voltage (R361) -/

theorem vinArmed_updPrt (s : State) (n : Fin 16) (f : LoopPrt → LoopPrt) : (s.updPrt n f).vinArmed n = s.vinArmed n := by
  simp only [State.vinArmed, State.st, loop_updPrt]
  rfl

/-! ### Temperature (R357, R358) -/

/-- The condition of a sensor stands, and the phases wait for the action (R346). -/
theorem otOnset_onset (k : Fin 6) (s : State) : (otOnset k s).prot.ot[k].cond = true ∧ (otOnset k s).phases = s.phases := by
  unfold otOnset
  extract_lets v put
  constructor
  · rw [prot_of_mask (forLoops_mask _ _ (by simp [Part.but]) _ _)]
    simp [put, otPut]
  · exact (phases_of_mask (forLoops_mask _ _ (by simp [Part.but]) _ _)).trans (phases_of_mask (by simp [put, Part.but]))

section
variable {P : PhaseState → Prop} {f : PhaseState → PhaseState} (hs : ∀ p now, P p → P (p.settle now)) {m : Fin 64}
include hs

/-- What an update of phases keeps of each of them it keeps of one that is read. -/
theorem phase_updPhases_keeps (hf : ∀ p, P p → P (f p)) (l : List (Fin 64)) {s : State} (h : P (s.phase m)) :
    P ((updPhases f l s).phase m) := by
  induction l generalizing s with
  | nil => exact h
  | cons k l ih =>
    refine ih ?_
    by_cases hk : k = m
    · subst hk
      rw [phase_updPhase]
      exact hs _ _ (hf _ h)
    · rwa [phase_updPhase_ne _ _ _ _ hk]

/-- What it gives to each of them it has given to one of its list. -/
theorem phase_updPhases_gives (hf : ∀ p, P (f p)) {l : List (Fin 64)} (hm : m ∈ l) (s : State) : P ((updPhases f l s).phase m) := by
  induction l generalizing s with
  | nil => cases hm
  | cons k l ih =>
    obtain rfl | hm := List.mem_cons.mp hm
    · refine phase_updPhases_keeps hs (fun p _ => hf p) l ?_
      rw [phase_updPhase]
      exact hs _ _ (hf _)
    · exact ih hm _
end

/-- A phase for which a cause of removal ends (R357). -/
def PhaseState.returned (why : Removal) (p : PhaseState) : PhaseState := { endRemoval why p with ocpRun := 0, negRun := 0 }

theorem returned_removed (why : Removal) (p : PhaseState) : why ∉ (p.returned why).removed := by
  simp [PhaseState.returned, endRemoval]

/-- Where a cause of removal ends for every phase, no phase is left removed for it (R357). -/
theorem phasesReturn_removed (why : Removal) (s : State) (m : Fin 64) : why ∉ ((phasesReturn why allPhases s).phase m).removed := by
  have hs (p : PhaseState) (now : Nat) (h : why ∉ p.removed) : why ∉ (p.settle now).removed := by
    rwa [settle_keeps PhaseState.removed (fun _ _ => rfl)]
  by_cases hm : why ∈ (s.phase m).removed
  · exact phase_updPhases_gives (P := fun p => why ∉ p.removed) (f := PhaseState.returned why) hs (returned_removed why)
      (List.mem_filter.mpr ⟨List.mem_finRange m, by simpa using hm⟩) s
  · exact phase_updPhases_keeps (P := fun p => why ∉ p.removed) (f := PhaseState.returned why) hs (fun p _ => returned_removed why p) _ hm

/-- Settles O37: the row of each command with its condition met, and what its effect writes of the loop or the phase. -/
theorem faultRaiseCommands : Obligations.FaultRaiseCommands := by
  unfold Obligations.FaultRaiseCommands
  refine ⟨fun s t n hup hps hk hov => ?ov, fun s t n a hup hst hr hf hd => ?uv, fun s t n a hup hst hr hf hd => ?octotal,
    fun s t m n hn hk hon hd htrip => ?ocp, fun s t m n hn hde hlow hoff htrip hk hng hd => ?neg,
    fun s t n a hup hen hc hf hd harm hv => ?vinUv, fun s t n a hup hen hc hf hd harm hv => ?vinOv,
    fun s t k v hup hc hv hlim => ?otOnset, fun s t k v hup hc hv hlow => ?otEnd⟩
  case ov =>
    dsimp only [exec, execOvTrip]
    exact ⟨_, gated_pos _ _ _ _ (by simp [hup, hps, hk, hov]), ovTrip_loop n (s.atTime t)⟩
  case uv =>
    dsimp only [exec, execUv]
    refine ⟨_, gated_pos _ _ _ _ (by obtain h | h := hst <;> simp [hup, h, hr, hf, hd]), ?_⟩
    rw [loop_raiseFault, loop_updPrt]
    exact ⟨rfl, rfl⟩
  case octotal =>
    dsimp only [exec, execOcTotal]
    refine ⟨_, gated_pos _ _ _ _ (by simp [hup, hst, hr, hf, hd]), ?_⟩
    rw [loop_raiseFault, loop_updPrt]
    exact ⟨rfl, rfl⟩
  case ocp =>
    have keeps {α : Type} (f : PhaseState → α) (hf : ∀ e p, f (pulseEnd e false true p) = f p) :
        f ((s.atTime t).phase m) = f (s.phase m) := phase_atTime_keeps f hf s t m
    have hrun : ((s.atTime t).phase m).ocpRun = (s.phase m).ocpRun := keeps _ fun _ _ => rfl
    have hcycle : ((s.atTime t).phase m).ocpTrip = false := (keeps PhaseState.ocpTrip fun _ _ => rfl).trans htrip
    have hn' : (s.atTime t).swLoop m = some n := hn
    dsimp only [exec, execOcpTrip]
    refine ⟨_, gated_pos _ _ _ _ (by simp [hn, Option.isSome_iff_ne_none, hon, lastOn_atTime, hd]), ?_⟩
    simp only [hn']
    rw [ocpTrip_phase hcycle, ocpTrip_raised hcycle hk, hrun]
    exact ⟨rfl, rfl, rfl, rfl, rfl⟩
  case neg =>
    have keeps {α : Type} (f : PhaseState → α) (hf : ∀ e p, f (pulseEnd e false true p) = f p) :
        f ((s.atTime t).phase m) = f (s.phase m) := phase_atTime_keeps f hf s t m
    have hrun : ((s.atTime t).phase m).negRun = (s.phase m).negRun := keeps _ fun _ _ => rfl
    have hcycle : ((s.atTime t).phase m).negTrip = false := (keeps PhaseState.negTrip fun _ _ => rfl).trans htrip
    have hccm : ((s.atTime t).phase m).de = false := (keeps PhaseState.de fun _ _ => rfl).trans hde
    have hn' : (s.atTime t).swLoop m = some n := hn
    dsimp only [exec, execNegTrip]
    refine ⟨_, gated_pos _ _ _ _ (by simp [hn, hk, hccm, hlow, hoff, hcycle, hng, hd]), ?_⟩
    simp only [hn']
    rw [negTrip_phase, negTrip_raised, hrun]
    exact ⟨rfl, rfl, rfl, rfl⟩
  case vinUv =>
    dsimp only [exec, execVinUv]
    have hv' : ((s.atTime t).vinOf n).isSome = true := Option.isSome_iff_ne_none.mpr hv
    refine ⟨_, gated_pos _ _ _ _ (by simp [hup, hen, hc, hf, hd, hv']), ?_⟩
    rw [vinArmed_updPrt, vinArmed_atTime, if_pos harm, loop_raiseFault, loop_updPrt]
    exact ⟨rfl, rfl⟩
  case vinOv =>
    dsimp only [exec, execVinOv]
    have hv' : ((s.atTime t).vinOf n).isSome = true := Option.isSome_iff_ne_none.mpr hv
    refine ⟨_, gated_pos _ _ _ _ (by simp [hup, hen, hc, hf, hd, hv']), ?_⟩
    rw [vinArmed_updPrt, vinArmed_atTime, if_pos harm, loop_raiseFault, loop_updPrt]
    exact ⟨rfl, rfl⟩
  case otOnset =>
    have hc' : s.prot.ot[k.val].cond = false := hc
    dsimp only [exec, execOtOnset]
    exact ⟨_, gated_pos _ _ _ _ (by simp [hup, hc', hv, hlim]), otOnset_onset k (s.atTime t)⟩
  case otEnd =>
    have hc' : s.prot.ot[k.val].cond = true := hc
    dsimp only [exec, execOtEnd]
    refine ⟨_, gated_pos _ _ _ _ (by simp [hup, hc', hv, hlow]), ?_, phasesReturn_removed _ _⟩
    rw [prot_of_mask (phasesReturn_mask _ _ _ _ rfl)]
    simp [otPut]

end Sys2Proof.Machine

end

section
/-! PROOFS. A FAULT_IN that ends a device's last running loop, and a KILL_N that ends an attempt of LP15; O38 and O56 refuted. -/

namespace Sys2Proof.Machine
open Sys2Proof

/-! ### FAULT_IN -/

/-- A device in RUN of which LP0 alone regulates, and FIN_MASK names LP0. -/
def finStopsLast : State :=
  let s : State := { State.reset with par := { State.reset.par with inUse := [(0x0202, 1)] } }
  (s.updPower fun p => { p with g := .run, vaux := true }).updSp 0 fun p => { p with st := .regulate }

theorem finStopsLast_g : (faultInSeen (finStopsLast.atTime 0)).power.g = .ready := by decide

/-- Refutes O38: FAULT_IN turns off the loops of FIN_MASK (R370), and where the last loop goes OFF the device settles from RUN to
READY (R41); the clause of FAULT_IN has the whole power state unchanged. -/
theorem not_faultActionCommands : ¬ Obligations.FaultActionCommands := by
  unfold Obligations.FaultActionCommands
  rintro ⟨-, -, -, -, -, -, faultIn, -⟩
  obtain ⟨u, hu, -, -, -, hp⟩ := faultIn finStopsLast 0 rfl rfl rfl rfl
  have e : exec (.faultIn 0) finStopsLast = .next (faultInSeen (finStopsLast.atTime 0)) :=
    gated_pos 0 (fun s => s.power.vaux && s.prot.fltDrive.isNone && !s.prot.finOnset) faultInSeen _ rfl
  have hg := finStopsLast_g
  rw [← answer_unique hu e, hp] at hg
  cases hg

/-! ### KILL_N during an attempt -/

/-- An attempt of LP15 runs while KV holds 0b11, which takes no self-bias, and LP15 is LATCHED. -/
def latchedAttempt : State :=
  (State.reset.updPower fun p => { p with kv := some 3, vaux := true, attempt := some 0 }).updSp 15 fun p => { p with st := .latched }

theorem latchedAttempt_st : (killFall (latchedAttempt.atTime 0)).st 15 = .off := by decide

/-- Refutes O56: a fall of KILL_N ends an attempt that runs and puts LP15 OFF (R29). For LP15 the clause of KILL_N asks for no
self-bias, but the model tests the attempt on its own, and the clause speaks of every state, one with both among them. -/
theorem not_latchedLoop : ¬ Obligations.LatchedLoop := by
  unfold Obligations.LatchedLoop
  rintro ⟨-, -, -, kill, -, -⟩
  obtain ⟨u, hu, hst⟩ := kill latchedAttempt 0 15 rfl (.inr rfl)
  have e : exec (.killNFall 0) latchedAttempt = .next (killFall (latchedAttempt.atTime 0)) :=
    gated_pos 0 (fun s => s.power.killN) killFall _ rfl
  rw [answer_unique hu e, latchedAttempt_st] at hst
  cases hst

end Sys2Proof.Machine

end

section
/- PROOFS. A step, and the frame of every command; O1, O2 and O6. -/

namespace Sys2Proof.Machine
open Sys2Proof

set_option tactic.hygienic false

/-- Settles O1: the queue's front is the command that a step runs. -/
theorem stepRunsFrontCommand : Obligations.StepRunsFrontCommand := by
  unfold Obligations.StepRunsFrontCommand
  exact fun c rest s => rfl

/-- Settles O2, by the shape of a step on an empty queue. -/
theorem emptyQueueIdles : Obligations.EmptyQueueIdles := by
  unfold Obligations.EmptyQueueIdles
  intro s h
  rw [step, h]

/-- Settles O6: each command's case of the frame is in `exec_mask`. -/
theorem commandFrame : Obligations.CommandFrame := by
  unfold Obligations.CommandFrame
  exact exec_mask

end Sys2Proof.Machine

end

section
/- PROOFS. A row with its condition met, and the settling of W_LEASH_STAT. -/

namespace Sys2Proof.Machine
open Sys2Proof

set_option tactic.hygienic false

/- A gated row answers its effect where its condition holds. -/
theorem gated_next {t : Nat} {g : State → Bool} {f : State → State} {s : State} {Q : State → Prop} (hg : g (s.atTime t) = true)
    (hQ : Q (f (s.atTime t))) : ∃ u, gated t g f s = .next u ∧ Q u := ⟨_, gated_pos t g f s hg, hQ⟩

/- A window write answers its effect where the window is open and its condition holds. -/
theorem strobed_next {t : Nat} {g : State → Bool} {f : State → State} {s : State} {Q : State → Prop} (hw : s.window = true)
    (hg : g (s.atStrobe t) = true) (hQ : Q (f (s.atStrobe t))) : ∃ u, strobed t g f s = .next u ∧ Q u := ⟨_, strobed_pos t g f s hw hg, hQ⟩

/- A property of what a row does and of the mere passing of time holds of its answer. -/
theorem gated_holds {t : Nat} {g : State → Bool} {f : State → State} {s : State} {Q : State → Prop} (hf : Q (f (s.atTime t))) (hidle : Q (s.atTime t)) :
    ∀ u, gated t g f s = .next u → Q u := fun u h => by
  cases h
  exact iteInduction (fun _x => hf) fun _x => hidle

/- Two conditions of a row. -/
theorem both {a b : Bool} (ha : a = true) (hb : b = true) : (a && b) = true := Bool.and_eq_true_iff.mpr ⟨ha, hb⟩

/- Two equations that hold by definition. -/
theorem rfl₂ {α β : Type} {a : α} {b : β} : a = a ∧ b = b := ⟨rfl, rfl⟩

/- Three equations that hold by definition. -/
theorem rfl₃ {α β γ : Type} {a : α} {b : β} {c : γ} : a = a ∧ b = b ∧ c = c := ⟨rfl, rfl₂⟩

/- Four equations that hold by definition. -/
theorem rfl₄ {α β γ δ : Type} {a : α} {b : β} {c : γ} {d : δ} : a = a ∧ b = b ∧ c = c ∧ d = d := ⟨rfl, rfl₃⟩

/- The settling of W_LEASH_STAT changes W_IRQ and the peers alone. -/
theorem withStat_settles (m : Part → Bool) (f : State → State) (s : State) (h_irq : m .irq = true) (h_peers : m .peers = true) :
    (withStat f s).mask m = (f s).mask m := by
  have ht := rosterSettle_mask m (f s) h_irq h_peers
  delta withStat
  dsimp only
  split
  · exact ht
  · exact (State.irq_mask m _ 4 h_irq).trans ht

end Sys2Proof.Machine
end

section
/- PROOFS. Chew's arming: O50. -/

namespace Sys2Proof.Machine
open Sys2Proof

set_option tactic.hygienic false

/- ARM that may act starts a run (R526). -/
theorem chewArm_arms {s : State} (h : s.mayArm = true) : (chewArm s).chw.armed = true ∧ (chewArm s).chw.refused = false ∧
    (chewArm s).chw.arms = inc8 s.chw.arms ∧ (chewArm s).chw.armAt = s.now ∧ (chewArm s).chw.left = (s.chwW 2).toNat ∧ (chewArm s).chw.count = 0 := by
  rw [(congrArg State.chw (if_pos h)).trans (chw_of_mask (State.event_mask _ _ _ _ _ _ rfl)) |> fun e => (e : (chewArm s).chw = _)]
  exact ⟨rfl, rfl, rfl, rfl, rfl, rfl⟩

/- A disarm that is no full reset ends the run with its cause, and a simulated line, and logs it; what was held is released (R527, R532). -/
theorem chewDisarm_logged {s : State} (ha : s.chw.armed = true) {cause : Nat} (hc : cause ≠ 7) : ∃ y : State, ∃ v,
    (y.chw.armed = false ∧ y.chw.cause = cause ∧ y.fch.simLine = none) ∧ chewDisarm cause s = releaseAll s.chw.held (y.event 0x17 none v 0) :=
  ⟨_, _, rfl₃, (if_pos ha).trans (congrArg _ (if_neg hc))⟩

/- With nothing held nothing else follows. -/
theorem chewDisarm_ends {s : State} (ha : s.chw.armed = true) (hh : s.chw.held = []) {cause : Nat} (hc : cause ≠ 7) :
    (chewDisarm cause s).chw.armed = false ∧ (chewDisarm cause s).chw.cause = cause ∧ (chewDisarm cause s).fch.simLine = none := by
  obtain ⟨y, v, hy, e⟩ := chewDisarm_logged ha hc
  have hz : chewDisarm cause s = y.event 0x17 none v 0 := e.trans (congrArg (fun l => releaseAll l _) hh)
  have hchw : (chewDisarm cause s).chw = y.chw := (congrArg State.chw hz).trans (chw_of_mask (State.event_mask _ y _ _ _ _ rfl))
  have hfch : (chewDisarm cause s).fch = y.fch := (congrArg State.fch hz).trans (fch_of_mask (State.event_mask _ y _ _ _ _ rfl))
  exact ⟨(congrArg Chw.armed hchw).trans hy.1, (congrArg Chw.cause hchw).trans hy.2.1, (congrArg Fch.simLine hfch).trans hy.2.2⟩

/- The settling of W_LEASH_STAT leaves a disarm as it is. -/
theorem withStat_disarm {c : Nat} {s : State} (h : (chewDisarm c s).chw.armed = false ∧ (chewDisarm c s).chw.cause = c ∧ (chewDisarm c s).fch.simLine = none) :
    (withStat (chewDisarm c) s).chw.armed = false ∧ (withStat (chewDisarm c) s).chw.cause = c ∧ (withStat (chewDisarm c) s).fch.simLine = none := by
  rw [chw_of_mask (withStat_settles _ _ s rfl rfl), fch_of_mask (withStat_settles _ _ s rfl rfl)]
  exact h

/-- Settles O50. -/
theorem chewCommands : Obligations.ChewCommands := by
  unfold Obligations.ChewCommands
  refine ⟨fun s t hw hmay => ?arm, fun s t hw hmay => ?refused, fun s t hw ha hh => ?stop, fun s t ha hlife hh => ?life⟩
  case arm =>
    refine (strobed_next hw rfl ?_ : ∃ u, execArm t s = .next u ∧ _)
    exact chewArm_arms (s := s.atStrobe t) hmay
  case refused =>
    refine (strobed_next hw rfl ?_ : ∃ u, execArm t s = .next u ∧ _)
    exact if_neg (Bool.eq_false_iff.mp hmay)
  case stop =>
    refine (strobed_next hw rfl ?_ : ∃ u, execStop t s = .next u ∧ _)
    exact withStat_disarm (chewDisarm_ends (s := s.atStrobe t) ha hh (by decide))
  case life =>
    refine (gated_next (both ha (decide_eq_true hlife)) ?_ : ∃ u, execChewLifeExpire t s = .next u ∧ _)
    exact withStat_disarm (chewDisarm_ends (s := s.atTime t) ha hh (by decide))

end Sys2Proof.Machine
end

section
/- PROOFS. The challenges of the own position: O43. -/

namespace Sys2Proof.Machine
open Sys2Proof

set_option tactic.hygienic false

/- A linked device that heard its own slot, with a challenge of its own position whose answer is due for verification. -/
noncomputable def ownChallenge : State :=
  let s := { State.reset.updPower (fun p => { p with g := .ready }) with lsh := { State.reset.lsh with link := .follow, own := [true] } }
  s.updPeer s.own fun q => { q with chal := some { verify := some 0 } }

/- VERIFIED of a position in the answered state. -/
noncomputable def verifiedAfter (p : Fin 8) : Ans → Option Bool
  | .next u => some (u.peer p).verified
  | .fault _ => none
  | .refused _ => none

theorem ownChallenge_ready : ownChallenge.signReady (.verify 0) = true := by decide

/- Its certificate has no key, so the verification fails. -/
theorem ownChallenge_noKey : certKey Config.caKey Config.deviceCert (ownChallenge.peer 0).cert = none := by decide

set_option maxRecDepth 2000 in
/- The roster marks the own position VERIFIED again: its plan entry takes any device (R414). -/
theorem ownChallenge_verified : verifiedAfter 0 (exec (.challengeVerified 5 0) ownChallenge) = some true := by decide

/-- Refutes O43: a failed verification of the own position leaves it VERIFIED, since the roster's settling verifies the own position
by the wiring plan alone. -/
theorem not_challengeCommands : ¬ Obligations.ChallengeCommands := by
  unfold Obligations.ChallengeCommands
  intro h
  have hverify := h.2.1 ownChallenge 5 0 { verify := some 0 } rfl (by decide) (Option.some_ne_none _) ownChallenge_ready
  rw [ownChallenge_noKey] at hverify
  refine hverify.elim fun u hu => ?_
  have hset : some (u.peer 0).verified = some true := (congrArg (verifiedAfter 0) hu.1).symm.trans ownChallenge_verified
  exact Bool.eq_false_iff.mp (hu.2.2.2 rfl).2 (Option.some.inj hset)

end Sys2Proof.Machine
end

section
/- PROOFS. A manual trigger between two ticks of the device time: O48 and O60. -/

namespace Sys2Proof.Machine
open Sys2Proof

set_option tactic.hygienic false

/- A read-only peer whose template 0 holds one sample, numbered half the range of the device time ahead of the present tick. -/
noncomputable def aheadSample : State :=
  { State.reset.updPower (fun p => { p with g := .ready, vddioH := true }) with
    par := { State.reset.par with inUse := [(0x3023, 1)] }
    crb := { State.reset.crb with tpls := State.reset.crb.tpls.set 0 { slot := some 0, sampleAt := some (2 ^ 31), hist := [[]] } } }

theorem aheadSample_readOnly : (aheadSample.atTime 1).readOnly = true := by decide

/- Seen from the present tick no sample is held. -/
theorem aheadSample_none : (aheadSample.atTime 1).heldSince 0 (aheadSample.atTime 1).devTime = 0 := by decide

/- The trigger falls between two ticks and counts from the next one, from which the sample is held: the slot becomes POST at once. -/
theorem aheadSample_post : ((crumbTrigger 0 (aheadSample.atStrobe 1)).tpl 0).post = true := by decide

/- The trigger does not wait for a sample. -/
theorem aheadSample_trigger : ¬ ∃ u, exec (.trigger 1 0) aheadSample = .next u ∧
    u.tpl 0 = { aheadSample.tpl 0 with trigPend := some (2, 0, 0) } := by
  rintro ⟨u, hu, htpl⟩
  have hrow : exec (.trigger 1 0) aheadSample = .next (crumbTrigger 0 (aheadSample.atStrobe 1)) :=
    strobed_pos 1 State.up (crumbTrigger 0) aheadSample (by decide) (by decide)
  have hpost := aheadSample_post
  rw [← answer_unique hu hrow, htpl] at hpost
  cases hpost

/-- Refutes O48: no sample is held at or after the present device time, yet a trigger after that tick finds one from the next tick on. -/
theorem not_recorderCommands : ¬ Obligations.RecorderCommands := by
  unfold Obligations.RecorderCommands
  intro h
  obtain ⟨_, _, _, htrigger, _⟩ := h
  exact aheadSample_trigger (htrigger aheadSample 1 0 0 (by decide) (by decide) rfl rfl rfl rfl aheadSample_none)

/-- Refutes O60: the same trigger on a read-only peer. -/
theorem not_readOnlyRecorder : ¬ Obligations.ReadOnlyRecorder := by
  unfold Obligations.ReadOnlyRecorder
  intro h
  obtain ⟨_, _, _, htrigger, _⟩ := h
  exact aheadSample_trigger (htrigger aheadSample 1 0 0 (by decide) (by decide) aheadSample_readOnly rfl rfl rfl rfl aheadSample_none)
end Sys2Proof.Machine
end

section
/- PROOFS. The token counter: O10. -/

namespace Sys2Proof.Machine
open Sys2Proof

set_option tactic.hygienic false

/- A byte string as a number lies below the power of its length. -/
theorem leNat_lt (l : List Byte) : leNat l < 256 ^ l.length := by
  induction l with
  | nil => exact Nat.one_pos
  | cons b r ih => exact calc
    b.toNat + 256 * leNat r < 256 + 256 * leNat r := Nat.add_lt_add_right b.isLt _
    _ = 256 * (leNat r + 1) := Nat.add_comm _ _
    _ ≤ 256 * 256 ^ r.length := Nat.mul_le_mul_left 256 ih
    _ = 256 ^ (r.length + 1) := Nat.pow_succ'.symm

/- COUNTER is a 32-bit word. -/
theorem tokenCount_lt (b : List Byte) : tokenCount b < 2 ^ 32 :=
  calc tokenCount b < 256 ^ ((b.drop 16).take 4).length := leNat_lt _
    _ ≤ 256 ^ 4 := Nat.pow_le_pow_right (Nat.succ_pos 255) (List.length_take_le 4 _)

theorem ite_ne_zero {c : Prop} [inst : Decidable c] {a b : Nat} (ha : a ≠ 0) (hb : b ≠ 0) : (if c then a else b) ≠ 0 :=
  iteInduction (motive := fun n : Nat => n ≠ 0) (fun _x => ha) fun _x => hb

/- At its maximum no token's COUNTER is above the counter. -/
theorem tokenCheck_full {s : State} (h : s.idn.tokCnt = 0xFFFFFFFF) (excess : Bool) (b : List Byte) : s.tokenCheck excess b ≠ 0 := by
  have hle : tokenCount b ≤ s.idn.tokCnt := (Nat.le_of_lt_succ (tokenCount_lt b)).trans (Nat.le_of_eq h.symm)
  refine ite_ne_zero (Nat.succ_ne_zero 0) ?_
  generalize s.opKey = o
  cases o with
  | none => exact Nat.succ_ne_zero 4
  | some q => exact ite_ne_zero (Nat.succ_ne_zero 1) (Eq.trans_ne (if_pos hle) (Nat.succ_ne_zero 2))

/- IDN.TOKCNT_L and TOKCNT_H show a 32-bit counter whole. -/
theorem tokCnt_shown {s : State} (h : s.idn.tokCnt < 2 ^ 32) :
    (s.idnView 0x0A).toNat + 65536 * (s.idnView 0x0B).toNat = s.idn.tokCnt := by
  have hh : (s.idnView 0x0B).toNat = s.idn.tokCnt / 65536 := Nat.mod_eq_of_lt (Nat.div_lt_of_lt_mul h)
  rw [hh]
  exact Nat.mod_add_div _ _

/- What a command leaves of the counter is what stood there or some token's COUNTER. -/
def State.tokKeeps (s u : State) : Prop := u.idn.tokCnt = s.idn.tokCnt ∨ ∃ b, u.idn.tokCnt = tokenCount b

theorem tokKeeps_ite {c : Prop} [inst : Decidable c] {s a b : State} (ha : s.tokKeeps a) (hb : s.tokKeeps b) : s.tokKeeps (if c then a else b) :=
  iteInduction (fun _x => ha) fun _x => hb

theorem tokKeeps_tokenAccept (b : List Byte) (s : State) : s.tokKeeps (tokenAccept b s) :=
  tokKeeps_ite (tokKeeps_ite (.inr ⟨b, rfl⟩) (.inr ⟨b, rfl⟩)) (.inr ⟨b, rfl⟩)

theorem tokKeeps_tokenResult (r : Nat) (s : State) : s.tokKeeps (tokenResult r s) := .inl rfl

theorem tokKeeps_filled (b : List Byte) (s : State) : s.tokKeeps (tokenResult 0 (fillOut b s)) := .inl rfl

theorem tokKeeps_tokenOutcome (c : IdnCmd) (s : State) : s.tokKeeps (tokenOutcome c s) := by
  cases c with
  | submit => exact tokKeeps_ite (tokKeeps_tokenAccept _ s) (tokKeeps_tokenResult _ s)
  | attest =>
    exact tokKeeps_ite (tokKeeps_tokenResult 1 s) (tokKeeps_ite (tokKeeps_filled _ s) (tokKeeps_tokenResult 7 s))
  | readCert => exact tokKeeps_filled _ s
  | install =>
    exact tokKeeps_ite (tokKeeps_tokenResult 1 s) (tokKeeps_ite (tokKeeps_tokenResult 6 s) (tokKeeps_ite (.inl rfl) (tokKeeps_tokenResult 7 s)))
  | readOpk =>
    delta tokenOutcome
    dsimp only
    generalize s.opKey = o
    cases o with
    | none => exact tokKeeps_tokenResult 5 s
    | some q => exact tokKeeps_filled _ s

theorem tokKeeps_tokenDone (s : State) : s.tokKeeps (tokenDone s) := by
  delta tokenDone
  generalize s.idn.busy = o
  cases o with
  | none => exact .inl rfl
  | some c => exact tokKeeps_ite (tokKeeps_tokenResult _ s) (tokKeeps_tokenOutcome c s)

/- What leaves the engine before a work leaves the counter. -/
theorem tokKeeps_signDone (w : SignWork) {f : State → State} (hf : ∀ s, State.tokKeeps s (f s)) (s : State) : s.tokKeeps (signDone w f s) :=
  (hf (signAhead w s)).imp_left fun h => h.trans (tokCnt_of_mask (signAhead_mask _ w s rfl rfl))

theorem tokCnt_updPower_ite (c : Prop) [inst : Decidable c] (a : State) (f : Power → Power) : (if c then a else a.updPower f).idn.tokCnt = a.idn.tokCnt :=
  iteInduction (motive := fun u : State => u.idn.tokCnt = a.idn.tokCnt) (fun _x => rfl) fun _x => rfl

/- A loss of VAUX cuts the counter's write, and keeps it else. -/
theorem tokCnt_vauxLoss (above : Bool) (s : State) : (vauxLoss above s).idn.tokCnt = (tokenCut s).idn.tokCnt := by
  have hrun (x : State) : (resetLoops false (resetUnits x.freeWord.2)).idn.tokCnt = x.idn.tokCnt :=
    congrArg Core.tokCnt ((resetLoops_core false _).trans ((resetUnits_core _).trans (freeWord_core x)))
  have hram (x : State) : (freeWords 16 (ramLose (nvmLoss (bootCut x)))).2.idn.tokCnt = x.idn.tokCnt :=
    (congrArg Core.tokCnt (freeWords_core 16 _)).trans ((tokCnt_of_mask (ramLose_mask _ _ rfl rfl)).trans
      ((congrArg Core.tokCnt (nvmLoss_core _)).trans (tokCnt_of_mask (bootCut_mask _ x rfl rfl rfl))))
  exact (tokCnt_updPower_ite _ _ _).trans ((hrun _).trans (hram (tokenCut s)))

theorem tokKeeps_vauxLoss (above : Bool) (s : State) : s.tokKeeps (vauxLoss above s) := by
  have hcut : s.tokKeeps (tokenCut s) := tokKeeps_ite (tokKeeps_ite (.inr ⟨_, rfl⟩) (.inl rfl)) (.inl rfl)
  unfold State.tokKeeps
  rw [tokCnt_vauxLoss]
  exact hcut

/- Every command keeps the counter below 2^32. -/
theorem tokKeeps_exec {i : Instr} {s u : State} (h : exec i s = .next u) : s.tokKeeps u := by
  cases hc : mayChange i .tokCnt with
  | false => exact .inl ((tokCnt_of_mask (exec_but hc h)).trans rfl)
  | true =>
    obtain ⟨t, rfl⟩ | ⟨t, b, rfl⟩ := mayChange_tokCnt hc
    · exact (Host.Outcome.next.inj h : _ = u) ▸ tokKeeps_ite (tokKeeps_ite (tokKeeps_tokenDone (s.atTime t)) (tokKeeps_signDone .token tokKeeps_tokenDone (s.atTime t))) (.inl rfl)
    · exact (Host.Outcome.next.inj h : _ = u) ▸ tokKeeps_ite (tokKeeps_vauxLoss b (s.atTime t)) (.inl rfl)

/-- Settles O10. -/
theorem tokenCounterLimit : Obligations.TokenCounterLimit := by
  unfold Obligations.TokenCounterLimit
  refine ⟨fun i s u h hlt => ⟨(exec_core_le h).tok, ?_⟩, fun s h => tokCnt_shown h, rfl, fun s excess b h => tokenCheck_full h excess b⟩
  obtain e | ⟨b, e⟩ := tokKeeps_exec h
  · exact e.trans_lt hlt
  · exact e.trans_lt (tokenCount_lt b)

end Sys2Proof.Machine
end

section
/- PROOFS. The identity unit's commands, their end and the ports: O49. -/

namespace Sys2Proof.Machine
open Sys2Proof

set_option tactic.hygienic false

/- ### The work of the engine (R503, R511) -/

/- No work of the list is a token's. -/
def NoToken (l : List Waiting) : Prop := (l.any fun w => decide (w.work = .token)) = false

theorem NoToken.append {l m : List Waiting} (hl : NoToken l) (hm : NoToken m) : NoToken (l ++ m) :=
  List.any_append.trans (Bool.or_eq_false_iff.mpr ⟨hl, hm⟩)

theorem NoToken.ite {c : Prop} [inst : Decidable c] {l m : List Waiting} (hl : c → NoToken l) (hm : NoToken m) : NoToken (if c then l else m) :=
  iteInduction hl fun _x => hm

theorem NoToken.filterMap {n : Nat} {f : Fin n → Option Waiting} (hf : ∀ a, (f a).any (fun w => decide (w.work = .token)) = false) (l : List (Fin n)) :
    NoToken (l.filterMap f) := by
  induction l with
  | nil => rfl
  | cons a l ih =>
    have h := hf a
    rw [List.filterMap_cons]
    generalize f a = o at h
    cases o with
    | none => exact ih
    | some w => exact Bool.or_eq_false_iff.mpr ⟨h, ih⟩

/- Only a SUBMIT or an ATTEST that was not refused at its strobe waits for the engine as a token. -/
theorem tokenServed_of {s : State} (h : s.idn.early ≠ 0 ∨ (s.idn.busy ≠ some .submit ∧ s.idn.busy ≠ some .attest)) : s.tokenServed = true := by
  refine congrArg not (.append (.append (.append (.append (.ite (fun _x => rfl) rfl) (.filterMap (fun p => ?_) _)) ?_)
    (.ite (fun hwait => ?_) rfl)) (.filterMap (fun i => iteInduction (motive := fun o : Option Waiting => o.any _ = false) (fun _x => rfl) fun _x => rfl) _) : NoToken s.signWork)
  · generalize s.peers.pos[p].chal = o
    cases o with
    | none => rfl
    | some c =>
      show (c.verify.map (leashWork (.verify p))).any _ = false
      generalize c.verify = o
      cases o with
      | none => rfl
      | some a => rfl
  · generalize s.peers.answers = o
    cases o with
    | nil => rfl
    | cons a r => exact .ite (fun _x => rfl) rfl
  · have hearly := Bool.and_eq_true_iff.mp (Bool.and_eq_true_iff.mp hwait).1
    exact h.elim (fun h => absurd (of_decide_eq_true hearly.2) h) fun h => (Bool.or_eq_true_iff.mp hearly.1).elim
      (fun k => absurd (of_decide_eq_true k) h.1) fun k => absurd (of_decide_eq_true k) h.2

/- ### The end of a command (R509) -/

/- A command that needs nothing of the engine, or is refused, completes by itself. -/
theorem tokenDone_next {s : State} {t : Nat} {c : IdnCmd} (hup : s.up = true) (hc : s.idn.busy = some c)
    (hb : c ≠ .attest ∨ s.busy = false) (h : s.idn.early ≠ 0 ∨ (c ≠ .submit ∧ c ≠ .attest)) :
    execTokenCommandDone t s = .next (tokenDone (s.atTime t)) := by
  have hserved : (s.atTime t).tokenServed = true :=
    tokenServed_of (h.imp_right fun h => ⟨fun k => h.1 (Option.some.inj (hc.symm.trans k)), fun k => h.2 (Option.some.inj (hc.symm.trans k))⟩)
  have hfree : (decide ((s.atTime t).idn.busy = some .attest) && (s.atTime t).busy) = false :=
    Bool.and_eq_false_iff.mpr (hb.imp_left fun h => decide_eq_false fun k => h (Option.some.inj (hc.symm.trans k)))
  exact (gated_pos t _ _ s (both (both (both hup (congrArg Option.isSome hc)) (congrArg not hfree)) (Bool.or_eq_true_iff.mpr (.inl hserved)))).trans
    (congrArg Host.Outcome.next (if_pos hserved))

theorem tokenDone_early {s : State} {c : IdnCmd} (hc : s.idn.busy = some c) (h : s.idn.early ≠ 0) : tokenDone s = tokenResult s.idn.early s := by
  delta tokenDone
  rw [hc]
  exact if_pos h

theorem tokenDone_run {s : State} {c : IdnCmd} (hc : s.idn.busy = some c) (h : s.idn.early = 0) : tokenDone s = tokenOutcome c s := by
  delta tokenDone
  rw [hc]
  exact if_neg fun hn => hn h

theorem work_whole {s : State} (h : s.idn.work.length = 64) : ¬ (decide (256 < s.idn.work.length) || decide (s.idn.work.length < 64)) = true := by
  rw [h]
  decide

/- A completion sets W_IRQ.TOKEN. -/
theorem irq_tokenResult (r : Nat) (s : State) : bitAt (tokenResult r s).win.irq 8 = true := bitAt_setBit_self (by decide)

/- INSTALL of a whole key on the curve stores the first operator key. -/
theorem install_first {s : State} (hlen : s.idn.work.length = 64) (hopk : s.idn.opk = []) (hcurve : onCurve (keyOf s.idn.work) = true) :
    tokenOutcome .install s = tokenResult 0 (s.updIdn fun i => { i with opk := [keyOf s.idn.work] }) :=
  (if_neg (work_whole hlen)).trans ((if_neg fun h => h hopk).trans (if_pos hcurve))

/- A second key is refused. -/
theorem install_second {s : State} (hlen : s.idn.work.length = 64) (hopk : s.idn.opk ≠ []) : tokenOutcome .install s = tokenResult 6 s :=
  (if_neg (work_whole hlen)).trans (if_pos hopk)

/- DROP ends the unlock where the device is no read-only peer. -/
theorem tokenDrop_done {s : State} (h : s.readOnly = false) : (tokenDrop s).idn.unlock = none ∧ (tokenDrop s).idn.unlockPend = none ∧
    (tokenDrop s).idn.lastCmd = 6 ∧ (tokenDrop s).idn.result = 0 ∧ (tokenDrop s).win.irq = setBit s.win.irq 8 := by
  have e : tokenDrop s = _ := if_neg (Bool.eq_false_iff.mp h)
  rw [e]
  exact ⟨rfl, rfl, rfl, rfl, rfl⟩

/-- Settles O49: the rows of the commands, and their effects by the model's definitions. -/
theorem tokenCommands : Obligations.TokenCommands := by
  unfold Obligations.TokenCommands
  have free {s : State} {t : Nat} (h : s.idn.busy = none) : (s.atStrobe t).tokenIdle = true := Option.isNone_iff_eq_none.mpr h
  have whole {b : Bool} {l m : List Byte} (h : b = false) : (if b then l else m) = m := if_neg (Bool.eq_false_iff.mp h)
  refine ⟨fun s t hw hidle => ⟨_, (strobed_pos t _ _ s hw (free hidle) : execClearIn t s = _), rfl⟩,
    fun s t hw hidle hex => (strobed_next hw (free hidle) ⟨rfl, whole hex, rfl₂⟩ : ∃ u, execSubmit t s = .next u ∧ _),
    fun s t hw hidle hex => (strobed_next hw (free hidle) ⟨rfl, whole hex, rfl⟩ : ∃ u, execAttest t s = .next u ∧ _),
    fun s t hw hidle => (strobed_next hw (free hidle) rfl₃ : ∃ u, execReadCert t s = .next u ∧ _),
    fun s t hw hidle hex => (strobed_next hw (free hidle) ⟨rfl, whole hex, rfl₂⟩ : ∃ u, execInstall t s = .next u ∧ _),
    fun s t hw hidle => (strobed_next hw (free hidle) rfl₃ : ∃ u, execReadOpk t s = .next u ∧ _),
    fun s t hup hc hearly hlen hopk hcurve => ?first, fun s t hup hc hearly hlen hopk => ?second,
    fun s t c hup hc hearly hb _x => ?bad, fun s t hup hc hearly => ?cert,
    fun s t hw hidle hro => (strobed_next hw (free hidle) (tokenDrop_done (s := s.atStrobe t) hro) : ∃ u, execDrop t s = .next u ∧ _),
    fun s t hw hidle => ⟨_, (strobed_pos t _ _ s hw (free hidle) : execRewind t s = _), rfl⟩,
    fun s t w hw => (strobed_next hw rfl ⟨rfl, ?write, rfl⟩ : ∃ u, execTokenPortWrite t w s = .next u ∧ _),
    fun s t hw => ⟨_, slotRead_open (f := portRead) hw, rfl⟩,
    fun s t hsome hnone => ⟨_, (gated_pos t _ _ s
      (both (Option.isSome_iff_ne_none.mpr hsome) (Option.isNone_iff_eq_none.mpr hnone)) : execUnlockExpire t s = _), rfl⟩,
    fun s t hup => ⟨_, (gated_pos t _ _ s (Bool.or_eq_true_iff.mpr (.inl hup)) : execRngTestFail t s = _), rfl⟩,
    fun s t hrng hreqs => ⟨_, (gated_pos t _ _ s (both hrng (decide_eq_true hreqs)) : execDrbgReseed t s = _), rfl⟩⟩
  case first =>
    refine ⟨_, (tokenDone_next hup hc (.inl IdnCmd.noConfusion) (.inr ⟨IdnCmd.noConfusion, IdnCmd.noConfusion⟩)).trans (congrArg Host.Outcome.next
      ((tokenDone_run (s := s.atTime t) hc hearly).trans (install_first (s := s.atTime t) hlen hopk hcurve))), rfl₄⟩
  case second =>
    refine ⟨_, (tokenDone_next hup hc (.inl IdnCmd.noConfusion) (.inr ⟨IdnCmd.noConfusion, IdnCmd.noConfusion⟩)).trans (congrArg Host.Outcome.next
      ((tokenDone_run (s := s.atTime t) hc hearly).trans (install_second (s := s.atTime t) hlen hopk))), rfl₃⟩
  case bad =>
    refine ⟨_, (tokenDone_next hup hc hb (.inl hearly)).trans (congrArg Host.Outcome.next (tokenDone_early (s := s.atTime t) hc hearly)),
      rfl, rfl, irq_tokenResult _ _, rfl⟩
  case cert =>
    refine ⟨_, (tokenDone_next hup hc (.inl IdnCmd.noConfusion) (.inr ⟨IdnCmd.noConfusion, IdnCmd.noConfusion⟩)).trans (congrArg Host.Outcome.next
      (tokenDone_run (s := s.atTime t) hc hearly)), rfl, rfl, irq_tokenResult _ _, rfl⟩
  case write => exact congrArg (fun n => s.idn.excess || decide (256 < n)) List.length_append

end Sys2Proof.Machine
end

section
/- PROOFS. The handler's lease and the wiring plan: O44. -/

namespace Sys2Proof.Machine
open Sys2Proof

set_option tactic.hygienic false

/- ### The lease (R423 to R427) -/

/- TOKEN_HOLD notes its frame and leaves the rest of the lease. -/
theorem sendHold_tok (s : State) : (sendHold s).peers.tok = { s.peers.tok with holdAt := s.lsh.frames } :=
  iteInduction (motive := fun x : State => (x.updTok fun k => { k with holdAt := x.lsh.frames }).peers.tok = { s.peers.tok with holdAt := s.lsh.frames })
    (fun _x => rfl) fun _x => rfl

theorem sendHold_cmd {s : State} (h : s.lsh.link ≠ .off) :
    ((sendHold s).lsh.cmd.getLast?.map fun m => (m.cls, m.typ, m.at_)) = some (2, 1, s.lsh.frames) := by
  refine Eq.trans (congrArg (fun x : State => x.lsh.cmd.getLast?.map fun m => (m.cls, m.typ, m.at_)) (if_neg h)) ?_
  exact congrArg (Option.map _) (pushQ_getLast? 8 { cls := 2, typ := 1, data := _, at_ := s.lsh.frames } s.lsh.cmd)

/- The lease is held by the host whose ID is stored. -/
theorem leaseHeld_storeHost {s : State} {id : Byte} (hlive : s.leaseLive = true) (hid : s.peers.tok.holder = id.toNat) :
    (storeHost id s).leaseHeld = true := both hlive (decide_eq_true hid)

/- A request of generation `gen` made at `at_` by the host `id`. -/
def Token.Asks (gen at_ : Nat) (id : Nat) (k : Token) : Prop := k.pend = true ∧ k.pendGen = gen ∧ k.pendAt = at_ ∧ k.hostId = id

theorem queueMsg_asks {c : Prop} [inst : Decidable c] {gen at_ : Nat} {id : Nat} {cls typ : Nat} {d : W32} {s : State} (h : s.peers.tok.Asks gen at_ id) :
    (if c then queueMsg cls typ d s else s).peers.tok.Asks gen at_ id :=
  iteInduction (motive := fun x : State => x.peers.tok.Asks gen at_ id) (fun _x => h) fun _x => h

/- ACQUIRE of a lease that is not live becomes a request of the next generation (R425). -/
theorem acquireLease_asks {s : State} (h : s.leaseLive = false) :
    (acquireLease s).peers.tok.Asks ((s.peers.tok.gen + 1) % 256) s.now s.peers.tok.hostId := by
  have e : acquireLease s = _ := (if_neg fun hheld => Bool.eq_false_iff.mp h (Bool.and_eq_true_iff.mp hheld).1).trans (if_neg (Bool.eq_false_iff.mp h))
  rw [e]
  exact queueMsg_asks ⟨rfl, rfl₃⟩

/- A held lease is taken again (R426). -/
theorem renewLease_takes {s : State} (h : s.leaseHeld = true) : (renewLease s).peers.tok.expiry = s.now + twDur (s.pg 0x30 0x24) ∧
    (renewLease s).peers.tok.holder = s.peers.tok.holder ∧ (renewLease s).peers.tok.gen = s.peers.tok.gen ∧ (renewLease s).peers.tok.live = true ∧
      (renewLease s).peers.tok.source = s.pos := by
  have e : (renewLease s).peers.tok = _ := (congrArg (fun x : State => x.peers.tok) (if_pos h)).trans (sendHold_tok _)
  rw [e]
  exact ⟨rfl, rfl, rfl, rfl, rfl⟩

/- A held lease ends (R426). -/
theorem releaseHeld_ends {s : State} (h : s.leaseHeld = true) : (releaseHeld s).peers.tok.live = false ∧ (releaseHeld s).peers.tok.refused = false := by
  have e : releaseHeld s = releaseLease s := if_pos h
  rw [e]
  exact ⟨rfl, rfl⟩

/- A live lease of generation `gen` held by the host `id` to `expiry`, with no request. -/
def Token.Granted (id gen expiry : Nat) (k : Token) : Prop :=
  k.holder = id ∧ k.gen = gen ∧ k.live = true ∧ k.pend = false ∧ k.expiry = expiry

/- A grant, said or not, is a live lease (R425, R427). -/
theorem granted_grantLease {c : Prop} [inst : Decidable c] (id gen : Nat) (s : State) :
    (if c then takeLease id gen s else grantLease id gen s).peers.tok.Granted id gen (s.now + twDur (s.pg 0x30 0x24)) := by
  refine iteInduction (motive := fun x : State => x.peers.tok.Granted id gen _) (fun _x => ?_) fun _x => ⟨rfl, rfl₄⟩
  exact (congrArg (Token.Granted id gen _) (sendHold_tok (grantLease id gen s))).mpr ⟨rfl, rfl₄⟩

/- The decision on an own request that is not lost (R425). -/
theorem granted_of_not {c : Prop} [inst : Decidable c] {id gen e : Nat} {a b : State} (hc : ¬ c) (hb : b.peers.tok.Granted id gen e) :
    (if c then a else b).peers.tok.Granted id gen e := (congrArg (fun x : State => x.peers.tok.Granted id gen e) (if_neg hc)).mpr hb

/- PLAN_SAVE captures the plan (R418). -/
theorem planWrite_captures {s : State} (hro : s.readOnly = false) (hbusy : s.peers.planBusy = none) : (planWrite 0x5A50 s).peers.planBusy = some s.now ∧
    ((planWrite 0x5A50 s).peers.planNew = (List.range 32).map fun k => s.pg 0x31 k) ∧ (planWrite 0x5A50 s).peers.plan = s.peers.plan := by
  delta planWrite
  rw [if_pos ⟨rfl, hro, hbusy⟩]
  exact ⟨rfl, rfl, rfl⟩

/-- Settles O44: what each lease operation leaves of the token. -/
theorem handlerCommands : Obligations.HandlerCommands := by
  unfold Obligations.HandlerCommands
  exact ⟨fun s t id hw hpend => ⟨_, (strobed_pos t _ _ s hw (congrArg not hpend) : execHandlerStore t id s = _), rfl⟩,
    fun s t id hw hopen hlive => ⟨_, (strobed_pos t _ _ s hw hopen : execAcquire t id s = _), acquireLease_asks (s := storeHost id (s.atStrobe t)) hlive⟩,
    fun s t id hw hopen hlive hid => ⟨_, (strobed_pos t _ _ s hw hopen : execRenew t id s = _),
      hid ▸ renewLease_takes (leaseHeld_storeHost (s := s.atStrobe t) hlive hid)⟩,
    fun s t id hw hopen hlive hid => ⟨_, (strobed_pos t _ _ s hw hopen : execRelease t id s = _),
      releaseHeld_ends (leaseHeld_storeHost (s := s.atStrobe t) hlive hid)⟩,
    fun s t hup hdue hlost => ⟨_, (gated_pos t _ _ s (both hup hdue) : execAcquireDecide t s = _), granted_of_not (Bool.eq_false_iff.mp hlost) (granted_grantLease _ _ (s.atTime t))⟩,
    fun s t hl hlive hsrc hhold => ⟨_, (gated_pos t _ _ s (both (both (both hl hlive) (decide_eq_true hsrc)) (decide_eq_true hhold)) : execTokenHoldSend t s = _),
      congrArg Token.holdAt (sendHold_tok _), sendHold_cmd (of_decide_eq_true (Bool.and_eq_true_iff.mp hl).2)⟩,
    fun s t hlive hexp => ⟨_, (gated_pos t _ _ s (both hlive (decide_eq_true hexp)) : execLeaseExpire t s = _), rfl⟩,
    fun s t hw hro hbusy => ⟨_, (strobed_pos t _ _ s hw rfl : execPlanSave t s = _), planWrite_captures (s := s.atStrobe t) hro hbusy⟩,
    fun s t hbusy => ⟨_, (gated_pos t _ _ s (Option.isSome_iff_ne_none.mpr hbusy) : execPlanSaveDone t true s = _), rfl, rfl, rfl, rfl⟩⟩

end Sys2Proof.Machine
end

section
/- PROOFS. An accepted message with Chew idle: it is served, and what its service wrote of the bus stays; O57 and O41. -/

namespace Sys2Proof.Machine
open Sys2Proof

set_option tactic.hygienic false

/- ### What the settling of the roster keeps (R407, R408, R416) -/

/- W_IRQ, the peers and Chew. -/
def settleMask (p : Part) : Bool := decide (p = .irq ∨ p = .peers ∨ p = .chw)

/- Between two states all stays but W_IRQ, Chew and, of the peers, the roster. -/
def Kept (x u : State) : Prop :=
  u.mask settleMask = x.mask settleMask ∧ u.peers.vals = x.peers.vals ∧ u.peers.tok = x.peers.tok ∧ u.peers.unk = x.peers.unk

namespace Kept

variable {x y u : State}

theorem refl (x : State) : Kept x x := ⟨rfl, rfl, rfl, rfl⟩

theorem trans (b : Kept y u) (a : Kept x y) : Kept x u :=
  ⟨b.1.trans a.1, b.2.1.trans a.2.1, b.2.2.1.trans a.2.2.1, b.2.2.2.trans a.2.2.2⟩

theorem ite {c : Prop} [inst : Decidable c] {a b : State} (ha : Kept x a) (hb : Kept x b) : Kept x (if c then a else b) :=
  iteInduction (fun _x => ha) fun _x => hb

theorem updPeer (s : State) (p : Fin 8) (f : Peer → Peer) : Kept s (s.updPeer p f) := ⟨rfl, rfl, rfl, rfl⟩

theorem irq (s : State) (i : Nat) : Kept s (s.irq i) := ⟨State.irq_mask _ s i rfl, rfl, rfl, rfl⟩

theorem updChw (s : State) (f : Chw → Chw) : Kept s (s.updChw f) := ⟨rfl, rfl, rfl, rfl⟩

theorem settleWiring (l : List (Fin 8)) (s : State) : Kept s (settleWiring l s) := by
  induction l generalizing s with
  | nil => exact .refl s
  | cons p l ih => exact .trans (ih _) (.ite (.updPeer s p _) (.refl s))

theorem rosterAll (l : List (Fin 8)) (s : State) : Kept s (rosterAll l s) := by
  induction l generalizing s with
  | nil => exact .refl s
  | cons p l ih =>
    exact .trans (ih _) (.trans (.ite ⟨rfl, rfl, rfl, rfl⟩ (.refl _)) (.trans (.ite (.updPeer _ p _) (.refl _)) (.updPeer s p _)))

theorem rosterSettle (s : State) : Kept s (rosterSettle s) := by
  have h : Kept s (Machine.settleWiring allPos (Machine.rosterAll allPos s)) := .trans (.settleWiring _ _) (.rosterAll _ s)
  delta Machine.rosterSettle
  generalize Machine.settleWiring allPos (Machine.rosterAll allPos s) = y at h
  exact .ite h (.trans (.irq _ 4) (.trans ⟨rfl, rfl, rfl, rfl⟩ h))

theorem withStat (f : State → State) (s : State) : Kept (f s) (withStat f s) := by
  have h := rosterSettle (f s)
  delta Machine.withStat
  generalize Machine.rosterSettle (f s) = y at h ⊢
  exact .ite h (.trans (.irq y 4) h)

end Kept

/- ### One message (R381, R410) -/

/- The services of a message, with the traffic noted before it. -/
def served (p : Fin 8) (cls typ : Nat) (d : W32) (s : State) : State :=
  service p cls typ d (noteTraffic { cls, typ, data := d, at_ := s.lsh.frames } s)

theorem chewLeash_idle {s : State} (h : s.chw.armed = false) (p : Fin 8) (cls : Nat) : chewLeash p cls s = (none, s) :=
  if_neg fun hon => Bool.eq_false_iff.mp h (Bool.and_eq_true_iff.mp (Bool.and_eq_true_iff.mp (Bool.and_eq_true_iff.mp
    (Bool.and_eq_true_iff.mp hon).1).1).1).1

theorem chewSettle_idle {s : State} (h : s.chw.armed = false) : chewSettle s = s :=
  (if_neg fun hon => Bool.eq_false_iff.mp h (Bool.and_eq_true_iff.mp hon).1).trans
    (iteInduction (motive := fun x => x = s) (fun _x => chewDisarm_idle h) fun _x => rfl)

theorem kept_releaseOf {s : State} (h : s.chw.held = []) (p : Fin 8) : Kept s (releaseOf p s) ∧ (releaseOf p s).chw.armed = s.chw.armed := by
  delta releaseOf
  rw [h]
  exact ⟨.updChw s _, rfl⟩

/- With REQ_VERIFY 0, and for every MGMT and HOWL message, it is served. -/
theorem deliver_serves (p : Fin 8) (m : LshMsg) (s : State) (hv : bitAt s.svcCfg 0 = false ∨ (decide (m.cls = 1) || decide (m.cls = 2)) = false) :
    deliver p m s = rosterSettle (service p m.cls m.typ m.data s) :=
  if_neg fun hrefuse => Bool.eq_false_iff.mp (Bool.and_eq_false_iff.mpr hv) (Bool.and_eq_true_iff.mp hrefuse).1

/- With no run armed and nothing held a message is delivered. -/
theorem receive_idle {s : State} (p : Fin 8) (cls typ : Nat) (d : W32) (ha : s.chw.armed = false) :
    receive p cls typ d s = chewSettle (releaseOf p (deliver p { cls, typ, data := d, at_ := s.lsh.frames }
      (noteTraffic { cls, typ, data := d, at_ := s.lsh.frames } s))) := by
  delta receive
  rw [chewLeash_idle ha]

theorem kept_settled {p : Fin 8} {m : LshMsg} {x : State} (ha : x.chw.armed = false) (hh : x.chw.held = []) :
    Kept (deliver p m x) (chewSettle (releaseOf p (deliver p m x))) := by
  have hchw : (deliver p m x).chw = x.chw := chw_of_mask (deliver_mask _ p m x rfl rfl rfl rfl rfl rfl rfl rfl rfl rfl rfl)
  have hrel := kept_releaseOf (s := deliver p m x) ((congrArg Chw.held hchw).trans hh) p
  rw [chewSettle_idle (hrel.2.trans ((congrArg Chw.armed hchw).trans ha))]
  exact hrel.1

/- It is served, and the roster settled. -/
theorem kept_receive {s : State} {p : Fin 8} {cls typ : Nat} {d : W32} (ha : s.chw.armed = false) (hh : s.chw.held = [])
    (hv : bitAt s.svcCfg 0 = false ∨ (decide (cls = 1) || decide (cls = 2)) = false) : Kept (served p cls typ d s) (receive p cls typ d s) := by
  rw [receive_idle p cls typ d ha]
  refine .trans (kept_settled ha hh) ?_
  rw [deliver_serves _ _ _ hv]
  exact .rosterSettle _

/- The answer to a message that is taken. -/
theorem msg_next {cls typ t : Nat} {p : Fin 8} {d : W32} {s : State} {Q : State → Prop} (hl : s.linked = true) (hp : p ≠ s.own)
    (ha : s.chw.armed = false) (hh : s.chw.held = []) (hv : bitAt s.svcCfg 0 = false ∨ (decide (cls = 1) || decide (cls = 2)) = false)
    (hQ : ∀ u, Kept (served p cls typ d (s.atTime t)) u → Q u) : ∃ u, msgRow cls typ t p d s = .next u ∧ Q u :=
  gated_next (both hl (decide_eq_true hp)) (hQ _ (.trans (.withStat _ _) (kept_receive (s := s.atTime t) ha hh hv)))

/- What does not look at W_IRQ, the peers and Chew. -/
theorem Kept.read {α : Type} {x u : State} (h : Kept x u) (f : State → α) (hf : ∀ y, f (y.mask settleMask) = f y) : f u = f x :=
  (hf u).symm.trans ((congrArg f h.1).trans (hf x))

/- ### HOWL FAULT (R422) -/

/- A HOWL FAULT that finds room in the queue adds its entry; it counts nothing and no loop changes. -/
theorem howlFault_served {s u : State} {p : Fin 8} {d : W32} (hroom : s.log.queue.length < 64) (h : Kept (served p 3 0 d s) u) :
    u.log.queue = s.log.queue ++ [(s.eventEntry (w8 (fld d 31 24))
      (if bitAt d 19 then none else some (Fin.ofNat 16 (fld d 23 20))) true false (w16 (fld d 15 0)) p.val, s.now)] ∧
    u.win.fltCode = s.win.fltCode ∧ u.win.fltCount = s.win.fltCount ∧ u.loops = s.loops :=
  ⟨(h.read (fun y => y.log.queue) fun _x => rfl).trans (congrArg (fun x : State => x.log.queue) (if_pos hroom)),
    (h.read (fun y => y.win.fltCode) fun _x => rfl).trans (congrArg Win.fltCode (offer_win _ _)),
    (h.read (fun y => y.win.fltCount) fun _x => rfl).trans (congrArg Win.fltCount (offer_win _ _)),
    (h.read State.loops fun _x => rfl).trans (loops_of_mask (State.offer_mask (Part.but .loops) _ _ rfl))⟩

/-- Settles O57: the service of a HOWL FAULT (howlFault_served). -/
theorem howlFaultMessage : Obligations.HowlFaultMessage := by
  unfold Obligations.HowlFaultMessage
  exact fun s t p d hl hp ha hh hroom => (msg_next hl hp ha hh (.inr rfl) fun u h => howlFault_served (s := s.atTime t) hroom h :
    ∃ u, execHowlFault t p d s = .next u ∧ _)

/- ### DATA, CMD and HOWL messages (R420 to R453) -/

/- The value of a VREF lies in the cell of its loop (R420). -/
theorem vref_served {s u : State} {p : Fin 8} {d : W32} {n : Fin 16} (hn : n.val = fld d 31 28) (h : Kept (served p 1 0 d s) u) :
    u.peers.vals[valIx p n]'(valIx p n).isLt = { vref := w16 (fld d 15 0), st := fld d 27 24, pg := bitAt d 16, at_ := some s.now } ∧ u.loops = s.loops := by
  obtain rfl : n = Fin.ofNat 16 (fld d 31 28) := Fin.ext ((Nat.mod_eq_of_lt n.isLt).symm.trans (congrArg (· % 16) hn))
  exact ⟨(congrArg (fun v : Vector PeerVal 128 => v[valIx p _]'(valIx p _).isLt) h.2.1).trans (Vector.getElem_set_self (valIx p _).isLt),
    h.read State.loops fun _x => rfl⟩

/- A TOKEN_HOLD of a newer generation becomes the lease while no request is pending (R426). -/
theorem holdReceived_takes {s u : State} {p : Fin 8} {d : W32} (hpend : s.peers.tok.pend = false) (hnew : newer (fld d 23 16) s.peers.tok.gen = true)
    (h : u.peers.tok = (holdReceived p d s).peers.tok) : u.peers.tok.holder = fld d 31 24 ∧ u.peers.tok.gen = fld d 23 16 ∧
      u.peers.tok.expiry = s.now + Config.ms (fld d 15 0) ∧ u.peers.tok.source = p.val ∧ u.peers.tok.live = true := by
  have hidle : defeat p (fld d 23 16) s = s := if_neg fun hon => Bool.eq_false_iff.mp hpend (Bool.and_eq_true_iff.mp hon).1
  have e := h.trans (congrArg (fun x : State => x.peers.tok) (if_pos (Bool.or_eq_true_iff.mpr (.inl ((congrArg (fun x : State => newer (fld d 23 16) x.peers.tok.gen) hidle).trans hnew)))))
  exact ⟨congrArg Token.holder e, congrArg Token.gen e, (congrArg Token.expiry e).trans (congrArg (fun x : State => x.now + Config.ms (fld d 15 0)) hidle),
    congrArg Token.source e, congrArg Token.live e⟩

/- SWP_START begins the wait for its digest (R431). -/
theorem swpStart_served {s u : State} {p : Fin 8} {d : W32} (hen : s.swpEn = true) (hsw : s.sweeping = false) (h : Kept (served p 2 4 d s) u) :
    u.swp.started = true ∧ u.swp.sid = fld d 31 24 ∧ u.swp.lastSid = fld d 31 24 ∧ u.swp.frameS = fld d 15 0 ∧ u.swp.leadPos = p.val ∧
      u.swp.leading = false :=
  have e := (h.read State.swp fun _x => rfl).trans (congrArg State.swp (if_pos (both hen (congrArg not hsw))))
  ⟨congrArg Swp.started e, congrArg Swp.sid e, congrArg Swp.lastSid e, congrArg Swp.frameS e, congrArg Swp.leadPos e, congrArg Swp.leading e⟩

theorem ite_swp {c : Prop} [inst : Decidable c] {a b a' b' : State} (ha : a.swp = a'.swp) (hb : b.swp = b'.swp) :
    (if c then a else b).swp = (if c then a' else b').swp := by
  split
  · exact ha
  · exact hb

/- What SWP_SET leaves of the sweep does not look at the traffic. -/
theorem takeSet_traffic (mask : Byte) (m : LshMsg) (sid : Nat) (s : State) :
    (takeSet mask (heardSid sid (noteTraffic m s))).swp = (takeSet mask (heardSid sid s)).swp :=
  ite_swp (ite_swp (ite_swp rfl rfl) rfl) (ite_swp rfl rfl)

/- In GASP the peer is noted (R449). -/
theorem howlGasp_notes {p : Fin 8} {d : W32} {x : State} (hmode : bitAt d 11 = false) (hg : x.power.g = .gasp) : howlGasp p d x = howlNote p d x :=
  have hrun : (x.gspEn && x.gspPeer && (decide (x.power.g = .ready) || decide (x.power.g = .run))) = false :=
    Bool.and_eq_false_iff.mpr (.inr (congrArg (fun g : GState => decide (g = .ready) || decide (g = .run)) hg))
  (if_neg (Bool.eq_false_iff.mp hmode)).trans
    ((congrArg (fun y : State => if y.power.g = .gasp then howlNote p d y else y) (if_neg (Bool.eq_false_iff.mp hrun))).trans (if_pos hg))

theorem howlGasp_served {s u : State} {p : Fin 8} {d : W32} (hmode : bitAt d 11 = false) (hg : s.power.g = .gasp) (hphase : fld d 10 8 ≠ 3)
    (h : Kept (served p 3 1 d s) u) : u.gsp.peerP = s.gsp.peerP.set p.val (fld d 31 16) ∧
      u.gsp.peerRank = s.gsp.peerRank.set p.val (some (fld d 15 12)) ∧ u.gsp.heard = setBit s.gsp.heard p.val ∧ u.gsp.lastHowl = some s.now :=
  have e := (h.read State.gsp fun _x => rfl).trans (congrArg State.gsp (howlGasp_notes hmode hg))
  have hthree : ¬ decide (fld d 10 8 = 3) = true := fun h3 => hphase (of_decide_eq_true h3)
  ⟨congrArg Gsp.peerP e, (congrArg Gsp.peerRank e).trans (congrArg (s.gsp.peerRank.set p.val) (if_neg hthree)), congrArg Gsp.heard e,
    (congrArg Gsp.lastHowl e).trans (if_neg hthree)⟩

/- Every reserved type is counted (R410). -/
theorem service_reserved (p : Fin 8) (d : W32) (s : State) (typ : Nat) : ∀ cls, reservedType cls typ = true → service p cls typ d s = reservedReceived s
  | 0 => fun h => absurd h Bool.false_ne_true
  | 1 => match typ with
    | 0 | 4 | 5 => fun h => absurd h Bool.false_ne_true
    | 1 | 2 | 3 | 6 | 7 | _k + 8 => fun _h => rfl
  | 2 => fun h => of_decide_eq_true h ▸ rfl
  | 3 => fun h => (Nat.exists_eq_add_of_le' (of_decide_eq_true h)).elim fun _n e => e ▸ rfl
  | _k + 4 => fun h => absurd h Bool.false_ne_true

/-- Settles O41: each message is served, and the settling keeps what its service wrote. -/
theorem serviceMessageCommands : Obligations.ServiceMessageCommands := by
  unfold Obligations.ServiceMessageCommands
  refine ⟨
    fun s t p d n hl hp ha hh hr hn => (msg_next hl hp ha hh (.inl hr) fun u h => vref_served (s := s.atTime t) hn h : ∃ u, execVref t p d s = .next u ∧ _),
    fun s t p d hl hp ha hh hr => (msg_next hl hp ha hh (.inl hr) fun u h => h.read (fun y => y.swp.waits) fun _x => rfl :
      ∃ u, execSwpIre t p d s = .next u ∧ _),
    fun s t p d hl hp ha hh hr => (msg_next hl hp ha hh (.inl hr) fun u h => h.read (fun y => y.swp.waits) fun _x => rfl :
      ∃ u, execSwpIim t p d s = .next u ∧ _),
    fun s t p d hl hp ha hh hr hpend hnew => (msg_next hl hp ha hh (.inl hr) fun u h => h.2.2.1.trans
      (congrArg (fun x : State => x.peers.tok) (if_pos (both hpend (Bool.or_eq_true_iff.mpr (.inl hnew))))) : ∃ u, execTokenAcq t p d s = .next u ∧ _),
    fun s t p d hl hp ha hh hr hpend hnew => (msg_next hl hp ha hh (.inl hr) fun u h => holdReceived_takes (s := noteTraffic _ (s.atTime t)) hpend hnew h.2.2.1 :
      ∃ u, execTokenHold t p d s = .next u ∧ _),
    fun s t p d hl hp ha hh hr hid hgen => (msg_next hl hp ha hh (.inl hr) fun u h => h.2.2.1.trans
      (congrArg (fun x : State => x.peers.tok) (if_pos ⟨hid, hgen⟩)) : ∃ u, execTokenRel t p d s = .next u ∧ _),
    fun s t p d hl hp ha hh hr hen hsw => (msg_next hl hp ha hh (.inl hr) fun u h => swpStart_served (s := s.atTime t) hen hsw h :
      ∃ u, execSwpStart t p d s = .next u ∧ _),
    fun s t p d hl hp ha hh hr hst hlead hd => (msg_next hl hp ha hh (.inl hr) fun u h =>
      have e := (h.read State.swp fun _x => rfl).trans (congrArg State.swp ((if_pos (both hst (decide_eq_true hlead))).trans (if_pos hd)))
      ⟨congrArg Swp.st e, congrArg Swp.started e⟩ : ∃ u, execSwpCheck t p d s = .next u ∧ _),
    fun s t p d hl hp ha hh hr hlead hsid hok => (msg_next hl hp ha hh (.inl hr) fun u h => (h.read (fun y => y.swp.joins) fun _x => rfl).trans
      (congrArg (fun x : State => x.swp.joins) (if_pos (both (both hlead (decide_eq_true hsid)) hok))) : ∃ u, execSwpJoin t p d s = .next u ∧ _),
    fun s t p d hl hp ha hh hr hsw hlead hsid => (msg_next hl hp ha hh (.inl hr) fun u h => ((h.read State.swp fun _x => rfl).trans
      (congrArg State.swp (if_pos (both (both hsw (decide_eq_true hlead)) (decide_eq_true hsid))))).trans (takeSet_traffic _ _ _ (s.atTime t)) :
        ∃ u, execSwpSet t p d s = .next u ∧ _),
    fun s t p d hl hp ha hh hroom => (msg_next hl hp ha hh (.inr rfl) fun u h =>
      have hserved := howlFault_served (s := s.atTime t) hroom h
      ⟨(congrArg List.length hserved.1).trans List.length_append, hserved.2.1, hserved.2.2.1⟩ : ∃ u, execHowlFault t p d s = .next u ∧ _),
    fun s t p d hl hp ha hh hmode hg hphase => (msg_next hl hp ha hh (.inr rfl) fun u h => howlGasp_served (s := s.atTime t) hmode hg hphase h :
      ∃ u, execHowlGasp t p d s = .next u ∧ _),
    fun s t p cls typ d hl hp ha hh hr hres => ?_⟩
  refine (?_ : ∃ u, execReservedTypeMessage t p cls typ d s = .next u ∧ _)
  rw [execReservedTypeMessage, if_pos hres]
  exact msg_next hl hp ha hh (.inl hr) fun u h => h.2.2.2.trans (congrArg (fun x : State => x.peers.unk) (service_reserved p d _ _ _ hres))

end Sys2Proof.Machine
end

section
/- PROOFS. The bytes that the recorder writes to the Crumb SRAM: O17 and O18. -/

namespace Sys2Proof.Machine
open Sys2Proof

set_option tactic.hygienic false

/- ### Bytes changed only within a set of addresses (R476) -/

/- From a canonical SRAM to a canonical one, with no byte changed outside `P`. -/
def RamOutside (P : Nat → Prop) (x u : State) : Prop :=
  Memory.wf x.crb.gen x.crb.sram = true → Memory.wf u.crb.gen u.crb.sram = true ∧ ∀ a, ¬ P a → u.ram a = x.ram a

theorem not_between {l h a : Nat} (hout : a < l ∨ h ≤ a) : ¬ (l ≤ a ∧ a < h) := fun hin =>
  hout.elim (Nat.not_lt_of_le hin.1) (Nat.not_le_of_lt hin.2)

theorem wf_of_canonical {s : State} (h : s.canonical = true) : Memory.wf s.crb.gen s.crb.sram = true :=
  ((canonical_iff s).mp h).1

namespace RamOutside

variable {P : Nat → Prop} {x y u : State}

theorem refl (P : Nat → Prop) (x : State) : RamOutside P x x := fun h => ⟨h, fun _x _y => rfl⟩

theorem trans (h : RamOutside P x y) (k : RamOutside P y u) : RamOutside P x u := fun hx =>
  have hy := h hx
  have hu := k hy.1
  ⟨hu.1, fun a ha => (hu.2 a ha).trans (hy.2 a ha)⟩

theorem ite {c : Prop} [inst : Decidable c] {a b : State} (ha : RamOutside P x a) (hb : RamOutside P x b) : RamOutside P x (if c then a else b) :=
  iteInduction (fun _x => ha) fun _x => hb

/- An operation that leaves the SRAM alone. -/
theorem of_same (P : Nat → Prop) (hr : u.crb.sram = x.crb.sram) (hg : u.crb.gen = x.crb.gen) : RamOutside P x u := by
  unfold RamOutside State.ram
  rw [hr, hg]
  exact refl P x

theorem of_mask (P : Nat → Prop) (h : u.mask (Part.but .sram) = x.mask (Part.but .sram)) : RamOutside P x u :=
  of_same P (sram_of_mask h).1 (sram_of_mask h).2

/- A store within `P`. -/
theorem put {a₀ : Nat} {l : List Byte} (hP : ∀ a, a₀ ≤ a → a < a₀ + l.length → P a) (s : State) : RamOutside P s (ramPut a₀ l s) := fun h =>
  ⟨sparseSetList_wf _ l _ a₀ h, fun a ha => sparseGet_setList_other _ l _ a₀ a h
    ((Nat.lt_or_ge a a₀).imp_right fun hge => Nat.le_of_not_lt fun hlt => ha (hP a hge hlt))⟩

end RamOutside

/- What has been stored is read back. -/
theorem ramBytes_ramPut {s : State} (h : Memory.wf s.crb.gen s.crb.sram = true) (a : Nat) (l : List Byte) :
    (ramPut a l s).ramBytes a l.length = l :=
  List.ext_getElem ((List.length_map _).trans List.length_range) fun i _x hi' =>
    (List.getElem_map _).trans ((congrArg (fun j => (ramPut a l s).ram (a + j)) (List.getElem_range _)).trans (sparseGet_setList_same _ l _ a i h hi'))

theorem ramBytes_congr {s u : State} {a n : Nat} (h : ∀ i, a ≤ i → u.ram i = s.ram i) : u.ramBytes a n = s.ramBytes a n :=
  List.map_congr_left fun i _x => h (a + i) (Nat.le_add_right a i)

/- ### The header of a record (R493) -/

/- The addresses of the header of slot i. -/
def inHeader (i : Fin 16) (a : Nat) : Prop := 0x1E000 * i.val ≤ a ∧ a < 0x1E000 * i.val + 128

theorem length_flatMap_const {α : Type} {f : α → List Byte} {k : Nat} (h : ∀ c, (f c).length = k) (l : List α) : (l.flatMap f).length = k * l.length :=
  List.length_flatMap.trans ((congrArg (fun g => (l.map g).sum) (funext h)).trans ((congrArg List.sum List.map_const').trans
    (List.sum_replicate_nat.trans (Nat.mul_comm _ _))))

theorem length_recHeader (s : State) (k : Fin 4) (i : Fin 16) : (s.recHeader k i).length = 128 := by
  delta State.recHeader
  extract_lets x w p chs signed div chan t0
  have hchan : ((List.range 8).flatMap chan).length = 4 * 8 := length_flatMap_const (fun c => by
    dsimp only [chan]
    split <;> rfl) _
  rw [List.length_append, List.length_append, hchan]
  rfl

/- ### Triggers and samples (R487 to R491) -/

/- Every template holds the slot it held, and no byte changes outside `P`. -/
def Captured (P : Nat → Prop) (s x : State) : Prop := (∀ j, (x.tpl j).slot = (s.tpl j).slot) ∧ RamOutside P s x

theorem Captured.ite {P : Nat → Prop} {s : State} {c : Prop} [inst : Decidable c] {a b : State} (ha : Captured P s a) (hb : Captured P s b) :
    Captured P s (if c then a else b) :=
  iteInduction (fun _x => ha) fun _x => hb

theorem Captured.updTpl {P : Nat → Prop} {s x : State} {k : Fin 4} {f : CrbTpl → CrbTpl} (h : Captured P s x)
    (hf : (x.tpl k).slot = (f (x.tpl k)).slot) : Captured P s (x.updTpl k f) := by
  refine ⟨fun m => ?_, h.2⟩
  rw [← h.1 m]
  by_cases hm : k = m
  · subst hm
    rw [tpl_updTpl, ← hf]
  · rw [tpl_updTpl_ne _ _ _ _ hm]

theorem Captured.put {P : Nat → Prop} {s x : State} {a₀ : Nat} {l : List Byte} (hP : ∀ a, a₀ ≤ a → a < a₀ + l.length → P a)
    (h : Captured P s x) : Captured P s (ramPut a₀ l x) := ⟨h.1, h.2.trans (.put hP x)⟩

section
variable {P : Nat → Prop} {s x : State} {k : Fin 4} (hP : ∀ i, (s.tpl k).slot = some i → ∀ a, inHeader i a → P a)

theorem captured_addExtra (h : Captured P s x) (idx : Nat) : Captured P s (addExtra k idx x) :=
  h.updTpl (by split <;> rfl)

theorem captured_addExtras (h : Captured P s x) (idx : Nat) (l : List Nat) : Captured P s (l.foldl (fun s _x => addExtra k idx s) x) := by
  induction l generalizing x with
  | nil => exact h
  | cons _ l ih => exact ih (captured_addExtra h idx)

include hP

theorem captured_header {i : Fin 16} (h : Captured P s x) (hi : (s.tpl k).slot = some i) :
    Captured P s (ramPut (0x1E000 * i.val) (x.recHeader k i) x) := by
  refine .put (fun a ha hb => hP i hi a ⟨ha, ?_⟩) h
  rwa [length_recHeader] at hb

omit hP in
theorem captured_posted {i : Fin 16} {f : CrbSlot → CrbSlot} (h : Captured P s x) : Captured P s ((x.updCrbSlot i f).irq 6) := h

theorem captured_enterPost {i : Fin 16} (h : Captured P s x) (hi : (x.tpl k).slot = some i) (j : Nat) (c : Nat × Byte × Nat) :
    Captured P s (enterPost k i j c x) :=
  captured_posted (captured_header hP (h.updTpl rfl) ((h.1 k).symm.trans hi))

theorem captured_trigger (h : Captured P s x) (at_ : Nat) (c : Nat × Byte × Nat) : Captured P s (trigger k at_ c x) := by
  delta trigger
  dsimp only
  refine .ite h ?_
  cases hi : (x.tpl k).slot with
  | none => exact .ite h h
  | some i =>
    exact .ite (.ite (h.updTpl rfl) (captured_addExtra h _)) (.ite h (.ite (h.updTpl rfl) (captured_enterPost hP h hi _ c)))

theorem captured_hit {i : Bool} (h : Captured P s x) (at_ : Nat) (c : Nat × Byte × Nat) : Captured P s (if i then trigger k at_ c x else x) :=
  .ite (captured_trigger hP h at_ c) h

/- After its last sample a record's header takes the event samples. -/
theorem ram_sealRecord {i : Fin 16} (h : Captured P s x) (hi : (x.tpl k).slot = some i) : RamOutside P s (sealRecord k i x) := by
  refine h.2.trans (.trans (.put (fun a ha hb => hP i ((h.1 k).symm.trans hi) a ⟨Nat.le_of_add_right_le ha, Nat.lt_of_lt_of_le hb ?_⟩) x)
    (.of_mask P ((tplsTake_mask _ _ rfl).trans ((State.updTpl_mask _ _ _ _ rfl).trans (State.updCrbSlot_mask _ _ _ _ rfl)))))
  rw [Nat.add_assoc, List.length_append, length_flatMap_const (f := leBytes 2) (k := 2) fun _x => rfl, List.length_append, List.length_replicate]
  refine Nat.add_le_add_left (Nat.le_trans (Nat.add_le_add_left (Nat.add_le_add_left (Nat.mul_le_mul_left 2 
    (Nat.add_le_add (List.length_take_le 7 _) (Nat.sub_le 7 _))) 2) 36) (by decide)) _

theorem ram_captureSample (h : Captured P s x) : RamOutside P s (captureSample k x) := by
  delta captureSample
  extract_lets v keep hit y z
  have hy : Captured P s y := h.updTpl rfl
  cases hi : z.slot with
  | none => exact (captured_hit hP hy _ _).2
  | some i =>
    dsimp -zeta only
    extract_lets w z'
    have hw : Captured P s w := by
      refine .ite (captured_hit hP ((captured_addExtras hy _ _).updTpl rfl) _ _) ?_
      generalize z.trigPend = o
      cases o with
      | none => exact captured_hit hP hy _ _
      | some c => exact captured_enterPost hP hy hi 1 c
    have hslot : (w.tpl k).slot = some i := (hw.1 k).trans ((hy.1 k).symm.trans hi)
    exact .ite (ram_sealRecord hP hw hslot) hw.2

end

/- ### An appended entry (R480, R489) -/

/- The addresses of the headers of the slots that templates hold. -/
def inHeldHeader (s : State) (a : Nat) : Prop := ∃ k i, (s.tpl k).slot = some i ∧ inHeader i a

/- The headers of the records lie below the event log. -/
theorem inHeldHeader_lt {s : State} {a : Nat} (h : inHeldHeader s a) : a < 0x1F0000 := by
  obtain ⟨_, i, _, _, hi⟩ := h
  exact Nat.lt_of_lt_of_le hi (Nat.le_trans (Nat.add_le_add_right (Nat.mul_le_mul_left _ (Nat.le_of_lt_succ i.isLt)) 128) (by decide))

theorem captured_eventTriggers {s x : State} (h : Captured (inHeldHeader s) s x) (e : LogEntry) (raised : Nat) :
    Captured (inHeldHeader s) s (eventTriggers e raised x) := by
  delta eventTriggers
  induction List.finRange 4 generalizing x with
  | nil => exact h
  | cons k l ih => exact ih (.ite (captured_trigger (fun i hi a ha => ⟨k, i, hi, ha⟩) h _ _) h)

theorem ram_logAppend (e : LogEntry) (s : State) : RamOutside (fun a => logAddr s.log.wr ≤ a ∧ a < logAddr s.log.wr + 8) s (logAppend e s) :=
  RamOutside.put (l := e.bytes) (fun _x h h' => ⟨h, h'⟩) s

/- The state with `q` left in the event queue. -/
noncomputable def queueLeft (q : List (LogEntry × Nat)) (s : State) : State := { s with log := { s.log with queue := q } }

theorem appendHead_cons {s : State} {e : LogEntry} {r : Nat} {q : List (LogEntry × Nat)} (h : s.log.queue = (e, r) :: q) :
    appendHead s = eventPulses e (eventTriggers e r (logAppend e (queueLeft q s))) := by
  delta appendHead
  rw [h]
  rfl

/- The append places the entry, then the triggers it starts write headers. -/
theorem ram_appended {s u : State} {e : LogEntry} {r : Nat} (h : Memory.wf s.crb.gen s.crb.sram = true)
    (hu : u = eventPulses e (eventTriggers e r (logAppend e s))) : u.ramBytes (logAddr s.log.wr) 8 = e.bytes ∧
      ∀ a, (a < logAddr s.log.wr ∨ logAddr s.log.wr + 8 ≤ a) →
        (∀ (k : Fin 4) (i : Fin 16), (s.tpl k).slot = some i → a < 0x1E000 * i.val ∨ 0x1E000 * i.val + 128 ≤ a) → u.ram a = s.ram a := by
  have happ := ram_logAppend e s h
  have htrig := (captured_eventTriggers ⟨fun _x => rfl, .refl _ (logAppend e s)⟩ e r).2.trans (.of_mask _ (eventPulses_mask _ e _ rfl)) happ.1
  rw [← hu] at htrig
  exact ⟨(ramBytes_congr fun a ha => htrig.2 a fun hin => Nat.not_lt_of_le ((Nat.le_add_right _ _).trans ha) (inHeldHeader_lt hin)).trans
    (ramBytes_ramPut h _ e.bytes), fun a ha hheld => (htrig.2 a fun hin => hin.elim fun k hk => hk.elim fun i hi =>
      not_between (hheld k i hi.1) hi.2).trans (happ.2 a (not_between ha))⟩

/-- Settles O17. -/
theorem logBytes : Obligations.LogBytes := by
  unfold Obligations.LogBytes
  exact fun s t e r0 q hs hup hq => ⟨_, (gated_pos t _ appendHead s (Bool.or_eq_true_iff.mpr (.inl hup)) : execEventAppend t s = _),
    ram_appended (s := queueLeft q (s.atTime t)) (wf_of_canonical hs) (appendHead_cons hq)⟩

/- ### The compression of a record (R491, R493) -/

/- The addresses of BODY and of the flags byte of slot i. -/
def inFlags (i : Fin 16) (a : Nat) : Prop := (0x1E000 * i.val + 28 ≤ a ∧ a < 0x1E000 * i.val + 32) ∨ a = 0x1E000 * i.val + 37

theorem ram_flagged (i : Fin 16) (b : Byte) (n : Nat) (s : State) :
    RamOutside (inFlags i) s (ramPut (0x1E000 * i.val + 37) [b] (ramPut (0x1E000 * i.val + 28) (leBytes 4 n) s)) := by
  refine .trans (.put (fun a ha hb => .inl ⟨ha, hb⟩) s) (.put (fun a ha hb => ?_) _)
  exact .inr (Nat.eq_of_le_of_lt_succ ha hb)

/- The compression places BODY and the flags byte, then the body. -/
theorem compressSlot_placed (i : Fin 16) (c : CrbCap) (s : State) : ∃ x, RamOutside (inFlags i) s x ∧
    ∀ a, (compressSlot i c s).ram a = (ramPut (0x1E000 * i.val + 128) (recordBody c).1 x).ram a := by
  delta compressSlot
  generalize recordBody c = r
  exact ⟨_, ram_flagged i (w8 ((s.ram (0x1E000 * i.val + 37)).toNat / 2 * 2 + bitVal r.2 0)) r.1.length s, fun _x => rfl⟩

/- The body lies from byte 128 of the slot, and BODY and the flags byte alone change besides. -/
theorem ram_compressed {s u : State} {i : Fin 16} {c : CrbCap} (hs : s.canonical = true) (hu : u = compressSlot i c s) :
    u.ramBytes (0x1E000 * i.val + 128) (recordBody c).1.length = (recordBody c).1 ∧
      ∀ a, (a < 0x1E000 * i.val + 28 ∨ 0x1E000 * i.val + 32 ≤ a) → a ≠ 0x1E000 * i.val + 37 →
        (a < 0x1E000 * i.val + 128 ∨ 0x1E000 * i.val + 128 + (recordBody c).1.length ≤ a) → u.ram a = s.ram a := by
  obtain ⟨x, hflagged, hram⟩ := compressSlot_placed i c s
  rw [← hu] at hram
  have hx := hflagged (wf_of_canonical hs)
  exact ⟨(ramBytes_congr fun a _x => hram a).trans (ramBytes_ramPut hx.1 _ _), fun a hbody hflags hrecord => (hram a).trans
    ((((RamOutside.put (P := fun a => _ ≤ a ∧ a < _) fun _x h h' => ⟨h, h'⟩) x hx.1).2 a (not_between hrecord)).trans
      (hx.2 a fun h => h.elim (not_between hbody) hflags))⟩

theorem compress_of_cap {i : Fin 16} {c : CrbCap} {s : State} (h : (s.slot i).cap = some c) :
    (match (s.slot i).cap with | some c => compressSlot i c s | none => s) = compressSlot i c s := by
  rw [h]

/- The addresses of the header of the slot that template k holds. -/
def inOwnHeader (s : State) (k : Fin 4) (a : Nat) : Prop := ∃ i, (s.tpl k).slot = some i ∧ inHeader i a

section
variable {s : State} {k : Fin 4} {t : Nat} {g : State → Bool} {f : State → State} (hs : s.canonical = true)
  (hf : ∀ x, Captured (inOwnHeader s k) s x → RamOutside (inOwnHeader s k) s (f x))
include hs

theorem ram_beside {u : State} (h : RamOutside (inOwnHeader s k) s u) : ∀ a,
    (∀ i : Fin 16, (s.tpl k).slot = some i → a < 0x1E000 * i.val ∨ 0x1E000 * i.val + 128 ≤ a) → u.ram a = s.ram a := fun a ha =>
  (h (wf_of_canonical hs)).2 a fun hin => hin.elim fun i h => not_between (ha i h.1) h.2

include hf

/- A window write that captures for template k. -/
theorem strobed_beside : ∃ u, strobed t g f s = .next u ∧ ∀ a,
    (∀ i : Fin 16, (s.tpl k).slot = some i → a < 0x1E000 * i.val ∨ 0x1E000 * i.val + 128 ≤ a) → u.ram a = s.ram a :=
  have hy := Captured.ite (c := s.window = true) (a := s.atStrobe t) (b := s.atTime t) ⟨fun _x => rfl, .refl _ s⟩ ⟨fun _x => rfl, .refl _ s⟩
  ⟨_, rfl, ram_beside hs (.ite (hf _ hy) hy.2)⟩

/- A gated row that captures for template k. -/
theorem gated_beside : ∃ u, gated t g f s = .next u ∧ ∀ a,
    (∀ i : Fin 16, (s.tpl k).slot = some i → a < 0x1E000 * i.val ∨ 0x1E000 * i.val + 128 ≤ a) → u.ram a = s.ram a :=
  ⟨_, rfl, ram_beside hs (.ite (hf (s.atTime t) ⟨fun _x => rfl, .refl _ s⟩) (.refl _ s))⟩

end

/-- Settles O18. -/
theorem recordBytes : Obligations.RecordBytes := by
  unfold Obligations.RecordBytes
  refine ⟨fun s t k c hs => ?_, fun s t i c hs hup hst hcomp hcap => ?_⟩
  · cases c with
    | true => exact (strobed_beside hs fun x hx => (captured_trigger (fun i hi a ha => ⟨i, hi, ha⟩) hx _ _).2 : ∃ u, execTrigger t k s = .next u ∧ _)
    | false => exact (gated_beside hs fun x hx => ram_captureSample (fun i hi a ha => ⟨i, hi, ha⟩) hx : ∃ u, execCaptureSample t k s = .next u ∧ _)
  · exact ⟨_, (gated_pos t _ _ s (both (both hup (decide_eq_true hst)) (congrArg not hcomp)) : execCompressionDone t i s = _),
      ram_compressed (s := s.atTime t) hs (compress_of_cap hcap)⟩

end Sys2Proof.Machine
end

section
/- PROOFS. The Crumb SRAM outside the commands that place data: the status of the sweep's record alone changes; O16. -/

namespace Sys2Proof.Machine
open Sys2Proof

set_option tactic.hygienic false

/- The bytes of a sweep record that hold its status and its lost step (R438). -/
def inStatus (rec a : Nat) : Prop := 0x1E0000 + 16384 * rec + 22 ≤ a ∧ a < 0x1E0000 + 16384 * rec + 26

/- The sweep's record stays, and no byte of the SRAM changes but the record's status. -/
def Swept (x u : State) : Prop := u.swp.recNo = x.swp.recNo ∧ RamOutside (inStatus x.swp.recNo) x u

/- The mask that leaves the sweep and the SRAM. -/
noncomputable def sweptMask (p : Part) : Bool := decide (p ≠ .swp ∧ p ≠ .sram)

namespace Swept

variable {x y u : State}

theorem refl (x : State) : Swept x x := ⟨rfl, .refl _ x⟩

theorem trans (b : Swept y u) (a : Swept x y) : Swept x u := ⟨b.1.trans a.1, a.2.trans (a.1 ▸ b.2)⟩

theorem ite {c : Prop} [_inst : Decidable c] {a b : State} (ha : Swept x a) (hb : Swept x b) : Swept x (if c then a else b) :=
  iteInduction (fun _x => ha) fun _x => hb

/- An operation that leaves the sweep and the SRAM alone. -/
theorem mask (hm : u.mask sweptMask = x.mask sweptMask) : Swept x u := by
  have hw := congrArg (fun v : State => v.swp.recNo) hm
  have hr := congrArg (fun v : State => v.crb.sram) hm
  have hg := congrArg (fun v : State => v.crb.gen) hm
  exact ⟨hw, .of_same _ hr hg⟩

theorem updSwp {f : Swp → Swp} (s : State) (hf : s.swp.recNo = (f s.swp).recNo) : Swept s (s.updSwp f) := ⟨hf.symm, .refl _ s⟩

theorem updPower (f : Power → Power) (s : State) : Swept s (s.updPower f) := .refl s

theorem updWin (f : Win → Win) (s : State) : Swept s (s.updWin f) := .refl s

theorem withStat {f : State → State} (h : Swept x (f x)) : Swept x (withStat f x) := by
  have ht : Swept x (rosterSettle (f x)) := .trans (.mask (rosterSettle_mask _ _ rfl rfl)) h
  delta Machine.withStat
  generalize rosterSettle (f x) = t at ht ⊢
  exact .ite ht (.trans (.mask (State.irq_mask _ t 4 rfl)) ht)

end Swept

/- ### The sweep (R431 to R441) -/

theorem swept_swpPutStatus (s : State) : Swept s (swpPutStatus s) :=
  ⟨rfl, .put (l := [_, _] ++ leBytes 2 _) (fun _x ha hb => ⟨ha, hb⟩) s⟩

theorem swept_sweepEnd (st : SwpSt) (s : State) : Swept s (sweepEnd st s) :=
  .trans (.ite (swept_swpPutStatus _) (.refl _)) (.updSwp s rfl)

theorem swept_sweepAbort (s : State) : Swept s (sweepAbort s) :=
  .ite (.trans (swept_sweepEnd _ _) (.ite (.mask (queueMsg_mask _ 2 7 _ s rfl)) (.refl s))) (.refl s)

theorem swept_swpWrite (w : W16) (s : State) : Swept s (swpWrite w s) :=
  .ite (.ite (.updSwp s rfl) (.trans (.mask (queueMsg_mask _ 2 5 _ _ rfl)) (.trans (.mask (queueMsg_mask _ 2 4 _ _ rfl)) (.updSwp s rfl))))
    (.ite (swept_sweepAbort s) (.refl s))

theorem swept_sweepTrack (s : State) : Swept s (sweepTrack s) := .ite (.updSwp s rfl) (.ite (.updSwp s rfl) (.refl s))

theorem swept_takeSet (mask : Byte) (s : State) : Swept s (takeSet mask s) :=
  .ite (.ite (swept_sweepEnd _ s) (.refl s)) (.ite (.updSwp s rfl) (.refl s))

/- ### GASP and Chew -/

theorem swept_gaspEnter (cause : Nat) (s : State) : Swept s (gaspEnter cause s) := by
  delta gaspEnter
  extract_lets v power win entered noted frozen shed swept
  have hshed : Swept entered shed := .mask ((shedRank_mask _ 0 frozen rfl rfl).trans ((forLoops_mask _ _ (fun n y => acpFreeze_mask _ n y rfl) _ _).trans
    ((State.irq_mask _ _ _ rfl).trans ((State.event_mask _ noted _ _ _ _ rfl).trans (State.updGsp_mask _ entered _ rfl)))))
  have hentered : Swept s entered := .refl s
  clear_value shed
  exact .trans (.mask ((sendGasp_mask _ 0 _ rfl rfl).trans (nvmGasp_mask _ swept rfl rfl rfl)))
    (.trans (.ite (swept_sweepEnd _ shed) (.refl shed)) (hshed.trans hentered))

theorem swept_howlGasp (p : Fin 8) (d : W32) (s : State) : Swept s (howlGasp p d s) :=
  have noted (c : Prop) [_inst : Decidable c] (u : State) : Swept u (if c then howlNote p d u else u) :=
    .ite (.mask (howlNote_mask _ p d u rfl)) (.refl u)
  .ite (.trans (noted _ _) (.ite (.mask (rehearseStart_mask _ s rfl rfl)) (.refl s)))
    (.trans (noted _ _) (.ite (.trans (swept_gaspEnter 1 _) (.mask (State.updGsp_mask _ s _ rfl))) (.refl s)))

/- ### One message (R381, R410) -/

theorem swept_mgmt (p : Fin 8) (d : W32) (s : State) : ∀ typ, Swept s (service p 0 typ d s)
  | 0 => .mask (idleReceived_mask _ p d s rfl rfl)
  | 1 => .mask (claimHeard_mask _ _ _ s rfl)
  | 2 => .mask (napReceived_mask _ p d s rfl)
  | 3 => .refl s
  | 4 => .mask (certReceived_mask _ p d s rfl rfl)
  | 5 => .mask (chalReceived_mask _ p d s rfl)
  | 6 => .mask (respReceived_mask _ p d s rfl rfl)
  | 7 => .mask (digestReceived_mask _ p d s rfl)
  | _k + 8 => .mask (reservedReceived_mask _ s rfl)

theorem swept_data (p : Fin 8) (d : W32) (s : State) : ∀ typ, Swept s (service p 1 typ d s)
  | 0 => .mask (vrefReceived_mask _ p d s rfl)
  | 4 => .updSwp s rfl
  | 5 => .updSwp s rfl
  | 1 | 2 | 3 | 6 | 7 | _k + 8 => .mask (reservedReceived_mask _ s rfl)

theorem swept_heard (sid : Nat) (s : State) : Swept s (heardSid sid s) := .updSwp s rfl

theorem swept_cmd (p : Fin 8) (d : W32) (s : State) : ∀ typ, Swept s (service p 2 typ d s)
  | 0 => .mask (acqReceived_mask _ p d s rfl)
  | 1 => .mask (holdReceived_mask _ p d s rfl)
  | 2 => .mask (relReceived_mask _ d s rfl)
  | 4 => .trans (.ite (.updSwp _ rfl) (.refl _)) (swept_heard _ s)
  | 5 => .ite (.ite (.trans (.mask (queueMsg_mask _ 2 6 _ _ rfl)) (.updSwp s rfl)) (.updSwp s rfl)) (.refl s)
  | 6 => .trans (.ite (.updSwp _ rfl) (.refl _)) (swept_heard _ s)
  | 7 => .trans (.ite (swept_takeSet _ _) (.refl _)) (swept_heard _ s)
  | 3 | _k + 8 => .mask (reservedReceived_mask _ s rfl)

theorem swept_service (p : Fin 8) (typ : Nat) (d : W32) (s : State) : ∀ cls, Swept s (service p cls typ d s)
  | 0 => swept_mgmt p d s typ
  | 1 => swept_data p d s typ
  | 2 => swept_cmd p d s typ
  | 3 => match typ with
    | 0 => .mask (howlFault_mask _ p d s rfl)
    | 1 => swept_howlGasp p d s
    | _k + 2 => .mask (reservedReceived_mask _ s rfl)
  | _k + 4 => .mask (reservedReceived_mask _ s rfl)

theorem swept_deliver (p : Fin 8) (m : LshMsg) (s : State) : Swept s (deliver p m s) :=
  .ite (.refl s) (.trans (.mask (rosterSettle_mask _ _ rfl rfl)) (swept_service p _ _ s _))

theorem swept_releaseAll (l : List (Nat × LshMsg × Nat)) (s : State) : Swept s (releaseAll l s) := by
  induction l generalizing s with
  | nil => exact .refl s
  | cons e l ih => exact .trans (ih _) (swept_deliver _ _ s)

theorem swept_chewDisarm (cause : Nat) (s : State) : Swept s (chewDisarm cause s) := by
  refine .ite ?_ (.refl s)
  extract_lets held y fch z
  exact .trans (swept_releaseAll _ _) (.ite (c := cause = 7) (.refl s) (.trans (.mask (State.event_mask _ z _ _ _ _ rfl)) (.refl s)))

theorem swept_chewSettle (s : State) : Swept s (chewSettle s) := .ite (swept_chewDisarm 2 s) (.ite (swept_chewDisarm 4 s) (.refl s))

theorem swept_receive (p : Fin 8) (cls typ : Nat) (d : W32) (s : State) : Swept s (receive p cls typ d s) := by
  delta receive
  extract_lets m r y
  have hy : Swept s y := .mask (chewLeash_mask _ p cls s rfl rfl)
  clear_value y
  refine .trans (swept_chewSettle _) (.trans ?_ hy)
  match r.1 with
  | some 0 => exact .mask (State.updChw_mask _ y _ rfl)
  | some 1 => exact .mask (State.updChw_mask _ y _ rfl)
  | some (_k + 2) => exact .mask ((State.updChw_mask _ _ _ rfl).trans (State.updLsh_mask _ y _ rfl))
  | none =>
    exact .trans (swept_releaseAll _ _) (.trans (.mask (State.updChw_mask _ _ _ rfl)) (.trans (swept_deliver p m _) (.mask (State.updLsh_mask _ y _ rfl))))

theorem swept_frameDone (v : FrameView) (s : State) : Swept s (frameDone v s) := by
  delta frameDone
  extract_lets v' y clean ended dup settled tracked
  have hdup : Swept s dup := .mask ((State.updPeers_mask _ ended _ rfl).trans ((frameEnd_mask _ _ y rfl rfl rfl).trans (State.updChw_mask _ s _ rfl)))
  have hsettled : Swept dup settled :=
    .trans (.mask (rosterSettle_mask _ _ rfl rfl)) (.trans (swept_releaseAll _ _) (.mask (State.updChw_mask _ dup _ rfl)))
  clear_value settled
  exact .trans (swept_chewSettle _) (.trans (.mask (gaspFrame_mask _ tracked rfl rfl)) (.trans (swept_sweepTrack _)
    (.trans (.updSwp settled rfl) (hsettled.trans hdup))))

/- ### Requests, polls, KILL_N and the watchdog -/

theorem swept_acpRequest (p : Fin 8) (req : W32) (took : Nat) (s : State) : Swept s (acpRequest p req took s) := by
  delta acpRequest
  extract_lets opened low r
  have hlow : Swept s low := .mask ((acpLow_mask _ p req opened rfl rfl).trans (State.updPort_mask _ s p _ rfl))
  have hr : Swept low r.2 := .mask (chewAcp_mask _ p low rfl rfl)
  clear_value low r
  refine .trans (.ite (.trans (swept_chewSettle _) (.trans ?_ hr)) (.mask (acpBadCrc_mask _ p req low rfl rfl))) hlow
  match r with
  | (none, y) => exact .mask (acpGood_mask _ p req y rfl rfl rfl)
  | (some 0, y) => exact .refl y
  | (some (_k + 1), y) => exact .mask (acpBadCrc_mask _ p req y rfl rfl)

theorem swept_pollStart (e : Fin 32) (s : State) : Swept s (pollStart e s) := by
  delta pollStart
  extract_lets r y begin
  have hy : Swept s y := .mask (chewFetch_mask _ e s rfl rfl)
  have hbegin (nack : Bool) : Swept y (begin nack y) := .mask ((State.updEntry_mask _ _ e _ rfl).trans (State.updFch_mask _ y _ rfl))
  clear_value y begin
  refine .trans (swept_chewSettle _) (.trans ?_ hy)
  match r.1 with
  | none => exact hbegin false
  | some 0 => exact hbegin true
  | some (_k + 1) => exact .mask (State.updFch_mask _ y _ rfl)

theorem swept_killFall (s : State) : Swept s (killFall s) := by
  delta killFall
  extract_lets rail low held seen stop failed raised
  have hseen : Swept s seen := .trans (.ite (.mask (killSeenNow_mask _ held rfl rfl)) (.refl held))
    (.trans (.mask (killPins_mask _ low rfl)) (.updPower _ s))
  have hfailed : Swept seen failed := .ite (.mask (failAttempt_mask _ 5 seen rfl rfl rfl rfl))
    (.ite (.trans (.updPower _ _) (.mask (lp15Stop_mask _ seen rfl rfl rfl rfl))) (.refl seen))
  clear_value failed
  have hraised : Swept failed raised := .trans (.mask (raiseKill_mask _ _ rfl rfl rfl rfl)) (.withStat (swept_chewDisarm 5 failed))
  clear_value raised
  exact .ite (.updPower _ s) (.trans (.ite (.trans (.ite (.refl raised) (.mask (enterKilled_mask _ raised rfl rfl rfl rfl rfl rfl))) hraised) (.refl failed))
    (hfailed.trans hseen))

theorem swept_wdogExpire (s : State) : Swept s (wdogExpire s) := by
  refine .ite (.refl s) ?_
  extract_lets flagged logged
  have hlogged : Swept s logged := .trans (.mask ((State.event_mask _ flagged _ _ _ _ rfl).trans (State.irq_mask _ _ 9 rfl))) (.updWin _ s)
  clear_value logged
  exact .trans (.mask (wdogAction_mask _ _ rfl rfl rfl rfl rfl rfl)) (.trans (.withStat (swept_chewDisarm 6 logged)) hlogged)

theorem swept_wdogWrite (v : W16) (s : State) : Swept s (wdogWrite v s) :=
  .ite (.refl s) (.ite (.trans (.updWin _ _) (.mask (wdogRestart_mask _ s rfl))) (swept_wdogExpire s))

/- ### Parameters (R70) -/

theorem swept_chwWrite (w : W16) (s : State) : Swept s (chwWrite w s) :=
  .ite (.mask (chewArm_mask _ s rfl rfl rfl rfl rfl)) (.ite (.withStat (swept_chewDisarm 1 s)) (.refl s))

theorem swept_wordWrite (a : Nat) (w : W16) (s : State) : Swept s (wordWrite a w s) :=
  .ite (.mask (causeClear_mask _ w s rfl)) <| .ite (.mask (resetWrite_mask _ w s rfl)) <| .ite (.mask (engClr_mask _ w s rfl)) <|
  .ite (.mask (engRestore_mask _ w s rfl)) <| .ite (.mask (revertWrite_mask _ w s rfl rfl)) <| .ite (.mask (fltClr_mask _ w s rfl)) <|
  .ite (.mask (removedClear_mask _ _ w s rfl)) <| .ite (.mask (calWrite_mask _ w s rfl rfl)) <|
  .ite (.mask (acpEvtWrite_mask _ _ w s rfl)) <| .ite (.mask (lshClear_mask _ w s rfl)) <| .ite (.mask (planWrite_mask _ w s rfl)) <|
  .ite (swept_swpWrite w s) <| .ite (.mask (fchEvtWrite_mask _ w s rfl)) <| .ite (.mask (lyrClear_mask _ w s rfl)) <|
  .ite (swept_chwWrite w s) (.refl s)

theorem swept_writeParam (a : Nat) (w : W16) (s : State) : Swept s (writeParam a w s) := by
  delta writeParam
  generalize paramInfo a = o
  cases o with
  | none => exact .refl s
  | some p =>
    dsimp only
    generalize p.access = o
    cases o with
    | ro => exact .refl s
    | rw => exact .trans (.ite (.mask (writeL_mask _ a _ rfl)) (.refl _)) (.mask (State.setProof_mask _ s a (w &&& w16 p.mask) rfl))
    | wo => exact swept_wordWrite a w s
    | w1c => exact swept_wordWrite a w s

end Sys2Proof.Machine
end

section
/- PROOFS. A command of LPn and the other loops: what its operations leave of LPk, one lemma per operation; O13. -/

namespace Sys2Proof.Machine
open Sys2Proof

set_option tactic.hygienic false

/- What happens to LPn between two states leaves LPk of another number. -/
def OffLoop (k n : Fin 16) (x u : State) : Prop := n ≠ k → u.loop k = x.loop k

section
variable {k n : Fin 16}

namespace OffLoop

theorem same {x u : State} (e : u.loop k = x.loop k) : OffLoop k n x u := fun _x => e

theorem trans {x y u : State} (b : OffLoop k n y u) (a : OffLoop k n x y) : OffLoop k n x u := fun h => (b h).trans (a h)

theorem ite {c : Prop} [inst : Decidable c] {a b x : State} (ha : OffLoop k n x a) (hb : OffLoop k n x b) : OffLoop k n x (if c then a else b) :=
  fun h => loop_ite (ha h) (hb h)

end OffLoop

/- ### Zero references and Whisk (R266 to R273) -/

theorem off_zeroReference (m : Fin 64) (codes : List Int) (s : State) : OffLoop k n s (zeroReference n m codes s) :=
  .ite (.trans (fun h => loop_staleEnd_ne h _) (.same (loop_updPhase _ _ _ k))) (.same rfl)

theorem off_whiskTurn (s : State) : OffLoop k n s (whiskTurn n s) := by
  refine .trans ?_ (loop_updMod_ne s n k fun m => { m with turnAt := s.now })
  refine .ite ?_ (.same rfl)
  generalize s.updMod n _ = x
  generalize x.oldestRef (x.loop n).mod.sw = o
  cases o with
  | none => exact .same rfl
  | some out =>
    dsimp only
    generalize x.swapIn n = o
    cases o with
    | none => exact .ite (loop_updMod_ne x n k _) (.same rfl)
    | some i => exact loop_updMod_ne x n k _

theorem off_whiskSwap (out i : Fin 64) (s : State) : OffLoop k n s (whiskSwap n out i s) :=
  .trans (.ite (.trans (.same (loop_updPhase _ _ _ k)) (loop_updMod_ne _ n k _)) (.same rfl)) (loop_updMod_ne s n k _)

theorem off_shedAfter (s : State) : OffLoop k n s (shedAfter n s) :=
  .ite (.trans (.ite (fun h => loop_shedOne_ne h _) (.same rfl)) (loop_updMod_ne s n k _)) (.same rfl)

theorem off_whiskInstant (s : State) : OffLoop k n s (whiskInstant n s) := by
  delta whiskInstant
  extract_lets x m
  have hx : OffLoop k n s x := by
    dsimp only [x]
    generalize (s.loop n).mod.swap = o
    cases o with
    | none => exact .same rfl
    | some p => exact off_whiskSwap _ _ s
  clear_value x
  refine .trans (.ite (.ite (.trans (off_shedAfter _) (loop_updMod_ne x n k _)) (loop_updMod_ne x n k _)) ?_) hx
  generalize m.blank = o
  cases o with
  | none => exact .same rfl
  | some b => exact .ite (loop_updMod_ne x n k _) (loop_updMod_ne x n k _)

/- ### Switching sets and reference instants (R228, R260, R315) -/

theorem off_newRanking (new : List (Fin 64)) (s : State) : OffLoop k n s (newRanking n new s) :=
  .trans (.same ((loop_updPhases _ _ _ k).trans ((loop_updPhases _ _ _ k).trans (loop_updPhases _ _ _ k))))
    (.trans (fun h => loop_peakUpdate_ne h _) (loop_updMod_ne s n k _))

theorem off_whiskBlankEnd (codes : List Int) (s : State) : OffLoop k n s (whiskBlankEnd n codes s) := by
  delta whiskBlankEnd
  generalize (s.loop n).mod.blank = o
  cases o with
  | none => exact .same rfl
  | some m => exact .trans (off_newRanking _ _) (.trans (off_shedAfter _) (.trans (off_zeroReference _ _ _) (loop_updMod_ne s n k _)))

theorem off_takeHint (e : Nat) (s : State) : OffLoop k n s (takeHint n e s) := by
  refine .trans ?_ (loop_updAcp_ne s n k fun a => { a with hint := e, hintPend := none })
  delta takeHint
  generalize s.updAcp n _ = x
  dsimp only
  cases x.hinted n <;> exact fun h => loop_setTarget_ne h _ _

theorem off_hintInstant (s : State) : OffLoop k n s (hintInstant n s) := by
  delta hintInstant
  generalize (s.loop n).acp.hintPend = o
  cases o with
  | none => exact .same rfl
  | some e => exact .ite (off_takeHint e s) (.same rfl)

theorem off_phasesBack (s : State) : OffLoop k n s (phasesBack n s) :=
  .ite (.same rfl) (.trans (.ite (fun h => loop_setTarget_ne h _ _) (.same rfl)) (.trans (loop_updMod_ne _ n k _) (.same (loop_updPhases _ _ s k))))

theorem off_referenceInstant (s : State) : OffLoop k n s (referenceInstant n s) :=
  .trans (.ite (.same rfl) (off_newRanking _ _)) (.trans (.same (loop_updPhases _ _ _ k)) (.trans (off_whiskInstant _)
    (.trans (off_hintInstant _) (.trans (off_phasesBack _) (.trans (.same (loop_syncPulse _ n k)) (loop_updMod_ne s n k _))))))

theorem off_kennelInstant (s : State) : OffLoop k n s (kennelInstant n s) :=
  .trans (.same (loop_updPhases _ _ _ k)) (loop_updMod_ne s n k _)

/- ### The state of the loop (R276 to R292) -/

theorem off_dampClear (c : Prop) [inst : Decidable c] (s : State) : OffLoop k n s (if c then { s with damp := {} } else s) :=
  .ite (.same rfl) (.same rfl)

theorem off_enterDelayOn (s : State) : OffLoop k n s (enterDelayOn n s) :=
  .trans (.same (loop_settleRun _ k)) (.trans (off_dampClear _ _) (.trans (.ite (loop_updAcp_ne _ n k _) (.same rfl))
    (.trans (loop_updEng_ne _ n k _) (.trans (loop_updSp_ne _ n k _) (fun h => loop_putState_ne h _ s)))))

theorem off_delayOnEnd (s : State) : OffLoop k n s (delayOnEnd n s) :=
  .trans (loop_updSp_ne _ n k _) (fun h => loop_enterRampUp_ne h _ s)

theorem off_enterRegulate (r : Frac) (s : State) : OffLoop k n s (enterRegulate n r s) :=
  .trans (loop_updMod_ne _ n k _) (loop_updSp_ne s n k _)

theorem off_heelLoss (s : State) : OffLoop k n s (heelLoss n s) :=
  .trans (.ite (.same rfl) (.ite (fun h => loop_enterRampDown_ne h _ _) (.ite (fun h => loop_startMove_ne h _ _) (.same rfl))))
    (.trans (fun h => loop_raiseFree_ne h _ _) (loop_updSp_ne s n k _))

/- ### The ACP and Layer -/

theorem off_arrive (s : State) : OffLoop k n s (arrive n s) := .trans (.same (loop_acpEvt _ _ _ k)) (loop_updAcp_ne s n k _)

theorem off_linklossAct (s : State) : OffLoop k n s (linklossAct n s) := by
  refine .trans ?_ (loop_updAcp_ne s n k fun a => { a with lossPend := false })
  delta linklossAct
  generalize s.updAcp n _ = x
  dsimp only
  match fld (x.lp n 0x2C) 1 0 with
  | 1 | 2 => exact loop_updAcp_ne x n k _
  | 0 | _k + 3 => exact .same rfl

theorem off_layerDiverge (s : State) : OffLoop k n s (layerDiverge n s) :=
  .trans (fun h => loop_raiseFree_ne h _ _) (loop_updLyr_ne s n k _)

theorem off_layerPeriodEnd (s : State) : OffLoop k n s (layerPeriodEnd n s) :=
  .trans (.ite (off_layerDiverge _) (.same rfl)) (loop_updLyr_ne s n k _)

/- ### Protection (R345 to R361) -/

theorem off_raiseFault (c : Byte) (v : W16) (ph : List (Fin 64)) (s : State) : OffLoop k n s (s.raiseFault n c v ph) :=
  loop_updPrt_ne s n k _

theorem off_crowbarPhases (s : State) : OffLoop k n s (crowbarPhases n s) :=
  .trans (.same (loop_updPhases _ _ _ k)) (loop_updMod_ne s n k _)

theorem off_ovTrip (s : State) : OffLoop k n s (ovTrip n s) :=
  .trans (off_raiseFault _ _ _ _) (.trans (.ite (.trans (off_crowbarPhases _) (loop_updPrt_ne _ n k _)) (.same rfl))
    (.trans (.ite (.same rfl) (.same (loop_updPhases _ _ _ k))) (loop_updPrt_ne s n k _)))

theorem off_logFault (a : Acted) (s : State) : OffLoop k n s (logFault n a s) :=
  .ite (.same rfl) (.trans (.same (loop_of_mask (howlAction_mask _ _ _ _ _ _ rfl) k)) (.trans (loop_updPrt_ne _ n k _)
    (.same ((loop_of_mask (State.countFault_mask _ _ _ _ rfl rfl) k).trans (loop_of_mask (State.offer_mask _ s _ rfl) k)))))

theorem off_logFaults (l : List Acted) (s : State) : OffLoop k n s (logFaults n l s) := by
  induction l generalizing s with
  | nil => exact .same rfl
  | cons a l ih => exact .trans (ih _) (off_logFault a s)

theorem off_faultAlert (s : State) : OffLoop k n s (faultAlert n s) := .ite (loop_updAcp_ne s n k _) (.same rfl)

theorem off_enterHiccup (s : State) : OffLoop k n s (enterHiccup n s) :=
  .trans (off_faultAlert _) (.trans (loop_updSp_ne _ n k _) (.trans (loop_updPrt_ne _ n k _)
    (.trans (fun h => loop_putState_ne h _ _) (fun h => loop_stopPulses_ne h s))))

theorem off_enterLatched (s : State) : OffLoop k n s (enterLatched n s) :=
  .trans (off_faultAlert _) (.trans (loop_updSp_ne _ n k _) (.trans (fun h => loop_putState_ne h _ _) (fun h => loop_stopPulses_ne h s)))

theorem off_enterCrowbar (s : State) : OffLoop k n s (enterCrowbar n s) :=
  .trans (off_faultAlert _) (.trans (off_crowbarPhases _) (.trans (loop_updSp_ne _ n k _)
    (.trans (loop_updPrt_ne _ n k _) (fun h => loop_putState_ne h _ s))))

theorem off_removals (l : List Acted) (s : State) : OffLoop k n s (l.foldl (fun s a => removePhases a.1 s) s) := by
  induction l generalizing s with
  | nil => exact .same rfl
  | cons a l ih => exact .trans (ih _) (.same (loop_updPhases _ _ s k))

theorem off_shedFaults (l : List Acted) (s : State) : OffLoop k n s (shedFaults n l s) :=
  .trans (fun h => loop_setTarget_ne h _ _) (off_removals _ s)

/- The action of the highest order among the raised faults (R357). -/
theorem off_faultAct (l : List Acted) (s : State) : ∀ most : Nat, OffLoop k n s (match most with
    | 5 => enterCrowbar n s
    | 4 => enterLatched n s
    | 3 => enterHiccup n s
    | 2 => shedFaults n l s
    | _ => s)
  | 5 => off_enterCrowbar s
  | 4 => off_enterLatched s
  | 3 => off_enterHiccup s
  | 2 => off_shedFaults l s
  | 0 | 1 | _k + 6 => .same rfl

theorem off_faultAction (s : State) : OffLoop k n s (faultAction n s) :=
  .trans (.same (loop_of_mask (driveFault_mask _ _ rfl) k)) (.trans (.ite (.ite (off_enterLatched _) (.same rfl)) (off_faultAct _ _ _))
    (.trans (.ite (loop_updMod_ne _ n k _) (.same rfl)) (.trans (off_logFaults _ _) (loop_updPrt_ne s n k _))))

end

end Sys2Proof.Machine
end

section
/- PROOFS. A command of one phase or one ACP port and the others: O15. -/

namespace Sys2Proof.Machine
open Sys2Proof

set_option tactic.hygienic false

/- ### The phases -/

/- What happens to phase m between two states leaves phase k of another number. -/
def OffPhase (k m : Fin 64) (x u : State) : Prop := m ≠ k → u.phase k = x.phase k

section
variable {k m : Fin 64}

theorem OffPhase.ite {c : Prop} [inst : Decidable c] {a b x : State} (ha : OffPhase k m x a) (hb : OffPhase k m x b) :
    OffPhase k m x (if c then a else b) :=
  iteInduction (fun _x => ha) fun _x => hb

/- A command that acts on the loop of a phase, where it has one. -/
theorem offPhase_ofLoop {o : Option (Fin 16)} {f : Fin 16 → State} {x : State} (hf : ∀ n, OffPhase k m x (f n)) :
    OffPhase k m x (match o with | some n => f n | none => x) := by
  cases o with
  | some n => exact hf n
  | none => exact fun _x => rfl

theorem offPhase_zeroReference (n : Fin 16) (codes : List Int) (s : State) : OffPhase k m s (zeroReference n m codes s) :=
  .ite (fun h => (phase_of_mask (staleEnd_mask _ n _ rfl) k).trans (phase_updPhase_ne s m k _ h)) fun _x => rfl

end

/- ### The ACP ports -/

/- What happens to port p between two states leaves port q of another number. -/
def OffPort (q p : Fin 8) (x u : State) : Prop := p ≠ q → u.port q = x.port q

section
variable {q p : Fin 8}

namespace OffPort

theorem same {x u : State} (e : u.port q = x.port q) : OffPort q p x u := fun _x => e

theorem trans {x y u : State} (b : OffPort q p y u) (a : OffPort q p x y) : OffPort q p x u := fun h => (b h).trans (a h)

theorem ite {c : Prop} [inst : Decidable c] {a b x : State} (ha : OffPort q p x a) (hb : OffPort q p x b) : OffPort q p x (if c then a else b) :=
  iteInduction (fun _x => ha) fun _x => hb

end OffPort

theorem off_updPort (s : State) (f : AcpPort → AcpPort) : OffPort q p s (s.updPort p f) := fun h =>
  Vector.getElem_set_ne p.isLt q.isLt fun e => h (Fin.ext e)

theorem off_acpEvt (bit : Nat) (s : State) : OffPort q p s (acpEvt p bit s) :=
  .ite (.trans (.same (port_irq _ _ q)) (off_updPort s _)) (off_updPort s _)

theorem off_acpSend (st : Nat) (f : W32) (s : State) : OffPort q p s (acpSend p st f s) :=
  .ite (.same rfl) (off_updPort s _)

theorem off_acpBadCrc (req : W32) (s : State) : OffPort q p s (acpBadCrc p req s) :=
  .ite (.same rfl) (.trans (off_acpEvt _ _) (.trans (off_acpSend _ _ _) (off_updPort s _)))

theorem off_acpLow (req : W32) (s : State) : OffPort q p s (acpLow p req s) :=
  .trans (.ite (off_acpEvt _ _) (.same rfl)) (off_updPort s _)

theorem off_acpLinkUp (s : State) : OffPort q p s (acpLinkUp p s) :=
  .trans (.ite (.same rfl) (.trans (off_acpEvt _ _) (.same (port_of_mask (forLoops_mask _ _ (fun n x => State.updAcp_mask _ x n _ rfl) _ _) q))))
    (off_updPort s _)

theorem off_act_ite {c : Prop} [inst : Decidable c] {a b : AcpAnswer} {x : State} (ha : OffPort q p x (a.act x)) (hb : OffPort q p x (b.act x)) :
    OffPort q p x ((if c then a else b).act x) :=
  iteInduction (motive := fun r : AcpAnswer => OffPort q p x (r.act x)) (fun _x => ha) fun _x => hb

/- A request's effect is on a loop, or, at GETSTAT, on its own port (R309, R310). -/
theorem off_acpDo (x s : State) (n : Fin 16) (v : W16) : ∀ op, OffPort q p x ((s.acpDo p n op v).act x)
  | 1 => off_act_ite (.same rfl) (off_act_ite (.same rfl) (.same rfl))
  | 5 => .same (port_of_mask (acpMark_mask _ n v x rfl) q)
  | 8 => off_updPort x _
  | 0 | 2 | 3 | 4 | 6 | 7 | 9 | 10 | _k + 11 => .same rfl

theorem off_acpDecide (x s : State) (req : W32) : OffPort q p x ((s.acpDecide p req).act x) := by
  delta State.acpDecide
  extract_lets op v
  clear_value op v
  refine off_act_ite (.same rfl) (off_act_ite (.same rfl) ?_)
  generalize s.acpLoop p (fld req 31 30) = o
  cases o with
  | none => exact .same rfl
  | some n =>
    refine off_act_ite (.same rfl) (off_act_ite (off_acpDo x s n v op) (off_act_ite (.same rfl) ?_))
    generalize s.acpRange p n op v = o
    cases o with
    | none => exact off_acpDo x s n v op
    | some => exact .same rfl

theorem off_acpNew (req : W32) (s : State) : OffPort q p s (acpNew p req s) :=
  .trans (.ite (off_acpEvt _ _) (.same rfl)) (.trans (off_acpDecide _ s req) (.trans (off_acpSend _ _ _) (off_updPort s _)))

theorem off_acpGood (req : W32) (s : State) : OffPort q p s (acpGood p req s) := by
  refine .trans ?_ (.trans (off_acpLinkUp _) (off_updPort s fun x => { x with reqCnt := (x.reqCnt + 1) % 65536 }))
  delta acpGood
  generalize acpLinkUp p _ = up
  dsimp only
  generalize (up.port p).last = o
  cases o with
  | none => exact off_acpNew _ _
  | some r => exact .ite (.trans (off_acpSend _ _ _) (off_updPort _ _)) (off_acpNew _ _)

/- Chew's selector is no part of the ports (R529). -/
theorem port_chewAcp (p : Fin 8) (s : State) (q : Fin 8) : (chewAcp p s).2.port q = s.port q := by
  delta chewAcp
  split
  · exact port_of_mask (chwPick_mask _ _ _ _ s rfl) q
  · rfl

theorem off_acpRequest (req : W32) (took : Nat) (s : State) : OffPort q p s (acpRequest p req took s) := by
  refine .trans (.ite ?_ (off_acpBadCrc _ _)) (.trans (off_acpLow req _) (off_updPort s _))
  refine .trans (.same (port_of_mask (chewSettle_mask _ _ rfl rfl rfl rfl rfl rfl rfl rfl rfl rfl rfl rfl rfl) q)) (.trans ?_ (.same (port_chewAcp p _ q)))
  generalize chewAcp p _ = r
  match r with
  | (none, x) => exact off_acpGood _ _
  | (some 0, x) => exact .same rfl
  | (some (_k + 1), x) => exact off_acpBadCrc _ _

theorem off_getstatEnd (s : State) : OffPort q p s (getstatEnd p s) := by
  refine .trans ?_ (off_updPort s fun x => { x with report := none, dio := none })
  delta getstatEnd
  cases (s.port p).report <;> exact .same rfl

theorem off_acpLose (s : State) : OffPort q p s (acpLose p s) :=
  .trans (off_acpEvt _ _) (.trans (.same (port_of_mask (forLoops_mask _ _ (fun n x => acpLossLoop_mask _ n x rfl rfl) _ _) q)) (off_updPort s _))

end

end Sys2Proof.Machine
end

section
/- PROOFS. What one command leaves: the loops, the phases and the ACP ports that it does not name, and the Crumb SRAM but for the
status of the sweep's record; O13, O15 and O16. -/

namespace Sys2Proof.Machine
open Sys2Proof

set_option tactic.hygienic false

/- A property of what a window write does and of the mere passing of time holds of its answer. -/
theorem strobed_holds {t : Nat} {g : State → Bool} {f : State → State} {s : State} {Q : State → Prop} (hf : ∀ x, Q x → Q (f x)) (hidle : Q (s.atTime t))
    (hopen : Q (s.atStrobe t)) : ∀ u, strobed t g f s = .next u → Q u := fun u h => by
  cases h
  have hx := iteInduction (c := s.window = true) (motive := Q) (fun _x => hopen) fun _x => hidle
  exact iteInduction (fun _x => hf _ hx) fun _x => hx

/- An answer of the command `i` of LPn leaves LPk of another number; its sample boundary and the end of its acquisition may not. -/
def KeepsLoop (k : Fin 16) (i : Instr) (s : State) (a : Ans) : Option (Fin 16) → Prop
  | some n => (∀ t, i ≠ .sampleBoundary t n) → (∀ t c x, i ≠ .acquisitionEnd t n c x) → ∀ u, a = .next u → n ≠ k → u.loop k = s.loop k
  | none => True

/- An answer of a command of phase m at the time t leaves phase k of another number. -/
def KeepsPhase (k : Fin 64) (t : Nat) (s : State) (a : Ans) : Option (Fin 64) → Prop
  | some m => ∀ u, a = .next u → m ≠ k → u.phase k = (s.atTime t).phase k
  | none => True

/- An answer of a command of port p leaves port q of another number. -/
def KeepsPort (q : Fin 8) (s : State) (a : Ans) : Option (Fin 8) → Prop
  | some p => ∀ u, a = .next u → p ≠ q → u.port q = s.port q
  | none => True

/- A command that may change the SRAM and is not of those that place data. -/
noncomputable def writesStatus (i : Instr) : Bool := mayChange i .sram && !placesBytes i

/- The answer of a command changes the status of the sweep's record alone, where the command is one of those. -/
def SweptBy (s : State) (a : Ans) : Bool → Prop
  | true => ∀ u, a = .next u → Swept s u
  | false => True

/- What the answer of a command leaves of LPk, phase m, port q and the Crumb SRAM. -/
def Keeps (k : Fin 16) (m : Fin 64) (q : Fin 8) (i : Instr) (s : State) (a : Ans) : Prop :=
  KeepsLoop k i s a (loopOf i) ∧ KeepsPhase m i.time s a (phaseOf i) ∧ KeepsPort q s a (portOf i) ∧ SweptBy s a (writesStatus i)

section
variable {t : Nat} {g : State → Bool} {f : State → State} {s : State}

theorem keeps_loop {n k : Fin 16} {i : Instr} (hf : ∀ x, OffLoop k n x (f x)) : KeepsLoop k i s (gated t g f s) (some n) ∧ True ∧ True ∧ True :=
  ⟨fun _x _y => gated_holds (hf (s.atTime t)) fun _x => rfl, trivial, trivial, trivial⟩

theorem keeps_phase {m k : Fin 64} (hf : ∀ x, OffPhase k m x (f x)) : True ∧ KeepsPhase k t s (gated t g f s) (some m) ∧ True ∧ True :=
  ⟨trivial, gated_holds (hf (s.atTime t)) fun _x => rfl, trivial, trivial⟩

theorem keeps_port {p q : Fin 8} (hf : ∀ x, OffPort q p x (f x)) : True ∧ True ∧ KeepsPort q s (gated t g f s) (some p) ∧ True :=
  ⟨trivial, trivial, gated_holds (hf (s.atTime t)) fun _x => rfl, trivial⟩

theorem sweptBy_gated (hf : ∀ x, Swept x (f x)) : SweptBy s (gated t g f s) true := gated_holds (.trans (hf (s.atTime t)) (.refl s)) (.refl s)

theorem keeps_ram (hf : ∀ x, Swept x (f x)) : True ∧ True ∧ True ∧ SweptBy s (gated t g f s) true := ⟨trivial, trivial, trivial, sweptBy_gated hf⟩

theorem keeps_ram_strobed (hf : ∀ x, Swept x (f x)) : True ∧ True ∧ True ∧ SweptBy s (strobed t g f s) true :=
  ⟨trivial, trivial, trivial, strobed_holds (fun x h => .trans (hf x) h) (.refl s) (.refl s)⟩

theorem keeps_msgRow {cls typ : Nat} {p : Fin 8} {d : W32} : True ∧ True ∧ True ∧ SweptBy s (msgRow cls typ t p d s) true :=
  keeps_ram fun x => .withStat (swept_receive p cls typ d x)

theorem keeps_acpRow {ops : Nat → Bool} {p q : Fin 8} {req : AcpRequest} :
    True ∧ True ∧ KeepsPort q s (acpRow ops t p req s) (some p) ∧ SweptBy s (acpRow ops t p req s) true :=
  ⟨trivial, trivial, (keeps_port fun x => .trans (.same (port_withStat _ x q)) (off_acpRequest _ _ x)).2.2.1,
    sweptBy_gated fun x => .withStat (swept_acpRequest p req.word req.took x)⟩

theorem keeps_nothing : True ∧ True ∧ True ∧ True := ⟨trivial, trivial, trivial, trivial⟩

theorem keeps_loop_of {A : Prop} (h : A) : A ∧ True ∧ True ∧ True := ⟨h, trivial, trivial, trivial⟩

end

/- Each command by its operation. -/
theorem exec_keeps (k : Fin 16) (m : Fin 64) (q : Fin 8) (i : Instr) : ∀ s, Keeps k m q i s (exec i s) := by
  induction i
  case sampleBoundary => exact fun s => keeps_loop_of fun hsample => absurd rfl (hsample _)
  case acquisitionEnd => exact fun s => keeps_loop_of fun _x hacq => absurd rfl (hacq _ _ _)
  case disagree => exact fun s => keeps_loop_of fun _x _y u h _z => loop_of_mask (exec_but (p := .loops) rfl h) k
  case rateRestore => exact fun s => (keeps_loop (fun x => loop_updEng_ne x _ k _) : KeepsLoop k _ s (execRateRestore _ _ s) (some _) ∧ True ∧ True ∧ True)
  case referenceInstant => exact fun s => (keeps_loop (fun x => .ite (off_kennelInstant x) (off_referenceInstant x)) : KeepsLoop k _ s (execReferenceInstant _ _ s) (some _) ∧ True ∧ True ∧ True)
  case whiskTurn => exact fun s => (keeps_loop off_whiskTurn : KeepsLoop k _ s (execWhiskTurn _ _ s) (some _) ∧ True ∧ True ∧ True)
  case whiskBlankEnd => exact fun s => (keeps_loop (off_whiskBlankEnd _) : KeepsLoop k _ s (execWhiskBlankEnd _ _ _ _ _ _ s) (some _) ∧ True ∧ True ∧ True)
  case estStale => exact fun s => (keeps_loop (fun x => .trans (.same (loop_event _ _ _ _ _ k)) (loop_updMod_ne x _ k _)) : KeepsLoop k _ s (execEstStale _ _ s) (some _) ∧ True ∧ True ∧ True)
  case delayOnEntry => exact fun s => (keeps_loop (fun x => .trans (off_enterDelayOn _) (loop_updEng_ne x _ k _)) : KeepsLoop k _ s (execDelayOnEntry _ _ s) (some _) ∧ True ∧ True ∧ True)
  case delayOnEnd => exact fun s => (keeps_loop off_delayOnEnd : KeepsLoop k _ s (execDelayOnEnd _ _ s) (some _) ∧ True ∧ True ∧ True)
  case rampUpEnd => exact fun s => (keeps_loop (fun x => off_enterRegulate _ x) : KeepsLoop k _ s (execRampUpEnd _ _ s) (some _) ∧ True ∧ True ∧ True)
  case transitionEnd => exact fun s => (keeps_loop (fun x => off_enterRegulate _ x) : KeepsLoop k _ s (execTransitionEnd _ _ s) (some _) ∧ True ∧ True ∧ True)
  case turnOffDelayEnd => exact fun s => (keeps_loop (fun x h => loop_enterRampDown_ne h _ x) : KeepsLoop k _ s (execTurnOffDelayEnd _ _ s) (some _) ∧ True ∧ True ∧ True)
  case rampDownEnd => exact fun s => (keeps_loop (fun x h => loop_enterDelayOff_ne h x) : KeepsLoop k _ s (execRampDownEnd _ _ s) (some _) ∧ True ∧ True ∧ True)
  case delayOffEnd => exact fun s => (keeps_loop (fun x h => loop_enterOff_ne h x) : KeepsLoop k _ s (execDelayOffEnd _ _ s) (some _) ∧ True ∧ True ∧ True)
  case heelLoss => exact fun s => (keeps_loop off_heelLoss : KeepsLoop k _ s (execHeelLoss _ _ s) (some _) ∧ True ∧ True ∧ True)
  case acpTargetApply => exact fun s => (keeps_loop (fun x => loop_updAcp_ne x _ k _) : KeepsLoop k _ s (execAcpTargetApply _ _ s) (some _) ∧ True ∧ True ∧ True)
  case acpLlApply => exact fun s => (keeps_loop (fun x => loop_updAcp_ne x _ k _) : KeepsLoop k _ s (execAcpLlApply _ _ s) (some _) ∧ True ∧ True ∧ True)
  case arrival => exact fun s => (keeps_loop off_arrive : KeepsLoop k _ s (execArrival _ _ s) (some _) ∧ True ∧ True ∧ True)
  case linklossAction => exact fun s => (keeps_loop off_linklossAct : KeepsLoop k _ s (execLinklossAction _ _ s) (some _) ∧ True ∧ True ∧ True)
  case layerMiss => exact fun s => (keeps_loop (fun x => loop_updLyr_ne x _ k _) : KeepsLoop k _ s (execLayerMiss _ _ s) (some _) ∧ True ∧ True ∧ True)
  case layerAutoWindowEnd => exact fun s => (keeps_loop (fun x => loop_updLyr_ne x _ k _) : KeepsLoop k _ s (execLayerAutoWindowEnd _ _ s) (some _) ∧ True ∧ True ∧ True)
  case layerChunkUpdate => exact fun s => (keeps_loop (fun x => loop_updLyr_ne x _ k _) : KeepsLoop k _ s (execLayerChunkUpdate _ _ s) (some _) ∧ True ∧ True ∧ True)
  case layerPeriodEnd => exact fun s => (keeps_loop off_layerPeriodEnd : KeepsLoop k _ s (execLayerPeriodEnd _ _ s) (some _) ∧ True ∧ True ∧ True)
  case ovTrip => exact fun s => (keeps_loop off_ovTrip : KeepsLoop k _ s (execOvTrip _ _ s) (some _) ∧ True ∧ True ∧ True)
  case faultAction => exact fun s => (keeps_loop off_faultAction : KeepsLoop k _ s (execFaultAction _ _ s) (some _) ∧ True ∧ True ∧ True)
  case uv => exact fun s => (keeps_loop (fun x => .trans (off_raiseFault _ _ _ _) (loop_updPrt_ne x _ k _)) : KeepsLoop k _ s (execUv _ _ s) (some _) ∧ True ∧ True ∧ True)
  case ocTotal => exact fun s => (keeps_loop (fun x => .trans (off_raiseFault _ _ _ _) (loop_updPrt_ne x _ k _)) : KeepsLoop k _ s (execOcTotal _ _ s) (some _) ∧ True ∧ True ∧ True)
  case vinUv => exact fun s => (keeps_loop (fun x => .ite (.trans (off_raiseFault _ _ _ _) (loop_updPrt_ne x _ k _)) (loop_updPrt_ne x _ k _)) : KeepsLoop k _ s (execVinUv _ _ s) (some _) ∧ True ∧ True ∧ True)
  case vinOv => exact fun s => (keeps_loop (fun x => .ite (.trans (off_raiseFault _ _ _ _) (loop_updPrt_ne x _ k _)) (loop_updPrt_ne x _ k _)) : KeepsLoop k _ s (execVinOv _ _ s) (some _) ∧ True ∧ True ∧ True)
  case hiccupRetry => exact fun s => (keeps_loop off_enterDelayOn : KeepsLoop k _ s (execHiccupRetry _ _ s) (some _) ∧ True ∧ True ∧ True)
  case hiccupCountClear => exact fun s => (keeps_loop (fun x => loop_updPrt_ne x _ k _) : KeepsLoop k _ s (execHiccupCountClear _ _ s) (some _) ∧ True ∧ True ∧ True)
  case iscSample => exact fun s => (keeps_phase (fun x => offPhase_ofLoop fun n => phase_updPhase_ne _ _ m _) : True ∧ KeepsPhase m t s (execIscSample _ _ _ s) (some _) ∧ True ∧ True)
  case zeroReference => exact fun s => (keeps_phase (fun x => offPhase_ofLoop fun n => fun h => (offPhase_zeroReference n _ _ h).trans (phase_updPhase_ne x _ m _ h)) : True ∧ KeepsPhase m t s (execZeroReference _ _ _ _ _ _ s) (some _) ∧ True ∧ True)
  case phaseTurnOn => exact fun s => (keeps_phase (fun x => offPhase_ofLoop fun n => .ite (phase_updPhase_ne x _ m _) (.ite (phase_updPhase_ne x _ m _) (phase_updPhase_ne x _ m _))) : True ∧ KeepsPhase m t s (execPhaseTurnOn _ _ s) (some _) ∧ True ∧ True)
  case comparatorTrip => exact fun s => (keeps_phase (fun x => offPhase_ofLoop fun n => .ite (phase_updPhase_ne x _ m _) (phase_updPhase_ne x _ m _)) : True ∧ KeepsPhase m t s (execComparatorTrip _ _ s) (some _) ∧ True ∧ True)
  case pulseMaxEnd => exact fun s => (keeps_phase (fun x => phase_updPhase_ne x _ m _) : True ∧ KeepsPhase m t s (execPulseMaxEnd _ _ s) (some _) ∧ True ∧ True)
  case zeroCross => exact fun s => (keeps_phase (fun x => phase_updPhase_ne x _ m _) : True ∧ KeepsPhase m t s (execZeroCross _ _ s) (some _) ∧ True ∧ True)
  case ocpTrip => exact fun s => (keeps_phase (fun x => offPhase_ofLoop fun n => .ite (fun h => (phase_raiseFault _ _ _ _ _ m).trans (phase_updPhase_ne x _ m _ h)) (phase_updPhase_ne x _ m _)) : True ∧ KeepsPhase m t s (execOcpTrip _ _ s) (some _) ∧ True ∧ True)
  case negTrip => exact fun s => (keeps_phase (fun x => offPhase_ofLoop fun n => .ite (fun h => (phase_raiseFault _ _ _ _ _ m).trans (phase_updPhase_ne x _ m _ h)) (phase_updPhase_ne x _ m _)) : True ∧ KeepsPhase m t s (execNegTrip _ _ s) (some _) ∧ True ∧ True)
  case getstatResponseEnd => exact fun s => (keeps_port off_getstatEnd : True ∧ True ∧ KeepsPort q s (execGetstatResponseEnd _ _ s) (some _) ∧ True)
  case acpAbort => exact fun s => (keeps_port fun x => off_updPort x _ : True ∧ True ∧ KeepsPort q s (execAcpAbort _ _ s) (some _) ∧ True)
  case dioLowClear => exact fun s => (keeps_port fun x => off_updPort x _ : True ∧ True ∧ KeepsPort q s (execDioLowClear _ _ s) (some _) ∧ True)
  case acpLoss => exact fun s => (keeps_port off_acpLose : True ∧ True ∧ KeepsPort q s (execAcpLoss _ _ s) (some _) ∧ True)
  case acpEvtClear => exact fun s => (⟨trivial, trivial, strobed_holds (Q := OffPort q _ s) (fun x h => .trans (off_updPort x _) h) (.same rfl) (.same rfl),
    trivial⟩ : True ∧ True ∧ KeepsPort q s (execAcpEvtClear _ _ _ s) (some _) ∧ True)
  case acpPing => exact fun s => (keeps_acpRow : True ∧ True ∧ KeepsPort q s (execAcpPing _ _ _ s) (some _) ∧ SweptBy s (execAcpPing _ _ _ s) true)
  case acpSetv => exact fun s => (keeps_acpRow : True ∧ True ∧ KeepsPort q s (execAcpSetv _ _ _ s) (some _) ∧ SweptBy s (execAcpSetv _ _ _ s) true)
  case acpSetslew => exact fun s => (keeps_acpRow : True ∧ True ∧ KeepsPort q s (execAcpSetslew _ _ _ s) (some _) ∧ SweptBy s (execAcpSetslew _ _ _ s) true)
  case acpSetll => exact fun s => (keeps_acpRow : True ∧ True ∧ KeepsPort q s (execAcpSetll _ _ _ s) (some _) ∧ SweptBy s (execAcpSetll _ _ _ s) true)
  case acpHint => exact fun s => (keeps_acpRow : True ∧ True ∧ KeepsPort q s (execAcpHint _ _ _ s) (some _) ∧ SweptBy s (execAcpHint _ _ _ s) true)
  case acpFrame => exact fun s => (keeps_acpRow : True ∧ True ∧ KeepsPort q s (execAcpFrame _ _ _ s) (some _) ∧ SweptBy s (execAcpFrame _ _ _ s) true)
  case acpGetv => exact fun s => (keeps_acpRow : True ∧ True ∧ KeepsPort q s (execAcpGetv _ _ _ s) (some _) ∧ SweptBy s (execAcpGetv _ _ _ s) true)
  case acpGeti => exact fun s => (keeps_acpRow : True ∧ True ∧ KeepsPort q s (execAcpGeti _ _ _ s) (some _) ∧ SweptBy s (execAcpGeti _ _ _ s) true)
  case acpGetstat => exact fun s => (keeps_acpRow : True ∧ True ∧ KeepsPort q s (execAcpGetstat _ _ _ s) (some _) ∧ SweptBy s (execAcpGetstat _ _ _ s) true)
  case acpGettemp => exact fun s => (keeps_acpRow : True ∧ True ∧ KeepsPort q s (execAcpGettemp _ _ _ s) (some _) ∧ SweptBy s (execAcpGettemp _ _ _ s) true)
  case acpGetref => exact fun s => (keeps_acpRow : True ∧ True ∧ KeepsPort q s (execAcpGetref _ _ _ s) (some _) ∧ SweptBy s (execAcpGetref _ _ _ s) true)
  case acpGetflt => exact fun s => (keeps_acpRow : True ∧ True ∧ KeepsPort q s (execAcpGetflt _ _ _ s) (some _) ∧ SweptBy s (execAcpGetflt _ _ _ s) true)
  case acpReservedOp => exact fun s => (keeps_acpRow : True ∧ True ∧ KeepsPort q s (execAcpReservedOp _ _ _ s) (some _) ∧ SweptBy s (execAcpReservedOp _ _ _ s) true)
  case idle => exact fun s => (keeps_msgRow : True ∧ True ∧ True ∧ SweptBy s (execIdle _ _ _ s) true)
  case claim => exact fun s => (keeps_msgRow : True ∧ True ∧ True ∧ SweptBy s (execClaim _ _ _ s) true)
  case nap => exact fun s => (keeps_msgRow : True ∧ True ∧ True ∧ SweptBy s (execNap _ _ _ s) true)
  case wake => exact fun s => (keeps_msgRow : True ∧ True ∧ True ∧ SweptBy s (execWake _ _ _ s) true)
  case cert => exact fun s => (keeps_msgRow : True ∧ True ∧ True ∧ SweptBy s (execCert _ _ _ s) true)
  case chal => exact fun s => (keeps_msgRow : True ∧ True ∧ True ∧ SweptBy s (execChal _ _ _ s) true)
  case resp => exact fun s => (keeps_msgRow : True ∧ True ∧ True ∧ SweptBy s (execResp _ _ _ s) true)
  case digest => exact fun s => (keeps_msgRow : True ∧ True ∧ True ∧ SweptBy s (execDigest _ _ _ s) true)
  case vref => exact fun s => (keeps_msgRow : True ∧ True ∧ True ∧ SweptBy s (execVref _ _ _ s) true)
  case swpIre => exact fun s => (keeps_msgRow : True ∧ True ∧ True ∧ SweptBy s (execSwpIre _ _ _ s) true)
  case swpIim => exact fun s => (keeps_msgRow : True ∧ True ∧ True ∧ SweptBy s (execSwpIim _ _ _ s) true)
  case tokenAcq => exact fun s => (keeps_msgRow : True ∧ True ∧ True ∧ SweptBy s (execTokenAcq _ _ _ s) true)
  case tokenHold => exact fun s => (keeps_msgRow : True ∧ True ∧ True ∧ SweptBy s (execTokenHold _ _ _ s) true)
  case tokenRel => exact fun s => (keeps_msgRow : True ∧ True ∧ True ∧ SweptBy s (execTokenRel _ _ _ s) true)
  case swpStart => exact fun s => (keeps_msgRow : True ∧ True ∧ True ∧ SweptBy s (execSwpStart _ _ _ s) true)
  case swpCheck => exact fun s => (keeps_msgRow : True ∧ True ∧ True ∧ SweptBy s (execSwpCheck _ _ _ s) true)
  case swpJoin => exact fun s => (keeps_msgRow : True ∧ True ∧ True ∧ SweptBy s (execSwpJoin _ _ _ s) true)
  case swpSet => exact fun s => (keeps_msgRow : True ∧ True ∧ True ∧ SweptBy s (execSwpSet _ _ _ s) true)
  case howlFault => exact fun s => (keeps_msgRow : True ∧ True ∧ True ∧ SweptBy s (execHowlFault _ _ _ s) true)
  case howlGasp => exact fun s => (keeps_msgRow : True ∧ True ∧ True ∧ SweptBy s (execHowlGasp _ _ _ s) true)
  case wdogKick => exact fun s => (keeps_ram_strobed (swept_wdogWrite _) : True ∧ True ∧ True ∧ SweptBy s (execWdogKick _ _ s) true)
  case wdogExpire => exact fun s => (keeps_ram swept_wdogExpire : True ∧ True ∧ True ∧ SweptBy s (execWdogExpire _ s) true)
  case killNFall => exact fun s => (keeps_ram swept_killFall : True ∧ True ∧ True ∧ SweptBy s (execKillNFall _ s) true)
  case leashFrameEnd => exact fun s => (keeps_ram fun x => .withStat (swept_frameDone _ x) : True ∧ True ∧ True ∧ SweptBy s (execLeashFrameEnd _ _ _ _ _ _ _ _ s) true)
  case gaspEntry => exact fun s => (keeps_ram fun x => .trans (swept_chewSettle _) (swept_gaspEnter 0 x) : True ∧ True ∧ True ∧ SweptBy s (execGaspEntry _ s) true)
  case stop => exact fun s => (keeps_ram_strobed fun x => .withStat (swept_chewDisarm 1 x) : True ∧ True ∧ True ∧ SweptBy s (execStop _ s) true)
  case chewLifeExpire => exact fun s => (keeps_ram fun x => .withStat (swept_chewDisarm 3 x) : True ∧ True ∧ True ∧ SweptBy s (execChewLifeExpire _ s) true)
  case sweepAbort => exact fun s => (keeps_ram_strobed swept_sweepAbort : True ∧ True ∧ True ∧ SweptBy s (execSweepAbort _ s) true)
  case swpSetSend => exact fun s => (keeps_ram fun x => .trans (swept_takeSet _ _) (.trans (.updSwp _ rfl) (.mask (queueMsg_mask _ 2 7 _ x rfl))) : True ∧ True ∧ True ∧ SweptBy s (execSwpSetSend _ s) true)
  case sweepLeaderLost => exact fun s => (keeps_ram (swept_sweepEnd .lost) : True ∧ True ∧ True ∧ SweptBy s (execSweepLeaderLost _ s) true)
  case pdataWrite => exact fun s => (keeps_ram_strobed fun x => swept_writeParam _ _ x : True ∧ True ∧ True ∧ SweptBy s (execPdataWrite _ _ s) true)
  case pdataIncAccess =>
    intro s
    cases read with
    | true => exact (keeps_ram fun x => .ite (.refl x) (.refl x) : True ∧ True ∧ True ∧ SweptBy s (slotRead t pdataIncRead s) true)
    | false => exact (keeps_ram_strobed fun x => swept_writeParam _ w x : True ∧ True ∧ True ∧ SweptBy s (strobed t (fun _x => true) (pdataIncWrite w) s) true)
  case reservedTypeMessage =>
    refine fun s => (?_ : True ∧ True ∧ True ∧ SweptBy s (execReservedTypeMessage t p cls typ d s) true)
    delta execReservedTypeMessage
    exact iteInduction (motive := fun a => True ∧ True ∧ True ∧ SweptBy s a true) (fun _x => keeps_msgRow) fun _x =>
      ⟨trivial, trivial, trivial, fun u h => (Host.Outcome.next.inj h : _ = u) ▸ .refl s⟩
  case pollStart =>
    refine fun s => (keeps_ram fun x => ?_ : True ∧ True ∧ True ∧ SweptBy s (execPollStart t s) true)
    generalize x.dueEntry = o
    cases o with
    | some e => exact swept_pollStart e x
    | none => exact .refl x
  all_goals exact fun _s => keeps_nothing

/-- Settles O13. -/
theorem loopsApart : Obligations.LoopsApart := by
  unfold Obligations.LoopsApart
  intro i s u n k hn hsample hacq h hk
  have keeps := (exec_keeps k 0 0 i s).1
  rw [hn] at keeps
  exact keeps hsample hacq u h (Ne.symm hk)

/-- Settles O15. -/
theorem phasesAndPortsApart : Obligations.PhasesAndPortsApart := by
  unfold Obligations.PhasesAndPortsApart
  refine ⟨fun i s u m k hi h hk => ?_, fun i s u p q hi h hq => ?_⟩
  · have keeps := (exec_keeps 0 k 0 i s).2.1
    rw [hi] at keeps
    exact keeps u h (Ne.symm hk)
  · have keeps := (exec_keeps 0 0 q i s).2.2.1
    rw [hi] at keeps
    exact keeps u h (Ne.symm hq)

/-- Settles O16. -/
theorem sramFrame : Obligations.SramFrame := by
  unfold Obligations.SramFrame
  intro i s u hs hp h a ha _
  cases hm : mayChange i .sram with
  | false => exact ((RamOutside.of_mask (fun _x => False) (exec_but hm h)) (wf_of_canonical hs)).2 a id
  | true =>
    have hswept := (exec_keeps 0 0 0 i s).2.2.2
    rw [writesStatus, hm, hp] at hswept
    exact ((hswept u h).2 (wf_of_canonical hs)).2 a (not_between ha)

end Sys2Proof.Machine
end
